-- ==== Sys2Proof/Word.lean ====
section
/-! DEFINITION. The word types of the module: bytes, 32-bit registers (R13) and the numbers that name its units. -/

namespace Sys2Proof

/-- A byte of module memory (R13). -/
abbrev Byte := BitVec 8
/-- A 32-bit register (R13). -/
abbrev Word := BitVec 32
/-- A 64-bit quantity: two consecutive registers, or one word of a command (R13, R217). -/
abbrev DWord := BitVec 64
/-- A context number, 0 to 16,383 (R254). -/
abbrev Ctx := BitVec 14
/-- A CLU instance, 375 × die + physical cluster, 0 to 2,999 (R588). -/
abbrev Cluster := BitVec 12
/-- A physical core of a cluster, 0 to 99 (R102). -/
abbrev CoreIx := BitVec 7
/-- A domain number, 0 to 1,023 (R254). -/
abbrev Dom := BitVec 10
/-- A 28-bit control address (R12). -/
abbrev CAddr := BitVec 28
/-- A session number as MGMT_SESS_SEL numbers sessions (R456). -/
abbrev SessIx := BitVec 13
/-- A 16-bit error code (R18). -/
abbrev Code := BitVec 16
/-- A fabric-time instant in whole nanoseconds (R303). -/
abbrev Nanos := BitVec 64

end Sys2Proof
end

