-- ==== Sys2Proof/Syntax.lean ====
section
/-! DEFINITION. The commands the block takes: one constructor per row of the opcode table, with the operands each row carries. -/

namespace Sys2Proof

/-- The 32 bytes of a stream command as the front end fetches them: four little-endian 64-bit words (R217). -/
structure Cmd where
  /-- the header, bytes 0 to 7 -/
  hdr : DWord
  /-- the four operand slots, bytes 8 to 15 -/
  slots : DWord
  /-- operation word, bits [63:0] -/
  op0 : DWord
  /-- operation word, bits [127:64] -/
  op1 : DWord
deriving DecidableEq, Repr

/-- A Gwetur PDU by its fields (R367). -/
structure Gw where
  kind : Nat
  op : Nat := 0
  fmt : Nat := 0
  flags : Nat := 0
  /-- GROUP word -/
  group : Nat := 0
  /-- SEQUENCE word -/
  seq : Nat := 0
  chunk : Nat := 0
  step : Nat := 0
  scale : Int := 0
  src : Nat := 0xFFFF
  amax : Nat := 0
  digest : Nat := 0
  err : Nat := 0
  count : Nat := 0
  len : Nat := 0
  version : Nat := 1
  /-- reserved bits of the header, together -/
  rsv : Nat := 0
  data : List Byte := []
deriving DecidableEq, Repr

/-- How a frame arrived: its port (0 to 15 fabric, 16 host A, 17 host B), whether MACsec protected it with a good ICV, and a congestion mark (R446, R453). -/
structure Rx where
  port : BitVec 5
  secured : Bool
  ce : Bool
deriving DecidableEq, Repr

/-- A received PTP message by its fields (R454). -/
structure PtpMsg where
  /-- host port: false A, true B -/
  port : Bool
  /-- messageType of IEEE 1588: 0 Sync, 3 Pdelay_Resp, 8 Follow_Up, 9 Delay_Resp, 0xA Pdelay_Resp_Follow_Up, 0xB Announce -/
  kind : Nat
  domain : Nat
  /-- clockIdentity of the sender -/
  source : DWord
  seq : Nat
  logInterval : Int
  twoStep : Bool
  clockClass : Nat
  /-- the timestamp the message carries, ns; for peer delay, the responder's turnaround -/
  stamp : Nat
  /-- correctionField in ns -/
  corr : Int
  /-- the sender's announced data set as one number under the best master clock algorithm; smaller is better -/
  rank : Nat
deriving DecidableEq, Repr

/-- The stores whose words carry a code of R515. -/
inductive StoreKind where
  /-- a 32-bit word of a core store -/
  | coreStore
  /-- a 32-bit word of an accumulator file -/
  | accFile
  /-- a 64-bit word of a cluster store -/
  | cluStore
  /-- a word of the state arrays or of MRAM, by array number -/
  | stateArray
  /-- a word of the base-die reserve of a stack, or of the slow tier's reserved slots (stack 16) -/
  | reserve
deriving DecidableEq, Repr

/-- A stored word read with a damaged codeword: where it is, and the bits that differ. -/
structure Damage where
  kind : StoreKind
  /-- cluster, array number or stack -/
  unit : BitVec 12
  core : CoreIx
  /-- index of the word in its store -/
  word : BitVec 32
  /-- error pattern over the codeword: check bits above the data bits of a 32-bit word, below them of a 64-bit word -/
  pat : Nat
deriving DecidableEq, Repr

/-- A core and the damaged words that the event at it meets (R101, R518). -/
structure CoreHit where
  core : CoreIx
  errs : List Damage := []
deriving DecidableEq, Repr

/-- A stack and the damaged codewords that a flush of its buffer reads: codeword address / 8 and error pattern (R347, R354). -/
structure StackHit where
  stack : BitVec 4
  errs : List (Nat × Nat) := []
deriving DecidableEq, Repr

/-- A contender at a crossbar output: source port, channel (0 request, 1 response, 2 collective, 3 management) and class (R24). -/
structure XbarReq where
  port : Fin 10
  chan : BitVec 2
  cls : BitVec 2 := 0
deriving DecidableEq, Repr

/-- A flit as a die receives it: the port and channel that it comes from, the contenders that request its crossbar output in the same cycle, the payload in 8-byte words, and an error pattern for each of its codewords, the two of the header first (R22, R24). -/
structure Flit where
  own : XbarReq := { port := 0, chan := 0 }
  others : List XbarReq := []
  words : Fin 33 := 0
  errs : List Nat := []
deriving DecidableEq, Repr

/-- A run of array cycles in which some of the causes of R82 below the ledger's were present. -/
structure Freeze where
  drain : Bool
  feed : Bool
  weight : Bool
  /-- cycles that the ledger did not freeze as well -/
  cycles : Word
deriving DecidableEq, Repr

/-- A core and the frozen cycles of its array since its last pass retired (R81, R82). -/
structure CoreEnd where
  core : CoreIx
  frz : List Freeze := []
deriving DecidableEq, Repr

/-- Cycles that an operation waited at issue: on a tile, and on the drain path or the four-pass limit (R77, R85, R95). -/
structure StallCycles where
  tile : Word
  issue : Word
deriving DecidableEq, Repr

/-- One rail's sample: V in 100 uV, I in mA, and whether it saturated or left its calibrated range (R492, R495). -/
structure MetIn where
  v : BitVec 16
  i : BitVec 24
  fault : Bool
deriving DecidableEq, Repr

/-- What a regulator answers to a poll: output voltage, current, temperature and STATUS_WORD; none without an acknowledge (R571). -/
structure PmbAns where
  vout : BitVec 16
  iout : Word
  temp : BitVec 16
  status : BitVec 16
deriving DecidableEq, Repr
/-- One command of the block: one constructor per row of the opcode table. -/
inductive Instr where
  /-- NOP (R221): A NOP command issues and retires doing nothing but its semaphore wait and signal. -/
  | nop (c : Ctx) (w : Cmd)
  /-- SEM_SET (R227): SEM_SET writes a value into a context semaphore at issue. -/
  | semSet (c : Ctx) (w : Cmd)
  /-- SEM_ADD (R227): SEM_ADD adds a value to a context semaphore at issue, saturating and setting SEM_SATURATED. -/
  | semAdd (c : Ctx) (w : Cmd)
  /-- REG_SET (R227): REG_SET writes a 64-bit immediate into a parameter or address register at issue. -/
  | regSet (c : Ctx) (w : Cmd)
  /-- REG_ALU (R227): REG_ALU computes an ALU operation modulo 2^64 and writes a parameter or address register at issue. -/
  | regAlu (c : Ctx) (w : Cmd)
  /-- CNT_OP (R227): CNT_OP sets, adds to or subtracts from a 32-bit context counter, wrapping modulo 2^32. -/
  | cntOp (c : Ctx) (w : Cmd)
  /-- CMP_SET (R228): CMP_SET configures a comparator whose relation then drives a condition flag every cycle. -/
  | cmpSet (c : Ctx) (w : Cmd)
  /-- LOOP_BEGIN (R241): LOOP_BEGIN latches a count and opens a loop over the following body, or skips the body when the count is 0. -/
  | loopBegin (c : Ctx) (w : Cmd)
  /-- SKIP (R244): SKIP passes over the following N commands when its condition holds, closing loops as it goes. -/
  | skip (c : Ctx) (w : Cmd)
  /-- WAIT_COND (R245): WAIT_COND holds the stream at issue until a condition flag reaches the wanted value. -/
  | waitCond (c : Ctx) (w : Cmd)
  /-- WAIT_COND_SATISFIED (R245): A waiting WAIT_COND finds its condition true on a later cycle and lets the stream proceed. -/
  | waitCondSatisfied (c : Ctx)
  /-- STREAM_END (R239): STREAM_END waits for every earlier command to retire and sets the stream IDLE, closing checkpoints and windows as applicable. -/
  | streamEnd (c : Ctx) (w : Cmd)
  /-- SEMAPHORE_WAIT_END (R231): A command waiting at issue finds its semaphore at least WAIT_DEC, subtracts it and proceeds to admission. -/
  | semaphoreWaitEnd (c : Ctx)
  /-- FENCE_WAIT_END (R217): A FENCE command proceeds once every earlier command of its context has retired. -/
  | fenceWaitEnd (c : Ctx)
  /-- PASS (R223): A PASS command is admitted and queued on each core of its unit set, or retires at issue when M is 0. -/
  | pass (c : Ctx) (w : Cmd)
  /-- WEIGHT_LOAD_DONE (R75): A shadow weight load completes so a waiting pass may swap or issue. -/
  | weightLoadDone (cl : Cluster) (core : CoreHit)
  /-- PASS_ISSUE (R78): A granted pass issues as element 0 of its first streamed row enters logical row 0. -/
  | passIssue (cl : Cluster) (core : CoreIx) (errs : List Damage)
  /-- HAZARD_WAIT_END (R95): An operation held at issue by a tile hazard, the drain path or the four-pass limit issues the cycle after the blocker retires. -/
  | hazardWaitEnd (cl : Cluster) (core : CoreIx) (cycles : StallCycles)
  /-- ACC_REPLAY (R115): After the overflowing sweep drains, the pass reloads weights, unwinds, shifts tiles to the raised window and streams again. -/
  | accReplay (cl : Cluster) (core : CoreIx)
  /-- PASS_RETIRE (R78): A pass writes or hands on its last sum, writes its status, reports accumulator NaN events and releases its tiles. -/
  | passRetire (cl : Cluster) (core : CoreEnd)
  /-- TILE_DRAIN (R225): A TILE_DRAIN reads accumulator tile rows through the drain path into an output tensor. -/
  | tileDrain (c : Ctx) (w : Cmd)
  /-- TILE_DRAIN_RETIRE (R225): A tile drain writes its last output row and releases the drain path. -/
  | tileDrainRetire (cl : Cluster) (core : CoreHit)
  /-- ADD (R137): Vector element-wise FP32 addition of two operands. -/
  | add (c : Ctx) (w : Cmd)
  /-- SUB (R137): Vector element-wise FP32 subtraction. -/
  | sub (c : Ctx) (w : Cmd)
  /-- MUL (R137): Vector element-wise FP32 multiplication. -/
  | mul (c : Ctx) (w : Cmd)
  /-- FMA (R137): Vector element-wise fused multiply-add with one rounding. -/
  | fma (c : Ctx) (w : Cmd)
  /-- MAX (R137): Vector element-wise maximum with NaN propagation and -0 below +0. -/
  | max (c : Ctx) (w : Cmd)
  /-- MIN (R137): Vector element-wise minimum with NaN propagation and -0 below +0. -/
  | min (c : Ctx) (w : Cmd)
  /-- ABS (R137): Vector element-wise absolute value. -/
  | abs (c : Ctx) (w : Cmd)
  /-- NEG (R137): Vector element-wise negation. -/
  | neg (c : Ctx) (w : Cmd)
  /-- COPYSIGN (R137): Vector element-wise copy of sign from a second operand. -/
  | copysign (c : Ctx) (w : Cmd)
  /-- CMP_EQ (R137): Vector comparison for equality writing a 1-bit mask per element. -/
  | cmpEq (c : Ctx) (w : Cmd)
  /-- CMP_LT (R137): Vector less-than comparison writing a 1-bit mask per element. -/
  | cmpLt (c : Ctx) (w : Cmd)
  /-- CMP_LE (R137): Vector less-or-equal comparison writing a 1-bit mask per element. -/
  | cmpLe (c : Ctx) (w : Cmd)
  /-- SELECT (R137): Vector selection of elements from two operands by a mask. -/
  | select (c : Ctx) (w : Cmd)
  /-- CVT (R46): Vector format conversion, optionally block-scaled and writing a zero-row bitmap. -/
  | cvt (c : Ctx) (w : Cmd)
  /-- RSUM (R138): Vector row sum in the fixed tree-then-segment shape. -/
  | rsum (c : Ctx) (w : Cmd)
  /-- RSUMSQ (R138): Vector row sum of squares in the fixed reduction shape. -/
  | rsumsq (c : Ctx) (w : Cmd)
  /-- RMAX (R138): Vector row maximum. -/
  | rmax (c : Ctx) (w : Cmd)
  /-- RMIN (R138): Vector row minimum. -/
  | rmin (c : Ctx) (w : Cmd)
  /-- RAMAX (R138): Vector row amax of finite elements feeding delayed-scaling history. -/
  | ramax (c : Ctx) (w : Cmd)
  /-- EXP2 (R139): Vector element-wise 2^x within 1 ulp. -/
  | exp2 (c : Ctx) (w : Cmd)
  /-- LOG2 (R139): Vector element-wise log2 within 1 ulp. -/
  | log2 (c : Ctx) (w : Cmd)
  /-- RSQRT (R139): Vector element-wise reciprocal square root within 1 ulp. -/
  | rsqrt (c : Ctx) (w : Cmd)
  /-- RCP (R139): Vector element-wise reciprocal within 1 ulp. -/
  | rcp (c : Ctx) (w : Cmd)
  /-- TANH (R139): Vector element-wise tanh within 2 ulp. -/
  | tanh (c : Ctx) (w : Cmd)
  /-- SIGMOID (R139): Vector element-wise sigmoid. -/
  | sigmoid (c : Ctx) (w : Cmd)
  /-- GELU (R139): Vector element-wise GELU. -/
  | gelu (c : Ctx) (w : Cmd)
  /-- SILU (R139): Vector element-wise SiLU. -/
  | silu (c : Ctx) (w : Cmd)
  /-- RMSNORM (R140): Vector RMS normalisation of each row with gain. -/
  | rmsnorm (c : Ctx) (w : Cmd)
  /-- LAYERNORM (R140): Vector layer normalisation of each row with gain and optional bias. -/
  | layernorm (c : Ctx) (w : Cmd)
  /-- SMFIN (R141): Vector softmax finalisation of a row against reference, maximum and sum. -/
  | smfin (c : Ctx) (w : Cmd)
  /-- STMERGE (R142): Vector merge of two statistics records into a third. -/
  | stmerge (c : Ctx) (w : Cmd)
  /-- ROPE (R143): Vector rotary position encoding of element pairs with exact phase. -/
  | rope (c : Ctx) (w : Cmd)
  /-- VECTOR_OP_RETIRE (R136): A vector operation finishes its last row and retires, signalling its semaphore. -/
  | vectorOpRetire (c : Ctx)
  /-- MOVE (R226): A MOVE copies one descriptor's element sequence into another on a chosen address mover. -/
  | move (c : Ctx) (w : Cmd)
  /-- ZERO (R221): A ZERO command has a mover write zeros over its destination. -/
  | zero (c : Ctx) (w : Cmd)
  /-- MOVE_RETIRE (R150): A mover completes the last line of a move or zero and retires it. -/
  | moveRetire (c : Ctx) (mv : BitVec 2)
  /-- MASK_WALK (R194): A MASK_WALK turns a query block and key range into interior and edge lists, masks and counts. -/
  | maskWalk (c : Ctx) (w : Cmd)
  /-- MASK_WALK_RETIRE (R196): A mask walk writes its outputs and parameter registers and retires. -/
  | maskWalkRetire (c : Ctx) (mv : BitVec 2)
  /-- ROUTE (R171): A ROUTE command selects experts, computes gates and admits assignments up to capacity. -/
  | route (c : Ctx) (w : Cmd)
  /-- ROUTE_RETIRE (R176): A router operation writes its outputs and drop table and retires, adding to RTE counters. -/
  | routeRetire (c : Ctx)
  /-- UPD_TENSOR (R395): UPD_TENSOR checks and arms an update tensor entry, latching registers and scalars and setting the copy's AG destination. -/
  | updTensor (c : Ctx) (w : Cmd)
  /-- UPD_SCHEDULE (R419): UPD_SCHEDULE evaluates a schedule slot at the current step and stages its 16 outputs. -/
  | updSchedule (c : Ctx) (w : Cmd)
  /-- RS_SEND (R371): RS_SEND converts and appends source elements to a reduce-scatter instance, sending chunks as they fill. -/
  | rsSend (c : Ctx) (w : Cmd)
  /-- AG_SEND (R371): AG_SEND appends elements of the member's shard to an all-gather instance, sending chunks as they fill. -/
  | agSend (c : Ctx) (w : Cmd)
  /-- SEND_RETIRE (R371): A collective send retires once its elements are read and their complete chunks sent. -/
  | sendRetire (c : Ctx)
  /-- SEND_LOG_WAIT_END (R372): An RS_SEND waiting for free send log records resumes when records are freed. -/
  | sendLogWaitEnd (c : Ctx)
  /-- VOTE (R380): VOTE waits until every instance of the context's open windows is done and the update die reports done. -/
  | vote (c : Ctx) (w : Cmd)
  /-- VOTE_SEND (R380): Once its conditions hold the member runs any twin exchange and sends its vote contribution. -/
  | voteSend (c : Ctx)
  /-- PARCEL_SEND (R384): PARCEL_SEND checks its parcel entry and sends a PARCEL_REQ for a landing slot. -/
  | parcelSend (c : Ctx) (w : Cmd)
  /-- MET_SNAPSHOT (R509): MET_SNAPSHOT queues a signed DOMAIN report for the issuing context's domain. -/
  | metSnapshot (c : Ctx) (w : Cmd)
  /-- MET_SNAPSHOT_DONE (R509): The metrology unit writes a queued DOMAIN report to OPC and the command retires. -/
  | metSnapshotDone
  /-- TWIN_ARM (R533): TWIN_ARM arms twin operation of the current replay on a two-member group. -/
  | twinArm (c : Ctx) (w : Cmd)
  /-- CAL_SET (R321): CAL_SET writes a calendar entry's instant and ENABLE from a parameter register. -/
  | calSet (c : Ctx) (w : Cmd)
  /-- CKPT_PUSH (R451): CKPT_PUSH opens a checkpoint if none is open and streams its element sequence to the ring. -/
  | ckptPush (c : Ctx) (w : Cmd)
  /-- REPLAY (R237): A write of CTX_CTRL.REPLAY starts a replay: patch list applied, stream reset, context READY, claim requested. -/
  | replay (se : SessIx) (c : Ctx)
  /-- CLAIM_GRANT (R266): A waiting READY or SAVED context's claim is granted when it overlaps no resident claim. -/
  | claimGrant (c : Ctx)
  /-- PREEMPT (R268): A write of CTX_RUN_CTRL.PREEMPT puts a running or restoring context into STOPPING. -/
  | preempt (se : SessIx) (c : Ctx)
  /-- ENGINE_STOPPED (R269): An engine of a stopping context reaches its stop boundary; when the last does the context enters SAVING. -/
  | engineStopped (c : Ctx) (eng : BitVec 3)
  /-- SAVE_DONE (R270): The last save line is written and the context enters SAVED, freeing its claim. -/
  | saveDone (c : Ctx)
  /-- RESTORE_DONE (R271): Restore finishes reading the save area and the context enters RUNNING. -/
  | restoreDone (c : Ctx)
  /-- RESUME (R274): A write of CTX_RUN_CTRL.RESUME moves a pre-empted SAVED context to READY. -/
  | resume (se : SessIx) (c : Ctx)
  /-- RESTART (R274): A write of CTX_RUN_CTRL.RESTART restarts a FAULTED context at CTX_RESTART_PC. -/
  | restart (se : SessIx) (c : Ctx)
  /-- RELEASE (R274): A write of CTX_RUN_CTRL.RELEASE kills the context if needed, discards its save and makes it IDLE. -/
  | release (se : SessIx) (c : Ctx)
  /-- CTX_BIND_WRITE (R254): An operator write of CTX_BIND binds or unbinds a context to a domain. -/
  | ctxBindWrite (se : SessIx) (c : Ctx) (v : Word)
  /-- CTX_PRIO_WRITE (R258): A write of CTX_PRIO sets the context's class, refused above the domain maximum. -/
  | ctxPrioWrite (se : SessIx) (c : Ctx) (v : Word)
  /-- GLOB_DOM_CLASS_MAX_WRITE (R258): A write of GLOB_DOM_CLASS_MAX sets a domain's class ceiling and lowers contexts above it. -/
  | globDomClassMaxWrite (se : SessIx) (v : Word)
  /-- CLU_PART_WRITE (R256): A write of CLU_PART assigns a cluster to a domain and recomputes logical ranks. -/
  | cluPartWrite (se : SessIx) (cl : Cluster) (v : Word)
  /-- CORE_ROW_MAP_WRITE (R103): A write of CORE_ROW_MAP maps out an array row, refused while the core is not IDLE. -/
  | coreRowMapWrite (se : SessIx) (cl : Cluster) (v : Word)
  /-- LEDGER_TICK (R287): Each 2 ns ledger tick moves every account within slew, grants the head request, freezes or unfreezes units and sets ballast. -/
  | ledgerTick (low : Bool)
  /-- LSTEP_LEAD_ELAPSED (R293): LSTEP_N has been asserted for LEDG_LSTEP_LEAD and a held rise may continue past the band top. -/
  | lstepLeadElapsed (rail : BitVec 3)
  /-- LSTEP_DEASSERT (R293): An account unchanged for 1 us deasserts LSTEP_N and sets the anchor. -/
  | lstepDeassert (rail : BitVec 3)
  /-- THROTTLE_RECOGNISED (R294): After 50 consecutive low samples the ledger asserts LSTEP_N, zeroes ballast and freezes down to the throttle floor. -/
  | throttleRecognised
  /-- THROTTLE_RELEASE_WARN (R295): Part way through the high period the ledger asserts LSTEP_N ahead of the release. -/
  | throttleReleaseWarn
  /-- THROTTLE_RELEASE (R295): After 10 us of unbroken high samples THROTTLED clears and units unfreeze in reverse order. -/
  | throttleRelease
  /-- THROTTLE_HELD (R296): THROTTLE_N held low for 10 ms raises THROTTLE_HELD. -/
  | throttleHeld
  /-- THROTTLE_TOGGLING (R296): The 1,000th toggle in one throttle episode raises THROTTLE_TOGGLING. -/
  | throttleToggling
  /-- PROFILE_SEGMENT_START (R292): A ramp profile's lead or previous hold expires and the guide moves to the next segment's target. -/
  | profileSegmentStart (rail : BitVec 3)
  /-- PROFILE_END (R292): The last segment's hold expires and the ramp profile ends. -/
  | profileEnd (rail : BitVec 3)
  /-- LEDG_RAIL_CEIL_WRITE (R297): A write of a rail ceiling changes the cap; below the account it falls at slew and raises CEILING_BELOW_ACCOUNT. -/
  | ledgRailCeilWrite (se : SessIx) (acct : BitVec 4) (v : Word)
  /-- LEDG_CNT_CLEAR (R299): Writing LEDG_CNT_CLEAR clears the ledger counters. -/
  | ledgCntClear (se : SessIx) (v : Word)
  /-- STEP_START (R317): A calendar STEP_START entry dispatches and starts, or holds, a context's replay and may arm its floor. -/
  | stepStart (e : BitVec 12)
  /-- HELD_STEP_START (R320): A held step-start begins the replay when the step resolves or the context becomes IDLE. -/
  | heldStepStart (c : Ctx)
  /-- RAMP_PROFILE (R292): A calendar RAMP_PROFILE entry dispatches, asserts LSTEP_N and starts a ramp profile. -/
  | rampProfile (e : BitVec 12)
  /-- WINDOW_OPEN (R374): A calendar WINDOW_OPEN entry opens collective windows, advancing ATTEMPT and starting deadlines. -/
  | windowOpen (e : BitVec 12)
  /-- COMMIT (R415): A calendar COMMIT entry dispatches as the context's commit instant. -/
  | commit (e : BitVec 12)
  /-- CHECKPOINT_START (R451): A calendar CHECKPOINT_START entry opens a checkpoint, fences and writes its segment table. -/
  | checkpointStart (e : BitVec 12)
  /-- CONTEXT_RELEASE (R317): A calendar CONTEXT_RELEASE entry acts as a RESUME write on its context. -/
  | contextRelease (e : BitVec 12)
  /-- SCRUB_START (R473): A calendar SCRUB_START entry starts tenant scrub of a domain's released granules. -/
  | scrubStart (e : BitVec 12)
  /-- CAL_ENT_CTRL_WRITE (R319): A write of ENABLE on a calendar entry enables it, refusing invalid entries and firing late entries once. -/
  | calEntCtrlWrite (se : SessIx) (v : Word)
  /-- CAL_ENTRY_FIELD_WRITE (R317): A write of an entry's PERIOD, ACTION or TARGET sets owner and disables an entry made invalid. -/
  | calEntryFieldWrite (se : SessIx) (f : BitVec 2) (v : Word)
  /-- CAL_CNT_CLEAR (R324): Writing CAL_CNT_CLEAR clears the calendar counters and every CAL_ENT_FIRES. -/
  | calCntClear (se : SessIx) (v : Word)
  /-- PTP_MESSAGE (R454): A received PTP message yields a measurement that steps or slews fabric time and advances the discipline state. -/
  | ptpMessage (rx : Rx) (m : PtpMsg)
  /-- PTP_ANNOUNCE_TIMEOUT (R454): The announce receipt timeout expires and the master is deselected. -/
  | ptpAnnounceTimeout
  /-- PTP_FAILOVER (R308): After link loss or 2 s without a master PTP moves to the other host port. -/
  | ptpFailover
  /-- PPS_IN_EDGE (R310): A rising edge of PPS_IN is accepted or ignored and measured against TIME_TOD_NEXT. -/
  | ppsInEdge
  /-- PPS_LOST (R310): PPS_IN held high or low for 2 s raises PPS_LOST. -/
  | ppsLost
  /-- SOURCE_LOST (R311): Loss of the time source enters HOLDOVER and records its instant. -/
  | sourceLost
  /-- TIME_ERR_BOUND_UPDATE (R312): Every millisecond in holdover the error bound is updated and UNTRUSTED may be set. -/
  | timeErrBoundUpdate
  /-- TIME_TOD_NEXT_WRITE (R310): A write of TIME_TOD_NEXT names the second of the next PPS edge and sets TOD_VALID. -/
  | timeTodNextWrite (se : SessIx) (v : DWord)
  /-- TIME_NOW_LO_READ (R306): A read of TIME_NOW_LO latches the whole 80-bit fabric time. -/
  | timeNowLoRead (se : SessIx)
  /-- TIME_CNT_CLEAR (R323): Writing TIME_CNT_CLEAR clears the PPS and step counters. -/
  | timeCntClear (se : SessIx) (v : Word)
  /-- PPS_OUT_RISE (R313): PPS_OUT rises at each whole second of fabric time. -/
  | ppsOutRise
  /-- PPS_OUT_FALL (R313): PPS_OUT falls when its configured width expires. -/
  | ppsOutFall
  /-- FABRIC_TIMEOUT_EXPIRE (R315): A fabric-time timeout expires at the first 64 ns evaluation at or after its deadline. -/
  | fabricTimeoutExpire (k : BitVec 40)
  /-- COLLECTIVE_DEADLINE (R375): An incomplete instance reaches its deadline and the member sends an ABORT, or a VOTE_QUERY for the vote. -/
  | collectiveDeadline (g : BitVec 12) (t : BitVec 16)
  /-- SECOND_DEADLINE (R375): No abort or decision by the second deadline resolves the step as abort locally or records VOTE_UNRESOLVED. -/
  | secondDeadline (g : BitVec 12) (t : BitVec 16)
  /-- RESULT_RECEIVED (R365): A RESULT frame lands a reduced or forwarded chunk, or vote words, after CRC and instance checks. -/
  | resultReceived (rx : Rx) (f : Gw) (crc : DWord)
  /-- END_NOTICE_RECEIVED (R377): An end notice completes the RS instance, or with SATURATED starts a redo at a raised scale. -/
  | endNoticeReceived (rx : Rx) (f : Gw) (crc : DWord)
  /-- ABORT_RECEIVED (R379): An ABORT for the current step completes every open instance without traffic and makes the vote abort. -/
  | abortReceived (rx : Rx) (f : Gw) (crc : DWord)
  /-- VOTE_DECISION (R380): A decision NOTICE retires VOTE, closes the window and makes the step resolvable. -/
  | voteDecision (rx : Rx) (f : Gw) (crc : DWord)
  /-- STEP_RESOLVE (R415): At the later of decision and commit instant the step commits (fence, flip, advance, amax, schedules, status) or is discarded. -/
  | stepResolve (c : Ctx)
  /-- UPD_CHUNK_LANDED (R406): A landed result chunk of an armed tensor is updated element by element into the alternate epoch and copy. -/
  | updChunkLanded
  /-- PARCEL_REQ_RECEIVED (R385): A receiver takes a PARCEL_REQ, grants a slot if possible or answers an invalid index with an abort grant. -/
  | parcelReqReceived (rx : Rx) (f : Gw) (crc : DWord)
  /-- LANDING_GRANT (R385): A waiting parcel request is granted under the tie rule when a slot and grant credit free up. -/
  | landingGrant
  /-- PARCEL_GRANT_RECEIVED (R384): The sender receives a PARCEL_GRANT and writes the granted slot by RDMA. -/
  | parcelGrantReceived (rx : Rx) (f : Gw) (crc : DWord)
  /-- PARCEL_WRITE_ACK (R384): The final parcel write is acknowledged and PARCEL_SEND retires. -/
  | parcelWriteAck (p : BitVec 12)
  /-- RDMA_WRITE_RECEIVED (R446): An incoming RDMA WRITE is checked against its region and written, or NAKed. -/
  | rdmaWriteReceived (rx : Rx) (q : BitVec 12) (rkey : Word) (a : DWord) (data : List Byte) (imm : Option Word)
  /-- LANDING_SLOT_RELEASE (R386): The exchange engine takes 1 from the release semaphore and frees the oldest occupied slot. -/
  | landingSlotRelease (l : BitVec 12)
  /-- QP_ERROR (R387): A queue pair exhausts its retries and enters ERROR, failing its parcels or ring and aborting the step. -/
  | qpError (q : BitVec 12)
  /-- CNP_RECEIVED (R446): A received CNP halves the QP's rate. -/
  | cnpReceived (rx : Rx) (q : BitVec 12)
  /-- CNP_RATE_RECOVER (R446): Every 55 us a throttled QP recovers 5 % of its rate. -/
  | cnpRateRecover (q : BitVec 12)
  /-- INGEST_POLL (R447): Every POLL us an enabled ingest ring with a free slot reads the producer index. -/
  | ingestPoll (r : BitVec 8)
  /-- INGEST_INDEX_READ (R447): The producer index arrives and the ring reads available records into free slots. -/
  | ingestIndexRead (r : BitVec 8) (ix : DWord)
  /-- INGEST_RECORD_LANDED (R447): An ingest record lands, signals its semaphore, writes LANDED_PAR and the consumer index. -/
  | ingestRecordLanded (r : BitVec 8) (data : List Byte)
  /-- INGEST_RELEASE (R448): In MODE 0 the ring takes 1 from its release semaphore and frees the oldest landed record. -/
  | ingestRelease (r : BitVec 8)
  /-- CKPT_WRITE_ACK (R450): Checkpoint data writes are acknowledged; pushes retire and a closed checkpoint gets its completion record. -/
  | ckptWriteAck (r : BitVec 8)
  /-- MGMT_RING_ENABLE_WRITE (R447): A write of MGMT_RING_CTRL.ENABLE starts or stops a ring. -/
  | mgmtRingEnableWrite (se : SessIx) (v : Word)
  /-- MGMT_QP_VALID_WRITE (R445): Writing VALID of a QP moves it to READY or RESET. -/
  | mgmtQpValidWrite (se : SessIx) (v : Word)
  /-- HBM_READ (R344): A base die reads a line or granule, decodes, checks tag and generation, and decrypts or poisons. -/
  | hbmRead (c : Ctx) (a : DWord) (n : BitVec 16) (errs : List (Nat × Nat))
  /-- HBM_WRITE (R347): A write reaches a base die and bypasses or merges into the write-combining buffer. -/
  | hbmWrite (c : Ctx) (a : DWord) (data : List Byte)
  /-- WC_FLUSH_TIMER (R347): An entry 2,000 ns old is flushed. -/
  | wcFlushTimer (st : StackHit)
  /-- SLOW_ACCESS (R353): The update die's controller reads or writes a slow-tier line with code, tag and key checks. -/
  | slowAccess (c : Ctx) (a : DWord) (n : BitVec 16) (wr : Option (List Byte)) (errs : List (Nat × Nat))
  /-- PATROL_READ (R350): Patrol reads a line slot, rewriting corrected codewords or writing uncorrectable lines poisoned. -/
  | patrolRead (pa : DWord) (errs : List (Nat × Nat)) (last : Bool)
  /-- ACTIVATE (R332): GLOB_DOM_XLAT_CTRL.ACTIVATE checks a staged region table and replaces the active table. -/
  | activate (se : SessIx)
  /-- COPY_ACTIVE (R355): GLOB_DOM_XLAT_CTRL.COPY_ACTIVE copies the active table into the staged copy. -/
  | copyActive (se : SessIx)
  /-- XLAT_INVALIDATE_DONE (R332): Translation caches finish invalidating after an activation and BUSY clears. -/
  | xlatInvalidateDone (d : Dom)
  /-- ADMISSION_FILL_GRANULE (R334): A newly mapped granule is written with zeros under the domain's generation and its waiting accesses proceed. -/
  | admissionFillGranule (g : BitVec 32)
  /-- QUIESCE (R352): A write of HBM_CTRL.QUIESCE makes new accesses wait and fences the stack's buffers. -/
  | quiesce (se : SessIx) (st : BitVec 4) (v : Word)
  /-- HBM_QUIESCED (R352): A quiescing stack completes its fences and reads QUIESCED. -/
  | hbmQuiesced (st : BitVec 4)
  /-- STK_REPAIR_GO (R352): GO shifts through a stack's IEEE 1500 wrapper, refused unless the fast tier is quiesced. -/
  | stkRepairGo (se : SessIx) (st : BitVec 4) (v : Word)
  /-- STK_REPAIR_DONE (R357): A wrapper shift or fuse programming completes and DONE is set. -/
  | stkRepairDone (st : BitVec 4) (out : BitVec 4096) (ok : Bool)
  /-- HBM_CNT_CLEAR (R356): Writing HBM_CNT_CLEAR clears a stack's counters. -/
  | hbmCntClear (se : SessIx) (st : BitVec 4) (v : Word)
  /-- SLOW_CNT_CLEAR (R358): Writing SLOW_CNT_CLEAR clears the selected package's counters. -/
  | slowCntClear (se : SessIx) (v : Word)
  /-- FLIT_RECEIVED (R519): A die receives a flit, corrects it or discards it and requests a resend. -/
  | flitReceived (a b : BitVec 4) (resent : Bool) (f : Flit)
  /-- FLIT_RETRY_EXHAUSTED (R519): A flit fails 8 consecutive retries; the link fails fatally. -/
  | flitRetryExhausted (a b : BitVec 4)
  /-- CORRECTED_WRITEBACK (R518): A corrected store word is written back in an idle bank cycle. -/
  | correctedWriteback (x : Damage) (idle : Bool)
  /-- FATAL_ESCALATION_RESET (R526): FATAL_DELAY after a fatal condition the module enters the warm-class reset. -/
  | fatalEscalationReset
  /-- CE_STORM_CHECK (R532): Each second the corrected counts are summed and CE_STORM raised over threshold. -/
  | ceStormCheck
  /-- ROTATE (R467): KEY_DOM_CTRL.ROTATE starts a memory key rotation of a domain. -/
  | rotate (se : SessIx)
  /-- ROTATION_MOVE (R467): One granule is re-encrypted from the old to the write generation; the last ends the rotation. -/
  | rotationMove (d : Dom) (slow : Bool)
  /-- FORCE_RETIRE (R468): KEY_DOM_CTRL.FORCE_RETIRE retires the old generation at once and ends the rotation. -/
  | forceRetire (se : SessIx)
  /-- CMD_ROTATE (R465): KEY_DOM_CTRL.CMD_ROTATE advances a domain's or the operator's command generation. -/
  | cmdRotate (se : SessIx)
  /-- KEY_PORT_LINK_GEN_WRITE (R465): An operator write sets a port's link generation and triggers a new SAK. -/
  | keyPortLinkGenWrite (se : SessIx) (v : Word)
  /-- SEC_SCRUB_START (R473): SEC_SCRUB_CTRL.START starts tenant scrub of the selected domain if it is idle. -/
  | secScrubStart (se : SessIx)
  /-- TENANT_SCRUB_GRANULE (R472): A released granule is written with zeros under the next generation; the last completes the scrub. -/
  | tenantScrubGranule (d : Dom) (slow : Bool)
  /-- INSTALL (R481): SEC_FW_CTRL.INSTALL verifies a staged firmware image and writes it to its slot. -/
  | install (se : SessIx) (u : BitVec 3)
  /-- COMMIT_SVN (R481): SEC_FW_CTRL.COMMIT_SVN burns a unit's SVN thermometer up to its slot image. -/
  | commitSvn (se : SessIx) (u : BitVec 3)
  /-- NV_PULSE_END (R545): An MRAM or eFuse pulse ends and any deferred reset completes. -/
  | nvPulseEnd (held : BitVec 16)
  /-- ATT_GO (R482): ATT_CTRL.GO starts signing an attestation report for the session. -/
  | attGo (se : SessIx) (v : Word)
  /-- ATT_REPORT_DONE (R482): The security engine finishes signing and the report appears in the session's ATT_REPORT. -/
  | attReportDone (se : SessIx)
  /-- DBG_CTRL_WRITE (R485): An operator write of DBG_CTRL.JTAG_EN enables or disables debug access. -/
  | dbgCtrlWrite (se : SessIx) (v : Word)
  /-- OPEN (R435): An OPEN frame is checked and answered with OPEN_ACK assigning a session slot and key. -/
  | openSession (rx : Rx) (frame : List Byte)
  /-- CLOSE (R436): A CLOSE frame ends its session. -/
  | close (rx : Rx) (frame : List Byte)
  /-- CONTROL_REQUEST (R439): A REQUEST frame is parsed, authenticated, counter-checked and its entries applied in order with a response. -/
  | controlRequest (rx : Rx) (frame : List Byte)
  /-- RD32 (R441): A RD32 entry reads one register. -/
  | rd32 (se : SessIx) (a : CAddr)
  /-- WR32 (R441): A WR32 entry writes one register. -/
  | wr32 (se : SessIx) (a : CAddr) (v : Word)
  /-- RD64 (R441): A RD64 entry reads an aligned register pair in one cycle. -/
  | rd64 (se : SessIx) (a : CAddr)
  /-- WR64 (R441): A WR64 entry writes an aligned register pair in one cycle. -/
  | wr64 (se : SessIx) (a : CAddr) (v : DWord)
  /-- POLL32 (R441): A POLL32 entry starts waiting for a masked register value. -/
  | poll32 (se : SessIx) (a : CAddr) (mask want : Word) (us : BitVec 16)
  /-- POLL32_MATCH (R441): A polled register reaches the wanted value and the frame continues. -/
  | poll32Match
  /-- POLL_TIMEOUT (R441): A POLL32 condition does not hold within LENGTH us and the entry fails. -/
  | pollTimeout
  /-- DP_SET (R443): A DP_SET entry sets the session's data port address, space and domain. -/
  | dpSet (se : SessIx) (sp : BitVec 2) (d : Dom) (a : DWord)
  /-- DP_WRITE (R443): A DP_WRITE entry writes burst bytes through the data port and advances its address. -/
  | dpWrite (se : SessIx) (data : List Byte)
  /-- DP_READ (R443): A DP_READ entry reads bytes through the data port and advances its address. -/
  | dpRead (se : SessIx) (n : BitVec 16)
  /-- WARM_RESET (R441): A WARM_RESET entry responds and begins the drogue ramp of a warm reset. -/
  | warmReset (se : SessIx)
  /-- SESS_CTRL_CLOSE (R436): An operator write of MGMT_SESS_CTRL.CLOSE ends the selected session. -/
  | sessCtrlClose (se : SessIx)
  /-- SESSION_IDLE_CLOSE (R436): A session with no accepted frame for MGMT_SESSION_IDLE seconds ends. -/
  | sessionIdleClose (x : SessIx)
  /-- MGMT_CNT_CLEAR (R456): Writing MGMT_CNT_CLEAR clears the control-plane counters. -/
  | mgmtCntClear (se : SessIx) (v : Word)
  /-- ALERT_FRAME_SEND (R531): At most every 100 us an ALERT frame carries new entries to an enabled session. -/
  | alertFrameSend (x : SessIx)
  /-- ERR_Q_ACK_HI_WRITE (R529): A write of ERR_Q_ACK_HI removes alert queue entries up to the given SEQ. -/
  | errQAckHiWrite (se : SessIx) (v : Word)
  /-- REPAIR_REQUEST (R523): ERR_REPAIR_REQ.GO creates an operator repair record. -/
  | repairRequest (se : SessIx) (v : Word)
  /-- EVENT_CLEAR (R431): A W1C write of EVENT clears bits; clearing ERROR clears ERR_CODE and ERR_INFO. -/
  | eventClear (se : SessIx) (page : BitVec 16) (v : Word)
  /-- EVENT_FORCE (R430): An operator write of EVENT_FORCE sets EVENT bits. -/
  | eventForce (se : SessIx) (page : BitVec 16) (v : Word)
  /-- LOCK_WRITE (R16): Writing 1 to LOCK makes the page's RWL registers read-only until reset. -/
  | lockWrite (se : SessIx) (page : BitVec 16) (v : Word)
  /-- REGISTER_WRITE (R14): A write to a register with no behaviour of its own takes effect under its access code or sets INVALID_WRITE. -/
  | registerWrite (se : SessIx) (a : CAddr) (v : Word)
  /-- MET_LO_READ (R510): A read of a MET _LO register latches its _HI half for the session. -/
  | metLoRead (se : SessIx) (off : BitVec 12)
  /-- CTX_NAN_STATUS_CLEAR (R63): Clearing FIRED in CTX_NAN_STATUS re-arms the trap and zeroes CTX_NAN_COUNT. -/
  | ctxNanStatusClear (se : SessIx) (c : Ctx) (v : Word)
  /-- CTX_SAT_COUNT_CLEAR (R66): Writing 1 to bit 0 of CTX_SAT_COUNT clears the whole count. -/
  | ctxSatCountClear (se : SessIx) (c : Ctx) (v : Word)
  /-- CTX_ACC_REPLAY_COUNT_CLEAR (R132): Writing 1 to bit 0 of CTX_ACC_REPLAY_COUNT clears the whole count. -/
  | ctxAccReplayCountClear (se : SessIx) (c : Ctx) (v : Word)
  /-- CORE_ACC_REPLAYS_CLEAR (R131): Writing 1 to bit 0 of CORE_ACC_REPLAYS clears the whole count. -/
  | coreAccReplaysClear (se : SessIx) (cl : Cluster) (v : Word)
  /-- CORE_CNT_CLEAR (R103): Writing CORE_CNT_CLEAR clears the selected core's counters. -/
  | coreCntClear (se : SessIx) (cl : Cluster) (v : Word)
  /-- CLU_CNT_CLEAR (R154): Writing CLU_CNT_CLEAR clears the cluster's counters. -/
  | cluCntClear (se : SessIx) (cl : Cluster) (v : Word)
  /-- RTE_CNT_CLEAR (R187): Writing RTE_CNT_CLEAR clears the router counters. -/
  | rteCntClear (se : SessIx) (cl : Cluster) (v : Word)
  /-- COLL_CNT_CLEAR (R388): Writing COLL_CNT_CLEAR clears the collective counters. -/
  | collCntClear (se : SessIx) (v : Word)
  /-- UPD_CNT_CLEAR (R424): Writing UPD_CNT_CLEAR clears the update counters. -/
  | updCntClear (se : SessIx) (v : Word)
  /-- ETH_CNT_CLEAR (R459): Writing ETH_CNT_CLEAR clears a port's counters. -/
  | ethCntClear (se : SessIx) (p : BitVec 5) (v : Word)
  /-- PTP_CNT_CLEAR (R460): Writing PTP_CNT_CLEAR clears the PTP counters. -/
  | ptpCntClear (se : SessIx) (v : Word)
  /-- TEMP_CNT_CLEAR (R585): Writing TEMP_CNT_CLEAR clears throttle count and peak. -/
  | tempCntClear (se : SessIx) (v : Word)
  /-- UPD_CTX_EPOCH_WRITE (R413): A write of the epoch bit is accepted only while the context is IDLE. -/
  | updCtxEpochWrite (se : SessIx) (v : Word)
  /-- UPD_PROG_CTRL_WRITE (R401): A write of a program slot's VALID and LENGTH, refused for invalid programs or armed slots. -/
  | updProgCtrlWrite (se : SessIx) (v : Word)
  /-- LINK_UP (R459): An Ethernet port links up. -/
  | linkUp (p : BitVec 5)
  /-- LINK_DOWN (R459): An Ethernet port loses link. -/
  | linkDown (p : BitVec 5)
  /-- SAK_INSTALLED (R453): MKA installs a new SAK on a port and data frames flow protected. -/
  | sakInstalled (p : BitVec 5)
  /-- MET_SAMPLE (R492): Every microsecond each rail is sampled, energy accumulated and attributed to accounts. -/
  | metSample (xs : List MetIn) (inClass : Bool)
  /-- MET_CHECKPOINT (R504): Each whole second the unit writes a checkpoint to MRAM and signs a MODULE report. -/
  | metCheckpoint (ok : Bool)
  /-- MET_CLOCK_FAULT (R494): MET_XTAL missing for 10 us switches sampling to the ring oscillator and logs CLOCK_FAULT. -/
  | metClockFault
  /-- MET_XTAL_COMPARE (R494): Once per second MET_XTAL is compared with REFCLK_SYS. -/
  | metXtalCompare (ppm : Nat)
  /-- MET_CLOCK_RESTORED (R494): MET_XTAL within limits for 1 s resumes sampling from it and logs CLOCK_RESTORED. -/
  | metClockRestored
  /-- CALIBRATION_SET (R503): A calibration set is verified and accepted, advancing the seal, or refused and logged. -/
  | calibrationSet (blob sig : List Byte)
  /-- POWER_ON (R542): PWROK low or a supply monitor trip releases load at once and starts a cold reset. -/
  | powerOn
  /-- RESET_N_ASSERT (R543): The 8th consecutive low sample of RESET_N recognises a cold reset and releases load. -/
  | resetNAssert
  /-- RESET_N_RELEASE (R543): The 8th consecutive high sample releases the cold reset and starts a cold start. -/
  | resetNRelease (conv : List (BitVec 4))
  /-- FUSE_SENSE_DONE (R553): Fuse sense completes, PLLs lock and fabric time starts in FREE. -/
  | fuseSenseDone
  /-- FIRMWARE_BOOT (R479): The boot ROM verifies each firmware unit, restores from staging or enters recovery. -/
  | firmwareBoot
  /-- KEY_DERIVATION_DONE (R464): The security engine derives every key after fuse sense. -/
  | keyDerivationDone
  /-- MEMORY_TRAINING_DONE (R553): HBM and LPDDR6 training completes and stacks go ONLINE. -/
  | memoryTrainingDone
  /-- DIE_STAGING_DONE (R554): A compute die finishes staged power-up, store clearing and self-test, and repair records apply. -/
  | dieStagingDone (die : BitVec 3) (bad : List (BitVec 2 × BitVec 9 × CoreIx × BitVec 4))
  /-- LINK_TRAINING_DONE (R553): Port link training completes and the module becomes READY. -/
  | linkTrainingDone
  /-- WATCHDOG_EXPIRED (R542): The management controller misses its kick and a warm-class reset begins. -/
  | watchdogExpired
  /-- THERMAL_TRIP (R542): A junction sensor reaches trip and a warm-class reset into THERMAL_HOLD begins. -/
  | thermalTrip (sensor : BitVec 8) (t : BitVec 16)
  /-- WARM_RESET_ENTER (R548): With accounts at 0 and fences done the warm-class reset takes effect. -/
  | warmResetEnter
  /-- THERMAL_HOLD_EXIT (R550): All sensors below RST_THERM_CLEAR for 1 s end THERMAL_HOLD and run a warm start. -/
  | thermalHoldExit
  /-- PLL_UNLOCK (R559): A PLL loses lock and the module enters fatal escalation. -/
  | pllUnlock (dom : BitVec 5)
  /-- THERMAL_THROTTLE (R579): A die sensor reaches THROTTLE and the ledger caps the affected compute accounts. -/
  | thermalThrottle (sensor : BitVec 8) (t : BitVec 16)
  /-- THERMAL_RELEASE (R579): Sensors below THROTTLE minus HYST for 1 ms lift the cap. -/
  | thermalRelease (rail : BitVec 3) (ts : List (BitVec 8 × BitVec 16))
  /-- STACK_HOT (R578): A stack reaches 85 C and its base die doubles refresh. -/
  | stackHot (st : BitVec 4) (t : BitVec 16)
  /-- PMBUS_POLL (R571): Every PMB_POLL ms the module reads each regulator's telemetry and status. -/
  | pmbusPoll (ans : List (Option PmbAns))
  /-- PMB_ALERT (R571): PMB_ALERT_N falls and the module reads STATUS_WORD from every rail. -/
  | pmbAlert (ans : List (Option (BitVec 16)))
  /-- AVS_WRITE (R570): Firmware writes a rail's voltage target over AVSBus, raising AVS_NO_RESPONSE after 3 failures. -/
  | avsWrite (rail : BitVec 4) (mv : BitVec 16) (fails : BitVec 2)
  /-- TAP_RESET (R581): TRST_N or the TAP reset state resets the module TAP. -/
  | tapReset
  /-- EXTEST (R581): EXTEST drives boundary cells, acting only while RESET_N is low. -/
  | extest (cells : List Bool)
  /-- IDCODE (R581): IDCODE shifts out the identification register. -/
  | idcode
  /-- SAMPLE_PRELOAD (R581): SAMPLE/PRELOAD captures and preloads boundary cells. -/
  | samplePreload (cells : List Bool)
  /-- CLAMP (R581): CLAMP holds outputs from the boundary register with bypass selected. -/
  | clamp
  /-- HIGHZ (R581): HIGHZ puts outputs in high impedance. -/
  | highz
  /-- EXTEST_PULSE (R581): IEEE 1149.6 EXTEST_PULSE on SerDes lands. -/
  | extestPulse (cells : List Bool)
  /-- EXTEST_TRAIN (R581): IEEE 1149.6 EXTEST_TRAIN on SerDes lands. -/
  | extestTrain (cells : List Bool)
  /-- SEG_SEL (R581): SEG_SEL selects an internal TAP segment or stack wrapper. -/
  | segSel (seg : BitVec 5)
  /-- DBG_ACCESS (R485): DBG_ACCESS reads or writes on-die stores and registers while JTAG_EN is set, logging each access. -/
  | dbgAccess (reg : Bool) (a : DWord) (n : BitVec 16) (wr : Option (List Byte))
  /-- MET_CAL (R581): MET_CAL enters the metrology calibration mode. -/
  | metCal
  /-- STK_1500 (R581): STK_1500 shifts through the selected stack wrapper when permitted. -/
  | stk1500 (bits : List Bool)
  /-- PROD_TEST (R581): A production test instruction acts only while PROD_TEST_CLOSED is 0. -/
  | prodTest (code : BitVec 8)
  /-- BYPASS (R581): BYPASS, or any instruction that does not act, selects the bypass register and counts refusals. -/
  | bypass (code : BitVec 8)
  /-- PWROK_RISE (R553): PWROK returns high after a power-on reset and the cold start begins at step 1. -/
  | pwrokRise (conv : List (BitVec 4))
  /-- STACK_HOT_CLEAR (R578): A stack's hottest DRAM die falls back below 85 C and its base die returns to normal refresh. -/
  | stackHotClear (st : BitVec 4) (t : BitVec 16)
  /-- THERM_TRIP_RELEASE (R578): A die sensor falls below 110 C, or a stack below 100 C, and the comparator releases THERM_TRIP_N. -/
  | thermTripRelease (sensor : BitVec 8) (t : BitVec 16)
  /-- MSEC_DOWN (R453): MKA on a port loses its live peer or SAK, data frames stop while the link stays up, and MSEC_DOWN is raised. -/
  | msecDown (p : BitVec 5)
  /-- FW_DONE (R481): The flash write of an installed firmware image into its slot completes, BUSY clears and DONE and FW_DONE are set. -/
  | fwDone
  /-- QP_ACK_TIMEOUT (R458): A requester queue pair's ACK timer of 4.096 us x 2^t expires and it retransmits, counting a retry. -/
  | qpAckTimeout (q : BitVec 12)
  /-- PFC_PAUSE_RECEIVED (R428): A priority flow control frame arrives on a port and pauses or resumes transmission on its priorities. -/
  | pfcPauseReceived (p : BitVec 5) (mask : BitVec 8) (quanta : List (BitVec 16))
deriving DecidableEq, Repr

end Sys2Proof
end

