-- ==== Sys2Proof/Decode.lean ====
section
/-! DEFINITION. Words that spell commands: the table gives no row any bits, so no word spells one (log entry 5, DESIGN CHOICE). -/

namespace Sys2Proof

/-- The command that the low `nbits` bits of a word spell: none, since no row of the opcode table has an encoding (log entry 5, DESIGN CHOICE). -/
def decodeTableWord (_nbits _w : Nat) : Option Instr := none

end Sys2Proof
end

