-- ==== Sys2Proof/Machine/Codes.lean ====
section
/-! DEFINITION. The error codes of R595 under the names of the spec. -/

namespace Sys2Proof.Machine.Err

open Sys2Proof

/-- R62. -/ abbrev NAN_TRAP : Code := 0x1001#16
/-- R34, R226, R371. -/ abbrev FORMAT_MISMATCH : Code := 0x1002#16
/-- R34, R35, R91. -/ abbrev FORMAT_NOT_PERMITTED : Code := 0x1003#16
/-- R41. -/ abbrev ROUND_MODE_INVALID : Code := 0x1004#16
/-- R55. -/ abbrev SCALE_RECORD_INVALID : Code := 0x1005#16
/-- R55. -/ abbrev SCALE_HISTORY_SKEW : Code := 0x1006#16
/-- R101. -/ abbrev CORE_STORE_UE : Code := 0x1007#16
/-- R101. -/ abbrev ACC_UE : Code := 0x1008#16
/-- R97. -/ abbrev TILE_POISONED : Code := 0x1009#16
/-- R73, R225. -/ abbrev TILE_ROWS_EXCEEDED : Code := 0x100A#16
/-- R98. -/ abbrev SPOOL_BROKEN : Code := 0x100B#16
/-- R110. -/ abbrev WINDOW_INVALID : Code := 0x100C#16
/-- R120, R224, R244. -/ abbrev SPOOL_CHAIN_INVALID : Code := 0x100D#16
/-- R135. -/ abbrev VEC_SHAPE_INVALID : Code := 0x100E#16
/-- R148. -/ abbrev CLUSTER_STORE_UE : Code := 0x100F#16
/-- R143. -/ abbrev ROPE_POSITION_RANGE : Code := 0x1010#16
/-- R151, R263. -/ abbrev MOVER_RANGE : Code := 0x1011#16
/-- R157, R161. -/ abbrev SPARSITY_INVALID : Code := 0x1012#16
/-- R171. -/ abbrev ROUTER_SHAPE_INVALID : Code := 0x1013#16
/-- R171. -/ abbrev ROUTER_OVERLAP : Code := 0x1014#16
/-- R193. -/ abbrev MASK_INVALID : Code := 0x1015#16
/-- R198. -/ abbrev MASK_EMPTY : Code := 0x1016#16
/-- R248, R249. -/ abbrev ENGINE_ABSENT : Code := 0x2001#16
/-- R221. -/ abbrev OPCODE_INVALID : Code := 0x2002#16
/-- R248. -/ abbrev COMMAND_RESERVED : Code := 0x2003#16
/-- R248. -/ abbrev ENGINE_CLASS_MISMATCH : Code := 0x2004#16
/-- R220, R222. -/ abbrev CURRENT_CLASS_MISMATCH : Code := 0x2005#16
/-- R216, R263. -/ abbrev UNITSET_INVALID : Code := 0x2006#16
/-- R247, R263, R509. -/ abbrev DESCRIPTOR_INVALID : Code := 0x2007#16
/-- R242, R244. -/ abbrev LOOP_NEST_INVALID : Code := 0x2008#16
/-- R241. -/ abbrev LOOP_COUNT_RANGE : Code := 0x2009#16
/-- R239. -/ abbrev STREAM_OVERRUN : Code := 0x200A#16
/-- R237. -/ abbrev PATCH_INVALID : Code := 0x200B#16
/-- R214, R444. -/ abbrev IMAGE_WRITE : Code := 0x200C#16
/-- R237. -/ abbrev REPLAY_BUSY : Code := 0x200D#16
/-- R266. -/ abbrev CLAIM_INVALID : Code := 0x200E#16
/-- R266. -/ abbrev CONTEXT_UNBOUND : Code := 0x200F#16
/-- R275. -/ abbrev SAVE_FAULT : Code := 0x2010#16
/-- R275. -/ abbrev RESTORE_POISONED : Code := 0x2011#16
/-- R257, R435. -/ abbrev SESSION_LIMIT : Code := 0x2012#16
/-- R257, R317, R434, R510. -/ abbrev DOMAIN_ACCESS_DENIED : Code := 0x2013#16
/-- R274. -/ abbrev CONTEXT_KILLED : Code := 0x2014#16
/-- R330, R444. -/ abbrev TRANSLATION_FAULT : Code := 0x3001#16
/-- R330, R444. -/ abbrev WRITE_PROTECT : Code := 0x3002#16
/-- R330. -/ abbrev TIER_ACCESS : Code := 0x3003#16
/-- R338, R520. -/ abbrev MEM_UE : Code := 0x3004#16
/-- R344, R520. -/ abbrev TAG_FAIL : Code := 0x3005#16
/-- R332. -/ abbrev XLAT_TABLE_INVALID : Code := 0x3006#16
/-- R332. -/ abbrev NARROW_POOL_FULL : Code := 0x3007#16
/-- R351. -/ abbrev SPARES_EXHAUSTED : Code := 0x3008#16
/-- R352. -/ abbrev REPAIR_REFUSED : Code := 0x3009#16
/-- R519, R525. -/ abbrev FLIT_RETRY_EXHAUSTED : Code := 0x300A#16
/-- R525. -/ abbrev STATE_UE : Code := 0x300B#16
/-- R376, R381. -/ abbrev DESCRIPTOR_MISMATCH : Code := 0x4001#16
/-- R375, R381. -/ abbrev COLLECTIVE_TIMEOUT : Code := 0x4002#16
/-- R376, R378. -/ abbrev CHUNK_CORRUPT : Code := 0x4003#16
/-- R377. -/ abbrev SATURATION_LIMIT : Code := 0x4004#16
/-- R379. -/ abbrev MEMBER_ABORT : Code := 0x4005#16
/-- R380. -/ abbrev VOTE_UNRESOLVED : Code := 0x4006#16
/-- R360. -/ abbrev GROUP_INVALID : Code := 0x4007#16
/-- R363, R371. -/ abbrev TENSOR_ENTRY_INVALID : Code := 0x4008#16
/-- R372. -/ abbrev SEND_LOG_FULL : Code := 0x4009#16
/-- R384. -/ abbrev PARCEL_INVALID : Code := 0x400A#16
/-- R387. -/ abbrev EXCHANGE_FAILED : Code := 0x400B#16
/-- R410. -/ abbrev STEP_SKEW : Code := 0x5001#16
/-- R411. -/ abbrev UPDATE_NAN : Code := 0x5002#16
/-- R395, R396, R416. -/ abbrev UPD_ENTRY_INVALID : Code := 0x5003#16
/-- R412. -/ abbrev UPD_NOT_ARMED : Code := 0x5004#16
/-- R412. -/ abbrev UPD_INCOMPLETE : Code := 0x5005#16
/-- R395. -/ abbrev UPD_ARM_LIMIT : Code := 0x5006#16
/-- R395. -/ abbrev UPD_PROGRAM_INVALID : Code := 0x5007#16
/-- R395, R419. -/ abbrev SCHEDULE_INVALID : Code := 0x5008#16
/-- R419. -/ abbrev SCHEDULE_SKEW : Code := 0x5009#16
/-- R418. -/ abbrev TENSOR_SILENT : Code := 0x500A#16
/-- R535. -/ abbrev TWIN_DIVERGED : Code := 0x500B#16
/-- R533. -/ abbrev TWIN_GROUP_INVALID : Code := 0x500C#16
/-- R296. -/ abbrev THROTTLE_HELD : Code := 0x6001#16
/-- R296. -/ abbrev THROTTLE_TOGGLING : Code := 0x6002#16
/-- R298. -/ abbrev PROFILE_REPLACED : Code := 0x6003#16
/-- R292, R293. -/ abbrev PROFILE_CLIPPED : Code := 0x6004#16
/-- R297. -/ abbrev CEILING_BELOW_ACCOUNT : Code := 0x6005#16
/-- R311. -/ abbrev TIME_HOLDOVER : Code := 0x6006#16
/-- R310. -/ abbrev PPS_LOST : Code := 0x6007#16
/-- R309. -/ abbrev TIME_OFFSET_LARGE : Code := 0x6008#16
/-- R309. -/ abbrev TIME_STEPPED : Code := 0x6009#16
/-- R312. -/ abbrev TIME_UNTRUSTED : Code := 0x600A#16
/-- R321. -/ abbrev CAL_ENTRY_DENIED : Code := 0x600B#16
/-- R317. -/ abbrev CAL_ENTRY_INVALID : Code := 0x600C#16
/-- R466, R520. -/ abbrev RETIRED_GENERATION : Code := 0x7001#16
/-- R469. -/ abbrev ROTATION_BUSY : Code := 0x7002#16
/-- R479, R481. -/ abbrev FW_VERIFY_FAIL : Code := 0x7003#16
/-- R479, R481. -/ abbrev FW_ROLLBACK : Code := 0x7004#16
/-- R494. -/ abbrev MET_CLOCK_FAULT : Code := 0x8001#16
/-- R495. -/ abbrev MET_SAMPLE_FAULT : Code := 0x8002#16
/-- R504. -/ abbrev MET_CKPT_FAIL : Code := 0x8003#16
/-- R505. -/ abbrev MET_RESTORE_FAIL : Code := 0x8004#16
/-- R503. -/ abbrev MET_CAL_REFUSED : Code := 0x8005#16
/-- R542. -/ abbrev THERMAL_TRIP : Code := 0x9001#16
/-- R542. -/ abbrev WATCHDOG_EXPIRED : Code := 0x9002#16
/-- R559. -/ abbrev PLL_UNLOCK : Code := 0x9003#16
/-- R551. -/ abbrev STRAP_UNSTABLE : Code := 0x9004#16
/-- R571. -/ abbrev REG_FAULT : Code := 0x9005#16
/-- R570. -/ abbrev AVS_NO_RESPONSE : Code := 0x9006#16
/-- R571. -/ abbrev PMBUS_NO_RESPONSE : Code := 0x9007#16
/-- R439. -/ abbrev AUTH_FAIL : Code := 0xA001#16
/-- R439. -/ abbrev AUTH_REPLAY : Code := 0xA002#16
/-- R439. -/ abbrev CTRL_FRAME_INVALID : Code := 0xA003#16
/-- R441, R480. -/ abbrev CTRL_OP_INVALID : Code := 0xA004#16
/-- R441, R443. -/ abbrev OPERATOR_ONLY : Code := 0xA005#16
/-- R441. -/ abbrev POLL_TIMEOUT : Code := 0xA006#16
/-- R443. -/ abbrev DP_INVALID : Code := 0xA007#16
/-- R449. -/ abbrev INGEST_FAILED : Code := 0xA008#16
/-- R452. -/ abbrev CKPT_OVERRUN : Code := 0xA009#16
/-- R452. -/ abbrev CKPT_OVERFLOW : Code := 0xA00A#16

end Sys2Proof.Machine.Err
end

