-- ==== Sys2Proof/Config.lean ====
section
/-! DEFINITION. The free values of the model and what an implementation fixes: opaque constants that no proof can evaluate. -/

namespace Sys2Proof.Config

open Sys2Proof

/-- The vector functions whose result R139 bounds but does not fix bit for bit. -/
inductive Fn where
  | exp2 | log2 | rsqrt | rcp | tanh | sigmoid | gelu | silu | cos | sin
deriving DecidableEq, Repr

/-- Result of a vector function on an input that R139 does not list as special: a free value, which the engine holds inside the bound (log entry 8, DESIGN CHOICE). -/
opaque fn : Fn → Word → Word

/-- Result of a column's exp2 unit of the drain path outside the arguments R90 lists: a free value, held inside the bound of 2 ulp (log entry 8, DESIGN CHOICE). -/
opaque drainExp2 : Word → Word

/-- Result of the update die's square root (number 0) outside the inputs R392 lists: a free value, held inside the bound of 1 ulp (log entry 8, DESIGN CHOICE). -/
opaque updFn : Nat → Word → Word

/-- A value the spec leaves open, drawn by index (log entry 9, DESIGN CHOICE). -/
opaque freeWord : Nat → DWord

/-- An open answer of one bit, drawn by index (log entry 9, DESIGN CHOICE). -/
opaque freeBool : Nat → Bool

/-- KMAC256 (NIST SP 800-185) over a byte list with a key, an output length in bits and a customisation string (log entry 7, PRESUMED). -/
opaque kmac256 : List Byte → List Byte → Nat → List Byte → Nat

/-- SHAKE256 of a byte list, first n bytes (log entry 7, PRESUMED). -/
opaque shake256 : List Byte → Nat → List Byte

/-- Ed448 signature of a message under the key with a number (log entry 7, PRESUMED). -/
opaque ed448Sign : Nat → List Byte → List Byte

/-- Does an Ed448 signature verify under a public key (log entry 7, PRESUMED)? -/
opaque ed448Verify : List Byte → List Byte → List Byte → Bool

/-- Public key of the signing key with a number (log entry 7, PRESUMED). -/
opaque ed448Public : Nat → List Byte

/-- The fleet root of the eFuses, 32 bytes (R463; log entry 7, PRESUMED). -/
opaque fleetRoot : List Byte

/-- The fused hash of the firmware key (0) and of the metrology key (1) (R478; log entry 7, PRESUMED). -/
opaque fusedHash : Nat → List Byte

/-- Random module nonce by draw number (R435; log entry 9, DESIGN CHOICE). -/
opaque nonce : Nat → BitVec 128

end Sys2Proof.Config
end

