-- ==== Sys2Proof/Machine/Bits.lean ====
section
/-! DEFINITION. Bit fields, sign extension and byte order. -/

namespace Sys2Proof.Machine

open Sys2Proof

/-- The field of `len` bits of `x` that starts at bit `lo`, as a number. -/
def fld {n : Nat} (x : BitVec n) (lo len : Nat) : Nat := x.toNat / 2 ^ lo % 2 ^ len

/-- One bit of `x`. -/
def bit {n : Nat} (x : BitVec n) (i : Nat) : Bool := x.getLsbD i

/-- `x` with the field of `len` bits at `lo` replaced by `v`. -/
def setFld {n : Nat} (x : BitVec n) (lo len v : Nat) : BitVec n :=
  BitVec.ofNat n (x.toNat % 2 ^ lo + v % 2 ^ len * 2 ^ lo + x.toNat / 2 ^ (lo + len) * 2 ^ (lo + len))

/-- `x` with bit `i` set to `b`. -/
def setBit {n : Nat} (x : BitVec n) (i : Nat) (b : Bool) : BitVec n :=
  if b then x ||| BitVec.ofNat n (2 ^ i) else x &&& ~~~ BitVec.ofNat n (2 ^ i)

/-- A number of `len` bits read as two's complement. -/
def sext (v len : Nat) : Int :=
  if v % 2 ^ len < 2 ^ (len - 1) then (v % 2 ^ len : Nat) else (v % 2 ^ len : Nat) - (2 ^ len : Nat)

/-- Two's complement of an integer in `len` bits. -/
def toTwos (len : Nat) (x : Int) : Nat := (x % (2 ^ len : Nat)).toNat

/-- The number whose `n` bytes, least significant first, are `f 0 … f (n-1)` (R13). -/
def leNat (f : Nat → Byte) : Nat → Nat
  | 0 => 0
  | n + 1 => leNat f n + (f n).toNat * 256 ^ n

/-- Byte `i` of a little-endian number (R13). -/
def byteOf (v i : Nat) : Byte := BitVec.ofNat 8 (v / 256 ^ i)

/-- The number of a byte list, least significant first. -/
def leOf : List Byte → Nat
  | [] => 0
  | b :: bs => b.toNat + 256 * leOf bs

/-- The number of a byte list in network order, most significant first (R13). -/
def beOf (l : List Byte) : Nat := l.foldl (fun a b => a * 256 + b.toNat) 0

/-- `n` bytes of a number, least significant first. -/
def toLe (n v : Nat) : List Byte := (List.range n).map (byteOf v)

/-- Add with saturation at the top of `n` bits. -/
def satAdd {n : Nat} (x : BitVec n) (k : Nat) : BitVec n :=
  if x.toNat + k < 2 ^ n then BitVec.ofNat n (x.toNat + k) else BitVec.allOnes n

/-- Boolean as a number. -/
def b2n (b : Bool) : Nat := if b then 1 else 0

/-- Insert a number into a rising list. -/
def insertNat (n : Nat) : List Nat → List Nat
  | [] => [n]
  | m :: l => if n ≤ m then n :: m :: l else m :: insertNat n l

/-- A list in ascending order. -/
def sortNat (l : List Nat) : List Nat := l.foldr insertNat []

/-- Ceiling of a quotient. -/
def cdiv (a b : Nat) : Nat := (a + b - 1) / b

end Sys2Proof.Machine
end

