-- ==== Sys2Proof/Machine/Float.lean ====
section
/-! DEFINITION. The number formats of R32 to R61: decoding, rounding, conversion, FP32 arithmetic and block scales. Values are exact: a sign, a magnitude and a power of two. -/

namespace Sys2Proof.Machine

open Sys2Proof

/-- An exact value: NaN, a signed infinity, or (−1)^neg × m × 2^e. -/
inductive Val where
  | nan
  | inf (neg : Bool)
  | fin (neg : Bool) (m : Nat) (e : Int)
deriving DecidableEq, Repr

/-- Width in bits of a format code (R32). -/
def fmtWidth (f : Nat) : Nat :=
  match f with
  | 0 => 32 | 1 => 16 | 2 => 16 | 3 => 8 | 4 => 8 | 5 => 6 | 6 => 6 | 7 => 4
  | 8 => 8 | 9 => 4 | 10 => 8 | 11 => 32 | 12 => 32 | 13 => 8 | 14 => 16 | _ => 64

/-- Exponent bits, mantissa bits and bias of a float format (R36). -/
def fltLayout (f : Nat) : Nat × Nat × Int :=
  match f with
  | 0 => (8, 23, 127) | 1 => (8, 7, 127) | 2 => (5, 10, 15) | 3 => (4, 3, 7) | 4 => (5, 2, 15)
  | 5 => (3, 2, 3) | 6 => (2, 3, 1) | _ => (2, 1, 1)

/-- Formats 0 to 7 are the floats with a sign (R32). -/
def isFloatFmt (f : Nat) : Bool := decide (f ≤ 7)

/-- The integer formats of R38. -/
def isIntFmt (f : Nat) : Bool := f == 8 || f == 9 || f == 10 || f == 11 || f == 14

/-- The block-fixed formats of R39. -/
def isBfxFmt (f : Nat) : Bool := f == 12 || f == 15

/-- Does the format reserve its top exponent for infinity and NaN (R36)? -/
def hasInf (f : Nat) : Bool := decide (f ≤ 2) || f == 4

/-- Canonical NaN pattern of a format that has one (R36). -/
def canonNaN (f : Nat) : Nat :=
  match f with
  | 0 => 0x7FC00000 | 1 => 0x7FC0 | 2 => 0x7E00 | 3 => 0x7F | 4 => 0x7E | 13 => 0xFF | _ => 0

/-- Pattern of the largest finite magnitude of a float format (R36). -/
def maxFinite (f : Nat) : Nat :=
  match f with
  | 0 => 0x7F7FFFFF | 1 => 0x7F7F | 2 => 0x7BFF | 3 => 0x7E | 4 => 0x7B | 5 => 0x1F | 6 => 0x1F | _ => 0x7

/-- The value of a float pattern (R36). -/
def decodeFloat (f p : Nat) : Val :=
  let (eb, mb, bias) := fltLayout f
  let neg := decide (p / 2 ^ (eb + mb) % 2 = 1)
  let ex := p / 2 ^ mb % 2 ^ eb
  let man := p % 2 ^ mb
  if hasInf f && ex == 2 ^ eb - 1 then
    if man = 0 then .inf neg else .nan
  else if f = 3 && p % 128 == 0x7F then .nan
  else if ex = 0 then .fin neg man (1 - bias - mb)
  else .fin neg (2 ^ mb + man) (ex - bias - mb)

/-- An integer as a value. -/
def ofInt (x : Int) : Val := .fin (decide (x < 0)) x.natAbs 0

/-- The value of the pattern `p` of format `f`; BFX elements take the wire scale exponent `S` (R36, R38, R39, R596). -/
def decodeFmt (f : Nat) (S : Int) (p : Nat) : Val :=
  if isFloatFmt f then decodeFloat f p
  else match f with
  | 10 => ofInt (p % 256 : Nat)
  | 13 => if p % 256 = 0xFF then .nan else .fin false 1 (((p % 256 : Nat) : Int) - 127)
  | 12 => let q := sext p 32; match ofInt (if q = -(2 ^ 31) then -(2 ^ 31 - 1) else q) with
          | .fin n m e => .fin n m (e + S) | v => v
  | 15 => let q := sext p 64; match ofInt (if q = -(2 ^ 63) then -(2 ^ 63 - 1) else q) with
          | .fin n m e => .fin n m (e + S) | v => v
  | _ => ofInt (sext p (fmtWidth f))

/-- Multiply a value by 2^x. -/
def Val.scale (v : Val) (x : Int) : Val :=
  match v with
  | .fin n m e => .fin n m (e + x)
  | w => w

/-- The rounding of one conversion: to nearest even, or stochastic with the 16-bit draw `r` (R41, R42). -/
inductive Rnd where
  | rne
  | sr (r : Nat)
deriving DecidableEq, Repr

/-- The magnitude m × 2^e as a whole number of steps 2^g, rounded (R41, R42). -/
def roundMag (rn : Rnd) (m : Nat) (e g : Int) : Nat :=
  if g ≤ e then m * 2 ^ (e - g).toNat
  else
    let sh := (g - e).toNat
    let kept := m / 2 ^ sh
    let frac := m % 2 ^ sh
    match rn with
    | .rne =>
      if 2 * frac < 2 ^ sh then kept
      else if 2 * frac = 2 ^ sh then kept + kept % 2
      else kept + 1
    | .sr r => if 65536 ≤ frac * 65536 / 2 ^ sh + r then kept + 1 else kept

/-- An integer step count of the signed value, with stochastic rounding towards plus infinity (R42). -/
def roundInt (rn : Rnd) (neg : Bool) (m : Nat) (e : Int) : Int :=
  if 0 ≤ e then (if neg then -1 else 1) * ((m * 2 ^ e.toNat : Nat) : Int)
  else
    let sh := (-e).toNat
    let x : Int := if neg then -(m : Int) else m
    match rn with
    | .rne => (if neg then -1 else 1) * (roundMag .rne m e 0 : Int)
    | .sr r =>
      let kept := x / (2 ^ sh : Nat)
      let frac := (x % (2 ^ sh : Nat)).toNat
      if 65536 ≤ frac * 65536 / 2 ^ sh + r then kept + 1 else kept

/-- What a conversion answers: the pattern and the events it counts. -/
structure Conv where
  bits : Nat
  /-- a saturation or wrap of R47, counted in CTX_SAT_COUNT -/
  sat : Bool := false
  /-- a nonzero BFX source that became 0: a wire flush (R48) -/
  flush : Bool := false
  /-- a BFX conversion met a NaN (R46, R62) -/
  nan : Bool := false
  /-- the saturated flag of R40 -/
  wireSat : Bool := false
deriving DecidableEq, Repr

/-- Sign bit of a float format, set for negative values. -/
def signBit (f : Nat) (neg : Bool) : Nat :=
  let (eb, mb, _) := fltLayout f
  if neg then 2 ^ (eb + mb) else 0

/-- Result of an overflow or an infinity into a float format (R46). -/
def fltOver (f : Nat) (satfin neg : Bool) : Nat :=
  if hasInf f then
    if satfin then signBit f neg + maxFinite f
    else
      let (eb, mb, _) := fltLayout f
      signBit f neg + (2 ^ eb - 1) * 2 ^ mb
  else if f = 3 then (if satfin then signBit f neg + maxFinite f else 0x7F)
  else signBit f neg + maxFinite f

/-- A finite magnitude into a float format: pattern, and whether it overflowed (R36, R41, R46). -/
def encodeFloat (f : Nat) (rn : Rnd) (satfin neg : Bool) (m : Nat) (e : Int) : Nat × Bool :=
  let (_, mb, bias) := fltLayout f
  if m = 0 then (signBit f neg, false)
  else
    let top : Int := (Nat.log2 m : Int) + e
    let g : Int := max (top - mb) (1 - bias - mb)
    let k := roundMag rn m e g
    let (k, g) := if 2 ^ (mb + 1) ≤ k then (k / 2, g + 1) else (k, g)
    let pat := if k < 2 ^ mb then k else (g + mb + bias).toNat * 2 ^ mb + (k - 2 ^ mb)
    if maxFinite f < pat then (fltOver f satfin neg, true) else (signBit f neg + pat, false)

/-- Range of an integer format (R38). -/
def intRange (f : Nat) : Int × Int :=
  match f with
  | 8 => (-128, 127) | 9 => (-8, 7) | 10 => (0, 255) | 14 => (-32768, 32767) | _ => (-(2 ^ 31), 2 ^ 31 - 1)

/-- Conversion into E8M0 (R596). -/
def convE8M0 (rn : Rnd) (satfin : Bool) (v : Val) : Conv :=
  match v with
  | .nan => { bits := 0xFF }
  | .inf _ => { bits := if satfin then 0xFE else 0xFF, sat := true }
  | .fin _ m e =>
    if m = 0 then { bits := 0 }
    else
      let k := Nat.log2 m
      let x : Int := (k : Int) + e
      let up : Bool := match rn with
        | .rne =>
          if 2 * m = 3 * 2 ^ k then decide ((x + 127) % 2 = 1)
          else decide (3 * 2 ^ k < 2 * m)
        | .sr r => decide (65536 ≤ (m - 2 ^ k) * 65536 / 2 ^ k + r)
      let X : Int := if up then x + 1 else x
      if X < -127 then { bits := 0 }
      else if 127 < X then { bits := if satfin then 0xFE else 0xFF, sat := true }
      else { bits := (X + 127).toNat, sat := decide (X = 127) }

/-- Conversion of an exact value into format `f` under RMODE, SATFIN, INT_WRAP and wire scale `S` (R46 to R48, R596). -/
def convert (f : Nat) (rn : Rnd) (satfin wrap : Bool) (S : Int) (v : Val) : Conv :=
  if isFloatFmt f then
    match v with
    | .nan => { bits := canonNaN f }
    | .inf n => { bits := fltOver f satfin n }
    | .fin n m e => { bits := (encodeFloat f rn satfin n m e).1 }
  else if f = 13 then convE8M0 rn satfin v
  else if isBfxFmt f then
    let p := if f = 12 then 31 else 63
    let lim : Int := 2 ^ p - 1
    match v with
    | .nan => { bits := 0, nan := true }
    | .inf n => { bits := toTwos (p + 1) (if n then -lim else lim), wireSat := true }
    | .fin n m e =>
      let q := roundInt rn n m (e - S)
      if lim < q then { bits := toTwos (p + 1) lim, wireSat := true }
      else if q < -lim then { bits := toTwos (p + 1) (-lim), wireSat := true }
      else { bits := toTwos (p + 1) q, flush := decide (q = 0) && decide (m ≠ 0) }
  else
    let (lo, hi) := intRange f
    let w := fmtWidth f
    match v with
    | .nan => { bits := 0 }
    | .inf n => { bits := toTwos w (if n then lo else hi), sat := true }
    | .fin n m e =>
      let q := roundInt rn n m e
      if lo ≤ q ∧ q ≤ hi then { bits := toTwos w q }
      else if wrap then { bits := toTwos w q, sat := true }
      else { bits := toTwos w (if q < lo then lo else hi), sat := true }

/-! FP32 arithmetic of the vector engine and the update die (R44). -/

/-- The canonical FP32 NaN. -/
def f32NaN : Nat := 0x7FC00000

/-- Is an FP32 pattern a NaN? -/
def f32IsNaN (p : Nat) : Bool := decide (p / 2 ^ 23 % 256 = 255) && decide (p % 2 ^ 23 ≠ 0)

/-- Is an FP32 pattern an infinity? -/
def f32IsInf (p : Nat) : Bool := decide (p / 2 ^ 23 % 256 = 255) && decide (p % 2 ^ 23 = 0)

/-- Replace a subnormal FP32 pattern by zero of its sign, and any NaN by the canonical NaN (R37, R44). -/
def f32Flush (p : Nat) : Nat :=
  if f32IsNaN p then f32NaN
  else if p / 2 ^ 23 % 256 = 0 then p / 2 ^ 31 % 2 * 2 ^ 31 else p % 2 ^ 32

/-- An exact value rounded to FP32 with RNE; flushed when `fl` (R43, R44). -/
def f32Round (fl : Bool) (v : Val) : Nat :=
  let p := (convert 0 .rne false false 0 v).bits
  if fl then f32Flush p else p

/-- The value of an FP32 pattern as an arithmetic input (R44). -/
def f32Val (fl : Bool) (p : Nat) : Val := decodeFloat 0 (if fl then f32Flush p else p)

/-- Exact sum of two values; an exact zero sum is +0 unless both are −0 (IEEE 754, RNE). -/
def Val.add : Val → Val → Val
  | .nan, _ => .nan
  | _, .nan => .nan
  | .inf a, .inf b => if a = b then .inf a else .nan
  | .inf a, .fin _ _ _ => .inf a
  | .fin _ _ _, .inf b => .inf b
  | .fin n m e, .fin n' m' e' =>
    let g := min e e'
    let x : Int := (if n then -1 else 1) * ((m * 2 ^ (e - g).toNat : Nat) : Int)
    let y : Int := (if n' then -1 else 1) * ((m' * 2 ^ (e' - g).toNat : Nat) : Int)
    if x + y = 0 then .fin (n && n') 0 g
    else .fin (decide (x + y < 0)) (x + y).natAbs g

/-- Exact product of two values. -/
def Val.mul : Val → Val → Val
  | .nan, _ => .nan
  | _, .nan => .nan
  | .inf a, .inf b => .inf (xor a b)
  | .inf a, .fin n m _ => if m = 0 then .nan else .inf (xor a n)
  | .fin n m _, .inf b => if m = 0 then .nan else .inf (xor n b)
  | .fin n m e, .fin n' m' e' => .fin (xor n n') (m * m') (e + e')

/-- Negation. -/
def Val.neg : Val → Val
  | .nan => .nan
  | .inf n => .inf (!n)
  | .fin n m e => .fin (!n) m e

/-- Strict order of two values, none when either is NaN; zeros are equal. -/
def Val.lt (a b : Val) : Bool :=
  match a, b with
  | .nan, _ => false
  | _, .nan => false
  | .inf true, .inf true => false
  | .inf true, _ => true
  | .inf false, _ => false
  | .fin _ _ _, .inf n => !n
  | .fin n m e, .fin n' m' e' =>
    let g := min e e'
    let x : Int := (if n then -1 else 1) * ((m * 2 ^ (e - g).toNat : Nat) : Int)
    let y : Int := (if n' then -1 else 1) * ((m' * 2 ^ (e' - g).toNat : Nat) : Int)
    decide (x < y)

/-- Is the value NaN? -/
def Val.isNaN : Val → Bool
  | .nan => true
  | _ => false

/-- Equality of values as numbers. -/
def Val.numEq (a b : Val) : Bool := !a.isNaN && !b.isNaN && !a.lt b && !b.lt a

/-- FP32 addition with one rounding (R44, R137). -/
def f32Add (a b : Nat) : Nat := f32Round true ((f32Val true a).add (f32Val true b))
/-- FP32 subtraction. -/
def f32Sub (a b : Nat) : Nat := f32Round true ((f32Val true a).add (f32Val true b).neg)
/-- FP32 multiplication. -/
def f32Mul (a b : Nat) : Nat := f32Round true ((f32Val true a).mul (f32Val true b))
/-- FP32 fused multiply-add a × b + c with one rounding (R137). -/
def f32Fma (a b c : Nat) : Nat := f32Round true (((f32Val true a).mul (f32Val true b)).add (f32Val true c))
/-- Sign flip; a NaN stays the canonical NaN (R37). -/
def f32Neg (a : Nat) : Nat := f32Round true (f32Val true a).neg
/-- Magnitude. -/
def f32Abs (a : Nat) : Nat := let p := f32Flush a; if f32IsNaN p then p else p % 2 ^ 31
/-- Magnitude of `a` with the sign of `b`. -/
def f32CopySign (a b : Nat) : Nat :=
  let p := f32Flush a
  if f32IsNaN p then p else p % 2 ^ 31 + b / 2 ^ 31 % 2 * 2 ^ 31
/-- Maximum with NaN propagation, −0 below +0 (R137). -/
def f32Max (a b : Nat) : Nat :=
  let p := f32Flush a
  let q := f32Flush b
  if f32IsNaN p || f32IsNaN q then f32NaN
  else if (decodeFloat 0 p).lt (decodeFloat 0 q) then q
  else if (decodeFloat 0 q).lt (decodeFloat 0 p) then p
  else if p / 2 ^ 31 % 2 = 1 then q else p
/-- Minimum with NaN propagation, −0 below +0 (R137). -/
def f32Min (a b : Nat) : Nat :=
  let p := f32Flush a
  let q := f32Flush b
  if f32IsNaN p || f32IsNaN q then f32NaN
  else if (decodeFloat 0 p).lt (decodeFloat 0 q) then p
  else if (decodeFloat 0 q).lt (decodeFloat 0 p) then q
  else if p / 2 ^ 31 % 2 = 1 then p else q
/-- RNE(1/n) in FP32 (R140). -/
def f32Recip (n : Nat) : Nat :=
  if n = 0 then 0x7F800000
  else f32Round true (.fin false (2 * (2 ^ 90 / n) + (if 2 ^ 90 % n = 0 then 0 else 1)) (-91))

/-! Block scales (R49 to R52). -/

/-- Elements of a block (R49). -/
def blkSize (blk : Nat) : Nat := 16 * 2 ^ blk

/-- Exponent of the largest binade of a block element format (R50). -/
def blkEmax (f : Nat) : Int :=
  match f with
  | 3 => 8 | 4 => 15 | 5 => 4 | 6 => 2 | 7 => 2 | _ => 0

/-- Formats a block-scaled write may have (R49). -/
def blkFmt (f : Nat) : Bool := f == 3 || f == 4 || f == 5 || f == 6 || f == 7 || f == 8

/-- floor(log2) of the largest finite magnitude of a block; none when every finite element is zero (R50). -/
def blkTop : List Val → Option Int
  | [] => none
  | .fin _ m e :: l =>
    if m = 0 then blkTop l
    else match blkTop l with
      | none => some ((Nat.log2 m : Int) + e)
      | some t => some (max ((Nat.log2 m : Int) + e) t)
  | _ :: l => blkTop l

/-- One element of a block with scale exponent X, saturated at the largest finite element (R50). -/
def blkElem (f : Nat) (rn : Rnd) (X : Int) (v : Val) : Nat :=
  if f = 8 then
    match v.scale (6 - X) with
    | .fin n m e =>
      let q := roundInt rn n m e
      toTwos 8 (if 127 < q then 127 else if q < -127 then -127 else q)
    | .inf n => toTwos 8 (if n then -127 else 127)
    | .nan => 0
  else match v with
    | .nan => canonNaN f
    | .inf n => if f = 4 then fltOver 4 false n else signBit f n + maxFinite f
    | .fin n m e => (encodeFloat f rn true n m (e - X)).1

/-- A block written with its scale byte (R50, R51); `rs` gives each element's rounding. -/
def blkWrite (f : Nat) (satfin : Bool) (vs : List (Val × Rnd)) : Nat × List Nat :=
  let vals := vs.map Prod.fst
  let anyNaN := vals.any Val.isNaN
  let anyInf := vals.any fun v => match v with | .inf _ => true | _ => false
  let bad := (0xFF, vals.map fun _ => if f = 3 || f = 4 then canonNaN f else 0)
  let go (X : Int) : Nat × List Nat := ((X + 127).toNat, vs.map fun p => blkElem f p.2 X p.1)
  let clampX (t : Int) : Int := max (-127) (min 127 (t - blkEmax f))
  if anyNaN then bad
  else if anyInf && (f != 4) && !satfin then bad
  else match blkTop vals with
    | some t => 
      -- an infinite element of E5M2 stays an infinity whatever SATFIN says (R51)
      go (clampX t)
    | none =>
      if anyInf then go 127
      else (0, vs.map fun p => match p.1 with
        | .fin n _ _ => if f = 8 then 0 else signBit f n
        | _ => 0)

/-- The value of an element of a block whose scale byte is `sc` (R49, R52). -/
def blkRead (f sc p : Nat) : Val :=
  if sc = 0xFF then .nan
  else
    let v := decodeFmt f 0 p
    (if f = 8 then v.scale (-6) else v).scale ((sc : Int) - 127)

/-! Stochastic rounding draw of the vector engine and the drain path (R144). -/

/-- One round of the generator of R144. -/
def srRound (x : DWord) : DWord :=
  let x := x ^^^ (x >>> 31)
  let x := x * 0xE5C307A91B6D4F93#64
  x ^^^ (x >>> 29)

/-- The 16-bit draw of R144. -/
def srDraw (seed : DWord) (salt : Nat) (step idx : DWord) : Nat :=
  let x := seed ^^^ (BitVec.ofNat 64 (salt * 2 ^ 48)) ^^^ (step * 0x9E3779B97F4A7C15#64)
  let x := x ^^^ (idx * 0xB4926E1D5F3AC8A5#64)
  (srRound (srRound (srRound x))).toNat / 2 ^ 48

/-! Delayed scaling (R54 to R61). -/

/-- exp_ceil of R57: the smallest e with value ≤ 2^e, or −126 below 2^−126. -/
def expCeil (a : Nat) : Int :=
  let ex : Nat := a / 2 ^ 23 % 256
  if ex = 0 then (-126 : Int)
  else if a % 2 ^ 23 = 0 then (ex : Int) - 127 else (ex : Int) - 126

/-- Exponent of the largest finite binade of a format's element value, INT8 weighted 2^−6 (R57). -/
def fmtEmax (f : Nat) : Int :=
  match f with
  | 0 => 127 | 1 => 127 | 2 => 15 | 4 => 15 | 3 => 8 | 5 => 4 | 6 => 2 | 7 => 2
  | 8 => 0 | 9 => 2 | 10 => 7 | 14 => 14 | 11 => 30 | _ => 0

/-- Ceiling of log2 of a group size. -/
def ceilLog2 (n : Nat) : Nat := if n ≤ 1 then 0 else Nat.log2 (n - 1) + 1

end Sys2Proof.Machine
end

