-- ==== Sys2Proof/Machine/Map.lean ====
section
/-! DEFINITION. Sparse tables: lists of (key, value) pairs in one canonical form, used for memory, for registers and for per-unit records. -/

namespace Sys2Proof.Machine

variable {α : Type}

/-- The value listed for a key, or the table's default. -/
def mapGet (d : α) : List (Nat × α) → Nat → α
  | [], _ => d
  | (j, v) :: m, k => if k = j then v else mapGet d m k

/-- Remove a key. -/
def mapDel (k : Nat) : List (Nat × α) → List (Nat × α)
  | [] => []
  | (j, v) :: m => if k = j then mapDel k m else (j, v) :: mapDel k m

/-- Insert or replace a key, keeping the keys rising. -/
def mapPut (k : Nat) (v : α) : List (Nat × α) → List (Nat × α)
  | [] => [(k, v)]
  | (j, w) :: m =>
    if k < j then (k, v) :: (j, w) :: m
    else if k = j then (k, v) :: m
    else (j, w) :: mapPut k v m

/-- Write a key of a table whose unlisted keys read `d`: writing `d` removes the entry. -/
def mapSet [DecidableEq α] (d : α) (m : List (Nat × α)) (k : Nat) (v : α) : List (Nat × α) :=
  if v = d then mapDel k m else mapPut k v m

/-- Add to a table of amounts. -/
def addTo (m : List (Nat × Nat)) (k n : Nat) : List (Nat × Nat) := mapSet 0 m k (mapGet 0 m k + n)

/-- Every key of the list lies above `lo`, keys rise strictly and no entry equals its default. -/
def mapWfFrom [DecidableEq α] (d : Nat → α) : Nat → List (Nat × α) → Bool
  | _, [] => true
  | lo, (k, v) :: m => decide (lo ≤ k) && !decide (v = d k) && mapWfFrom d (k + 1) m

/-- The canonical form of a table. -/
def mapWf [DecidableEq α] (d : Nat → α) (m : List (Nat × α)) : Bool := mapWfFrom d 0 m

end Sys2Proof.Machine
end

