-- ==== Sys2Proof/Machine/RegTable.lean ====
section
/-! DEFINITION. The register tables of the spec: pages (R588), offsets, access codes (R14), implemented bits and reset values. -/

namespace Sys2Proof.Machine

open Sys2Proof

/-- The page mnemonics of R588. -/
inductive PageKind where
  | glob | fuse | strp | rst | clk | nvm | ledg | time | cal | upd | schd | coll | msec | ptp | mgmt | eth | sec | key | att | dbg | met | err | twin | pmb | temp | jtag | hbm | stkRepair | slow | die | clu | rte | ctx
deriving DecidableEq, Repr

/-- The access codes of R14. -/
inductive Acc where
  | ro | rw | w1c | wo | rwl
deriving DecidableEq, Repr

/-- One row of a register table: first offset, distance between instances, instances, access code, implemented bits, reset value. -/
structure RegRow where
  off : Nat
  step : Nat
  n : Nat
  acc : Acc
  mask : Nat
  rst : Nat
deriving DecidableEq, Repr

/-- First page index and number of instances of a page (R588). -/
def pageSpan : PageKind → Nat × Nat
  | .glob => (0x0, 1)
  | .fuse => (0x1, 1)
  | .strp => (0x2, 1)
  | .rst => (0x3, 1)
  | .clk => (0x4, 1)
  | .nvm => (0x5, 1)
  | .ledg => (0x10, 1)
  | .time => (0x11, 1)
  | .cal => (0x12, 1)
  | .upd => (0x18, 1)
  | .schd => (0x19, 1)
  | .coll => (0x20, 1)
  | .msec => (0x21, 1)
  | .ptp => (0x22, 1)
  | .mgmt => (0x23, 1)
  | .eth => (0x30, 18)
  | .sec => (0x50, 1)
  | .key => (0x51, 1)
  | .att => (0x52, 1)
  | .dbg => (0x53, 1)
  | .met => (0x58, 1)
  | .err => (0x60, 1)
  | .twin => (0x61, 1)
  | .pmb => (0x68, 1)
  | .temp => (0x69, 1)
  | .jtag => (0x6A, 1)
  | .hbm => (0x100, 16)
  | .stkRepair => (0x110, 16)
  | .slow => (0x120, 1)
  | .die => (0x200, 8)
  | .clu => (0x1000, 3000)
  | .rte => (0x2000, 3000)
  | .ctx => (0x4000, 16384)

/-- The mnemonic code in PAGE_ID bits [31:16] (R588). -/
def pageCode : PageKind → Nat
  | .glob => 0x0001
  | .fuse => 0x0002
  | .strp => 0x0003
  | .rst => 0x0004
  | .clk => 0x0005
  | .nvm => 0x0006
  | .ledg => 0x0020
  | .time => 0x0021
  | .cal => 0x0022
  | .upd => 0x0050
  | .schd => 0x0051
  | .coll => 0x0060
  | .msec => 0x0062
  | .ptp => 0x0063
  | .mgmt => 0x0064
  | .eth => 0x0061
  | .sec => 0x0070
  | .key => 0x0071
  | .att => 0x0072
  | .dbg => 0x0073
  | .met => 0x0080
  | .err => 0x0090
  | .twin => 0x0091
  | .pmb => 0x00A0
  | .temp => 0x00A1
  | .jtag => 0x00A2
  | .hbm => 0x0040
  | .stkRepair => 0x0041
  | .slow => 0x0042
  | .die => 0x0010
  | .clu => 0x0011
  | .rte => 0x0012
  | .ctx => 0x0030

/-- The page kinds in the order of R588. -/
def pageKinds : List PageKind :=
  [.glob, .fuse, .strp, .rst, .clk, .nvm, .ledg, .time, .cal, .upd, .schd, .coll, .msec, .ptp, .mgmt, .eth, .sec, .key, .att, .dbg, .met, .err, .twin, .pmb, .temp, .jtag, .hbm, .stkRepair, .slow, .die, .clu, .rte, .ctx]

/-- The page kind and instance of a page index, if R588 assigns it (R589). -/
def pageOf (p : Nat) : Option (PageKind × Nat) :=
  (pageKinds.find? fun k => decide ((pageSpan k).1 ≤ p) && decide (p < (pageSpan k).1 + (pageSpan k).2)).map
    fun k => (k, p - (pageSpan k).1)

/-- The common header of every page (R430) -/
def hdrRows : List RegRow :=
  [ ⟨0x000, 4, 1, .ro, 0xFFFFFFFF, 0x0⟩ -- PAGE_ID R430
  , ⟨0x004, 4, 1, .ro, 0xFFFF, 0x100⟩ -- PAGE_REV R430
  , ⟨0x008, 4, 1, .ro, 0xFFFFFFFF, 0x0⟩ -- PAGE_CAPS R430
  , ⟨0x00C, 4, 1, .ro, 0xFFFFFFFF, 0x0⟩ -- PAGE_ABSENT R430
  , ⟨0x010, 4, 1, .ro, 0xFFFFFFFF, 0x0⟩ -- STATUS R430
  , ⟨0x014, 4, 1, .w1c, 0xFFFFFFFF, 0x0⟩ -- EVENT R430
  , ⟨0x018, 4, 1, .rw, 0xFFFFFFFF, 0x40000000⟩ -- EVENT_EN R430
  , ⟨0x01C, 4, 1, .wo, 0xFFFFFFFF, 0x0⟩ -- EVENT_FORCE R430
  , ⟨0x020, 4, 1, .ro, 0xFFFF, 0x0⟩ -- ERR_CODE R430
  , ⟨0x024, 4, 1, .ro, 0xFFFFFFFF, 0x0⟩ -- ERR_INFO0 R430
  , ⟨0x028, 4, 1, .ro, 0xFFFFFFFF, 0x0⟩ -- ERR_INFO1 R430
  , ⟨0x02C, 4, 1, .rw, 0x1, 0x0⟩ -- LOCK R430
  ]

/-- The GLOB registers, part 1 -/
def globRows1 : List RegRow :=
  [ ⟨0x044, 4, 1, .ro, 0xFFF, 0x0⟩ -- GLOB_FEAT_ENGINES R250
  , ⟨0x048, 4, 1, .ro, 0xFFF, 0x0⟩ -- GLOB_FEAT_CLUSTERS R250
  , ⟨0x04C, 4, 1, .ro, 0xFFFFFFFF, 0x0⟩ -- GLOB_FEAT_CORES R250
  , ⟨0x050, 4, 1, .ro, 0xFFFF, 0x0⟩ -- GLOB_FEAT_STACKS R250
  , ⟨0x054, 4, 1, .ro, 0x3FFFF, 0x0⟩ -- GLOB_FEAT_PORTS R250
  , ⟨0x058, 4, 1, .ro, 0xFFFFFFFF, 0x0⟩ -- GLOB_FEAT_MEMORY R250
  , ⟨0x05C, 4, 1, .ro, 0xFFFFFFFF, 0x0⟩ -- GLOB_FEAT_CONTEXTS R250
  , ⟨0x060, 4, 1, .ro, 0xFFFFF, 0x0⟩ -- GLOB_FEAT_STREAM R250
  , ⟨0x064, 4, 1, .ro, 0xFFFFFFFF, 0x0⟩ -- GLOB_FEAT_GROUPS R250
  , ⟨0x100, 4, 1, .rw, 0x3FF, 0x0⟩ -- GLOB_DOM_SEL R279
  , ⟨0x104, 4, 1, .ro, 0xFFF, 0x0⟩ -- GLOB_DOM_CLUSTERS R279
  , ⟨0x108, 4, 1, .ro, 0x7FFF, 0x0⟩ -- GLOB_DOM_CONTEXTS R279
  , ⟨0x10C, 4, 1, .ro, 0xF, 0x0⟩ -- GLOB_DOM_SESSIONS R279
  , ⟨0x110, 4, 1, .rw, 0x3, 0x3⟩ -- GLOB_DOM_CLASS_MAX R279
  , ⟨0x114, 4, 1, .rw, 0xFFF, 0x0⟩ -- GLOB_DOM_XLAT_IDX R355
  , ⟨0x118, 4, 1, .rw, 0xFFFFFFFF, 0x0⟩ -- GLOB_DOM_XLAT_E0 R355
  , ⟨0x11C, 4, 1, .rw, 0xFFFFFFFF, 0x0⟩ -- GLOB_DOM_XLAT_E1 R355
  , ⟨0x120, 4, 1, .rw, 0xFFFFFFFF, 0x0⟩ -- GLOB_DOM_XLAT_E2 R355
  , ⟨0x124, 4, 1, .rw, 0xFFFFFFFF, 0x0⟩ -- GLOB_DOM_XLAT_E3 R355
  , ⟨0x128, 4, 1, .rw, 0x1FFF, 0x0⟩ -- GLOB_DOM_XLAT_COUNT R355
  ]

/-- The GLOB registers, part 2 -/
def globRows2 : List RegRow :=
  [ ⟨0x12C, 4, 1, .wo, 0x3, 0x0⟩ -- GLOB_DOM_XLAT_CTRL R355
  , ⟨0x130, 4, 1, .ro, 0xFFF0003, 0x0⟩ -- GLOB_DOM_XLAT_STATUS R355
  , ⟨0x134, 4, 1, .ro, 0xFFFFFFFF, 0x0⟩ -- GLOB_DOM_FILL_PENDING R355
  , ⟨0x138, 4, 1, .ro, 0x1FFFF, 0x0⟩ -- GLOB_NARROW_USED R355
  , ⟨0x040, 4, 1, .ro, 0xFFFFFFFF, 0x1⟩ -- GLOB_GRADE R8
  ]

/-- The GLOB registers -/
def globRows : List RegRow :=
  globRows1 ++ globRows2

/-- The FUSE registers -/
def fuseRows : List RegRow :=
  [ ⟨0x040, 4, 1, .ro, 0xFFFFFFFF, 0x0⟩ -- FUSE_SERIAL_LO R592
  , ⟨0x044, 4, 1, .ro, 0xFFFFFFFF, 0x0⟩ -- FUSE_SERIAL_HI R592
  , ⟨0x048, 4, 1, .ro, 0xF, 0x0⟩ -- FUSE_REV R592
  , ⟨0x04C, 4, 1, .ro, 0xFFFFFFFF, 0x0⟩ -- FUSE_MAC_LO R592
  , ⟨0x050, 4, 1, .ro, 0xFFFF, 0x0⟩ -- FUSE_MAC_HI R592
  , ⟨0x054, 4, 1, .ro, 0x3, 0x0⟩ -- FUSE_PROD R592
  ]

/-- The STRP registers -/
def strpRows : List RegRow :=
  [ ⟨0x040, 4, 1, .ro, 0xFF1F, 0x0⟩ -- STRP_VALUE R561
  ]

/-- The RST registers -/
def rstRows : List RegRow :=
  [ ⟨0x040, 4, 1, .ro, 0x1F, 0x0⟩ -- RST_CAUSE R560
  , ⟨0x044, 4, 1, .ro, 0xFFFFFFFF, 0x0⟩ -- RST_COUNT_COLD R560
  , ⟨0x048, 4, 1, .ro, 0xFFFFFFFF, 0x0⟩ -- RST_COUNT_WARM R560
  , ⟨0x04C, 4, 1, .ro, 0xF, 0x0⟩ -- RST_STAGE R560
  , ⟨0x050, 4, 1, .rwl, 0x7FFF, 0x7D0⟩ -- RST_WDT_CFG R560
  , ⟨0x054, 4, 1, .rwl, 0xFF, 0x64⟩ -- RST_THERM_CLEAR R560
  , ⟨0x058, 4, 1, .ro, 0xFFFF, 0x0⟩ -- RST_DEFER_MAX R560
  ]

/-- The CLK registers -/
def clkRows : List RegRow :=
  [ ⟨0x040, 4, 1, .ro, 0xFFFFFFFF, 0x0⟩ -- CLK_LOCK R561
  , ⟨0x044, 4, 1, .ro, 0xFFFFFFFF, 0x0⟩ -- CLK_UNLOCKS R561
  , ⟨0x048, 4, 1, .rw, 0x1F, 0x0⟩ -- CLK_MEAS_SEL R561
  , ⟨0x04C, 4, 1, .ro, 0xFFFFFFFF, 0x0⟩ -- CLK_MEAS_KHZ R561
  ]

/-- The NVM registers -/
def nvmRows : List RegRow :=
  [ ⟨0x040, 4, 1, .ro, 0x7, 0x0⟩ -- NVM_STATE R561
  , ⟨0x044, 4, 1, .ro, 0xFFFFFFFF, 0x0⟩ -- NVM_MRAM_WRITES R561
  , ⟨0x048, 4, 1, .ro, 0xFFFFFFFF, 0x0⟩ -- NVM_FUSE_BITS R561
  ]

/-- The LEDG registers, part 1 -/
def ledgRows1 : List RegRow :=
  [ ⟨0x040, 4, 1, .rwl, 0x7F, 0x28⟩ -- LEDG_THR_FLOOR R299
  , ⟨0x044, 4, 1, .rwl, 0x1F, 0x2⟩ -- LEDG_LSTEP_LEAD R299
  , ⟨0x048, 4, 1, .ro, 0xF, 0x0⟩ -- LEDG_THR_STATUS R299
  , ⟨0x04C, 4, 1, .ro, 0xFFFFFFFF, 0x0⟩ -- LEDG_THR_COUNT R299
  , ⟨0x050, 4, 1, .ro, 0xFFFFFFFF, 0x0⟩ -- LEDG_THR_TOGGLES R299
  , ⟨0x054, 4, 1, .ro, 0xFFFFFFFF, 0x0⟩ -- LEDG_THR_GLITCHES R299
  , ⟨0x058, 4, 1, .ro, 0xFFFFFFFF, 0x0⟩ -- LEDG_THR_LAST_LO R299
  , ⟨0x05C, 4, 1, .ro, 0xFFFFFFFF, 0x0⟩ -- LEDG_THR_LAST_HI R299
  , ⟨0x060, 4, 1, .ro, 0xFF, 0x0⟩ -- LEDG_LSTEP_STATE R299
  , ⟨0x064, 4, 1, .rw, 0x3FF, 0x0⟩ -- LEDG_DOM_SEL R299
  , ⟨0x068, 4, 1, .ro, 0xFFFFFFFF, 0x0⟩ -- LEDG_DOM_BALLAST_LO R299
  , ⟨0x06C, 4, 1, .ro, 0xFFFFFFFF, 0x0⟩ -- LEDG_DOM_BALLAST_HI R299
  , ⟨0x070, 4, 1, .ro, 0xFFFFFFFF, 0x0⟩ -- LEDG_OP_BALLAST_LO R299
  , ⟨0x074, 4, 1, .ro, 0xFFFFFFFF, 0x0⟩ -- LEDG_OP_BALLAST_HI R299
  , ⟨0x078, 4, 1, .wo, 0x1, 0x0⟩ -- LEDG_CNT_CLEAR R299
  , ⟨0x100, 4, 1, .rwl, 0xFFFFF, 0x927C0⟩ -- LEDG_RAIL_CEIL 0 R300
  , ⟨0x140, 4, 1, .rwl, 0xFFFFF, 0x927C0⟩ -- LEDG_RAIL_CEIL 1 R300
  , ⟨0x180, 4, 1, .rwl, 0xFFFFF, 0x927C0⟩ -- LEDG_RAIL_CEIL 2 R300
  , ⟨0x1C0, 4, 1, .rwl, 0xFFFFF, 0x927C0⟩ -- LEDG_RAIL_CEIL 3 R300
  , ⟨0x200, 4, 1, .rwl, 0xFFFFF, 0x927C0⟩ -- LEDG_RAIL_CEIL 4 R300
  ]

/-- The LEDG registers, part 2 -/
def ledgRows2 : List RegRow :=
  [ ⟨0x240, 4, 1, .rwl, 0xFFFFF, 0x927C0⟩ -- LEDG_RAIL_CEIL 5 R300
  , ⟨0x280, 4, 1, .rwl, 0xFFFFF, 0x927C0⟩ -- LEDG_RAIL_CEIL 6 R300
  , ⟨0x2C0, 4, 1, .rwl, 0xFFFFF, 0x927C0⟩ -- LEDG_RAIL_CEIL 7 R300
  , ⟨0x300, 4, 1, .rwl, 0xFFFFF, 0x30D40⟩ -- LEDG_RAIL_CEIL 8 R300
  , ⟨0x340, 4, 1, .rwl, 0xFFFFF, 0x27100⟩ -- LEDG_RAIL_CEIL 9 R300
  , ⟨0x380, 4, 1, .rwl, 0xFFFFF, 0xF4240⟩ -- LEDG_RAIL_CEIL 10 R300
  , ⟨0x3C0, 4, 1, .rwl, 0xFFFFF, 0xEA60⟩ -- LEDG_RAIL_CEIL 11 R300
  , ⟨0x400, 4, 1, .rwl, 0xFFFFF, 0x1D4C0⟩ -- LEDG_RAIL_CEIL 12 R300
  , ⟨0x104, 4, 1, .rwl, 0x1FFF, 0x1770⟩ -- LEDG_RAIL_SLEW 0 R300
  , ⟨0x144, 4, 1, .rwl, 0x1FFF, 0x1770⟩ -- LEDG_RAIL_SLEW 1 R300
  , ⟨0x184, 4, 1, .rwl, 0x1FFF, 0x1770⟩ -- LEDG_RAIL_SLEW 2 R300
  , ⟨0x1C4, 4, 1, .rwl, 0x1FFF, 0x1770⟩ -- LEDG_RAIL_SLEW 3 R300
  , ⟨0x204, 4, 1, .rwl, 0x1FFF, 0x1770⟩ -- LEDG_RAIL_SLEW 4 R300
  , ⟨0x244, 4, 1, .rwl, 0x1FFF, 0x1770⟩ -- LEDG_RAIL_SLEW 5 R300
  , ⟨0x284, 4, 1, .rwl, 0x1FFF, 0x1770⟩ -- LEDG_RAIL_SLEW 6 R300
  , ⟨0x2C4, 4, 1, .rwl, 0x1FFF, 0x1770⟩ -- LEDG_RAIL_SLEW 7 R300
  , ⟨0x304, 4, 1, .rwl, 0x1FFF, 0x0⟩ -- LEDG_RAIL_SLEW 8 R300
  , ⟨0x344, 4, 1, .rwl, 0x1FFF, 0x0⟩ -- LEDG_RAIL_SLEW 9 R300
  , ⟨0x384, 4, 1, .rwl, 0x1FFF, 0x0⟩ -- LEDG_RAIL_SLEW 10 R300
  , ⟨0x3C4, 4, 1, .rwl, 0x1FFF, 0x0⟩ -- LEDG_RAIL_SLEW 11 R300
  ]

/-- The LEDG registers, part 3 -/
def ledgRows3 : List RegRow :=
  [ ⟨0x404, 4, 1, .rwl, 0x1FFF, 0x0⟩ -- LEDG_RAIL_SLEW 12 R300
  , ⟨0x108, 64, 13, .rw, 0x3FFFFF, 0x0⟩ -- LEDG_RAIL_FLOOR R300
  , ⟨0x10C, 64, 13, .ro, 0xFFFFF, 0x0⟩ -- LEDG_RAIL_ACCOUNT R300
  , ⟨0x110, 64, 13, .ro, 0xFFFFF, 0x0⟩ -- LEDG_RAIL_WORK R300
  , ⟨0x114, 64, 13, .ro, 0xFFFFF, 0x0⟩ -- LEDG_RAIL_BALLAST R300
  , ⟨0x118, 64, 13, .ro, 0xFFFFF, 0x0⟩ -- LEDG_RAIL_PEAK R300
  , ⟨0x11C, 64, 13, .ro, 0xFFFFFFFF, 0x0⟩ -- LEDG_RAIL_WAIT R300
  , ⟨0x120, 64, 13, .ro, 0x7FF, 0x0⟩ -- LEDG_RAIL_STATE R300
  , ⟨0x124, 64, 13, .ro, 0xFFFFF, 0x0⟩ -- LEDG_RAIL_ANCHOR R300
  , ⟨0x128, 64, 13, .ro, 0xFFFFFFFF, 0x0⟩ -- LEDG_RAIL_BALLAST_NC_LO R300
  , ⟨0x12C, 64, 13, .ro, 0xFFFFFFFF, 0x0⟩ -- LEDG_RAIL_BALLAST_NC_HI R300
  , ⟨0x130, 64, 13, .ro, 0xFFFFFFFF, 0x0⟩ -- LEDG_RAIL_FREEZE_TICKS R300
  , ⟨0x134, 64, 13, .rwl, 0xFFF, 0x400⟩ -- LEDG_RAIL_SCALE R300
  , ⟨0x800, 64, 16, .rw, 0xFFFF, 0x0⟩ -- LEDG_PROF_CFG R301
  , ⟨0x808, 8, 7, .rw, 0xFFFFF, 0x0⟩ -- LEDG_PROF_TGT 0 R301
  , ⟨0x848, 8, 7, .rw, 0xFFFFF, 0x0⟩ -- LEDG_PROF_TGT 1 R301
  , ⟨0x888, 8, 7, .rw, 0xFFFFF, 0x0⟩ -- LEDG_PROF_TGT 2 R301
  , ⟨0x8C8, 8, 7, .rw, 0xFFFFF, 0x0⟩ -- LEDG_PROF_TGT 3 R301
  , ⟨0x908, 8, 7, .rw, 0xFFFFF, 0x0⟩ -- LEDG_PROF_TGT 4 R301
  , ⟨0x948, 8, 7, .rw, 0xFFFFF, 0x0⟩ -- LEDG_PROF_TGT 5 R301
  ]

/-- The LEDG registers, part 4 -/
def ledgRows4 : List RegRow :=
  [ ⟨0x988, 8, 7, .rw, 0xFFFFF, 0x0⟩ -- LEDG_PROF_TGT 6 R301
  , ⟨0x9C8, 8, 7, .rw, 0xFFFFF, 0x0⟩ -- LEDG_PROF_TGT 7 R301
  , ⟨0xA08, 8, 7, .rw, 0xFFFFF, 0x0⟩ -- LEDG_PROF_TGT 8 R301
  , ⟨0xA48, 8, 7, .rw, 0xFFFFF, 0x0⟩ -- LEDG_PROF_TGT 9 R301
  , ⟨0xA88, 8, 7, .rw, 0xFFFFF, 0x0⟩ -- LEDG_PROF_TGT 10 R301
  , ⟨0xAC8, 8, 7, .rw, 0xFFFFF, 0x0⟩ -- LEDG_PROF_TGT 11 R301
  , ⟨0xB08, 8, 7, .rw, 0xFFFFF, 0x0⟩ -- LEDG_PROF_TGT 12 R301
  , ⟨0xB48, 8, 7, .rw, 0xFFFFF, 0x0⟩ -- LEDG_PROF_TGT 13 R301
  , ⟨0xB88, 8, 7, .rw, 0xFFFFF, 0x0⟩ -- LEDG_PROF_TGT 14 R301
  , ⟨0xBC8, 8, 7, .rw, 0xFFFFF, 0x0⟩ -- LEDG_PROF_TGT 15 R301
  , ⟨0x80C, 8, 7, .rw, 0xFFFF1FFF, 0x0⟩ -- LEDG_PROF_RATE 0 R301
  , ⟨0x84C, 8, 7, .rw, 0xFFFF1FFF, 0x0⟩ -- LEDG_PROF_RATE 1 R301
  , ⟨0x88C, 8, 7, .rw, 0xFFFF1FFF, 0x0⟩ -- LEDG_PROF_RATE 2 R301
  , ⟨0x8CC, 8, 7, .rw, 0xFFFF1FFF, 0x0⟩ -- LEDG_PROF_RATE 3 R301
  , ⟨0x90C, 8, 7, .rw, 0xFFFF1FFF, 0x0⟩ -- LEDG_PROF_RATE 4 R301
  , ⟨0x94C, 8, 7, .rw, 0xFFFF1FFF, 0x0⟩ -- LEDG_PROF_RATE 5 R301
  , ⟨0x98C, 8, 7, .rw, 0xFFFF1FFF, 0x0⟩ -- LEDG_PROF_RATE 6 R301
  , ⟨0x9CC, 8, 7, .rw, 0xFFFF1FFF, 0x0⟩ -- LEDG_PROF_RATE 7 R301
  , ⟨0xA0C, 8, 7, .rw, 0xFFFF1FFF, 0x0⟩ -- LEDG_PROF_RATE 8 R301
  , ⟨0xA4C, 8, 7, .rw, 0xFFFF1FFF, 0x0⟩ -- LEDG_PROF_RATE 9 R301
  ]

/-- The LEDG registers, part 5 -/
def ledgRows5 : List RegRow :=
  [ ⟨0xA8C, 8, 7, .rw, 0xFFFF1FFF, 0x0⟩ -- LEDG_PROF_RATE 10 R301
  , ⟨0xACC, 8, 7, .rw, 0xFFFF1FFF, 0x0⟩ -- LEDG_PROF_RATE 11 R301
  , ⟨0xB0C, 8, 7, .rw, 0xFFFF1FFF, 0x0⟩ -- LEDG_PROF_RATE 12 R301
  , ⟨0xB4C, 8, 7, .rw, 0xFFFF1FFF, 0x0⟩ -- LEDG_PROF_RATE 13 R301
  , ⟨0xB8C, 8, 7, .rw, 0xFFFF1FFF, 0x0⟩ -- LEDG_PROF_RATE 14 R301
  , ⟨0xBCC, 8, 7, .rw, 0xFFFF1FFF, 0x0⟩ -- LEDG_PROF_RATE 15 R301
  ]

/-- The LEDG registers -/
def ledgRows : List RegRow :=
  ledgRows1 ++ ledgRows2 ++ ledgRows3 ++ ledgRows4 ++ ledgRows5

/-- The TIME registers -/
def timeRows : List RegRow :=
  [ ⟨0x040, 4, 1, .rwl, 0xF, 0x4⟩ -- TIME_CFG R323
  , ⟨0x044, 4, 1, .ro, 0x3F, 0x0⟩ -- TIME_STATE R323
  , ⟨0x048, 4, 1, .ro, 0xFFFFFFFF, 0x0⟩ -- TIME_NOW_LO R323
  , ⟨0x04C, 4, 1, .ro, 0xFFFFFFFF, 0x0⟩ -- TIME_NOW_HI R323
  , ⟨0x050, 4, 1, .ro, 0xFFFF, 0x0⟩ -- TIME_NOW_FRAC R323
  , ⟨0x054, 4, 1, .ro, 0xFFFFFFFF, 0x0⟩ -- TIME_OFFSET R323
  , ⟨0x058, 4, 1, .ro, 0xFFFFFFFF, 0x0⟩ -- TIME_FREQ_ADJ R323
  , ⟨0x05C, 4, 1, .ro, 0xFFFFFFFF, 0x0⟩ -- TIME_HOLDOVER_START_LO R323
  , ⟨0x060, 4, 1, .ro, 0xFFFFFFFF, 0x0⟩ -- TIME_HOLDOVER_START_HI R323
  , ⟨0x064, 4, 1, .ro, 0xFFFFFFFF, 0x0⟩ -- TIME_ERR_BOUND R323
  , ⟨0x068, 4, 1, .rwl, 0xFFFFFFFF, 0x186A0⟩ -- TIME_UNTRUST_NS R323
  , ⟨0x06C, 4, 1, .rw, 0xFFFFFFFF, 0x0⟩ -- TIME_TOD_NEXT_LO R323
  , ⟨0x070, 4, 1, .rw, 0xFFFFFFFF, 0x0⟩ -- TIME_TOD_NEXT_HI R323
  , ⟨0x074, 4, 1, .ro, 0xFFFFFFFF, 0x0⟩ -- TIME_PPS_EARLY R323
  , ⟨0x078, 4, 1, .ro, 0xFFFFFFFF, 0x0⟩ -- TIME_PPS_OUTLIERS R323
  , ⟨0x07C, 4, 1, .ro, 0xFFFFFFFF, 0x0⟩ -- TIME_STEPS R323
  , ⟨0x080, 4, 1, .rw, 0x7FF, 0xC9⟩ -- TIME_PPS_OUT_CFG R323
  , ⟨0x084, 4, 1, .rw, 0x1F, 0x0⟩ -- TIME_TS_SEL R323
  , ⟨0x088, 4, 1, .rwl, 0xFFFFFFFF, 0x0⟩ -- TIME_TS_CORR R323
  , ⟨0x08C, 4, 1, .wo, 0x1, 0x0⟩ -- TIME_CNT_CLEAR R323
  ]

/-- The CAL registers -/
def calRows : List RegRow :=
  [ ⟨0x040, 4, 1, .rw, 0xFFF, 0x0⟩ -- CAL_SEL R324
  , ⟨0x044, 4, 1, .rw, 0xFFFFFFFF, 0x0⟩ -- CAL_ENT_INSTANT_LO R324
  , ⟨0x048, 4, 1, .rw, 0xFFFFFFFF, 0x0⟩ -- CAL_ENT_INSTANT_HI R324
  , ⟨0x04C, 4, 1, .rw, 0xFFFFFFFF, 0x0⟩ -- CAL_ENT_PERIOD R324
  , ⟨0x050, 4, 1, .rw, 0x1F, 0x0⟩ -- CAL_ENT_ACTION R324
  , ⟨0x054, 4, 1, .rw, 0xFFFFF, 0x0⟩ -- CAL_ENT_TARGET R324
  , ⟨0x058, 4, 1, .ro, 0x7FF, 0x0⟩ -- CAL_ENT_OWNER R324
  , ⟨0x05C, 4, 1, .rw, 0x1, 0x0⟩ -- CAL_ENT_CTRL R324
  , ⟨0x060, 4, 1, .ro, 0xFFFFFFFF, 0x0⟩ -- CAL_ENT_LAST_LO R324
  , ⟨0x064, 4, 1, .ro, 0xFFFFFFFF, 0x0⟩ -- CAL_ENT_LAST_HI R324
  , ⟨0x068, 4, 1, .ro, 0xFFFFFFFF, 0x0⟩ -- CAL_ENT_FIRES R324
  , ⟨0x06C, 4, 1, .ro, 0xFFFFFFFF, 0x0⟩ -- CAL_LATE R324
  , ⟨0x070, 4, 1, .ro, 0xFFFFFFFF, 0x0⟩ -- CAL_MISSED R324
  , ⟨0x074, 4, 1, .ro, 0xFFFFFFFF, 0x0⟩ -- CAL_NOEFFECT R324
  , ⟨0x078, 4, 1, .wo, 0x1, 0x0⟩ -- CAL_CNT_CLEAR R324
  ]

/-- The UPD registers, part 1 -/
def updRows1 : List RegRow :=
  [ ⟨0x040, 4, 1, .ro, 0x1FFFF, 0x0⟩ -- UPD_STATE R424
  , ⟨0x044, 4, 1, .ro, 0x1FFFF, 0x0⟩ -- UPD_ARMED R424
  , ⟨0x048, 4, 1, .ro, 0xFFFFFFFF, 0x0⟩ -- UPD_ELEMS_LO R424
  , ⟨0x04C, 4, 1, .ro, 0xFFFFFFFF, 0x0⟩ -- UPD_ELEMS_HI R424
  , ⟨0x050, 4, 1, .ro, 0xFFFFFFFF, 0x0⟩ -- UPD_BUSY_CYCLES R424
  , ⟨0x054, 4, 1, .wo, 0x1, 0x0⟩ -- UPD_CNT_CLEAR R424
  , ⟨0x100, 4, 1, .rw, 0xFF, 0x0⟩ -- UPD_PROG_SEL R424
  , ⟨0x104, 4, 1, .rw, 0x8000003F, 0x0⟩ -- UPD_PROG_CTRL R424
  , ⟨0x108, 4, 1, .ro, 0x1FFFF, 0x0⟩ -- UPD_PROG_USERS R424
  , ⟨0x180, 4, 32, .rw, 0xFFFFFFFF, 0x0⟩ -- UPD_PROG_INSTRj R424
  , ⟨0x200, 4, 1, .rw, 0x3FFF, 0x0⟩ -- UPD_CTX_SEL R424
  , ⟨0x204, 4, 1, .rw, 0x1, 0x0⟩ -- UPD_CTX_CFG R424
  , ⟨0x208, 4, 1, .rw, 0x1, 0x0⟩ -- UPD_CTX_EPOCH R424
  , ⟨0x20C, 4, 1, .rw, 0xFFFFFFFF, 0x0⟩ -- UPD_CTX_TT_BASE_LO R424
  , ⟨0x210, 4, 1, .rw, 0xFFFFFFFF, 0x0⟩ -- UPD_CTX_TT_BASE_HI R424
  , ⟨0x214, 4, 1, .rw, 0x1FFFF, 0x0⟩ -- UPD_CTX_TT_COUNT R424
  , ⟨0x218, 4, 1, .ro, 0xFFFF0007, 0x0⟩ -- UPD_CTX_STATUS R424
  , ⟨0x21C, 4, 1, .ro, 0xFFFFFFFF, 0x0⟩ -- UPD_CTX_VOTE R424
  , ⟨0x220, 4, 1, .ro, 0xFFFFFFFF, 0x0⟩ -- UPD_CTX_ERR R424
  , ⟨0x224, 4, 1, .ro, 0xFFFFFFFF, 0x0⟩ -- UPD_CTX_SKEW_FRAME R424
  ]

/-- The UPD registers, part 2 -/
def updRows2 : List RegRow :=
  [ ⟨0x228, 4, 1, .ro, 0xFFFFFFFF, 0x0⟩ -- UPD_CTX_SKEW_CTX R424
  , ⟨0x22C, 4, 1, .ro, 0xFFFFFFFF, 0x0⟩ -- UPD_CTX_FROZEN_HITS_LO R424
  , ⟨0x230, 4, 1, .ro, 0xFFFFFFFF, 0x0⟩ -- UPD_CTX_FROZEN_HITS_HI R424
  , ⟨0x234, 4, 1, .ro, 0xFFFFFFFF, 0x0⟩ -- UPD_CTX_COMMITS R424
  , ⟨0x238, 4, 1, .ro, 0xFFFFFFFF, 0x0⟩ -- UPD_CTX_DISCARDS R424
  ]

/-- The UPD registers -/
def updRows : List RegRow :=
  updRows1 ++ updRows2

/-- The SCHD registers, part 1 -/
def schdRows1 : List RegRow :=
  [ ⟨0x040, 4, 1, .rw, 0xFF, 0x0⟩ -- SCHD_SEL R425
  , ⟨0x044, 4, 1, .rw, 0x80003FFF, 0x0⟩ -- SCHD_CTX R425
  , ⟨0x048, 4, 1, .rw, 0x1F, 0x0⟩ -- SCHD_CFG R425
  , ⟨0x04C, 4, 1, .rw, 0xFFFFFFFF, 0x0⟩ -- SCHD_PEAK R425
  , ⟨0x050, 4, 1, .rw, 0xFFFFFFFF, 0x0⟩ -- SCHD_MIN R425
  , ⟨0x054, 4, 1, .rw, 0xFFFFFFFF, 0x0⟩ -- SCHD_WARMUP R425
  , ⟨0x058, 4, 1, .rw, 0xFFFFFFFF, 0x0⟩ -- SCHD_WU_K R425
  , ⟨0x05C, 4, 1, .rw, 0xFFFFFFFF, 0x0⟩ -- SCHD_PERIOD R425
  , ⟨0x060, 4, 1, .rw, 0xF, 0x0⟩ -- SCHD_MULT R425
  , ⟨0x064, 4, 1, .rw, 0xFFFFFFFF, 0x0⟩ -- SCHD_PEAK_DECAY R425
  , ⟨0x068, 4, 1, .rw, 0xFFFFFFFF, 0x0⟩ -- SCHD_LOG2_GAMMA R425
  , ⟨0x06C, 4, 1, .rw, 0xFFFFFFFF, 0x0⟩ -- SCHD_INTERVAL R425
  , ⟨0x070, 4, 1, .rw, 0xFFFFFFFF, 0x0⟩ -- SCHD_BETA1 R425
  , ⟨0x074, 4, 1, .rw, 0xFFFFFFFF, 0x0⟩ -- SCHD_BETA2 R425
  , ⟨0x078, 4, 1, .rw, 0xFFFFFFFF, 0x0⟩ -- SCHD_EPS R425
  , ⟨0x07C, 4, 1, .rw, 0xFFFFFFFF, 0x0⟩ -- SCHD_WD R425
  , ⟨0x080, 4, 1, .rw, 0xFFFFFFFF, 0x0⟩ -- SCHD_START_STEP_LO R425
  , ⟨0x084, 4, 1, .rw, 0xFFFFFFFF, 0x0⟩ -- SCHD_START_STEP_HI R425
  , ⟨0x088, 4, 1, .rw, 0xFFFFFFFF, 0xFFFFFFFF⟩ -- SCHD_LAST_STEP_LO R425
  , ⟨0x08C, 4, 1, .rw, 0xFFFFFFFF, 0xFFFFFFFF⟩ -- SCHD_LAST_STEP_HI R425
  ]

/-- The SCHD registers, part 2 -/
def schdRows2 : List RegRow :=
  [ ⟨0x090, 4, 1, .rw, 0xFFFFFFFF, 0x3F800000⟩ -- SCHD_P1 R425
  , ⟨0x094, 4, 1, .rw, 0xFFFFFFFF, 0x3F800000⟩ -- SCHD_P2 R425
  , ⟨0x0C0, 4, 16, .ro, 0xFFFFFFFF, 0x0⟩ -- SCHD_OUTk R425
  ]

/-- The SCHD registers -/
def schdRows : List RegRow :=
  schdRows1 ++ schdRows2

/-- The COLL registers, part 1 -/
def collRows1 : List RegRow :=
  [ ⟨0x040, 4, 1, .rwl, 0x3FFFFF, 0x23A3E1⟩ -- COLL_CFG R388
  , ⟨0x044, 4, 1, .rw, 0x1F, 0x8⟩ -- COLL_LAND_MAX R388
  , ⟨0x048, 4, 1, .ro, 0xFFFFFFFF, 0x0⟩ -- COLL_BAD_FRAMES R388
  , ⟨0x04C, 4, 1, .ro, 0xFFFFFFFF, 0x0⟩ -- COLL_STALE_FRAMES R388
  , ⟨0x050, 4, 1, .ro, 0xFFFFFFFF, 0x0⟩ -- COLL_CRC_FAIL R388
  , ⟨0x054, 4, 1, .ro, 0x1FFFF, 0x0⟩ -- COLL_SENDLOG_USED R388
  , ⟨0x058, 4, 1, .wo, 0x1, 0x0⟩ -- COLL_CNT_CLEAR R388
  , ⟨0x100, 4, 1, .rw, 0xFFF, 0x0⟩ -- COLL_GRP_SEL R388
  , ⟨0x104, 4, 1, .rw, 0x800FFFFF, 0x0⟩ -- COLL_GRP_ID R388
  , ⟨0x108, 4, 1, .rw, 0x3FFF, 0x0⟩ -- COLL_GRP_CTX R388
  , ⟨0x10C, 4, 1, .rw, 0x1FFFF, 0x0⟩ -- COLL_GRP_SIZE R388
  , ⟨0x110, 4, 1, .rw, 0xFFFF, 0x0⟩ -- COLL_GRP_RANK R388
  , ⟨0x114, 4, 1, .rw, 0xFFFF, 0x0⟩ -- COLL_GRP_PORTS R388
  , ⟨0x118, 4, 4, .rw, 0xFFFFFFFF, 0x0⟩ -- COLL_GRP_SWITCH R388
  , ⟨0x128, 4, 1, .rw, 0xFFFFFF, 0x1388⟩ -- COLL_GRP_TIMEOUT R388
  , ⟨0x12C, 4, 1, .rw, 0xF, 0x6⟩ -- COLL_GRP_CFG R388
  , ⟨0x130, 4, 1, .rw, 0xFFFFFFFF, 0x0⟩ -- COLL_GRP_TT_BASE_LO R388
  , ⟨0x134, 4, 1, .rw, 0xFFFFFFFF, 0x0⟩ -- COLL_GRP_TT_BASE_HI R388
  , ⟨0x138, 4, 1, .rw, 0x1FFFF, 0x0⟩ -- COLL_GRP_TT_COUNT R388
  , ⟨0x13C, 4, 1, .rw, 0xFF, 0x0⟩ -- COLL_GRP_ATTEMPT R388
  ]

/-- The COLL registers, part 2 -/
def collRows2 : List RegRow :=
  [ ⟨0x140, 4, 1, .rw, 0xFFFFFFFF, 0x0⟩ -- COLL_GRP_VOTE_BUF_LO R388
  , ⟨0x144, 4, 1, .rw, 0xFFFFFFFF, 0x0⟩ -- COLL_GRP_VOTE_BUF_HI R388
  , ⟨0x148, 4, 1, .ro, 0xFFFF007F, 0x0⟩ -- COLL_GRP_STATE R388
  , ⟨0x14C, 4, 1, .ro, 0xFFFFFFFF, 0x0⟩ -- COLL_GRP_ERR R388
  , ⟨0x150, 4, 1, .ro, 0xFFFFFFFF, 0x0⟩ -- COLL_GRP_ERR_INFO R388
  , ⟨0x154, 4, 1, .ro, 0xFFFFFFFF, 0x0⟩ -- COLL_GRP_REDOS R388
  , ⟨0x158, 4, 1, .ro, 0xFFFFFFFF, 0x0⟩ -- COLL_GRP_TX_LO R388
  , ⟨0x15C, 4, 1, .ro, 0xFFFFFFFF, 0x0⟩ -- COLL_GRP_TX_HI R388
  , ⟨0x160, 4, 1, .ro, 0xFFFFFFFF, 0x0⟩ -- COLL_GRP_ZERO_TX R388
  , ⟨0x164, 4, 1, .ro, 0xFFFFFFFF, 0x0⟩ -- COLL_GRP_RX R388
  , ⟨0x168, 4, 1, .ro, 0xFFFFFFFF, 0x0⟩ -- COLL_GRP_AG_DROPPED R388
  , ⟨0x200, 4, 1, .rw, 0xFFF, 0x0⟩ -- COLL_PCL_SEL R389
  , ⟨0x204, 4, 1, .rw, 0x80000FFF, 0x0⟩ -- COLL_PCL_CFG R389
  , ⟨0x208, 4, 1, .rw, 0xFFFFFFFF, 0x0⟩ -- COLL_PCL_PEER R389
  , ⟨0x20C, 4, 1, .rw, 0xFFFFFFFF, 0x0⟩ -- COLL_PCL_CAP R389
  , ⟨0x210, 4, 1, .rw, 0xFFFFFF, 0x0⟩ -- COLL_PCL_QP R389
  , ⟨0x214, 4, 1, .rw, 0xFFFFFFFF, 0x0⟩ -- COLL_PCL_RKEY R389
  , ⟨0x218, 4, 1, .rw, 0xFFFFFFFF, 0x0⟩ -- COLL_PCL_RADDR_LO R389
  , ⟨0x21C, 4, 1, .rw, 0xFFFFFFFF, 0x0⟩ -- COLL_PCL_RADDR_HI R389
  , ⟨0x220, 4, 1, .ro, 0xFFFFFFFF, 0x0⟩ -- COLL_PCL_DROPPED R389
  ]

/-- The COLL registers, part 3 -/
def collRows3 : List RegRow :=
  [ ⟨0x224, 4, 1, .ro, 0x7, 0x0⟩ -- COLL_PCL_STATE R389
  , ⟨0x280, 4, 1, .rw, 0xFFF, 0x0⟩ -- COLL_LND_SEL R389
  , ⟨0x284, 4, 1, .rw, 0x80000FFF, 0x0⟩ -- COLL_LND_CFG R389
  , ⟨0x288, 4, 1, .rw, 0xFFFF, 0x0⟩ -- COLL_LND_SRC R389
  , ⟨0x28C, 4, 1, .rw, 0xFFFFFFFF, 0x0⟩ -- COLL_LND_CAP R389
  , ⟨0x290, 4, 1, .rw, 0xFFFFFFFF, 0x0⟩ -- COLL_LND_BASE_LO R389
  , ⟨0x294, 4, 1, .rw, 0xFFFFFFFF, 0x0⟩ -- COLL_LND_BASE_HI R389
  , ⟨0x298, 4, 1, .rw, 0xFFFF, 0x0⟩ -- COLL_LND_SEMS R389
  , ⟨0x29C, 4, 1, .ro, 0x1F, 0x0⟩ -- COLL_LND_STATE R389
  , ⟨0x2A0, 4, 1, .ro, 0xFFFFFFFF, 0x0⟩ -- COLL_LND_LANDED R389
  ]

/-- The COLL registers -/
def collRows : List RegRow :=
  collRows1 ++ collRows2 ++ collRows3

/-- The MSEC registers -/
def msecRows : List RegRow :=
  [ ⟨0x040, 4, 1, .rwl, 0x3F, 0x3E⟩ -- MSEC_REKEY_PN R460
  , ⟨0x044, 4, 1, .rwl, 0xFFF, 0x7D0⟩ -- MSEC_MKA_HELLO R460
  , ⟨0x048, 4, 1, .ro, 0x3FFFF, 0x0⟩ -- MSEC_PORTS_SECURED R460
  , ⟨0x04C, 4, 1, .ro, 0xFFFFFFFF, 0x0⟩ -- MSEC_SAK_CHANGES R460
  ]

/-- The PTP registers -/
def ptpRows : List RegRow :=
  [ ⟨0x040, 4, 1, .rwl, 0x3FFF, 0x3900⟩ -- PTP_CFG R460
  , ⟨0x044, 4, 1, .ro, 0x3FF, 0x0⟩ -- PTP_STATE R460
  , ⟨0x048, 4, 1, .ro, 0xFFFFFFFF, 0x0⟩ -- PTP_MASTER_LO R460
  , ⟨0x04C, 4, 1, .ro, 0xFFFFFFFF, 0x0⟩ -- PTP_MASTER_HI R460
  , ⟨0x050, 4, 1, .ro, 0xFFFFFFFF, 0x0⟩ -- PTP_MEAN_PATH R460
  , ⟨0x054, 4, 1, .ro, 0xFFFFFFFF, 0x0⟩ -- PTP_SYNC_RX R460
  , ⟨0x058, 4, 1, .ro, 0xFFFFFFFF, 0x0⟩ -- PTP_REJECTED R460
  , ⟨0x05C, 4, 1, .wo, 0x1, 0x0⟩ -- PTP_CNT_CLEAR R460
  ]

/-- The MGMT registers, part 1 -/
def mgmtRows1 : List RegRow :=
  [ ⟨0x040, 4, 1, .rwl, 0x3FFFFF, 0x2EA3E0⟩ -- MGMT_CFG R456
  , ⟨0x044, 4, 1, .rwl, 0xFFF, 0x12C⟩ -- MGMT_SESSION_IDLE R456
  , ⟨0x048, 4, 1, .ro, 0xFFFFFFFF, 0x0⟩ -- MGMT_FRAMES R456
  , ⟨0x04C, 4, 1, .ro, 0xFFFFFFFF, 0x0⟩ -- MGMT_AUTH_FAIL R456
  , ⟨0x050, 4, 1, .ro, 0xFFFFFFFF, 0x0⟩ -- MGMT_REPLAYS R456
  , ⟨0x054, 4, 1, .ro, 0xFFFFFFFF, 0x0⟩ -- MGMT_RESENDS R456
  , ⟨0x058, 4, 1, .ro, 0xFFFFFFFF, 0x0⟩ -- MGMT_DISCARDS R456
  , ⟨0x05C, 4, 1, .wo, 0x1, 0x0⟩ -- MGMT_CNT_CLEAR R456
  , ⟨0x060, 4, 1, .rw, 0x1FFF, 0x0⟩ -- MGMT_SESS_SEL R456
  , ⟨0x064, 4, 1, .ro, 0x3, 0x0⟩ -- MGMT_SESS_STATE R456
  , ⟨0x068, 4, 1, .ro, 0xFFFFFFFF, 0x0⟩ -- MGMT_SESS_COUNTER_LO R456
  , ⟨0x06C, 4, 1, .ro, 0xFFFFFFFF, 0x0⟩ -- MGMT_SESS_COUNTER_HI R456
  , ⟨0x070, 4, 1, .ro, 0xFFFFFFFF, 0x0⟩ -- MGMT_SESS_IDLE_LEFT R456
  , ⟨0x074, 4, 1, .wo, 0x1, 0x0⟩ -- MGMT_SESS_CTRL R456
  , ⟨0x100, 4, 1, .rw, 0x1FF, 0x0⟩ -- MGMT_RING_SEL R457
  , ⟨0x104, 4, 1, .rw, 0x8FFF7FFF, 0x0⟩ -- MGMT_RING_CFG R457
  , ⟨0x108, 4, 1, .rw, 0xFFFFFFFF, 0x0⟩ -- MGMT_RING_SIZE R457
  , ⟨0x10C, 4, 1, .rw, 0x1FFFFF, 0x0⟩ -- MGMT_RING_DEPTH R457
  , ⟨0x110, 4, 1, .rw, 0xFFFFFFFF, 0x0⟩ -- MGMT_RING_RBASE_LO R457
  , ⟨0x114, 4, 1, .rw, 0xFFFFFFFF, 0x0⟩ -- MGMT_RING_RBASE_HI R457
  ]

/-- The MGMT registers, part 2 -/
def mgmtRows2 : List RegRow :=
  [ ⟨0x118, 4, 1, .rw, 0xFFFFFFFF, 0x0⟩ -- MGMT_RING_RKEY R457
  , ⟨0x11C, 4, 1, .rw, 0xFFFFFFFF, 0x0⟩ -- MGMT_RING_RIDX_LO R457
  , ⟨0x120, 4, 1, .rw, 0xFFFFFFFF, 0x0⟩ -- MGMT_RING_RIDX_HI R457
  , ⟨0x124, 4, 1, .rw, 0xFFFFFFFF, 0x0⟩ -- MGMT_RING_LBASE_LO R457
  , ⟨0x128, 4, 1, .rw, 0xFFFFFFFF, 0x0⟩ -- MGMT_RING_LBASE_HI R457
  , ⟨0x12C, 4, 1, .rw, 0x3FFFFF, 0x0⟩ -- MGMT_RING_SEMS R457
  , ⟨0x130, 4, 1, .rw, 0xFFFFFFFF, 0x0⟩ -- MGMT_RING_START_LO R457
  , ⟨0x134, 4, 1, .rw, 0xFFFFFFFF, 0x0⟩ -- MGMT_RING_START_HI R457
  , ⟨0x138, 4, 1, .rw, 0x3FF0001, 0xA0000⟩ -- MGMT_RING_CTRL R457
  , ⟨0x13C, 4, 1, .ro, 0xFF, 0x0⟩ -- MGMT_RING_STATE R457
  , ⟨0x140, 4, 1, .ro, 0xFFFFFFFF, 0x0⟩ -- MGMT_RING_COUNT_LO R457
  , ⟨0x144, 4, 1, .ro, 0xFFFFFFFF, 0x0⟩ -- MGMT_RING_COUNT_HI R457
  , ⟨0x148, 4, 1, .ro, 0xFFFF, 0x0⟩ -- MGMT_RING_ERR R457
  , ⟨0x200, 4, 1, .rw, 0xFFF, 0x0⟩ -- MGMT_QP_SEL R458
  , ⟨0x204, 4, 1, .rw, 0x800FFFFF, 0x0⟩ -- MGMT_QP_CFG R458
  , ⟨0x208, 4, 1, .rw, 0xFFFFFF, 0x0⟩ -- MGMT_QP_PEER_QPN R458
  , ⟨0x20C, 4, 4, .rw, 0xFFFFFFFF, 0x0⟩ -- MGMT_QP_PEER_IP R458
  , ⟨0x21C, 4, 1, .rw, 0xFFFFFF, 0x0⟩ -- MGMT_QP_SQ_PSN R458
  , ⟨0x220, 4, 1, .rw, 0xFFFFFF, 0x0⟩ -- MGMT_QP_RQ_PSN R458
  , ⟨0x224, 4, 1, .rw, 0xFF, 0xE0⟩ -- MGMT_QP_TIMER R458
  ]

/-- The MGMT registers, part 3 -/
def mgmtRows3 : List RegRow :=
  [ ⟨0x228, 4, 1, .ro, 0x3, 0x0⟩ -- MGMT_QP_STATE R458
  , ⟨0x280, 4, 1, .rw, 0xFFF, 0x0⟩ -- MGMT_MR_SEL R458
  , ⟨0x284, 4, 1, .rw, 0x80FF07FF, 0x0⟩ -- MGMT_MR_CFG R458
  , ⟨0x288, 4, 1, .rw, 0xFFFFFFFF, 0x0⟩ -- MGMT_MR_BASE_LO R458
  , ⟨0x28C, 4, 1, .rw, 0xFFFFFFFF, 0x0⟩ -- MGMT_MR_BASE_HI R458
  , ⟨0x290, 4, 1, .rw, 0xFFFFFFFF, 0x0⟩ -- MGMT_MR_LEN_LO R458
  , ⟨0x294, 4, 1, .rw, 0xFFFFFFFF, 0x0⟩ -- MGMT_MR_LEN_HI R458
  ]

/-- The MGMT registers -/
def mgmtRows : List RegRow :=
  mgmtRows1 ++ mgmtRows2 ++ mgmtRows3

/-- The ETH registers -/
def ethRows : List RegRow :=
  [ ⟨0x040, 4, 1, .rwl, 0xFFFFFF, 0x1C4⟩ -- ETH_CFG R459
  , ⟨0x044, 4, 1, .ro, 0xF, 0x0⟩ -- ETH_STATE R459
  , ⟨0x048, 4, 1, .rwl, 0xFFFFFFFF, 0x0⟩ -- ETH_MAC_LO R459
  , ⟨0x04C, 4, 1, .rwl, 0xFFFF, 0x0⟩ -- ETH_MAC_HI R459
  , ⟨0x050, 4, 4, .rw, 0xFFFFFFFF, 0x0⟩ -- ETH_IP R459
  , ⟨0x060, 4, 1, .ro, 0xFFFFFFFF, 0x0⟩ -- ETH_FEC_CE R459
  , ⟨0x064, 4, 1, .ro, 0xFFFFFFFF, 0x0⟩ -- ETH_FEC_UE R459
  , ⟨0x068, 4, 1, .ro, 0xFFFFFFFF, 0x0⟩ -- ETH_RX_FRAMES R459
  , ⟨0x06C, 4, 1, .ro, 0xFFFFFFFF, 0x0⟩ -- ETH_TX_FRAMES R459
  , ⟨0x070, 4, 1, .ro, 0xFFFFFFFF, 0x0⟩ -- ETH_FCS_ERR R459
  , ⟨0x074, 4, 1, .ro, 0xFFFFFFFF, 0x0⟩ -- ETH_PFC_PAUSED R459
  , ⟨0x078, 4, 1, .ro, 0xFFFFFFFF, 0x0⟩ -- ETH_ECN_CE R459
  , ⟨0x07C, 4, 1, .ro, 0xFFFFFFFF, 0x0⟩ -- ETH_CNP_TX R459
  , ⟨0x080, 4, 1, .ro, 0xFFFFFFFF, 0x0⟩ -- ETH_RDMA_DENIED R459
  , ⟨0x084, 4, 1, .rwl, 0xFFFF01FF, 0x400100⟩ -- ETH_MSEC_CFG R459
  , ⟨0x088, 4, 1, .ro, 0xFF, 0x0⟩ -- ETH_MSEC_STATE R459
  , ⟨0x08C, 4, 1, .ro, 0xFFFFFFFF, 0x0⟩ -- ETH_MSEC_DISCARDS R459
  , ⟨0x090, 4, 1, .wo, 0x1, 0x0⟩ -- ETH_CNT_CLEAR R459
  ]

/-- The SEC registers -/
def secRows : List RegRow :=
  [ ⟨0x040, 4, 1, .ro, 0x7, 0x0⟩ -- SEC_STATE R486
  , ⟨0x044, 4, 1, .ro, 0xFFFFFFFF, 0x0⟩ -- SEC_FLEET_ID_LO R486
  , ⟨0x048, 4, 1, .ro, 0xFFFFFFFF, 0x0⟩ -- SEC_FLEET_ID_HI R486
  , ⟨0x04C, 4, 1, .rwl, 0x3FFF, 0x1F40⟩ -- SEC_SCRUB_RATE R486
  , ⟨0x050, 4, 1, .rwl, 0x7FF, 0x3E8⟩ -- SEC_SCRUB_SLOW_RATE R486
  , ⟨0x054, 4, 1, .rw, 0x3FF, 0x0⟩ -- SEC_SCRUB_SEL R486
  , ⟨0x058, 4, 1, .wo, 0x1, 0x0⟩ -- SEC_SCRUB_CTRL R486
  , ⟨0x05C, 4, 1, .ro, 0x3, 0x0⟩ -- SEC_SCRUB_STATE R486
  , ⟨0x060, 4, 1, .ro, 0xFFFFF, 0x0⟩ -- SEC_SCRUB_LEFT R486
  , ⟨0x064, 4, 1, .ro, 0xFFFFFFFF, 0x0⟩ -- SEC_SCRUB_DISCARDS R486
  , ⟨0x068, 4, 1, .wo, 0x307, 0x0⟩ -- SEC_FW_CTRL R486
  , ⟨0x06C, 4, 1, .ro, 0xFFFF0707, 0x0⟩ -- SEC_FW_STATUS R486
  , ⟨0x070, 4, 1, .rw, 0x7, 0x0⟩ -- SEC_FW_UNIT_SEL R486
  , ⟨0x074, 4, 1, .ro, 0xFFFFFF, 0x0⟩ -- SEC_FW_SVN R486
  , ⟨0x078, 4, 8, .ro, 0xFFFFFFFF, 0x0⟩ -- SEC_FW_MEAS R486
  ]

/-- The KEY registers -/
def keyRows : List RegRow :=
  [ ⟨0x040, 4, 1, .rw, 0x7FF, 0x0⟩ -- KEY_DOM_SEL R487
  , ⟨0x044, 4, 1, .ro, 0xFF3F, 0x0⟩ -- KEY_DOM_MEM_GEN R487
  , ⟨0x048, 4, 1, .wo, 0x7, 0x0⟩ -- KEY_DOM_CTRL R487
  , ⟨0x04C, 4, 1, .ro, 0xFFFFF, 0x0⟩ -- KEY_DOM_LEFT R487
  , ⟨0x050, 4, 1, .ro, 0x3F, 0x0⟩ -- KEY_DOM_CMD_GEN R487
  , ⟨0x054, 4, 1, .ro, 0xFFFFFFFF, 0x0⟩ -- KEY_MOVE_POISONED R487
  , ⟨0x058, 4, 1, .ro, 0xFFFFFFFF, 0x0⟩ -- KEY_RETIRED_READS R487
  , ⟨0x05C, 4, 1, .rw, 0x1F, 0x0⟩ -- KEY_PORT_SEL R487
  , ⟨0x060, 4, 1, .rw, 0x3F, 0x0⟩ -- KEY_PORT_LINK_GEN R487
  ]

/-- The ATT registers -/
def attRows : List RegRow :=
  [ ⟨0x040, 4, 1, .wo, 0x3, 0x0⟩ -- ATT_CTRL R488
  , ⟨0x044, 4, 1, .rw, 0x3FF, 0x0⟩ -- ATT_DOM_SEL R488
  , ⟨0x048, 4, 1, .ro, 0x3, 0x0⟩ -- ATT_STATE R488
  , ⟨0x050, 4, 8, .rw, 0xFFFFFFFF, 0x0⟩ -- ATT_NONCE R488
  , ⟨0x070, 4, 16, .ro, 0xFFFFFFFF, 0x0⟩ -- ATT_IDENT_PUB R488
  , ⟨0x400, 4, 160, .ro, 0xFFFFFFFF, 0x0⟩ -- ATT_REPORT R488
  ]

/-- The DBG registers -/
def dbgRows : List RegRow :=
  [ ⟨0x040, 4, 1, .rw, 0x1, 0x0⟩ -- DBG_CTRL R489
  , ⟨0x044, 4, 1, .rw, 0x3FF, 0x0⟩ -- DBG_LOG_SEL R489
  , ⟨0x048, 4, 1, .rw, 0xFF, 0x0⟩ -- DBG_LOG_IDX R489
  , ⟨0x04C, 4, 1, .ro, 0xFFFFFFFF, 0x0⟩ -- DBG_LOG_NEXT_LO R489
  , ⟨0x050, 4, 1, .ro, 0xFFFFFFFF, 0x0⟩ -- DBG_LOG_NEXT_HI R489
  , ⟨0x054, 4, 8, .ro, 0xFFFFFFFF, 0x0⟩ -- DBG_LOG_E R489
  ]

/-- The MET registers, part 1 -/
def metRows1 : List RegRow :=
  [ ⟨0x040, 4, 1, .ro, 0x1F, 0x0⟩ -- MET_STATE R513
  , ⟨0x044, 4, 1, .ro, 0xFFFF, 0x0⟩ -- MET_METHOD R513
  , ⟨0x048, 4, 1, .ro, 0xFFFFFFFF, 0x0⟩ -- MET_SEAL_LO R513
  , ⟨0x04C, 4, 1, .ro, 0xFFFFFFFF, 0x0⟩ -- MET_SEAL_HI R513
  , ⟨0x050, 4, 1, .ro, 0xFFFFFFFF, 0x0⟩ -- MET_TIME_LO R513
  , ⟨0x054, 4, 1, .ro, 0xFFFFFFFF, 0x0⟩ -- MET_TIME_HI R513
  , ⟨0x058, 4, 1, .ro, 0xFFFFFFFF, 0x0⟩ -- MET_POWER_ONS R513
  , ⟨0x05C, 4, 1, .ro, 0xFFFFFFFF, 0x0⟩ -- MET_SAMPLE_FAULTS R513
  , ⟨0x060, 4, 1, .ro, 0xFFFFFFFF, 0x0⟩ -- MET_TOTAL_LO R513
  , ⟨0x064, 4, 1, .ro, 0xFFFFFFFF, 0x0⟩ -- MET_TOTAL_HI R513
  , ⟨0x068, 8, 13, .ro, 0xFFFFFFFF, 0x0⟩ -- MET_RAILr_LO R513
  , ⟨0x06C, 8, 13, .ro, 0xFFFFFFFF, 0x0⟩ -- MET_RAILr_HI R513
  , ⟨0x0D0, 4, 1, .ro, 0xFFFFFFFF, 0x0⟩ -- MET_OP_LO R513
  , ⟨0x0D4, 4, 1, .ro, 0xFFFFFFFF, 0x0⟩ -- MET_OP_HI R513
  , ⟨0x0D8, 4, 1, .ro, 0xFFFFFFFF, 0x0⟩ -- MET_OP_BALLAST_LO R513
  , ⟨0x0DC, 4, 1, .ro, 0xFFFFFFFF, 0x0⟩ -- MET_OP_BALLAST_HI R513
  , ⟨0x0E0, 4, 1, .rw, 0x3FF, 0x0⟩ -- MET_DOM_SEL R513
  , ⟨0x0E8, 4, 1, .ro, 0xFFFFFFFF, 0x0⟩ -- MET_DOM_LO R513
  , ⟨0x0EC, 4, 1, .ro, 0xFFFFFFFF, 0x0⟩ -- MET_DOM_HI R513
  , ⟨0x0F0, 4, 1, .ro, 0xFFFFFFFF, 0x0⟩ -- MET_DOM_BALLAST_LO R513
  ]

/-- The MET registers, part 2 -/
def metRows2 : List RegRow :=
  [ ⟨0x0F4, 4, 1, .ro, 0xFFFFFFFF, 0x0⟩ -- MET_DOM_BALLAST_HI R513
  , ⟨0x0F8, 4, 1, .ro, 0xFFFFFFFF, 0x0⟩ -- MET_LOG_NEXT_LO R513
  , ⟨0x0FC, 4, 1, .ro, 0xFFFFFFFF, 0x0⟩ -- MET_LOG_NEXT_HI R513
  , ⟨0x100, 4, 1, .rw, 0x3FF, 0x0⟩ -- MET_LOG_SEL R513
  , ⟨0x104, 4, 8, .ro, 0xFFFFFFFF, 0x0⟩ -- MET_LOG_E R513
  , ⟨0x124, 4, 2, .ro, 0xFFFFFFFF, 0x0⟩ -- MET_CAL_ID R513
  , ⟨0x130, 4, 16, .ro, 0xFFFFFFFF, 0x0⟩ -- MET_REPORT_PUB R513
  , ⟨0x200, 4, 96, .ro, 0xFFFFFFFF, 0x0⟩ -- MET_REPORT R513
  ]

/-- The MET registers -/
def metRows : List RegRow :=
  metRows1 ++ metRows2

/-- The ERR registers, part 1 -/
def errRows1 : List RegRow :=
  [ ⟨0x040, 4, 1, .rwl, 0xFF07, 0x3205⟩ -- ERR_CFG R539
  , ⟨0x044, 4, 1, .ro, 0x3FF, 0x0⟩ -- ERR_Q_STATE R539
  , ⟨0x048, 4, 1, .ro, 0xFFFFFFFF, 0x0⟩ -- ERR_Q_HEAD_LO R539
  , ⟨0x04C, 4, 1, .ro, 0xFFFFFFFF, 0x0⟩ -- ERR_Q_HEAD_HI R539
  , ⟨0x050, 4, 1, .wo, 0xFFFFFFFF, 0x0⟩ -- ERR_Q_ACK_LO R539
  , ⟨0x054, 4, 1, .wo, 0xFFFFFFFF, 0x0⟩ -- ERR_Q_ACK_HI R539
  , ⟨0x058, 4, 1, .rw, 0xFF, 0x0⟩ -- ERR_Q_SEL R539
  , ⟨0x05C, 4, 8, .ro, 0xFFFFFFFF, 0x0⟩ -- ERR_Q_E R539
  , ⟨0x07C, 4, 1, .ro, 0xFFFFFFFF, 0x0⟩ -- ERR_Q_DROPPED R539
  , ⟨0x080, 4, 1, .rw, 0xFFFFFFFF, 0x2710⟩ -- ERR_CE_THRESH R539
  , ⟨0x084, 4, 1, .ro, 0xFFFFFFFF, 0x0⟩ -- ERR_CE_LAST R539
  , ⟨0x088, 4, 1, .rw, 0x7, 0x0⟩ -- ERR_ALERT_CFG R539
  , ⟨0x08C, 4, 1, .ro, 0xFFFFFFFF, 0x0⟩ -- ERR_ALERT_SENT R539
  , ⟨0x090, 4, 1, .ro, 0xFFFF, 0x0⟩ -- ERR_FATAL_CODE R539
  , ⟨0x094, 4, 1, .ro, 0xFFFFFFFF, 0x0⟩ -- ERR_FATAL_INFO R539
  , ⟨0x098, 4, 1, .ro, 0xFFFFFFFF, 0x0⟩ -- ERR_FATAL_TIME_LO R539
  , ⟨0x09C, 4, 1, .ro, 0xFFFFFFFF, 0x0⟩ -- ERR_FATAL_TIME_HI R539
  , ⟨0x0A0, 4, 1, .ro, 0x3FFFFFFF, 0x0⟩ -- ERR_REPAIR_COUNT R539
  , ⟨0x0A4, 4, 1, .wo, 0x3FFFFFF, 0x0⟩ -- ERR_REPAIR_REQ R539
  , ⟨0x0A8, 4, 1, .ro, 0xFFFFFFFF, 0x0⟩ -- ERR_FLIT_CE R539
  ]

/-- The ERR registers, part 2 -/
def errRows2 : List RegRow :=
  [ ⟨0x0AC, 4, 1, .ro, 0xFFFFFFFF, 0x0⟩ -- ERR_FLIT_RETRY R539
  , ⟨0x0B0, 4, 1, .ro, 0xFFFFFFFF, 0x0⟩ -- ERR_STATE_CE R539
  ]

/-- The ERR registers -/
def errRows : List RegRow :=
  errRows1 ++ errRows2

/-- The TWIN registers -/
def twinRows : List RegRow :=
  [ ⟨0x040, 4, 1, .rw, 0x3FFF, 0x0⟩ -- TWIN_CTX_SEL R540
  , ⟨0x044, 4, 1, .ro, 0x7, 0x0⟩ -- TWIN_CTX_STATE R540
  , ⟨0x048, 4, 1, .ro, 0xFFFFF, 0x0⟩ -- TWIN_CTX_GROUP R540
  , ⟨0x04C, 4, 1, .rw, 0x7, 0x2⟩ -- TWIN_CTX_CFG R540
  , ⟨0x050, 4, 1, .ro, 0xFFFFFFFF, 0x0⟩ -- TWIN_CTX_OWN_LO R540
  , ⟨0x054, 4, 1, .ro, 0xFFFFFFFF, 0x0⟩ -- TWIN_CTX_OWN_HI R540
  , ⟨0x058, 4, 1, .ro, 0xFFFFFFFF, 0x0⟩ -- TWIN_CTX_PEER_LO R540
  , ⟨0x05C, 4, 1, .ro, 0xFFFFFFFF, 0x0⟩ -- TWIN_CTX_PEER_HI R540
  , ⟨0x060, 4, 1, .ro, 0xFFFFFFFF, 0x0⟩ -- TWIN_CTX_DIVERGED R540
  , ⟨0x064, 4, 1, .ro, 0xFFFFFFFF, 0x0⟩ -- TWIN_CTX_REPEAT R540
  ]

/-- The PMB registers, part 1 -/
def pmbRows1 : List RegRow :=
  [ ⟨0x040, 4, 1, .rwl, 0x7F01, 0x101⟩ -- PMB_CFG R584
  , ⟨0x044, 4, 1, .rwl, 0x7F, 0x40⟩ -- PMB_ADDRr 0 R584
  , ⟨0x048, 4, 1, .rwl, 0x7F, 0x41⟩ -- PMB_ADDRr 1 R584
  , ⟨0x04C, 4, 1, .rwl, 0x7F, 0x42⟩ -- PMB_ADDRr 2 R584
  , ⟨0x050, 4, 1, .rwl, 0x7F, 0x43⟩ -- PMB_ADDRr 3 R584
  , ⟨0x054, 4, 1, .rwl, 0x7F, 0x44⟩ -- PMB_ADDRr 4 R584
  , ⟨0x058, 4, 1, .rwl, 0x7F, 0x45⟩ -- PMB_ADDRr 5 R584
  , ⟨0x05C, 4, 1, .rwl, 0x7F, 0x46⟩ -- PMB_ADDRr 6 R584
  , ⟨0x060, 4, 1, .rwl, 0x7F, 0x47⟩ -- PMB_ADDRr 7 R584
  , ⟨0x064, 4, 1, .rwl, 0x7F, 0x48⟩ -- PMB_ADDRr 8 R584
  , ⟨0x068, 4, 1, .rwl, 0x7F, 0x49⟩ -- PMB_ADDRr 9 R584
  , ⟨0x06C, 4, 1, .rwl, 0x7F, 0x4A⟩ -- PMB_ADDRr 10 R584
  , ⟨0x070, 4, 1, .rwl, 0x7F, 0x4B⟩ -- PMB_ADDRr 11 R584
  , ⟨0x074, 4, 1, .rwl, 0x7F, 0x4C⟩ -- PMB_ADDRr 12 R584
  , ⟨0x078, 4, 1, .rw, 0xF, 0x0⟩ -- PMB_SEL R584
  , ⟨0x07C, 4, 1, .ro, 0xFFFF, 0x0⟩ -- PMB_VOUT R584
  , ⟨0x080, 4, 1, .ro, 0xFFFFFFFF, 0x0⟩ -- PMB_IOUT R584
  , ⟨0x084, 4, 1, .ro, 0xFFFF, 0x0⟩ -- PMB_TEMP R584
  , ⟨0x088, 4, 1, .ro, 0x1FFFF, 0x0⟩ -- PMB_STATUS R584
  , ⟨0x08C, 4, 1, .ro, 0xFFFF, 0x0⟩ -- PMB_AVS_TARGET R584
  ]

/-- The PMB registers, part 2 -/
def pmbRows2 : List RegRow :=
  [ ⟨0x090, 4, 1, .rwl, 0xFFFFFFFF, 0x3200258⟩ -- PMB_AVS_LIMITS R584
  , ⟨0x094, 4, 1, .ro, 0xFFFFFFFF, 0x0⟩ -- PMB_FAULTS R584
  ]

/-- The PMB registers -/
def pmbRows : List RegRow :=
  pmbRows1 ++ pmbRows2

/-- The TEMP registers -/
def tempRows : List RegRow :=
  [ ⟨0x040, 4, 1, .rwl, 0xFFFF, 0x569⟩ -- TEMP_CFG R585
  , ⟨0x044, 4, 1, .rw, 0xFF, 0x0⟩ -- TEMP_SEL R585
  , ⟨0x048, 4, 1, .ro, 0xFFFF, 0x0⟩ -- TEMP_VALUE R585
  , ⟨0x04C, 4, 1, .ro, 0xFFFFFF, 0x0⟩ -- TEMP_MAX R585
  , ⟨0x050, 4, 1, .ro, 0x7FFFFFF, 0x0⟩ -- TEMP_STATE R585
  , ⟨0x054, 4, 1, .ro, 0xFFFFFFFF, 0x0⟩ -- TEMP_THROTTLES R585
  , ⟨0x058, 4, 1, .ro, 0xFFFF, 0x0⟩ -- TEMP_PEAK R585
  , ⟨0x05C, 4, 1, .wo, 0x1, 0x0⟩ -- TEMP_CNT_CLEAR R585
  ]

/-- The JTAG registers -/
def jtagRows : List RegRow :=
  [ ⟨0x040, 4, 1, .ro, 0x3FFFF, 0x0⟩ -- JTAG_STATE R586
  , ⟨0x044, 4, 1, .ro, 0xFFFFFFFF, 0xA7100E3⟩ -- JTAG_IDCODE R586
  , ⟨0x048, 4, 1, .ro, 0xFFFFFFFF, 0x0⟩ -- JTAG_REFUSED R586
  , ⟨0x04C, 4, 1, .ro, 0x1, 0x0⟩ -- JTAG_PROD R586
  ]

/-- The HBM registers, part 1 -/
def hbmRows1 : List RegRow :=
  [ ⟨0x040, 4, 1, .ro, 0x7, 0x0⟩ -- HBM_STATE R356
  , ⟨0x044, 4, 1, .rw, 0x1, 0x0⟩ -- HBM_CTRL R356
  , ⟨0x048, 4, 1, .ro, 0xFFFFFFFF, 0x0⟩ -- HBM_CE_LO R356
  , ⟨0x04C, 4, 1, .ro, 0xFFFFFFFF, 0x0⟩ -- HBM_CE_HI R356
  , ⟨0x050, 4, 1, .ro, 0xFFFFFFFF, 0x0⟩ -- HBM_UE R356
  , ⟨0x054, 4, 1, .ro, 0xFFFFFFFF, 0x0⟩ -- HBM_TAG_FAIL R356
  , ⟨0x058, 4, 1, .ro, 0xFFFFFFFF, 0x0⟩ -- HBM_POISON_READS R356
  , ⟨0x05C, 4, 1, .ro, 0xFFFFFFFF, 0x0⟩ -- HBM_LAST_PA_LO R356
  , ⟨0x060, 4, 1, .ro, 0xFFFFF, 0x0⟩ -- HBM_LAST_PA_HI R356
  , ⟨0x064, 4, 1, .rwl, 0x103FF, 0x10018⟩ -- HBM_PATROL_CFG R356
  , ⟨0x068, 4, 1, .ro, 0xFFFFFFFF, 0x0⟩ -- HBM_PATROL_PASSES R356
  , ⟨0x06C, 4, 1, .ro, 0xFFFFFFFF, 0x0⟩ -- HBM_RETIRED R356
  , ⟨0x070, 4, 1, .ro, 0xFFFFFFFF, 0x0⟩ -- HBM_WC_FLUSHES R356
  , ⟨0x074, 4, 1, .ro, 0xFFFFFFFF, 0x0⟩ -- HBM_WC_RMW R356
  , ⟨0x078, 4, 1, .ro, 0xFFFFFFFF, 0x0⟩ -- HBM_WC_LOST R356
  , ⟨0x07C, 4, 1, .ro, 0xFFFFFFFF, 0x0⟩ -- HBM_TAG_MISSES R356
  , ⟨0x080, 4, 1, .ro, 0xFFFFFFFF, 0x0⟩ -- HBM_RD_LINES_LO R356
  , ⟨0x084, 4, 1, .ro, 0xFFFFFFFF, 0x0⟩ -- HBM_RD_LINES_HI R356
  , ⟨0x088, 4, 1, .ro, 0xFFFFFFFF, 0x0⟩ -- HBM_WR_LINES_LO R356
  , ⟨0x08C, 4, 1, .ro, 0xFFFFFFFF, 0x0⟩ -- HBM_WR_LINES_HI R356
  ]

/-- The HBM registers, part 2 -/
def hbmRows2 : List RegRow :=
  [ ⟨0x090, 4, 1, .wo, 0x1, 0x0⟩ -- HBM_CNT_CLEAR R356
  ]

/-- The HBM registers -/
def hbmRows : List RegRow :=
  hbmRows1 ++ hbmRows2

/-- The STK_REPAIR registers -/
def stkRepairRows : List RegRow :=
  [ ⟨0x040, 4, 1, .rwl, 0x8FFFFFFF, 0x0⟩ -- STK_REPAIR_CTRL R357
  , ⟨0x044, 4, 1, .ro, 0xF, 0x0⟩ -- STK_REPAIR_STATUS R357
  , ⟨0x048, 4, 1, .ro, 0xFFFFFFFF, 0x0⟩ -- STK_REPAIR_SPARES R357
  , ⟨0x04C, 4, 1, .ro, 0xFFFF, 0x0⟩ -- STK_REPAIR_TSV R357
  , ⟨0x050, 4, 1, .ro, 0xFFFFFFFF, 0x0⟩ -- STK_REPAIR_LOG_COUNT R357
  , ⟨0x100, 4, 128, .rwl, 0xFFFFFFFF, 0x0⟩ -- STK_REPAIR_BUF R357
  ]

/-- The SLOW registers -/
def slowRows : List RegRow :=
  [ ⟨0x040, 4, 1, .ro, 0x7, 0x0⟩ -- SLOW_STATE R358
  , ⟨0x044, 4, 1, .rw, 0xF, 0x0⟩ -- SLOW_SEL R358
  , ⟨0x048, 4, 1, .ro, 0xFFFFFFFF, 0x0⟩ -- SLOW_CE R358
  , ⟨0x04C, 4, 1, .ro, 0xFFFFFFFF, 0x0⟩ -- SLOW_UE R358
  , ⟨0x050, 4, 1, .ro, 0xFFFFFFFF, 0x0⟩ -- SLOW_TAG_FAIL R358
  , ⟨0x054, 4, 1, .ro, 0xFFFFFFFF, 0x0⟩ -- SLOW_RETIRED R358
  , ⟨0x058, 4, 1, .ro, 0xFFFFFFFF, 0x0⟩ -- SLOW_LAST_PA_LO R358
  , ⟨0x05C, 4, 1, .ro, 0xFFFFF, 0x0⟩ -- SLOW_LAST_PA_HI R358
  , ⟨0x060, 4, 1, .rwl, 0x103FF, 0x10018⟩ -- SLOW_PATROL_CFG R358
  , ⟨0x064, 4, 1, .ro, 0xFFFFFFFF, 0x0⟩ -- SLOW_RD_LINES R358
  , ⟨0x068, 4, 1, .ro, 0xFFFFFFFF, 0x0⟩ -- SLOW_WR_LINES R358
  , ⟨0x06C, 4, 1, .wo, 0x1, 0x0⟩ -- SLOW_CNT_CLEAR R358
  ]

/-- The DIE registers -/
def dieRows : List RegRow :=
  [ ⟨0x040, 4, 1, .ro, 0x1FF, 0x0⟩ -- DIE_FEAT_CLUSTERS R251
  , ⟨0x044, 4, 12, .ro, 0xFFFFFFFF, 0x0⟩ -- DIE_CLU_EN R251
  ]

/-- The CLU registers, part 1 -/
def cluRows1 : List RegRow :=
  [ ⟨0x800, 4, 1, .ro, 0xFFFF, 0x0⟩ -- CORE_ID R103
  , ⟨0x804, 4, 1, .rwl, 0x1F, 0x0⟩ -- CORE_ROW_MAP R103
  , ⟨0x808, 4, 1, .ro, 0x1F, 0x0⟩ -- CORE_PASS_LATENCY R103
  , ⟨0x80C, 4, 1, .ro, 0xFF777, 0x0⟩ -- CORE_STATE R103
  , ⟨0x810, 4, 1, .ro, 0xBFFF, 0x0⟩ -- CORE_CTX R103
  , ⟨0x814, 4, 1, .ro, 0x80FFFFFF, 0x0⟩ -- CORE_RESUME_ROW R103
  , ⟨0x818, 4, 1, .ro, 0xFFFFFFFF, 0x0⟩ -- CORE_PASSES_LO R103
  , ⟨0x81C, 4, 1, .ro, 0xFFFFFFFF, 0x0⟩ -- CORE_PASSES_HI R103
  , ⟨0x820, 4, 1, .ro, 0xFFFFFFFF, 0x0⟩ -- CORE_BEATS_LO R103
  , ⟨0x824, 4, 1, .ro, 0xFFFFFFFF, 0x0⟩ -- CORE_BEATS_HI R103
  , ⟨0x828, 4, 1, .ro, 0xFFFFFFFF, 0x0⟩ -- CORE_FREEZE_LEDGER R103
  , ⟨0x82C, 4, 1, .ro, 0xFFFFFFFF, 0x0⟩ -- CORE_FREEZE_DRAIN R103
  , ⟨0x830, 4, 1, .ro, 0xFFFFFFFF, 0x0⟩ -- CORE_FREEZE_FEED R103
  , ⟨0x834, 4, 1, .ro, 0xFFFFFFFF, 0x0⟩ -- CORE_FREEZE_WEIGHT R103
  , ⟨0x838, 4, 1, .ro, 0xFFFFFFFF, 0x0⟩ -- CORE_SKIPPED_ROWS R103
  , ⟨0x83C, 4, 1, .ro, 0xFFFFFFFF, 0x0⟩ -- CORE_HAZARD_STALLS R103
  , ⟨0x840, 4, 1, .ro, 0xFFFFFFFF, 0x0⟩ -- CORE_ISSUE_STALLS R103
  , ⟨0x844, 4, 1, .ro, 0xFFFFFFFF, 0x0⟩ -- CORE_STORE_CE R103
  , ⟨0x848, 4, 1, .ro, 0xFFFFFFFF, 0x0⟩ -- CORE_ACC_CE R103
  , ⟨0x84C, 4, 1, .ro, 0xFFFFFFFF, 0x0⟩ -- CORE_UE R103
  ]

/-- The CLU registers, part 2 -/
def cluRows2 : List RegRow :=
  [ ⟨0x850, 4, 1, .wo, 0x1, 0x0⟩ -- CORE_CNT_CLEAR R103
  , ⟨0x860, 4, 1, .ro, 0xFFFFFFFF, 0xFFFFFFFF⟩ -- CORE_TILE_ORIGIN0_LO R103
  , ⟨0x864, 4, 1, .ro, 0xFFFFFFFF, 0xFFFFFFFF⟩ -- CORE_TILE_ORIGIN0_HI R103
  , ⟨0x868, 4, 1, .ro, 0xFFFFFFFF, 0xFFFFFFFF⟩ -- CORE_TILE_ORIGIN1_LO R103
  , ⟨0x86C, 4, 1, .ro, 0xFFFFFFFF, 0xFFFFFFFF⟩ -- CORE_TILE_ORIGIN1_HI R103
  , ⟨0x870, 4, 1, .ro, 0xFFFFFFFF, 0xFFFFFFFF⟩ -- CORE_TILE_ORIGIN2_LO R103
  , ⟨0x874, 4, 1, .ro, 0xFFFFFFFF, 0xFFFFFFFF⟩ -- CORE_TILE_ORIGIN2_HI R103
  , ⟨0x878, 4, 1, .ro, 0xFFFFFFFF, 0xFFFFFFFF⟩ -- CORE_TILE_ORIGIN3_LO R103
  , ⟨0x87C, 4, 1, .ro, 0xFFFFFFFF, 0xFFFFFFFF⟩ -- CORE_TILE_ORIGIN3_HI R103
  , ⟨0x880, 4, 1, .ro, 0x3FF03FF, 0x0⟩ -- CORE_ACC_WIN01 R131
  , ⟨0x884, 4, 1, .ro, 0x3FF03FF, 0x0⟩ -- CORE_ACC_WIN23 R131
  , ⟨0x888, 4, 1, .ro, 0xFFFFFFFF, 0x0⟩ -- CORE_ACC_STATUS R131
  , ⟨0x88C, 4, 1, .w1c, 0xFFFFFFFF, 0x0⟩ -- CORE_ACC_REPLAYS R131
  , ⟨0x040, 4, 1, .ro, 0xFFFFFFFF, 0x0⟩ -- CLU_VEC_OPS_LO R154
  , ⟨0x044, 4, 1, .ro, 0xFFFFFFFF, 0x0⟩ -- CLU_VEC_OPS_HI R154
  , ⟨0x048, 4, 1, .ro, 0xFFFFFFFF, 0x0⟩ -- CLU_VEC_BUSY R154
  , ⟨0x04C, 4, 1, .ro, 0xFFFFFFFF, 0x0⟩ -- CLU_CS_CE R154
  , ⟨0x050, 4, 1, .ro, 0xFFFFFFFF, 0x0⟩ -- CLU_CS_UE R154
  , ⟨0x054, 4, 1, .ro, 0xFFFFFFFF, 0x0⟩ -- CLU_ARB_WAIT_MAX R154
  , ⟨0x058, 4, 1, .ro, 0xFFFFFFFF, 0x0⟩ -- CLU_ARB_URGENT R154
  ]

/-- The CLU registers, part 3 -/
def cluRows3 : List RegRow :=
  [ ⟨0x05C, 4, 1, .ro, 0xFF, 0x0⟩ -- CLU_MOVER_STATE R154
  , ⟨0x060, 4, 1, .ro, 0xFFFFFFFF, 0x0⟩ -- CLU_MOVER_BYTES0 R154
  , ⟨0x064, 4, 1, .ro, 0xFFFFFFFF, 0x0⟩ -- CLU_MOVER_BYTES1 R154
  , ⟨0x068, 4, 1, .ro, 0xFFFFFFFF, 0x0⟩ -- CLU_MOVER_BYTES2 R154
  , ⟨0x06C, 4, 1, .ro, 0xFFFFFFFF, 0x0⟩ -- CLU_MOVER_BYTES3 R154
  , ⟨0x070, 4, 1, .wo, 0x1, 0x0⟩ -- CLU_CNT_CLEAR R154
  , ⟨0x080, 4, 1, .rw, 0x7FF, 0x0⟩ -- CLU_PART R278
  , ⟨0x7FC, 4, 1, .rw, 0x7F, 0x0⟩ -- CLU_CORE_SEL R102
  ]

/-- The CLU registers -/
def cluRows : List RegRow :=
  cluRows1 ++ cluRows2 ++ cluRows3

/-- The RTE registers -/
def rteRows : List RegRow :=
  [ ⟨0x040, 4, 1, .ro, 0x803FFF0F, 0x0⟩ -- RTE_STATE R187
  , ⟨0x044, 4, 1, .ro, 0xFFFFFFFF, 0x0⟩ -- RTE_OPS_LO R187
  , ⟨0x048, 4, 1, .ro, 0xFFFFFFFF, 0x0⟩ -- RTE_OPS_HI R187
  , ⟨0x04C, 4, 1, .ro, 0xFFFFFFFF, 0x0⟩ -- RTE_TOKENS_LO R187
  , ⟨0x050, 4, 1, .ro, 0xFFFFFFFF, 0x0⟩ -- RTE_TOKENS_HI R187
  , ⟨0x054, 4, 1, .ro, 0xFFFFFFFF, 0x0⟩ -- RTE_ADMITTED_LO R187
  , ⟨0x058, 4, 1, .ro, 0xFFFFFFFF, 0x0⟩ -- RTE_ADMITTED_HI R187
  , ⟨0x05C, 4, 1, .ro, 0xFFFFFFFF, 0x0⟩ -- RTE_DROPPED_LO R187
  , ⟨0x060, 4, 1, .ro, 0xFFFFFFFF, 0x0⟩ -- RTE_DROPPED_HI R187
  , ⟨0x064, 4, 1, .ro, 0xFFFFFFFF, 0x0⟩ -- RTE_BAD_TOKENS R187
  , ⟨0x068, 4, 1, .ro, 0xFFFFFFFF, 0x0⟩ -- RTE_BUSY_LO R187
  , ⟨0x06C, 4, 1, .ro, 0xFFFFFFFF, 0x0⟩ -- RTE_BUSY_HI R187
  , ⟨0x070, 4, 1, .ro, 0xFFF1FFFF, 0x0⟩ -- RTE_MAX_LOAD R187
  , ⟨0x074, 4, 1, .ro, 0xFFFFFFFF, 0x0⟩ -- RTE_LAST_DROPPED R187
  , ⟨0x078, 4, 1, .wo, 0x1, 0x0⟩ -- RTE_CNT_CLEAR R187
  ]

/-- The CTX registers, part 1 -/
def ctxRows1 : List RegRow :=
  [ ⟨0x200, 4, 1, .rw, 0x1, 0x1⟩ -- CTX_NAN_MODE R66
  , ⟨0x204, 4, 1, .w1c, 0x7, 0x0⟩ -- CTX_NAN_STATUS R66
  , ⟨0x208, 4, 1, .ro, 0xFFFFFFFF, 0x0⟩ -- CTX_NAN_OFFSET_LO R66
  , ⟨0x20C, 4, 1, .ro, 0xFFFFFFFF, 0x0⟩ -- CTX_NAN_OFFSET_HI R66
  , ⟨0x210, 4, 1, .ro, 0xFFFFFFFF, 0x0⟩ -- CTX_NAN_ENGINE R66
  , ⟨0x214, 4, 1, .ro, 0xFFFFFFFF, 0x0⟩ -- CTX_NAN_COORD R66
  , ⟨0x218, 4, 1, .ro, 0xFFFFFFFF, 0x0⟩ -- CTX_NAN_COUNT R66
  , ⟨0x21C, 4, 1, .w1c, 0xFFFFFFFF, 0x0⟩ -- CTX_SAT_COUNT R66
  , ⟨0x220, 4, 1, .w1c, 0x1F, 0x0⟩ -- CTX_ACC_SUMMARY R132
  , ⟨0x224, 4, 1, .w1c, 0xFFFFFFFF, 0x0⟩ -- CTX_ACC_REPLAY_COUNT R132
  , ⟨0x228, 4, 1, .rw, 0xFFFFFFFF, 0x0⟩ -- CTX_SR_SEED_LO R155
  , ⟨0x22C, 4, 1, .rw, 0xFFFFFFFF, 0x0⟩ -- CTX_SR_SEED_HI R155
  , ⟨0x040, 4, 1, .rw, 0xFFFFFFFF, 0x0⟩ -- CTX_STREAM_BASE_LO R252
  , ⟨0x044, 4, 1, .rw, 0xFFFFFFFF, 0x0⟩ -- CTX_STREAM_BASE_HI R252
  , ⟨0x048, 4, 1, .rw, 0xFFFFFFFF, 0x0⟩ -- CTX_STREAM_LEN R252
  , ⟨0x04C, 4, 1, .rw, 0xFFFF, 0x0⟩ -- CTX_DESC_COUNT R252
  , ⟨0x050, 4, 1, .rw, 0xFFFFFFFF, 0x0⟩ -- CTX_DESC_BASE_LO R252
  , ⟨0x054, 4, 1, .rw, 0xFFFFFFFF, 0x0⟩ -- CTX_DESC_BASE_HI R252
  , ⟨0x058, 4, 1, .rw, 0xFFFFFFFF, 0x0⟩ -- CTX_UNITSET_BASE_LO R252
  , ⟨0x05C, 4, 1, .rw, 0xFFFFFFFF, 0x0⟩ -- CTX_UNITSET_BASE_HI R252
  ]

/-- The CTX registers, part 2 -/
def ctxRows2 : List RegRow :=
  [ ⟨0x060, 4, 1, .rw, 0xFFFFFFFF, 0x0⟩ -- CTX_PATCH_BASE_LO R252
  , ⟨0x064, 4, 1, .rw, 0xFFFFFFFF, 0x0⟩ -- CTX_PATCH_BASE_HI R252
  , ⟨0x068, 4, 1, .rw, 0x7F, 0x0⟩ -- CTX_PATCH_COUNT R252
  , ⟨0x06C, 4, 1, .wo, 0x1, 0x0⟩ -- CTX_CTRL R252
  , ⟨0x070, 4, 1, .ro, 0x1FFFF, 0x0⟩ -- CTX_STREAM_STATE R252
  , ⟨0x074, 4, 1, .w1c, 0x3, 0x0⟩ -- CTX_STREAM_STATUS R252
  , ⟨0x078, 4, 1, .ro, 0xFFFFFFFF, 0x0⟩ -- CTX_PC_LO R252
  , ⟨0x07C, 4, 1, .ro, 0xFFFFFFFF, 0x0⟩ -- CTX_PC_HI R252
  , ⟨0x080, 4, 1, .rw, 0xFFFFFFFF, 0x0⟩ -- CTX_STEP_LO R252
  , ⟨0x084, 4, 1, .rw, 0xFFFFFFFF, 0x0⟩ -- CTX_STEP_HI R252
  , ⟨0x088, 4, 1, .ro, 0xFFFFFFFF, 0x0⟩ -- CTX_REPLAYS R252
  , ⟨0x08C, 4, 1, .ro, 0xFFFFFFFF, 0x0⟩ -- CTX_ISSUED_LO R252
  , ⟨0x090, 4, 1, .ro, 0xFFFFFFFF, 0x0⟩ -- CTX_ISSUED_HI R252
  , ⟨0x094, 4, 1, .ro, 0xFFFFFFFF, 0x0⟩ -- CTX_SKIPPED R252
  , ⟨0x0A0, 8, 4, .ro, 0xFFFFFFFF, 0x0⟩ -- CTX_LOOPd_COUNT R252
  , ⟨0x0A4, 8, 4, .ro, 0xFFFFFFFF, 0x0⟩ -- CTX_LOOPd_INDEX R252
  , ⟨0x0C0, 4, 1, .ro, 0xFF, 0x0⟩ -- CTX_COND R252
  , ⟨0x400, 8, 64, .rw, 0xFFFFFFFF, 0x0⟩ -- CTX_PARn_LO R252
  , ⟨0x404, 8, 64, .rw, 0xFFFFFFFF, 0x0⟩ -- CTX_PARn_HI R252
  , ⟨0x600, 8, 16, .rw, 0xFFFFFFFF, 0x0⟩ -- CTX_AREGn_LO R252
  ]

/-- The CTX registers, part 3 -/
def ctxRows3 : List RegRow :=
  [ ⟨0x604, 8, 16, .rw, 0xFFFFFFFF, 0x0⟩ -- CTX_AREGn_HI R252
  , ⟨0x680, 4, 8, .rw, 0xFFFFFFFF, 0x0⟩ -- CTX_CNTn R252
  , ⟨0x6A0, 8, 8, .rw, 0x1FFFFF, 0x0⟩ -- CTX_CMPn_CTRL R252
  , ⟨0x6A4, 8, 8, .rw, 0xFFFFFFFF, 0x0⟩ -- CTX_CMPn_REF R252
  , ⟨0x800, 4, 256, .rw, 0xFFFFFFFF, 0x0⟩ -- CTX_SEMn R252
  , ⟨0x100, 4, 1, .rw, 0x800003FF, 0x0⟩ -- CTX_BIND R277
  , ⟨0x104, 4, 1, .rw, 0x3, 0x0⟩ -- CTX_PRIO R277
  , ⟨0x108, 4, 1, .wo, 0xF, 0x0⟩ -- CTX_RUN_CTRL R277
  , ⟨0x10C, 4, 1, .ro, 0x3F, 0x0⟩ -- CTX_RUN_STATE R277
  , ⟨0x110, 4, 1, .rw, 0xFFF0FFF, 0x0⟩ -- CTX_CLAIM_CL R277
  , ⟨0x114, 4, 1, .rw, 0x3F1F7F7F, 0x0⟩ -- CTX_CLAIM_CORE R277
  , ⟨0x118, 4, 1, .rw, 0xFFFFFFFF, 0x0⟩ -- CTX_SAVE_BASE_LO R277
  , ⟨0x11C, 4, 1, .rw, 0xFFFFFFFF, 0x0⟩ -- CTX_SAVE_BASE_HI R277
  , ⟨0x120, 4, 1, .ro, 0xFFFFFFFF, 0x0⟩ -- CTX_SAVE_SIZE_LO R277
  , ⟨0x124, 4, 1, .ro, 0xFFFFFFFF, 0x0⟩ -- CTX_SAVE_SIZE_HI R277
  , ⟨0x128, 4, 1, .rw, 0xFFFFFFFF, 0x0⟩ -- CTX_RESTART_PC_LO R277
  , ⟨0x12C, 4, 1, .rw, 0xFFFFFFFF, 0x0⟩ -- CTX_RESTART_PC_HI R277
  , ⟨0x130, 4, 1, .ro, 0xFFFFFFFF, 0x0⟩ -- CTX_PREEMPTS R277
  , ⟨0x134, 4, 1, .ro, 0xFFFFFFFF, 0x0⟩ -- CTX_LAST_SAVE_NS R277
  ]

/-- The CTX registers -/
def ctxRows : List RegRow :=
  ctxRows1 ++ ctxRows2 ++ ctxRows3

/-- The registers of a page beyond its header. -/
def pageRows : PageKind → List RegRow
  | .glob => globRows
  | .fuse => fuseRows
  | .strp => strpRows
  | .rst => rstRows
  | .clk => clkRows
  | .nvm => nvmRows
  | .ledg => ledgRows
  | .time => timeRows
  | .cal => calRows
  | .upd => updRows
  | .schd => schdRows
  | .coll => collRows
  | .msec => msecRows
  | .ptp => ptpRows
  | .mgmt => mgmtRows
  | .eth => ethRows
  | .sec => secRows
  | .key => keyRows
  | .att => attRows
  | .dbg => dbgRows
  | .met => metRows
  | .err => errRows
  | .twin => twinRows
  | .pmb => pmbRows
  | .temp => tempRows
  | .jtag => jtagRows
  | .hbm => hbmRows
  | .stkRepair => stkRepairRows
  | .slow => slowRows
  | .die => dieRows
  | .clu => cluRows
  | .rte => rteRows
  | .ctx => ctxRows

/-- Does a row hold the register at offset `o`? An offset that is not a multiple of 4 meets no row, and is treated as a reserved one (R13; log entry 43, DESIGN CHOICE). -/
def RegRow.covers (r : RegRow) (o : Nat) : Bool :=
  decide (r.off ≤ o) && decide ((o - r.off) % r.step = 0) && decide ((o - r.off) / r.step < r.n)

/-- The row of the register at an offset of a page, or none where the offset is reserved (R17). -/
def regRow (k : PageKind) (o : Nat) : Option RegRow :=
  if o < 0x40 then hdrRows.find? (·.covers o) else (pageRows k).find? (·.covers o)

/-- The control address of offset `o` of page `p` (R12). -/
def reg (p o : Nat) : Nat := p * 4096 + o

/-- The key of entry `w` of a register that a selection register presents one entry of at a time. -/
def wreg (w p o : Nat) : Nat := 2 ^ 28 * (w + 1) + reg p o

/-- Reset value of a rail's PMB_AVS_LIMITS: none on the rails that AVSBus does not reach (R584; log entry 1, DESIGN CHOICE). -/
def railLimits (rail : Nat) : Nat := if rail < 8 then 0x3200258 else if rail < 10 then 0x32002BC else 0

/-- The reset value of the register with a key. -/
def resetReg (key : Nat) : Word :=
  match pageOf (key % 2 ^ 28 / 4096) with
  | none => 0
  | some (k, _) => match regRow k (key % 4096) with
    | none => 0
    | some r => BitVec.ofNat 32 (if k = .pmb && key % 4096 == 0x090 then railLimits (key / 2 ^ 28 - 1) else r.rst)


/-! Page indices (R588). -/

/-- GLOB page index. -/
abbrev pgGLOB : Nat := 0x0
/-- FUSE page index. -/
abbrev pgFUSE : Nat := 0x1
/-- STRP page index. -/
abbrev pgSTRP : Nat := 0x2
/-- RST page index. -/
abbrev pgRST : Nat := 0x3
/-- CLK page index. -/
abbrev pgCLK : Nat := 0x4
/-- NVM page index. -/
abbrev pgNVM : Nat := 0x5
/-- LEDG page index. -/
abbrev pgLEDG : Nat := 0x10
/-- TIME page index. -/
abbrev pgTIME : Nat := 0x11
/-- CAL page index. -/
abbrev pgCAL : Nat := 0x12
/-- UPD page index. -/
abbrev pgUPD : Nat := 0x18
/-- SCHD page index. -/
abbrev pgSCHD : Nat := 0x19
/-- COLL page index. -/
abbrev pgCOLL : Nat := 0x20
/-- MSEC page index. -/
abbrev pgMSEC : Nat := 0x21
/-- PTP page index. -/
abbrev pgPTP : Nat := 0x22
/-- MGMT page index. -/
abbrev pgMGMT : Nat := 0x23
/-- Page index of ETH instance `i`. -/
def pgETH (i : Nat) : Nat := 0x30 + i
/-- SEC page index. -/
abbrev pgSEC : Nat := 0x50
/-- KEY page index. -/
abbrev pgKEY : Nat := 0x51
/-- ATT page index. -/
abbrev pgATT : Nat := 0x52
/-- DBG page index. -/
abbrev pgDBG : Nat := 0x53
/-- MET page index. -/
abbrev pgMET : Nat := 0x58
/-- ERR page index. -/
abbrev pgERR : Nat := 0x60
/-- TWIN page index. -/
abbrev pgTWIN : Nat := 0x61
/-- PMB page index. -/
abbrev pgPMB : Nat := 0x68
/-- TEMP page index. -/
abbrev pgTEMP : Nat := 0x69
/-- JTAG page index. -/
abbrev pgJTAG : Nat := 0x6A
/-- Page index of HBM instance `i`. -/
def pgHBM (i : Nat) : Nat := 0x100 + i
/-- Page index of STK_REPAIR instance `i`. -/
def pgSTK_REPAIR (i : Nat) : Nat := 0x110 + i
/-- SLOW page index. -/
abbrev pgSLOW : Nat := 0x120
/-- Page index of DIE instance `i`. -/
def pgDIE (i : Nat) : Nat := 0x200 + i
/-- Page index of CLU instance `i`. -/
def pgCLU (i : Nat) : Nat := 0x1000 + i
/-- Page index of RTE instance `i`. -/
def pgRTE (i : Nat) : Nat := 0x2000 + i
/-- Page index of CTX instance `i`. -/
def pgCTX (i : Nat) : Nat := 0x4000 + i

namespace Off

/-! Register offsets, under the names of the spec. -/

/-- R66. -/ abbrev CTX_NAN_MODE : Nat := 0x200
/-- R66. -/ abbrev CTX_NAN_STATUS : Nat := 0x204
/-- R66. -/ abbrev CTX_NAN_OFFSET_LO : Nat := 0x208
/-- R66. -/ abbrev CTX_NAN_OFFSET_HI : Nat := 0x20C
/-- R66. -/ abbrev CTX_NAN_ENGINE : Nat := 0x210
/-- R66. -/ abbrev CTX_NAN_COORD : Nat := 0x214
/-- R66. -/ abbrev CTX_NAN_COUNT : Nat := 0x218
/-- R66. -/ abbrev CTX_SAT_COUNT : Nat := 0x21C
/-- R103. -/ abbrev CORE_ID : Nat := 0x800
/-- R103. -/ abbrev CORE_ROW_MAP : Nat := 0x804
/-- R103. -/ abbrev CORE_PASS_LATENCY : Nat := 0x808
/-- R103. -/ abbrev CORE_STATE : Nat := 0x80C
/-- R103. -/ abbrev CORE_CTX : Nat := 0x810
/-- R103. -/ abbrev CORE_RESUME_ROW : Nat := 0x814
/-- R103. -/ abbrev CORE_PASSES_LO : Nat := 0x818
/-- R103. -/ abbrev CORE_PASSES_HI : Nat := 0x81C
/-- R103. -/ abbrev CORE_BEATS_LO : Nat := 0x820
/-- R103. -/ abbrev CORE_BEATS_HI : Nat := 0x824
/-- R103. -/ abbrev CORE_FREEZE_LEDGER : Nat := 0x828
/-- R103. -/ abbrev CORE_FREEZE_DRAIN : Nat := 0x82C
/-- R103. -/ abbrev CORE_FREEZE_FEED : Nat := 0x830
/-- R103. -/ abbrev CORE_FREEZE_WEIGHT : Nat := 0x834
/-- R103. -/ abbrev CORE_SKIPPED_ROWS : Nat := 0x838
/-- R103. -/ abbrev CORE_HAZARD_STALLS : Nat := 0x83C
/-- R103. -/ abbrev CORE_ISSUE_STALLS : Nat := 0x840
/-- R103. -/ abbrev CORE_STORE_CE : Nat := 0x844
/-- R103. -/ abbrev CORE_ACC_CE : Nat := 0x848
/-- R103. -/ abbrev CORE_UE : Nat := 0x84C
/-- R103. -/ abbrev CORE_CNT_CLEAR : Nat := 0x850
/-- R103. -/ abbrev CORE_TILE_ORIGIN0_LO : Nat := 0x860
/-- R103. -/ abbrev CORE_TILE_ORIGIN0_HI : Nat := 0x864
/-- R103. -/ abbrev CORE_TILE_ORIGIN1_LO : Nat := 0x868
/-- R103. -/ abbrev CORE_TILE_ORIGIN1_HI : Nat := 0x86C
/-- R103. -/ abbrev CORE_TILE_ORIGIN2_LO : Nat := 0x870
/-- R103. -/ abbrev CORE_TILE_ORIGIN2_HI : Nat := 0x874
/-- R103. -/ abbrev CORE_TILE_ORIGIN3_LO : Nat := 0x878
/-- R103. -/ abbrev CORE_TILE_ORIGIN3_HI : Nat := 0x87C
/-- R131. -/ abbrev CORE_ACC_WIN01 : Nat := 0x880
/-- R131. -/ abbrev CORE_ACC_WIN23 : Nat := 0x884
/-- R131. -/ abbrev CORE_ACC_STATUS : Nat := 0x888
/-- R131. -/ abbrev CORE_ACC_REPLAYS : Nat := 0x88C
/-- R132. -/ abbrev CTX_ACC_SUMMARY : Nat := 0x220
/-- R132. -/ abbrev CTX_ACC_REPLAY_COUNT : Nat := 0x224
/-- R154. -/ abbrev CLU_VEC_OPS_LO : Nat := 0x040
/-- R154. -/ abbrev CLU_VEC_OPS_HI : Nat := 0x044
/-- R154. -/ abbrev CLU_VEC_BUSY : Nat := 0x048
/-- R154. -/ abbrev CLU_CS_CE : Nat := 0x04C
/-- R154. -/ abbrev CLU_CS_UE : Nat := 0x050
/-- R154. -/ abbrev CLU_ARB_WAIT_MAX : Nat := 0x054
/-- R154. -/ abbrev CLU_ARB_URGENT : Nat := 0x058
/-- R154. -/ abbrev CLU_MOVER_STATE : Nat := 0x05C
/-- R154. -/ abbrev CLU_MOVER_BYTES0 : Nat := 0x060
/-- R154. -/ abbrev CLU_MOVER_BYTES1 : Nat := 0x064
/-- R154. -/ abbrev CLU_MOVER_BYTES2 : Nat := 0x068
/-- R154. -/ abbrev CLU_MOVER_BYTES3 : Nat := 0x06C
/-- R154. -/ abbrev CLU_CNT_CLEAR : Nat := 0x070
/-- R155. -/ abbrev CTX_SR_SEED_LO : Nat := 0x228
/-- R155. -/ abbrev CTX_SR_SEED_HI : Nat := 0x22C
/-- R187. -/ abbrev RTE_STATE : Nat := 0x040
/-- R187. -/ abbrev RTE_OPS_LO : Nat := 0x044
/-- R187. -/ abbrev RTE_OPS_HI : Nat := 0x048
/-- R187. -/ abbrev RTE_TOKENS_LO : Nat := 0x04C
/-- R187. -/ abbrev RTE_TOKENS_HI : Nat := 0x050
/-- R187. -/ abbrev RTE_ADMITTED_LO : Nat := 0x054
/-- R187. -/ abbrev RTE_ADMITTED_HI : Nat := 0x058
/-- R187. -/ abbrev RTE_DROPPED_LO : Nat := 0x05C
/-- R187. -/ abbrev RTE_DROPPED_HI : Nat := 0x060
/-- R187. -/ abbrev RTE_BAD_TOKENS : Nat := 0x064
/-- R187. -/ abbrev RTE_BUSY_LO : Nat := 0x068
/-- R187. -/ abbrev RTE_BUSY_HI : Nat := 0x06C
/-- R187. -/ abbrev RTE_MAX_LOAD : Nat := 0x070
/-- R187. -/ abbrev RTE_LAST_DROPPED : Nat := 0x074
/-- R187. -/ abbrev RTE_CNT_CLEAR : Nat := 0x078
/-- R250. -/ abbrev GLOB_FEAT_ENGINES : Nat := 0x044
/-- R250. -/ abbrev GLOB_FEAT_CLUSTERS : Nat := 0x048
/-- R250. -/ abbrev GLOB_FEAT_CORES : Nat := 0x04C
/-- R250. -/ abbrev GLOB_FEAT_STACKS : Nat := 0x050
/-- R250. -/ abbrev GLOB_FEAT_PORTS : Nat := 0x054
/-- R250. -/ abbrev GLOB_FEAT_MEMORY : Nat := 0x058
/-- R250. -/ abbrev GLOB_FEAT_CONTEXTS : Nat := 0x05C
/-- R250. -/ abbrev GLOB_FEAT_STREAM : Nat := 0x060
/-- R250. -/ abbrev GLOB_FEAT_GROUPS : Nat := 0x064
/-- R251. -/ abbrev DIE_FEAT_CLUSTERS : Nat := 0x040
/-- R251. -/ abbrev DIE_CLU_EN : Nat := 0x044
/-- R252. -/ abbrev CTX_STREAM_BASE_LO : Nat := 0x040
/-- R252. -/ abbrev CTX_STREAM_BASE_HI : Nat := 0x044
/-- R252. -/ abbrev CTX_STREAM_LEN : Nat := 0x048
/-- R252. -/ abbrev CTX_DESC_COUNT : Nat := 0x04C
/-- R252. -/ abbrev CTX_DESC_BASE_LO : Nat := 0x050
/-- R252. -/ abbrev CTX_DESC_BASE_HI : Nat := 0x054
/-- R252. -/ abbrev CTX_UNITSET_BASE_LO : Nat := 0x058
/-- R252. -/ abbrev CTX_UNITSET_BASE_HI : Nat := 0x05C
/-- R252. -/ abbrev CTX_PATCH_BASE_LO : Nat := 0x060
/-- R252. -/ abbrev CTX_PATCH_BASE_HI : Nat := 0x064
/-- R252. -/ abbrev CTX_PATCH_COUNT : Nat := 0x068
/-- R252. -/ abbrev CTX_CTRL : Nat := 0x06C
/-- R252. -/ abbrev CTX_STREAM_STATE : Nat := 0x070
/-- R252. -/ abbrev CTX_STREAM_STATUS : Nat := 0x074
/-- R252. -/ abbrev CTX_PC_LO : Nat := 0x078
/-- R252. -/ abbrev CTX_PC_HI : Nat := 0x07C
/-- R252. -/ abbrev CTX_STEP_LO : Nat := 0x080
/-- R252. -/ abbrev CTX_STEP_HI : Nat := 0x084
/-- R252. -/ abbrev CTX_REPLAYS : Nat := 0x088
/-- R252. -/ abbrev CTX_ISSUED_LO : Nat := 0x08C
/-- R252. -/ abbrev CTX_ISSUED_HI : Nat := 0x090
/-- R252. -/ abbrev CTX_SKIPPED : Nat := 0x094
/-- R252. -/ abbrev CTX_LOOPd_COUNT : Nat := 0x0A0
/-- R252. -/ abbrev CTX_LOOPd_INDEX : Nat := 0x0A4
/-- R252. -/ abbrev CTX_COND : Nat := 0x0C0
/-- R252. -/ abbrev CTX_PARn_LO : Nat := 0x400
/-- R252. -/ abbrev CTX_PARn_HI : Nat := 0x404
/-- R252. -/ abbrev CTX_AREGn_LO : Nat := 0x600
/-- R252. -/ abbrev CTX_AREGn_HI : Nat := 0x604
/-- R252. -/ abbrev CTX_CNTn : Nat := 0x680
/-- R252. -/ abbrev CTX_CMPn_CTRL : Nat := 0x6A0
/-- R252. -/ abbrev CTX_CMPn_REF : Nat := 0x6A4
/-- R252. -/ abbrev CTX_SEMn : Nat := 0x800
/-- R277. -/ abbrev CTX_BIND : Nat := 0x100
/-- R277. -/ abbrev CTX_PRIO : Nat := 0x104
/-- R277. -/ abbrev CTX_RUN_CTRL : Nat := 0x108
/-- R277. -/ abbrev CTX_RUN_STATE : Nat := 0x10C
/-- R277. -/ abbrev CTX_CLAIM_CL : Nat := 0x110
/-- R277. -/ abbrev CTX_CLAIM_CORE : Nat := 0x114
/-- R277. -/ abbrev CTX_SAVE_BASE_LO : Nat := 0x118
/-- R277. -/ abbrev CTX_SAVE_BASE_HI : Nat := 0x11C
/-- R277. -/ abbrev CTX_SAVE_SIZE_LO : Nat := 0x120
/-- R277. -/ abbrev CTX_SAVE_SIZE_HI : Nat := 0x124
/-- R277. -/ abbrev CTX_RESTART_PC_LO : Nat := 0x128
/-- R277. -/ abbrev CTX_RESTART_PC_HI : Nat := 0x12C
/-- R277. -/ abbrev CTX_PREEMPTS : Nat := 0x130
/-- R277. -/ abbrev CTX_LAST_SAVE_NS : Nat := 0x134
/-- R278. -/ abbrev CLU_PART : Nat := 0x080
/-- R279. -/ abbrev GLOB_DOM_SEL : Nat := 0x100
/-- R279. -/ abbrev GLOB_DOM_CLUSTERS : Nat := 0x104
/-- R279. -/ abbrev GLOB_DOM_CONTEXTS : Nat := 0x108
/-- R279. -/ abbrev GLOB_DOM_SESSIONS : Nat := 0x10C
/-- R279. -/ abbrev GLOB_DOM_CLASS_MAX : Nat := 0x110
/-- R299. -/ abbrev LEDG_THR_FLOOR : Nat := 0x040
/-- R299. -/ abbrev LEDG_LSTEP_LEAD : Nat := 0x044
/-- R299. -/ abbrev LEDG_THR_STATUS : Nat := 0x048
/-- R299. -/ abbrev LEDG_THR_COUNT : Nat := 0x04C
/-- R299. -/ abbrev LEDG_THR_TOGGLES : Nat := 0x050
/-- R299. -/ abbrev LEDG_THR_GLITCHES : Nat := 0x054
/-- R299. -/ abbrev LEDG_THR_LAST_LO : Nat := 0x058
/-- R299. -/ abbrev LEDG_THR_LAST_HI : Nat := 0x05C
/-- R299. -/ abbrev LEDG_LSTEP_STATE : Nat := 0x060
/-- R299. -/ abbrev LEDG_DOM_SEL : Nat := 0x064
/-- R299. -/ abbrev LEDG_DOM_BALLAST_LO : Nat := 0x068
/-- R299. -/ abbrev LEDG_DOM_BALLAST_HI : Nat := 0x06C
/-- R299. -/ abbrev LEDG_OP_BALLAST_LO : Nat := 0x070
/-- R299. -/ abbrev LEDG_OP_BALLAST_HI : Nat := 0x074
/-- R299. -/ abbrev LEDG_CNT_CLEAR : Nat := 0x078
/-- R300. -/ abbrev LEDG_RAIL_CEIL : Nat := 0x100
/-- R300. -/ abbrev LEDG_RAIL_SLEW : Nat := 0x104
/-- R300. -/ abbrev LEDG_RAIL_FLOOR : Nat := 0x108
/-- R300. -/ abbrev LEDG_RAIL_ACCOUNT : Nat := 0x10C
/-- R300. -/ abbrev LEDG_RAIL_WORK : Nat := 0x110
/-- R300. -/ abbrev LEDG_RAIL_BALLAST : Nat := 0x114
/-- R300. -/ abbrev LEDG_RAIL_PEAK : Nat := 0x118
/-- R300. -/ abbrev LEDG_RAIL_WAIT : Nat := 0x11C
/-- R300. -/ abbrev LEDG_RAIL_STATE : Nat := 0x120
/-- R300. -/ abbrev LEDG_RAIL_ANCHOR : Nat := 0x124
/-- R300. -/ abbrev LEDG_RAIL_BALLAST_NC_LO : Nat := 0x128
/-- R300. -/ abbrev LEDG_RAIL_BALLAST_NC_HI : Nat := 0x12C
/-- R300. -/ abbrev LEDG_RAIL_FREEZE_TICKS : Nat := 0x130
/-- R300. -/ abbrev LEDG_RAIL_SCALE : Nat := 0x134
/-- R301. -/ abbrev LEDG_PROF_CFG : Nat := 0x800
/-- R301. -/ abbrev LEDG_PROF_TGT : Nat := 0x808
/-- R301. -/ abbrev LEDG_PROF_RATE : Nat := 0x80C
/-- R323. -/ abbrev TIME_CFG : Nat := 0x040
/-- R323. -/ abbrev TIME_STATE : Nat := 0x044
/-- R323. -/ abbrev TIME_NOW_LO : Nat := 0x048
/-- R323. -/ abbrev TIME_NOW_HI : Nat := 0x04C
/-- R323. -/ abbrev TIME_NOW_FRAC : Nat := 0x050
/-- R323. -/ abbrev TIME_OFFSET : Nat := 0x054
/-- R323. -/ abbrev TIME_FREQ_ADJ : Nat := 0x058
/-- R323. -/ abbrev TIME_HOLDOVER_START_LO : Nat := 0x05C
/-- R323. -/ abbrev TIME_HOLDOVER_START_HI : Nat := 0x060
/-- R323. -/ abbrev TIME_ERR_BOUND : Nat := 0x064
/-- R323. -/ abbrev TIME_UNTRUST_NS : Nat := 0x068
/-- R323. -/ abbrev TIME_TOD_NEXT_LO : Nat := 0x06C
/-- R323. -/ abbrev TIME_TOD_NEXT_HI : Nat := 0x070
/-- R323. -/ abbrev TIME_PPS_EARLY : Nat := 0x074
/-- R323. -/ abbrev TIME_PPS_OUTLIERS : Nat := 0x078
/-- R323. -/ abbrev TIME_STEPS : Nat := 0x07C
/-- R323. -/ abbrev TIME_PPS_OUT_CFG : Nat := 0x080
/-- R323. -/ abbrev TIME_TS_SEL : Nat := 0x084
/-- R323. -/ abbrev TIME_TS_CORR : Nat := 0x088
/-- R323. -/ abbrev TIME_CNT_CLEAR : Nat := 0x08C
/-- R324. -/ abbrev CAL_SEL : Nat := 0x040
/-- R324. -/ abbrev CAL_ENT_INSTANT_LO : Nat := 0x044
/-- R324. -/ abbrev CAL_ENT_INSTANT_HI : Nat := 0x048
/-- R324. -/ abbrev CAL_ENT_PERIOD : Nat := 0x04C
/-- R324. -/ abbrev CAL_ENT_ACTION : Nat := 0x050
/-- R324. -/ abbrev CAL_ENT_TARGET : Nat := 0x054
/-- R324. -/ abbrev CAL_ENT_OWNER : Nat := 0x058
/-- R324. -/ abbrev CAL_ENT_CTRL : Nat := 0x05C
/-- R324. -/ abbrev CAL_ENT_LAST_LO : Nat := 0x060
/-- R324. -/ abbrev CAL_ENT_LAST_HI : Nat := 0x064
/-- R324. -/ abbrev CAL_ENT_FIRES : Nat := 0x068
/-- R324. -/ abbrev CAL_LATE : Nat := 0x06C
/-- R324. -/ abbrev CAL_MISSED : Nat := 0x070
/-- R324. -/ abbrev CAL_NOEFFECT : Nat := 0x074
/-- R324. -/ abbrev CAL_CNT_CLEAR : Nat := 0x078
/-- R355. -/ abbrev GLOB_DOM_XLAT_IDX : Nat := 0x114
/-- R355. -/ abbrev GLOB_DOM_XLAT_E0 : Nat := 0x118
/-- R355. -/ abbrev GLOB_DOM_XLAT_E1 : Nat := 0x11C
/-- R355. -/ abbrev GLOB_DOM_XLAT_E2 : Nat := 0x120
/-- R355. -/ abbrev GLOB_DOM_XLAT_E3 : Nat := 0x124
/-- R355. -/ abbrev GLOB_DOM_XLAT_COUNT : Nat := 0x128
/-- R355. -/ abbrev GLOB_DOM_XLAT_CTRL : Nat := 0x12C
/-- R355. -/ abbrev GLOB_DOM_XLAT_STATUS : Nat := 0x130
/-- R355. -/ abbrev GLOB_DOM_FILL_PENDING : Nat := 0x134
/-- R355. -/ abbrev GLOB_NARROW_USED : Nat := 0x138
/-- R356. -/ abbrev HBM_STATE : Nat := 0x040
/-- R356. -/ abbrev HBM_CTRL : Nat := 0x044
/-- R356. -/ abbrev HBM_CE_LO : Nat := 0x048
/-- R356. -/ abbrev HBM_CE_HI : Nat := 0x04C
/-- R356. -/ abbrev HBM_UE : Nat := 0x050
/-- R356. -/ abbrev HBM_TAG_FAIL : Nat := 0x054
/-- R356. -/ abbrev HBM_POISON_READS : Nat := 0x058
/-- R356. -/ abbrev HBM_LAST_PA_LO : Nat := 0x05C
/-- R356. -/ abbrev HBM_LAST_PA_HI : Nat := 0x060
/-- R356. -/ abbrev HBM_PATROL_CFG : Nat := 0x064
/-- R356. -/ abbrev HBM_PATROL_PASSES : Nat := 0x068
/-- R356. -/ abbrev HBM_RETIRED : Nat := 0x06C
/-- R356. -/ abbrev HBM_WC_FLUSHES : Nat := 0x070
/-- R356. -/ abbrev HBM_WC_RMW : Nat := 0x074
/-- R356. -/ abbrev HBM_WC_LOST : Nat := 0x078
/-- R356. -/ abbrev HBM_TAG_MISSES : Nat := 0x07C
/-- R356. -/ abbrev HBM_RD_LINES_LO : Nat := 0x080
/-- R356. -/ abbrev HBM_RD_LINES_HI : Nat := 0x084
/-- R356. -/ abbrev HBM_WR_LINES_LO : Nat := 0x088
/-- R356. -/ abbrev HBM_WR_LINES_HI : Nat := 0x08C
/-- R356. -/ abbrev HBM_CNT_CLEAR : Nat := 0x090
/-- R357. -/ abbrev STK_REPAIR_CTRL : Nat := 0x040
/-- R357. -/ abbrev STK_REPAIR_STATUS : Nat := 0x044
/-- R357. -/ abbrev STK_REPAIR_SPARES : Nat := 0x048
/-- R357. -/ abbrev STK_REPAIR_TSV : Nat := 0x04C
/-- R357. -/ abbrev STK_REPAIR_LOG_COUNT : Nat := 0x050
/-- R357. -/ abbrev STK_REPAIR_BUF : Nat := 0x100
/-- R358. -/ abbrev SLOW_STATE : Nat := 0x040
/-- R358. -/ abbrev SLOW_SEL : Nat := 0x044
/-- R358. -/ abbrev SLOW_CE : Nat := 0x048
/-- R358. -/ abbrev SLOW_UE : Nat := 0x04C
/-- R358. -/ abbrev SLOW_TAG_FAIL : Nat := 0x050
/-- R358. -/ abbrev SLOW_RETIRED : Nat := 0x054
/-- R358. -/ abbrev SLOW_LAST_PA_LO : Nat := 0x058
/-- R358. -/ abbrev SLOW_LAST_PA_HI : Nat := 0x05C
/-- R358. -/ abbrev SLOW_PATROL_CFG : Nat := 0x060
/-- R358. -/ abbrev SLOW_RD_LINES : Nat := 0x064
/-- R358. -/ abbrev SLOW_WR_LINES : Nat := 0x068
/-- R358. -/ abbrev SLOW_CNT_CLEAR : Nat := 0x06C
/-- R388. -/ abbrev COLL_CFG : Nat := 0x040
/-- R388. -/ abbrev COLL_LAND_MAX : Nat := 0x044
/-- R388. -/ abbrev COLL_BAD_FRAMES : Nat := 0x048
/-- R388. -/ abbrev COLL_STALE_FRAMES : Nat := 0x04C
/-- R388. -/ abbrev COLL_CRC_FAIL : Nat := 0x050
/-- R388. -/ abbrev COLL_SENDLOG_USED : Nat := 0x054
/-- R388. -/ abbrev COLL_CNT_CLEAR : Nat := 0x058
/-- R388. -/ abbrev COLL_GRP_SEL : Nat := 0x100
/-- R388. -/ abbrev COLL_GRP_ID : Nat := 0x104
/-- R388. -/ abbrev COLL_GRP_CTX : Nat := 0x108
/-- R388. -/ abbrev COLL_GRP_SIZE : Nat := 0x10C
/-- R388. -/ abbrev COLL_GRP_RANK : Nat := 0x110
/-- R388. -/ abbrev COLL_GRP_PORTS : Nat := 0x114
/-- R388. -/ abbrev COLL_GRP_SWITCH : Nat := 0x118
/-- R388. -/ abbrev COLL_GRP_TIMEOUT : Nat := 0x128
/-- R388. -/ abbrev COLL_GRP_CFG : Nat := 0x12C
/-- R388. -/ abbrev COLL_GRP_TT_BASE_LO : Nat := 0x130
/-- R388. -/ abbrev COLL_GRP_TT_BASE_HI : Nat := 0x134
/-- R388. -/ abbrev COLL_GRP_TT_COUNT : Nat := 0x138
/-- R388. -/ abbrev COLL_GRP_ATTEMPT : Nat := 0x13C
/-- R388. -/ abbrev COLL_GRP_VOTE_BUF_LO : Nat := 0x140
/-- R388. -/ abbrev COLL_GRP_VOTE_BUF_HI : Nat := 0x144
/-- R388. -/ abbrev COLL_GRP_STATE : Nat := 0x148
/-- R388. -/ abbrev COLL_GRP_ERR : Nat := 0x14C
/-- R388. -/ abbrev COLL_GRP_ERR_INFO : Nat := 0x150
/-- R388. -/ abbrev COLL_GRP_REDOS : Nat := 0x154
/-- R388. -/ abbrev COLL_GRP_TX_LO : Nat := 0x158
/-- R388. -/ abbrev COLL_GRP_TX_HI : Nat := 0x15C
/-- R388. -/ abbrev COLL_GRP_ZERO_TX : Nat := 0x160
/-- R388. -/ abbrev COLL_GRP_RX : Nat := 0x164
/-- R388. -/ abbrev COLL_GRP_AG_DROPPED : Nat := 0x168
/-- R389. -/ abbrev COLL_PCL_SEL : Nat := 0x200
/-- R389. -/ abbrev COLL_PCL_CFG : Nat := 0x204
/-- R389. -/ abbrev COLL_PCL_PEER : Nat := 0x208
/-- R389. -/ abbrev COLL_PCL_CAP : Nat := 0x20C
/-- R389. -/ abbrev COLL_PCL_QP : Nat := 0x210
/-- R389. -/ abbrev COLL_PCL_RKEY : Nat := 0x214
/-- R389. -/ abbrev COLL_PCL_RADDR_LO : Nat := 0x218
/-- R389. -/ abbrev COLL_PCL_RADDR_HI : Nat := 0x21C
/-- R389. -/ abbrev COLL_PCL_DROPPED : Nat := 0x220
/-- R389. -/ abbrev COLL_PCL_STATE : Nat := 0x224
/-- R389. -/ abbrev COLL_LND_SEL : Nat := 0x280
/-- R389. -/ abbrev COLL_LND_CFG : Nat := 0x284
/-- R389. -/ abbrev COLL_LND_SRC : Nat := 0x288
/-- R389. -/ abbrev COLL_LND_CAP : Nat := 0x28C
/-- R389. -/ abbrev COLL_LND_BASE_LO : Nat := 0x290
/-- R389. -/ abbrev COLL_LND_BASE_HI : Nat := 0x294
/-- R389. -/ abbrev COLL_LND_SEMS : Nat := 0x298
/-- R389. -/ abbrev COLL_LND_STATE : Nat := 0x29C
/-- R389. -/ abbrev COLL_LND_LANDED : Nat := 0x2A0
/-- R424. -/ abbrev UPD_STATE : Nat := 0x040
/-- R424. -/ abbrev UPD_ARMED : Nat := 0x044
/-- R424. -/ abbrev UPD_ELEMS_LO : Nat := 0x048
/-- R424. -/ abbrev UPD_ELEMS_HI : Nat := 0x04C
/-- R424. -/ abbrev UPD_BUSY_CYCLES : Nat := 0x050
/-- R424. -/ abbrev UPD_CNT_CLEAR : Nat := 0x054
/-- R424. -/ abbrev UPD_PROG_SEL : Nat := 0x100
/-- R424. -/ abbrev UPD_PROG_CTRL : Nat := 0x104
/-- R424. -/ abbrev UPD_PROG_USERS : Nat := 0x108
/-- R424. -/ abbrev UPD_PROG_INSTRj : Nat := 0x180
/-- R424. -/ abbrev UPD_CTX_SEL : Nat := 0x200
/-- R424. -/ abbrev UPD_CTX_CFG : Nat := 0x204
/-- R424. -/ abbrev UPD_CTX_EPOCH : Nat := 0x208
/-- R424. -/ abbrev UPD_CTX_TT_BASE_LO : Nat := 0x20C
/-- R424. -/ abbrev UPD_CTX_TT_BASE_HI : Nat := 0x210
/-- R424. -/ abbrev UPD_CTX_TT_COUNT : Nat := 0x214
/-- R424. -/ abbrev UPD_CTX_STATUS : Nat := 0x218
/-- R424. -/ abbrev UPD_CTX_VOTE : Nat := 0x21C
/-- R424. -/ abbrev UPD_CTX_ERR : Nat := 0x220
/-- R424. -/ abbrev UPD_CTX_SKEW_FRAME : Nat := 0x224
/-- R424. -/ abbrev UPD_CTX_SKEW_CTX : Nat := 0x228
/-- R424. -/ abbrev UPD_CTX_FROZEN_HITS_LO : Nat := 0x22C
/-- R424. -/ abbrev UPD_CTX_FROZEN_HITS_HI : Nat := 0x230
/-- R424. -/ abbrev UPD_CTX_COMMITS : Nat := 0x234
/-- R424. -/ abbrev UPD_CTX_DISCARDS : Nat := 0x238
/-- R425. -/ abbrev SCHD_SEL : Nat := 0x040
/-- R425. -/ abbrev SCHD_CTX : Nat := 0x044
/-- R425. -/ abbrev SCHD_CFG : Nat := 0x048
/-- R425. -/ abbrev SCHD_PEAK : Nat := 0x04C
/-- R425. -/ abbrev SCHD_MIN : Nat := 0x050
/-- R425. -/ abbrev SCHD_WARMUP : Nat := 0x054
/-- R425. -/ abbrev SCHD_WU_K : Nat := 0x058
/-- R425. -/ abbrev SCHD_PERIOD : Nat := 0x05C
/-- R425. -/ abbrev SCHD_MULT : Nat := 0x060
/-- R425. -/ abbrev SCHD_PEAK_DECAY : Nat := 0x064
/-- R425. -/ abbrev SCHD_LOG2_GAMMA : Nat := 0x068
/-- R425. -/ abbrev SCHD_INTERVAL : Nat := 0x06C
/-- R425. -/ abbrev SCHD_BETA1 : Nat := 0x070
/-- R425. -/ abbrev SCHD_BETA2 : Nat := 0x074
/-- R425. -/ abbrev SCHD_EPS : Nat := 0x078
/-- R425. -/ abbrev SCHD_WD : Nat := 0x07C
/-- R425. -/ abbrev SCHD_START_STEP_LO : Nat := 0x080
/-- R425. -/ abbrev SCHD_START_STEP_HI : Nat := 0x084
/-- R425. -/ abbrev SCHD_LAST_STEP_LO : Nat := 0x088
/-- R425. -/ abbrev SCHD_LAST_STEP_HI : Nat := 0x08C
/-- R425. -/ abbrev SCHD_P1 : Nat := 0x090
/-- R425. -/ abbrev SCHD_P2 : Nat := 0x094
/-- R425. -/ abbrev SCHD_OUTk : Nat := 0x0C0
/-- R430. -/ abbrev PAGE_ID : Nat := 0x000
/-- R430. -/ abbrev PAGE_REV : Nat := 0x004
/-- R430. -/ abbrev PAGE_CAPS : Nat := 0x008
/-- R430. -/ abbrev PAGE_ABSENT : Nat := 0x00C
/-- R430. -/ abbrev STATUS : Nat := 0x010
/-- R430. -/ abbrev EVENT : Nat := 0x014
/-- R430. -/ abbrev EVENT_EN : Nat := 0x018
/-- R430. -/ abbrev EVENT_FORCE : Nat := 0x01C
/-- R430. -/ abbrev ERR_CODE : Nat := 0x020
/-- R430. -/ abbrev ERR_INFO0 : Nat := 0x024
/-- R430. -/ abbrev ERR_INFO1 : Nat := 0x028
/-- R430. -/ abbrev LOCK : Nat := 0x02C
/-- R456. -/ abbrev MGMT_CFG : Nat := 0x040
/-- R456. -/ abbrev MGMT_SESSION_IDLE : Nat := 0x044
/-- R456. -/ abbrev MGMT_FRAMES : Nat := 0x048
/-- R456. -/ abbrev MGMT_AUTH_FAIL : Nat := 0x04C
/-- R456. -/ abbrev MGMT_REPLAYS : Nat := 0x050
/-- R456. -/ abbrev MGMT_RESENDS : Nat := 0x054
/-- R456. -/ abbrev MGMT_DISCARDS : Nat := 0x058
/-- R456. -/ abbrev MGMT_CNT_CLEAR : Nat := 0x05C
/-- R456. -/ abbrev MGMT_SESS_SEL : Nat := 0x060
/-- R456. -/ abbrev MGMT_SESS_STATE : Nat := 0x064
/-- R456. -/ abbrev MGMT_SESS_COUNTER_LO : Nat := 0x068
/-- R456. -/ abbrev MGMT_SESS_COUNTER_HI : Nat := 0x06C
/-- R456. -/ abbrev MGMT_SESS_IDLE_LEFT : Nat := 0x070
/-- R456. -/ abbrev MGMT_SESS_CTRL : Nat := 0x074
/-- R457. -/ abbrev MGMT_RING_SEL : Nat := 0x100
/-- R457. -/ abbrev MGMT_RING_CFG : Nat := 0x104
/-- R457. -/ abbrev MGMT_RING_SIZE : Nat := 0x108
/-- R457. -/ abbrev MGMT_RING_DEPTH : Nat := 0x10C
/-- R457. -/ abbrev MGMT_RING_RBASE_LO : Nat := 0x110
/-- R457. -/ abbrev MGMT_RING_RBASE_HI : Nat := 0x114
/-- R457. -/ abbrev MGMT_RING_RKEY : Nat := 0x118
/-- R457. -/ abbrev MGMT_RING_RIDX_LO : Nat := 0x11C
/-- R457. -/ abbrev MGMT_RING_RIDX_HI : Nat := 0x120
/-- R457. -/ abbrev MGMT_RING_LBASE_LO : Nat := 0x124
/-- R457. -/ abbrev MGMT_RING_LBASE_HI : Nat := 0x128
/-- R457. -/ abbrev MGMT_RING_SEMS : Nat := 0x12C
/-- R457. -/ abbrev MGMT_RING_START_LO : Nat := 0x130
/-- R457. -/ abbrev MGMT_RING_START_HI : Nat := 0x134
/-- R457. -/ abbrev MGMT_RING_CTRL : Nat := 0x138
/-- R457. -/ abbrev MGMT_RING_STATE : Nat := 0x13C
/-- R457. -/ abbrev MGMT_RING_COUNT_LO : Nat := 0x140
/-- R457. -/ abbrev MGMT_RING_COUNT_HI : Nat := 0x144
/-- R457. -/ abbrev MGMT_RING_ERR : Nat := 0x148
/-- R458. -/ abbrev MGMT_QP_SEL : Nat := 0x200
/-- R458. -/ abbrev MGMT_QP_CFG : Nat := 0x204
/-- R458. -/ abbrev MGMT_QP_PEER_QPN : Nat := 0x208
/-- R458. -/ abbrev MGMT_QP_PEER_IP : Nat := 0x20C
/-- R458. -/ abbrev MGMT_QP_SQ_PSN : Nat := 0x21C
/-- R458. -/ abbrev MGMT_QP_RQ_PSN : Nat := 0x220
/-- R458. -/ abbrev MGMT_QP_TIMER : Nat := 0x224
/-- R458. -/ abbrev MGMT_QP_STATE : Nat := 0x228
/-- R458. -/ abbrev MGMT_MR_SEL : Nat := 0x280
/-- R458. -/ abbrev MGMT_MR_CFG : Nat := 0x284
/-- R458. -/ abbrev MGMT_MR_BASE_LO : Nat := 0x288
/-- R458. -/ abbrev MGMT_MR_BASE_HI : Nat := 0x28C
/-- R458. -/ abbrev MGMT_MR_LEN_LO : Nat := 0x290
/-- R458. -/ abbrev MGMT_MR_LEN_HI : Nat := 0x294
/-- R459. -/ abbrev ETH_CFG : Nat := 0x040
/-- R459. -/ abbrev ETH_STATE : Nat := 0x044
/-- R459. -/ abbrev ETH_MAC_LO : Nat := 0x048
/-- R459. -/ abbrev ETH_MAC_HI : Nat := 0x04C
/-- R459. -/ abbrev ETH_IP : Nat := 0x050
/-- R459. -/ abbrev ETH_FEC_CE : Nat := 0x060
/-- R459. -/ abbrev ETH_FEC_UE : Nat := 0x064
/-- R459. -/ abbrev ETH_RX_FRAMES : Nat := 0x068
/-- R459. -/ abbrev ETH_TX_FRAMES : Nat := 0x06C
/-- R459. -/ abbrev ETH_FCS_ERR : Nat := 0x070
/-- R459. -/ abbrev ETH_PFC_PAUSED : Nat := 0x074
/-- R459. -/ abbrev ETH_ECN_CE : Nat := 0x078
/-- R459. -/ abbrev ETH_CNP_TX : Nat := 0x07C
/-- R459. -/ abbrev ETH_RDMA_DENIED : Nat := 0x080
/-- R459. -/ abbrev ETH_MSEC_CFG : Nat := 0x084
/-- R459. -/ abbrev ETH_MSEC_STATE : Nat := 0x088
/-- R459. -/ abbrev ETH_MSEC_DISCARDS : Nat := 0x08C
/-- R459. -/ abbrev ETH_CNT_CLEAR : Nat := 0x090
/-- R460. -/ abbrev MSEC_REKEY_PN : Nat := 0x040
/-- R460. -/ abbrev MSEC_MKA_HELLO : Nat := 0x044
/-- R460. -/ abbrev MSEC_PORTS_SECURED : Nat := 0x048
/-- R460. -/ abbrev MSEC_SAK_CHANGES : Nat := 0x04C
/-- R460. -/ abbrev PTP_CFG : Nat := 0x040
/-- R460. -/ abbrev PTP_STATE : Nat := 0x044
/-- R460. -/ abbrev PTP_MASTER_LO : Nat := 0x048
/-- R460. -/ abbrev PTP_MASTER_HI : Nat := 0x04C
/-- R460. -/ abbrev PTP_MEAN_PATH : Nat := 0x050
/-- R460. -/ abbrev PTP_SYNC_RX : Nat := 0x054
/-- R460. -/ abbrev PTP_REJECTED : Nat := 0x058
/-- R460. -/ abbrev PTP_CNT_CLEAR : Nat := 0x05C
/-- R486. -/ abbrev SEC_STATE : Nat := 0x040
/-- R486. -/ abbrev SEC_FLEET_ID_LO : Nat := 0x044
/-- R486. -/ abbrev SEC_FLEET_ID_HI : Nat := 0x048
/-- R486. -/ abbrev SEC_SCRUB_RATE : Nat := 0x04C
/-- R486. -/ abbrev SEC_SCRUB_SLOW_RATE : Nat := 0x050
/-- R486. -/ abbrev SEC_SCRUB_SEL : Nat := 0x054
/-- R486. -/ abbrev SEC_SCRUB_CTRL : Nat := 0x058
/-- R486. -/ abbrev SEC_SCRUB_STATE : Nat := 0x05C
/-- R486. -/ abbrev SEC_SCRUB_LEFT : Nat := 0x060
/-- R486. -/ abbrev SEC_SCRUB_DISCARDS : Nat := 0x064
/-- R486. -/ abbrev SEC_FW_CTRL : Nat := 0x068
/-- R486. -/ abbrev SEC_FW_STATUS : Nat := 0x06C
/-- R486. -/ abbrev SEC_FW_UNIT_SEL : Nat := 0x070
/-- R486. -/ abbrev SEC_FW_SVN : Nat := 0x074
/-- R486. -/ abbrev SEC_FW_MEAS : Nat := 0x078
/-- R487. -/ abbrev KEY_DOM_SEL : Nat := 0x040
/-- R487. -/ abbrev KEY_DOM_MEM_GEN : Nat := 0x044
/-- R487. -/ abbrev KEY_DOM_CTRL : Nat := 0x048
/-- R487. -/ abbrev KEY_DOM_LEFT : Nat := 0x04C
/-- R487. -/ abbrev KEY_DOM_CMD_GEN : Nat := 0x050
/-- R487. -/ abbrev KEY_MOVE_POISONED : Nat := 0x054
/-- R487. -/ abbrev KEY_RETIRED_READS : Nat := 0x058
/-- R487. -/ abbrev KEY_PORT_SEL : Nat := 0x05C
/-- R487. -/ abbrev KEY_PORT_LINK_GEN : Nat := 0x060
/-- R488. -/ abbrev ATT_CTRL : Nat := 0x040
/-- R488. -/ abbrev ATT_DOM_SEL : Nat := 0x044
/-- R488. -/ abbrev ATT_STATE : Nat := 0x048
/-- R488. -/ abbrev ATT_NONCE : Nat := 0x050
/-- R488. -/ abbrev ATT_IDENT_PUB : Nat := 0x070
/-- R488. -/ abbrev ATT_REPORT : Nat := 0x400
/-- R489. -/ abbrev DBG_CTRL : Nat := 0x040
/-- R489. -/ abbrev DBG_LOG_SEL : Nat := 0x044
/-- R489. -/ abbrev DBG_LOG_IDX : Nat := 0x048
/-- R489. -/ abbrev DBG_LOG_NEXT_LO : Nat := 0x04C
/-- R489. -/ abbrev DBG_LOG_NEXT_HI : Nat := 0x050
/-- R489. -/ abbrev DBG_LOG_E : Nat := 0x054
/-- R513. -/ abbrev MET_STATE : Nat := 0x040
/-- R513. -/ abbrev MET_METHOD : Nat := 0x044
/-- R513. -/ abbrev MET_SEAL_LO : Nat := 0x048
/-- R513. -/ abbrev MET_SEAL_HI : Nat := 0x04C
/-- R513. -/ abbrev MET_TIME_LO : Nat := 0x050
/-- R513. -/ abbrev MET_TIME_HI : Nat := 0x054
/-- R513. -/ abbrev MET_POWER_ONS : Nat := 0x058
/-- R513. -/ abbrev MET_SAMPLE_FAULTS : Nat := 0x05C
/-- R513. -/ abbrev MET_TOTAL_LO : Nat := 0x060
/-- R513. -/ abbrev MET_TOTAL_HI : Nat := 0x064
/-- R513. -/ abbrev MET_RAILr_LO : Nat := 0x068
/-- R513. -/ abbrev MET_RAILr_HI : Nat := 0x06C
/-- R513. -/ abbrev MET_OP_LO : Nat := 0x0D0
/-- R513. -/ abbrev MET_OP_HI : Nat := 0x0D4
/-- R513. -/ abbrev MET_OP_BALLAST_LO : Nat := 0x0D8
/-- R513. -/ abbrev MET_OP_BALLAST_HI : Nat := 0x0DC
/-- R513. -/ abbrev MET_DOM_SEL : Nat := 0x0E0
/-- R513. -/ abbrev MET_DOM_LO : Nat := 0x0E8
/-- R513. -/ abbrev MET_DOM_HI : Nat := 0x0EC
/-- R513. -/ abbrev MET_DOM_BALLAST_LO : Nat := 0x0F0
/-- R513. -/ abbrev MET_DOM_BALLAST_HI : Nat := 0x0F4
/-- R513. -/ abbrev MET_LOG_NEXT_LO : Nat := 0x0F8
/-- R513. -/ abbrev MET_LOG_NEXT_HI : Nat := 0x0FC
/-- R513. -/ abbrev MET_LOG_SEL : Nat := 0x100
/-- R513. -/ abbrev MET_LOG_E : Nat := 0x104
/-- R513. -/ abbrev MET_CAL_ID : Nat := 0x124
/-- R513. -/ abbrev MET_REPORT_PUB : Nat := 0x130
/-- R513. -/ abbrev MET_REPORT : Nat := 0x200
/-- R539. -/ abbrev ERR_CFG : Nat := 0x040
/-- R539. -/ abbrev ERR_Q_STATE : Nat := 0x044
/-- R539. -/ abbrev ERR_Q_HEAD_LO : Nat := 0x048
/-- R539. -/ abbrev ERR_Q_HEAD_HI : Nat := 0x04C
/-- R539. -/ abbrev ERR_Q_ACK_LO : Nat := 0x050
/-- R539. -/ abbrev ERR_Q_ACK_HI : Nat := 0x054
/-- R539. -/ abbrev ERR_Q_SEL : Nat := 0x058
/-- R539. -/ abbrev ERR_Q_E : Nat := 0x05C
/-- R539. -/ abbrev ERR_Q_DROPPED : Nat := 0x07C
/-- R539. -/ abbrev ERR_CE_THRESH : Nat := 0x080
/-- R539. -/ abbrev ERR_CE_LAST : Nat := 0x084
/-- R539. -/ abbrev ERR_ALERT_CFG : Nat := 0x088
/-- R539. -/ abbrev ERR_ALERT_SENT : Nat := 0x08C
/-- R539. -/ abbrev ERR_FATAL_CODE : Nat := 0x090
/-- R539. -/ abbrev ERR_FATAL_INFO : Nat := 0x094
/-- R539. -/ abbrev ERR_FATAL_TIME_LO : Nat := 0x098
/-- R539. -/ abbrev ERR_FATAL_TIME_HI : Nat := 0x09C
/-- R539. -/ abbrev ERR_REPAIR_COUNT : Nat := 0x0A0
/-- R539. -/ abbrev ERR_REPAIR_REQ : Nat := 0x0A4
/-- R539. -/ abbrev ERR_FLIT_CE : Nat := 0x0A8
/-- R539. -/ abbrev ERR_FLIT_RETRY : Nat := 0x0AC
/-- R539. -/ abbrev ERR_STATE_CE : Nat := 0x0B0
/-- R540. -/ abbrev TWIN_CTX_SEL : Nat := 0x040
/-- R540. -/ abbrev TWIN_CTX_STATE : Nat := 0x044
/-- R540. -/ abbrev TWIN_CTX_GROUP : Nat := 0x048
/-- R540. -/ abbrev TWIN_CTX_CFG : Nat := 0x04C
/-- R540. -/ abbrev TWIN_CTX_OWN_LO : Nat := 0x050
/-- R540. -/ abbrev TWIN_CTX_OWN_HI : Nat := 0x054
/-- R540. -/ abbrev TWIN_CTX_PEER_LO : Nat := 0x058
/-- R540. -/ abbrev TWIN_CTX_PEER_HI : Nat := 0x05C
/-- R540. -/ abbrev TWIN_CTX_DIVERGED : Nat := 0x060
/-- R540. -/ abbrev TWIN_CTX_REPEAT : Nat := 0x064
/-- R560. -/ abbrev RST_CAUSE : Nat := 0x040
/-- R560. -/ abbrev RST_COUNT_COLD : Nat := 0x044
/-- R560. -/ abbrev RST_COUNT_WARM : Nat := 0x048
/-- R560. -/ abbrev RST_STAGE : Nat := 0x04C
/-- R560. -/ abbrev RST_WDT_CFG : Nat := 0x050
/-- R560. -/ abbrev RST_THERM_CLEAR : Nat := 0x054
/-- R560. -/ abbrev RST_DEFER_MAX : Nat := 0x058
/-- R561. -/ abbrev STRP_VALUE : Nat := 0x040
/-- R561. -/ abbrev CLK_LOCK : Nat := 0x040
/-- R561. -/ abbrev CLK_UNLOCKS : Nat := 0x044
/-- R561. -/ abbrev CLK_MEAS_SEL : Nat := 0x048
/-- R561. -/ abbrev CLK_MEAS_KHZ : Nat := 0x04C
/-- R561. -/ abbrev NVM_STATE : Nat := 0x040
/-- R561. -/ abbrev NVM_MRAM_WRITES : Nat := 0x044
/-- R561. -/ abbrev NVM_FUSE_BITS : Nat := 0x048
/-- R584. -/ abbrev PMB_CFG : Nat := 0x040
/-- R584. -/ abbrev PMB_ADDRr : Nat := 0x044
/-- R584. -/ abbrev PMB_SEL : Nat := 0x078
/-- R584. -/ abbrev PMB_VOUT : Nat := 0x07C
/-- R584. -/ abbrev PMB_IOUT : Nat := 0x080
/-- R584. -/ abbrev PMB_TEMP : Nat := 0x084
/-- R584. -/ abbrev PMB_STATUS : Nat := 0x088
/-- R584. -/ abbrev PMB_AVS_TARGET : Nat := 0x08C
/-- R584. -/ abbrev PMB_AVS_LIMITS : Nat := 0x090
/-- R584. -/ abbrev PMB_FAULTS : Nat := 0x094
/-- R585. -/ abbrev TEMP_CFG : Nat := 0x040
/-- R585. -/ abbrev TEMP_SEL : Nat := 0x044
/-- R585. -/ abbrev TEMP_VALUE : Nat := 0x048
/-- R585. -/ abbrev TEMP_MAX : Nat := 0x04C
/-- R585. -/ abbrev TEMP_STATE : Nat := 0x050
/-- R585. -/ abbrev TEMP_THROTTLES : Nat := 0x054
/-- R585. -/ abbrev TEMP_PEAK : Nat := 0x058
/-- R585. -/ abbrev TEMP_CNT_CLEAR : Nat := 0x05C
/-- R586. -/ abbrev JTAG_STATE : Nat := 0x040
/-- R586. -/ abbrev JTAG_IDCODE : Nat := 0x044
/-- R586. -/ abbrev JTAG_REFUSED : Nat := 0x048
/-- R586. -/ abbrev JTAG_PROD : Nat := 0x04C
/-- R592. -/ abbrev FUSE_SERIAL_LO : Nat := 0x040
/-- R592. -/ abbrev FUSE_SERIAL_HI : Nat := 0x044
/-- R592. -/ abbrev FUSE_REV : Nat := 0x048
/-- R592. -/ abbrev FUSE_MAC_LO : Nat := 0x04C
/-- R592. -/ abbrev FUSE_MAC_HI : Nat := 0x050
/-- R592. -/ abbrev FUSE_PROD : Nat := 0x054
/-- R8. -/ abbrev GLOB_GRADE : Nat := 0x040
/-- R102. -/ abbrev CLU_CORE_SEL : Nat := 0x7FC

end Off

end Sys2Proof.Machine
end

