-- ==== Sys2Proof/Machine/State.lean ====
section
/-! DEFINITION. The state of the module: everything the spec gives it, as plain data, and the state right after reset. -/

namespace Sys2Proof.Machine

open Sys2Proof

/-- Why the block stops. Safe: a row that names a unit the module does not have stops the model, where hardware has no such event. -/
inductive Fault where
  /-- raised by a row whose operand names a cluster above 2,999, a core above 99 or another unit number outside the module; safe -/
  | noSuchUnit
deriving DecidableEq, Repr

/-- Why the block refuses a command. -/
inductive Refusal where
  /-- raised by an arm of the dispatch whose meaning is not written; safe -/
  | notModelled (mnemonic : String)
  /-- raised by a stream row whose command carries the listed opcode of another row: the command belongs to that row; safe -/
  | wrongOpcode
deriving DecidableEq, Repr

/-! ## Command streams and contexts (08_command_streams.md, 09_contexts.md) -/

/-- Context states (R265). -/
inductive RunState where
  | unbound | idle | ready | running | stopping | saving | saved | restoring | faulted
deriving DecidableEq, Repr

/-- One entry of the loop stack (R242). -/
structure Loop where
  start : Nat
  stop : Nat
  count : Nat
  index : Nat
  /-- the count register, for a count taken from one (R243) -/
  reg : Option Nat := none
deriving DecidableEq, Repr

/-- What a command held at issue waits for (R231, R233, R239, R245, R372, R380). -/
inductive WaitKind where
  | sem | fence | cond | streamEnd | sendLog
  /-- the vector engine or a router unit is taken (R136, R180) -/
  | engine
deriving DecidableEq, Repr

/-- An operand descriptor with everything its addresses depend on latched at issue (R229, R246, R247). -/
structure Opnd where
  space : Nat
  fmt : Nat
  /-- BASE plus the address register -/
  base : Int
  count : List Nat
  stride : List Int
  /-- the loop terms and the instance terms, in elements -/
  offset : Int
  indDim : Nat
  indEn : Bool
  indRouter : Bool
  indToken : Bool
  routerC : Nat
  zb : Bool
  isMeta : Bool
  scaled : Bool
  delayed : Bool
  blk : Nat
  mask : Bool
  auxMap : Nat
  auxIdx : Nat
  auxScale : Nat
  /-- the cluster and core of the instance -/
  cl : Nat
  core : Nat
deriving DecidableEq, Repr

/-- One instance of a command: its cluster and core, its rank, its operands by slot and place (R216), and how far it has come: the next row of a vector operation, the next iteration of a move (R153, R269). -/
structure InstOps where
  cl : Nat
  core : Nat
  k : Nat
  os : List (Nat × Nat × Opnd)
  done : Nat := 0
deriving DecidableEq, Repr

/-- A command in flight: issued and not retired. -/
structure Live where
  id : Nat
  /-- its offset in the stream (R213) -/
  off : Nat
  w : Cmd
  /-- instances that have not retired -/
  left : Nat
  /-- merged pass status (R235) -/
  status : Word := 0
  /-- the first W_FINAL merged, if any -/
  wfin : Option Nat := none
  /-- physical clusters of its instances -/
  clus : List Nat := []
  /-- instances of a vector, mover or router command; the operand of a fabric command -/
  insts : List InstOps := []
  /-- the step it issued in (R230) -/
  step : DWord := 0
  /-- the parameter register that it reads in its issue cycle: I_PAR or EPS_PAR (R229) -/
  par : DWord := 0
  /-- a router operation that a pre-emption has stopped waits for its router units again (R180); a fabric command waits for its current (R287) -/
  waits : Bool := false
deriving DecidableEq, Repr

/-- The engines that stop at a pre-emption (R269). -/
inductive Engine where
  | frontEnd | array | tileDrain | vector | mover | router | maskWalk
deriving DecidableEq, Repr

/-- The front end's record of a context beyond its registers. -/
structure CtxRec where
  run : RunState := .unbound
  saveValid : Bool := false
  resident : Bool := false
  /-- the loop stack, innermost first -/
  stack : List Loop := []
  /-- the command held at issue and what it waits for -/
  held : Option (Cmd × WaitKind) := none
  live : List Live := []
  nextId : Nat := 0
  /-- members of a spool chain still to issue after its head (R224) -/
  chainLeft : Nat := 0
  /-- the chain the next member belongs to, and the member's place -/
  chainId : Nat := 0
  chainPos : Nat := 0
  stepPending : Bool := false
  /-- the replay has issued a VOTE or armed an update tensor entry (R238) -/
  voted : Bool := false
  /-- pre-empted by a PREEMPT write rather than by priority (R268) -/
  byPreempt : Bool := false
  /-- a higher-class context needs the claim of a restoring context (R276) -/
  preemptAfter : Bool := false
  /-- engines of the claim that have still to stop (R269) -/
  engines : List Engine := []
  /-- a FAULTED context whose state is being saved for a higher class (R267, R276) -/
  savingFault : Bool := false
  /-- fabric time of the pre-emption request (R277) -/
  preemptAt : Nat := 0
  /-- the calendar holds a step-start for this context: entry and instant (R31, R320) -/
  heldStart : Option (Nat × Nat) := none
  /-- the next grant is the one of a replay start (R97, R266) -/
  starting : Bool := false
  /-- a fault has lost the saved state; only RELEASE is accepted (R275) -/
  releaseOnly : Bool := false
  /-- the claim words as granted, while the context is resident (R264, R267) -/
  grantedClaim : Option (Word × Word) := none
deriving DecidableEq, Repr

/-! ## Arrays (03_matrix_core.md, 04_accumulation.md) -/

/-- Flags and sum of an accumulator element or a column sum (R105). -/
structure AccEl where
  q : Int := 0
  nan : Bool := false
  pinf : Bool := false
  ninf : Bool := false
deriving DecidableEq, Repr

/-- An accumulator tile: window, origin, poison and its listed elements, keyed 4 × row + column (R105, R106, R97). -/
structure Tile where
  w : Int := 0
  origin : DWord := BitVec.allOnes 64
  poison : Bool := false
  /-- owning domain (R470) -/
  own : Option Nat := none
  els : List (Nat × AccEl) := []
deriving DecidableEq, Repr

/-- Where a pass stands (R93): held at issue, then waiting for current and weights; its rows entering; every row entered; an overflow waits for its replay. -/
inductive PassPhase where
  | wait | load | stream | flush | replay
deriving DecidableEq, Repr

/-- One streamed row as it leaves the array (R109, R113, R166): the four elements for its destination, the largest exponent of its unmasked overflows, its status bits, and whether it was skipped. -/
structure RowRes where
  els : List AccEl
  ovf : Option Int
  stat : Word
  skip : Bool
deriving DecidableEq, Repr

/-- Destinations of a pass (R74). -/
inductive Dest where
  | overwrite | accumulate | drain | spool
deriving DecidableEq, Repr

/-- A pass or tile drain in a core's queue or array, with its resolved operands. -/
structure Pass where
  ctx : Nat
  id : Nat
  /-- false: a tile drain -/
  isPass : Bool
  off : Nat
  w : Cmd
  step : DWord
  a : Option Opnd
  b : Option Opnd
  c : Option Opnd
  d : Option Opnd
  /-- target core of the spool link, physical -/
  next : Nat
  chain : Option Nat
  /-- place in its chain, head 0 -/
  pos : Nat
  /-- the pass ends its chain, or is alone -/
  tail : Bool
  /-- the ledger has granted the pass's current (R93) -/
  granted : Bool
  phase : PassPhase
  loaded : Bool
  /-- the shadow weights: patterns and scales already decoded, keyed by K × 4 + n -/
  wts : List Val
  win : Int
  replays : Nat
  stat : Word
  /-- row of the first unmasked overflow and largest exponent, while a replay is due (R115) -/
  ovf : Option (Nat × Int)
  /-- accumulator NaN events of the sweep, held until it ends: (STREAM flag, row, column) (R62) -/
  nans : List (Bool × Nat × Nat)
  /-- statistics unit: MAX and SUM per column (R87) -/
  smax : List Nat
  ssum : List Nat
  refs : List Nat
  /-- what holds the pass at issue, a bit each: 1 a tile, 2 the drain path or the four-pass limit (R77, R85, R95) -/
  stall : Nat
  /-- the sparsity metadata latched with the weights (R69, R162) -/
  idx : List Nat := []
  /-- the row that streaming starts at: the resume row of a pre-empted pass, else 0 (R97) -/
  start : Nat := 0
  /-- the rows that have left the array since then, in order, not yet written to the destination -/
  rows : List RowRes := []
  /-- how many of them have been handed on over the spool link (R80) -/
  sent : Nat := 0
  /-- the pass has issued before: its window and tiles are fixed (R112) -/
  begun : Bool := false
  /-- tile elements as they were before a pre-empted sweep wrote them: (row, elements), for an unwind (R115) -/
  undo : List (Nat × List AccEl) := []
deriving DecidableEq, Repr

/-- A core's array, queue and accumulator file. -/
structure CoreRec where
  queue : List Pass := []
  air : List Pass := []
  tiles : List (Nat × Tile) := []
  /-- seed FIFO, at most 32 rows, the oldest first: the tag of the member that takes the row, and its four column sums (R80) -/
  seeds : List (Nat × List AccEl) := []
  /-- what the last fault of a pass here recorded: its code, and the offset the runtime restarts from (R97, R98) -/
  fault : Option (Code × DWord) := none
deriving DecidableEq, Repr

/-! ## Memory (12_memory.md) -/

/-- Marks of a 64-byte line of any store or tier: poison, and the domain it belongs to where that differs from its granule's record. -/
structure LineMark where
  poison : Bool := false
  own : Option Nat := none
  /-- a good line of a granule whose other lines are poisoned (R468) -/
  clean : Bool := false
deriving DecidableEq, Repr

/-- The base dies' record of a 2 MiB granule of physical addresses: the domain and generation its lines are sealed under (R334, R341, R466). -/
structure Gran where
  dom : Option Nat := none
  gen : Nat := 0
  narrow : Bool := false
  /-- the domain whose admission fill is pending (R334) -/
  fill : Option Nat := none
  /-- lines not marked clean are poisoned: a write met a retired generation (R468) -/
  poisoned : Bool := false
  /-- on the released list of a domain (R472) -/
  released : Option Nat := none
deriving DecidableEq, Repr

/-- One entry of a region table (R331), its four words. -/
structure Region where
  e0 : Word := 0
  e1 : Word := 0
  e2 : Word := 0
  e3 : Word := 0
deriving DecidableEq, Repr

/-- An entry of a write-combining buffer: its tag unit, listed bytes and age (R347). -/
structure WcEntry where
  /-- PA / 512 -/
  unit : Nat
  dom : Nat
  bytes : List (Nat × Byte) := []
  born : Nat := 0
deriving DecidableEq, Repr

/-! ## Control plane (15_control_plane.md) -/

/-- A control session (R433 to R443). -/
structure SessRec where
  isOpen : Bool := false
  /-- the session key (R435) -/
  key : Nat := 0
  /-- last accepted counter (R439) -/
  counter : DWord := 0
  /-- port of the last accepted frame: false A, true B -/
  port : Bool := false
  /-- instant of the last accepted frame -/
  lastAt : Nat := 0
  /-- tag and response of the last accepted frame (R439 check 4) -/
  lastTag : Nat := 0
  lastResp : Option (List Byte) := none
  /-- the data port: address, space, domain (R443) -/
  dpAddr : DWord := 0
  dpSpace : Nat := 0
  dpDom : Nat := 0
  /-- frames of alerts sent, and the next entry's SEQ to consider (R531) -/
  alertCounter : Nat := 1
  alertNext : Nat := 0
  /-- instant of the last ALERT frame -/
  alertAt : Option Nat := none
deriving DecidableEq, Repr

/-- An entry of the alert queue (R529). -/
structure Alert where
  seq : Nat
  time : Nat
  page : Nat
  sev : Nat
  slot : Nat
  event : Word
  code : Code
  info0 : Word
deriving DecidableEq, Repr

/-- What the module sends, recorded in order (log entry 15, DESIGN CHOICE). -/
inductive Output where
  /-- a control-plane frame or entry response: session, status, value, payload -/
  | response (se : Nat) (status : Code) (value : DWord) (data : List Byte)
  /-- a frame on an Ethernet port: port, kind of frame, its fields as numbers, payload -/
  | frame (port : Nat) (kind : String) (fields : List Nat) (data : List Byte)
  /-- a request on an internal or external bus: name and fields -/
  | note (what : String) (fields : List Nat)
deriving DecidableEq, Repr

/-! ## Fuses and enabled units (00_scope.md R5 to R10, R26, R27; 21_register_index.md R590, R592) -/

/-- What a physical cluster is used for. -/
inductive CluUse where
  | enabled | spare | off
deriving DecidableEq, Repr

/-- Fuse contents and the maps of enabled units (log entry 10, DESIGN CHOICE). -/
structure FuseRec where
  /-- 1 F, 2 S, 3 N (R8) -/
  grade : Nat := 1
  serial : DWord := 0
  mac : BitVec 48 := 0
  rev : BitVec 4 := 0
  /-- PROD_TEST_CLOSED (R581) -/
  prodClosed : Bool := true
  /-- clusters whose use differs from the grade's layout -/
  clu : List (Nat × CluUse) := []
  /-- logical cores that a spare serves, keyed cluster × 128 + logical core -/
  core : List (Nat × Nat) := []
  /-- cores mapped out by repair, keyed cluster × 128 + physical core -/
  coreOff : List (Nat × Bool) := []
  /-- array rows that applied repair records map out, by core (R103, R523) -/
  rows : List (Nat × Nat) := []
deriving DecidableEq, Repr



/-! ## Save areas (09_contexts.md R270) -/

/-- The on-die state a save holds, by logical rank: cores, and the bytes and marks of the claimed stores relative to their claim. -/
structure SaveRec where
  /-- physical clusters of the claim when it was saved, by rank (R271) -/
  clus : List Nat := []
  /-- (cluster rank, logical core) as rank × 128 + core, with the core's record -/
  cores : List (Nat × CoreRec) := []
  /-- (rank × 2^24 + offset): core stores at offset 2^21 + core × 2^14, the cluster store at offset 0 -/
  bytes : List Host.Cell := []
  marks : List (Nat × LineMark) := []
deriving DecidableEq, Repr

/-! ## The current ledger (10_current_ledger.md) -/

/-- One reservation, asked for or granted (R284, R285): the unit it pays for. -/
structure LUnit where
  acct : Nat
  /-- contender index: physical cluster of the die, or 375 and above for an activity (R287) -/
  ix : Nat
  /-- owning context and command; activities have none -/
  owner : Option (Nat × Nat) := none
  /-- physical core, for a core unit -/
  core : Option Nat := none
  /-- mover number or other index of the unit in its cluster -/
  sub : Nat := 0
  iclass : Nat
  /-- billed domain, 1024 for the operator (R291) -/
  dom : Nat := 1024
  prio : Nat := 0
deriving DecidableEq, Repr

/-- A request of one contender: all its units are granted together (R285). -/
structure LReq where
  acct : Nat
  ix : Nat
  prio : Nat
  dom : Nat
  units : List LUnit
deriving DecidableEq, Repr

/-- What the ledger keeps for a compute rail beyond its registers; times are in ledger ticks (R292 to R295). -/
structure RailRec where
  prof : Option Nat := none
  /-- segment of the profile; none before I + lead -/
  seg : Option Nat := none
  /-- guide in fiftieths of an LU -/
  guide : Nat := 0
  /-- ticks of lead, or of hold at the target -/
  timer : Nat := 0
  lead : Nat := 0
  /-- billed domain of the profile -/
  profDom : Nat := 1024
  /-- ticks since the account last changed -/
  still : Nat := 0
  /-- ticks since LSTEP_N last asserted -/
  age : Nat := 0
  /-- LSTEP_N has been asserted for the lead -/
  leadDone : Bool := false
  /-- a throttle release waits for the lead (R295) -/
  relHold : Bool := false
  /-- a rise that the account has not yet made stands behind LSTEP_N (R293) -/
  rise : Bool := false
  /-- the fall after a throttle recognition is due (R294) -/
  hot : Bool := false
  /-- sensors that cap the account (R579) -/
  caps : List Nat := []
  /-- ballast debts by domain (R291) -/
  debts : List (Nat × Nat) := []
  /-- modelled work of the last tick (R287) -/
  modelled : Nat := 0
  /-- frozen units of the last tick: (cluster index, core or none, kind) (R597) -/
  frozen : List (Nat × Option Nat × Nat) := []
  /-- fifths of an array cycle not yet counted in CORE_FREEZE_LEDGER: a tick is 2.2 cycles (R4, R82) -/
  fifths : Nat := 0
  /-- context whose release last left ballast (R288) -/
  freed : Option Nat := none
  /-- ballast units of the last tick: (cluster index, core or none, kind); kind 0 a core, 1 a vector engine, 2 a cluster (R288) -/
  units : List (Nat × Option Nat × Nat) := []
deriving DecidableEq, Repr

/-- THROTTLE_N sampling (R294 to R296), in ledger ticks. -/
structure ThrRec where
  low : Nat := 0
  high : Nat := 0
  throttled : Bool := false
  /-- toggles of the present episode -/
  toggles : Nat := 0
  held : Bool := false
  /-- LSTEP_N has been asserted for the release in the present high period (R295) -/
  warned : Bool := false
  /-- a low run has ended a release before its rise began (R295) -/
  broken : Bool := false
deriving DecidableEq, Repr

/-! ## Fabric time (11_fabric_time.md) -/

/-- The time unit beyond its registers (R308 to R313, R454). -/
structure TimeRec where
  /-- INC − 1 ns in units of 2^-40 ns -/
  adj : Int := 0
  /-- consecutive measurements within 100 ns -/
  good : Nat := 0
  /-- E0 of the holdover bound -/
  e0 : Nat := 0
  /-- the source has returned during HOLDOVER -/
  back : Bool := false
  /-- last accepted edge of PPS_IN, consecutive outliers, and PPS_LOST standing -/
  ppsLast : Option Nat := none
  outliers : Nat := 0
  ppsLost : Bool := false
  /-- how far the step out of ACQUIRING set the counter back: timers count fabric time and this (R304, R315) -/
  setBack : Nat := 0
  /-- since when no valid master has been held on the port in use, on the timers' scale; none while one is held (R308) -/
  noMaster : Option Nat := some 0
  /-- the whole second, in ns, that the last forward step crossed (R313) -/
  ppsSkip : Option Nat := none
  /-- a two-step Pdelay_Resp that waits for its Follow_Up: sequence, receipt, the request's receipt and correction (R314, R454) -/
  pdelay : Option (Nat × Nat × Nat × Int) := none
  /-- PTP has failed over since the last accepted Sync -/
  failed : Bool := false
  /-- instant of the last accepted Sync -/
  syncAt : Nat := 0
  /-- the PTP port has lost its link -/
  linkLost : Bool := false
  /-- the selected master's data set, as one number; smaller is better -/
  rank : Nat := 0
  /-- a two-step Sync that waits for its Follow_Up: sequence and receipt -/
  sync2 : Option (Nat × Nat) := none
  /-- departure of the delay request under way: sequence and instant -/
  delayAt : Option (Nat × Nat) := none
  /-- receipt and origin of the last measured Sync: t2 and t1 -/
  lastSync : Option (Nat × Nat) := none
  /-- the PPS_OUT pin and the instant it rose -/
  ppsOut : Bool := false
  ppsOutAt : Nat := 0
deriving DecidableEq, Repr

/-- A running fabric-time timeout (R315). -/
structure Timeout where
  due : Nat := 0
  fired : Bool := false
deriving DecidableEq, Repr



/-! ## Collectives and exchange (13_collectives.md) -/

/-- A tensor table entry (R362). -/
structure TEntry where
  elems : Nat
  kind : Nat
  op : Nat
  rmode : Nat
  destUpd : Bool
  fmt : Nat
  chunk : Nat
  sem : Nat
  upd : Nat
  salt : Nat
  record : Nat
  dest : Nat
  cap : Nat
  lenTab : Nat
  /-- reserved bits and bytes, together -/
  rsv : Nat
deriving DecidableEq, Repr

/-- A send log record: a resolved source and the tensor element it starts at (R372). -/
structure SendSrc where
  o : Opnd
  first : Nat
  /-- the offset of its RS_SEND in the stream (R63) -/
  off : Nat
deriving DecidableEq, Repr

/-- An instance of a collective at this member (R364 to R377). -/
structure Inst where
  tensor : Nat
  e : TEntry
  redo : Nat := 0
  scale : Int := 0
  /-- the send cursor, in elements -/
  cursor : Nat := 0
  /-- wire bits appended and not yet sent: value and count -/
  tailV : Nat := 0
  tailN : Nat := 0
  /-- next chunk to send -/
  next : Nat := 0
  /-- running local amax and saturation of the present chunk (R40, R58) -/
  amax : Nat := 0
  sat : Bool := false
  log : List SendSrc := []
  landed : List Nat := []
  /-- AG_VAR: bytes by rank -/
  lens : List (Nat × Nat) := []
  /-- largest LOCAL_AMAX of landed contributions or results -/
  inAmax : Nat := 0
  endClean : Bool := false
  /-- AG_VAR: the short slot has been padded and sent -/
  closed : Bool := false
  done : Bool := false
deriving DecidableEq, Repr

/-- The endpoint's record of a group slot beyond its registers. -/
structure GrpRec where
  /-- the window of the current step is open -/
  winOpen : Bool := false
  winAt : Nat := 0
  /-- step of the last window (R374) -/
  lastStep : Option Nat := none
  /-- the member's abort flag and its code (R273, R379) -/
  abort : Option Code := none
  /-- an ABORT has been received or decided -/
  aborted : Bool := false
  insts : List Inst := []
  /-- VOTE field of COLL_GRP_STATE: 0 none, 1 pending, 2 commit, 3 abort -/
  vote : Nat := 0
  voteSent : Bool := false
  unresolved : Bool := false
  late : Bool := false
  noRank : Bool := false
  /-- an abort decision has closed the window of this replay's step: later sends and VOTEs of the step do not wait for it (R379, R380) -/
  shut : Bool := false
deriving DecidableEq, Repr

/-- A send command or copy hand-over that the endpoint holds (R371, R372, R374, R409). -/
structure SendRec where
  ctx : Nat
  /-- the command in flight; none for the update die's copy -/
  id : Option Nat
  off : Nat
  slot : Nat
  tensor : Nat
  rs : Bool
  o : Opnd
  /-- the LOCAL_AMAX of a copy's contributions (R409) -/
  amax : Option Nat := none
  waitLog : Bool := false
  done : Bool := false
deriving DecidableEq, Repr

/-- A PARCEL_SEND in progress (R384). -/
structure PclRec where
  parcel : Nat
  ctx : Nat
  id : Nat
  o : Opnd
  granted : Option Nat := none
deriving DecidableEq, Repr

/-- A landing entry's requests and slots (R385, R386). -/
structure LandRec where
  /-- requests waiting -/
  pend : Nat := 0
  granted : List Nat := []
  /-- occupied slots, oldest first -/
  occ : List Nat := []
deriving DecidableEq, Repr

/-- A schedule slot's staged products and outputs (R420 to R422). -/
structure SchedStage where
  slot : Nat
  p1 : Nat
  p2 : Nat
  outs : List Nat
deriving DecidableEq, Repr

/-- What a context's step has gathered (R380, R412 to R415, R534). -/
structure StepRec where
  firstErr : Option Code := none
  nan : Bool := false
  skew : Bool := false
  incomplete : Bool := false
  decision : Option Bool := none
  /-- the commit instant has come -/
  commit : Bool := false
  unresolved : Bool := false
  sched : List SchedStage := []
  /-- the VOTEs in flight, in stream order: command and slot -/
  votes : List (Nat × Nat) := []
  /-- the first VOTE of the replay has run its twin exchange -/
  twinRun : Bool := false
  /-- the twin group's slot, once armed (R533) -/
  twin : Option Nat := none
  twinSent : Bool := false
  twinPeer : Option Nat := none
  /-- h(e, c) by entry × 2^32 + chunk (R534) -/
  digests : List (Nat × Nat) := []
  /-- wire flushes staged by update tensor entry (R418) -/
  flushes : List (Nat × Nat) := []
deriving DecidableEq, Repr

/-! ## The update die (14_update_die.md) -/

/-- An armed update tensor entry (R395). -/
structure ArmRec where
  ctx : Nat
  ent : Nat
  /-- the offset of its UPD_TENSOR in the stream (R63) -/
  off : Nat
  /-- the 128 bytes of the entry, little-endian -/
  v : Nat
  cur : Nat
  alt : Nat
  copy : Nat
  scalars : List Nat
  /-- the RS instance that feeds it: group slot and tensor -/
  src : Option (Nat × Nat) := none
  /-- not updated in this step (R396, R410) -/
  bad : Bool := false
  aborted : Bool := false
  /-- the copy has been handed over (R409) -/
  handed : Bool := false
  chunks : List Nat := []
  amax : Nat := 0
  silent : Bool := true
  frozen : Nat := 0
deriving DecidableEq, Repr

/-- A result chunk handed to the update die (R365, R406). -/
structure Landing where
  slot : Nat
  tensor : Nat
  redo : Nat
  step : DWord
  chunk : Nat
  amax : Nat
  scale : Int
  data : List Byte
  /-- the update pipe it engages (R393) -/
  pipe : Option Nat := none
deriving DecidableEq, Repr

/-! ## Ports, queue pairs, rings and control frames (15_control_plane.md) -/

/-- A queue pair beyond its registers (R445, R446, R458). -/
structure QpRec where
  /-- requests sent and not acknowledged -/
  outs : Nat := 0
  /-- instant from which the ACK timer runs -/
  sentAt : Nat := 0
  retries : Nat := 0
  /-- rate as a fraction of 2^20 -/
  rate : Nat := 1048576
  /-- instant of the last change of rate -/
  rateAt : Nat := 0
  /-- instant of the last CNP returned -/
  cnpTx : Option Nat := none
deriving DecidableEq, Repr

/-- An open checkpoint (R450 to R452). -/
structure Ckpt where
  n : Nat
  step : DWord
  /-- UPD_CTX_EPOCH.CUR latched at open -/
  cur : Bool
  bytes : Nat := 0
  /-- CRC-64 register over the data so far -/
  crc : Nat := 2 ^ 64 - 1
  segs : Nat := 0
  pushed : Bool := false
  /-- abandoned, not complete (R452) -/
  abandoned : Bool := false
  /-- writes awaiting acknowledgement, oldest first: the CKPT_PUSH they end, if any -/
  unacked : List (Option (Nat × Nat)) := []
deriving DecidableEq, Repr

/-- A ring beyond its registers (R447 to R452). -/
structure RingRec where
  polledAt : Option Nat := none
  /-- a read of the producer index is in flight -/
  polling : Bool := false
  producer : Nat := 0
  /-- records asked for, landed and released -/
  asked : Nat := 0
  landed : Nat := 0
  freed : Nat := 0
  failed : Bool := false
  /-- number of the next checkpoint -/
  seq : Nat := 0
  /-- the open checkpoint -/
  ckpt : Option Ckpt := none
  /-- checkpoints that are open no more and await acknowledgements, oldest first (R450) -/
  closing : List Ckpt := []
deriving DecidableEq, Repr

/-- A priority that a received PFC frame has paused: from and until, in ns (R428). -/
structure PfcRec where
  from' : Nat := 0
  until' : Nat := 0
deriving DecidableEq, Repr

/-- An operation entry of a control frame (R440). -/
structure CtlEntry where
  op : Nat
  len : Nat := 0
  addr : Nat := 0
  value : Nat := 0
  data : List Byte := []
deriving DecidableEq, Repr

/-- A response entry. -/
structure CtlResp where
  op : Nat
  addr : Nat
  value : Nat
  data : List Byte := []
deriving DecidableEq, Repr

/-- A frame, or a lone entry, that is being applied (R441, R442). -/
structure FrameRec where
  se : Nat
  port : Nat
  /-- false: a lone entry, answered without a control frame -/
  framed : Bool
  counter : Nat := 0
  /-- number of entries of the frame -/
  total : Nat := 1
  rest : List CtlEntry := []
  done : List CtlResp := []
  /-- deadline of the POLL32 at the head, if it waits -/
  poll : Option Nat := none
deriving DecidableEq, Repr

/-- What waits for the frame in progress. -/
inductive Job where
  | frame (port : Nat) (secured : Bool) (bytes : List Byte)
  | entry (se : Nat) (e : CtlEntry)
deriving DecidableEq, Repr

/-! ## Security (16_security.md) -/

/-- An access log entry (R484). -/
structure AccEntry where
  seq : Nat
  time : Nat
  kind : Nat
  source : Nat
  count : Nat
  length : Nat
  addr : Nat
deriving DecidableEq, Repr

/-- The access log of a domain: the reset entry stands first (R483). -/
structure LogRec where
  next : Nat := 1
  entries : List AccEntry := [⟨0, 0, 0, 0, 1, 0, 0⟩]
deriving DecidableEq, Repr

/-- What a firmware slot of the flash holds, as the checks of R478 find it. -/
structure FwSlot where
  /-- fields, key hash and signature are good -/
  ok : Bool := true
  svn : Nat := 0
  /-- SHAKE256 measurement, 32 bytes as a number -/
  meas : Nat := 0
deriving DecidableEq, Repr

/-- A session's attestation state (R482). -/
structure AttRec where
  busy : Bool := false
  done : Bool := false
  /-- nonce, and the domain of the section, latched at GO -/
  nonce : List Byte := []
  dom : Option Nat := none
  report : List Byte := []
deriving DecidableEq, Repr

/-- An eFuse pulse under way (R481, R545). -/
structure NvRec where
  unit : Nat
  /-- bits still to burn, this pulse included -/
  bits : Nat
  /-- a reset waits in the non-volatile domain -/
  held : Bool := false
deriving DecidableEq, Repr

/-! ## Metrology (17_metrology.md) -/

/-- Totals of the metrology unit in 0.1 pJ: they fill 96-bit accumulators (R492, R497). -/
structure MetTotals where
  total : Nat := 0
  rails : List (Nat × Nat) := []
  /-- accounts by domain, 1,024 for the operator; ballast sub-accounts -/
  work : List (Nat × Nat) := []
  ballast : List (Nat × Nat) := []
  time : Nat := 0
  reportSeq : Nat := 0
deriving DecidableEq, Repr

/-- An audit log entry (R506). -/
structure AuditEntry where
  seq : Nat
  time : Nat
  kind : Nat
  data : Nat
deriving DecidableEq, Repr

/-- A MET_SNAPSHOT in the queue: context, command and step (R509). -/
structure SnapRec where
  ctx : Nat
  id : Nat
  o : Opnd
  step : DWord
deriving DecidableEq, Repr

/-- The metrology unit (R491 to R513). -/
structure MetRec where
  running : Bool := false
  tot : MetTotals := {}
  /-- the two checkpoint copies: sequence and totals, none when not valid -/
  copyA : Option (Nat × MetTotals) := none
  copyB : Option (Nat × MetTotals) := none
  sealCtr : Nat := 0
  powerOns : Nat := 0
  inClass : Bool := true
  clockFault : Bool := false
  faultEver : Bool := false
  gap : Bool := false
  restoreFailed : Bool := false
  calMode : Bool := false
  /-- a SAMPLE_FAULT entry has been written in this interval -/
  faultLogged : Bool := false
  log : List AuditEntry := []
  logNext : Nat := 0
  calId : Nat := 0
  /-- measurement of the metrology image that ran before -/
  image : Option Nat := none
  /-- a boot found unit 6 invalid: the next image to run writes a FIRMWARE entry (R502) -/
  firmwareDue : Bool := false
  report : List Byte := []
  snaps : List SnapRec := []
  /-- work charges and weights since the last sample, in pC: rail × 2048 + domain, 1,024 for the operator (R497, R498) -/
  charge : List (Nat × Nat) := []
deriving DecidableEq, Repr

/-! ## Reliability (18_reliability.md) -/

/-- A repair record: kind (0 row, 1 core, 2 cluster), CLU instance, physical core and row (R523). -/
structure Repair where
  kind : Nat
  clu : Nat
  core : Nat
  row : Nat
deriving DecidableEq, Repr

/-! ## Reset (19_reset_clocks.md) -/

/-! ## Sensors and test access (20_electrical.md) -/

/-- The module TAP (R581, R582). -/
structure TapRec where
  ir : Nat := 1
  seg : Nat := 0
  /-- boundary cells as captured or preloaded, and as they drive the pins -/
  cells : List Bool := []
  driven : Option (List Bool) := none
  hiz : Bool := false
  clamp : Bool := false
  /-- what the last scan shifts out -/
  shift : List Bool := []
deriving DecidableEq, Repr

/-- The state of the module. -/
structure State where
  /-- waiting commands, first in first out (the model's own) -/
  pending : List Instr := []
  /-- index of the next free value (the model's own) -/
  fresh : Nat := 0
  /-- registers that do not hold their reset value, keyed by control address and window (R12) -/
  regs : List (Nat × Word) := []
  /-- per-session selections and latches, keyed 2^28 × session + control address (R433) -/
  sregs : List (Nat × Word) := []
  ctx : List (Nat × CtxRec) := []
  cores : List (Nat × CoreRec) := []
  /-- bytes of the tiers and on-die stores that are not zero -/
  mem : List Host.Cell := []
  /-- marks of 64-byte lines, keyed address / 64 -/
  marks : List (Nat × LineMark) := []
  /-- granule records, keyed PA / 2 MiB -/
  grans : List (Nat × Gran) := []
  /-- staged and active region tables, keyed domain × 4096 + entry; active lists per domain -/
  staged : List (Nat × Region) := []
  active : List (Nat × List Region) := []
  sess : List (Nat × SessRec) := []
  alerts : List Alert := []
  /-- SEQ of the next push or drop (R529) -/
  alertSeq : Nat := 0
  /-- fabric time: whole nanoseconds, and the fraction in 2^-40 ns (R303) -/
  now : DWord := 0
  frac : BitVec 40 := 0
  /-- pointers of tie-rule arbiters, keyed by arbiter (R260) -/
  ties : List (Nat × Nat) := []
  /-- staged amaxes of stored tensors: (context, scale record) and pattern (R59, R60) -/
  amax : List ((Nat × Nat) × Nat) := []
  out : List Output := []
  fuse : FuseRec := {}
  /-- domains whose tenant scrub runs (R473) -/
  scrub : List Nat := []
  /-- bytes of mover traffic toward the next unit of 256, keyed cluster × 4 + mover (R154) -/
  moverRem : List (Nat × Nat) := []
  /-- saved on-die state per context (R270) -/
  saves : List (Nat × SaveRec) := []
  /-- reservations asked for, oldest first, and granted -/
  lreqs : List LReq := []
  lresv : List LUnit := []
  rails : List (Nat × RailRec) := []
  thr : ThrRec := {}
  /-- contexts with an armed floor (R290) -/
  armed : List Nat := []
  /-- ballast charge in pC not yet a whole nC, and not yet billed by metrology: keyed rail × 2048 + domain (R291) -/
  ballastPc : List (Nat × Nat) := []
  ballastBill : List (Nat × Nat) := []
  time : TimeRec := {}
  /-- running fabric-time timeouts, keyed by kind × 2^32 + index -/
  timeouts : List (Nat × Timeout) := []
  /-- calendar entries that will count as late (R319, R322) -/
  lateEnt : List Nat := []
  /-- write-combining buffers, oldest entry first (R347) -/
  wc : List WcEntry := []
  /-- flushes by fence not yet a whole unit of 16, keyed by stack (R356) -/
  wcFence : List (Nat × Nat) := []
  /-- tag lines that the base dies' tag caches hold, by stack, channel, form and slot, and whether they are modified (R345) -/
  tags : List (Nat × Bool) := []
  /-- patrol passes completed over each package of the slow tier (R353) -/
  slowPasses : List (Nat × Nat) := []
  /-- lines read and written in the slow tier not yet a whole unit of 1,024, keyed package × 2 + direction (R358) -/
  slowRem : List (Nat × Nat) := []
  /-- line slots that patrol corrected, and the pass of the last correction (R351) -/
  patrol : List (Nat × Nat) := []
  /-- spare slots used, keyed by stack or package × 64 + channel × 2 + pseudo-channel (R351) -/
  sparesUsed : List (Nat × Nat) := []
  /-- group slots -/
  grps : List (Nat × GrpRec) := []
  sends : List SendRec := []
  parcels : List PclRec := []
  lands : List (Nat × LandRec) := []
  /-- step records, keyed by context -/
  steps : List (Nat × StepRec) := []
  armRecs : List ArmRec := []
  landq : List Landing := []
  /-- queue pairs, and rings keyed as MGMT_RING_SEL numbers them -/
  qps : List (Nat × QpRec) := []
  rings : List (Nat × RingRec) := []
  /-- paused priorities keyed port × 8 + priority, ns of pause and frames not yet a whole unit (R428, R459) -/
  pfc : List (Nat × PfcRec) := []
  pfcNs : List (Nat × Nat) := []
  /-- frames not yet a whole unit of 1,024, keyed port × 2 + direction -/
  ethRem : List (Nat × Nat) := []
  frame : Option FrameRec := none
  jobs : List Job := []
  /-- highest OPEN counters accepted, in MRAM, by domain or 1,024 for the operator role (R435) -/
  openCnt : List (Nat × Nat) := []
  /-- module nonces drawn -/
  nonces : Nat := 0
  logs : List (Nat × LogRec) := []
  /-- access-log entries of the present control frame: domain × 16 + kind and SEQ (R484) -/
  logOpen : List (Nat × Nat) := []
  slots : List (Nat × FwSlot) := []
  /-- images that run, and burned thermometer bits, by unit (R478) -/
  running : List (Nat × FwSlot) := []
  svnMin : List (Nat × Nat) := []
  /-- an image being written to its slot (R481) -/
  fwBusy : Option (Nat × FwSlot) := none
  att : List (Nat × AttRec) := []
  nv : Option NvRec := none
  met : MetRec := {}
  /-- pending repair records, in MRAM (R523) -/
  repairs : List Repair := []
  /-- units with one fresh uncorrectable error: key and instant (R523) -/
  ueSeen : List (Nat × Nat) := []
  /-- fatal escalation: the instant the reset follows, if one is under way (R526) -/
  fatal : Option Nat := none
  /-- consecutive retries of the flit a die-to-die link waits for, keyed first die × 16 + second (R519) -/
  linkRetry : List (Nat × Nat) := []
  /-- corrected errors counted since the last CE_STORM check (R532) -/
  ceNew : Nat := 0
  /-- cause of a warm-class reset whose drogue ramp is under way (R297, R548) -/
  warm : Option Nat := none
  /-- PWROK is recognised high -/
  powered : Bool := false
  /-- RESET_N is recognised low -/
  rstLow : Bool := false
  /-- dies staged in this start (R554) -/
  stagedDies : List Nat := []
  /-- the present start is warm -/
  warmStart : Bool := false
  /-- a warm-class reset that is not yet entered has waited for a pulse (R545) -/
  deferred : Bool := false
  /-- levels of STATUS and of ALERT_N that a warm-class reset holds, until firmware writes STATUS and until READY (R549) -/
  heldStatus : Option Nat := none
  heldAlert : Option Bool := none
  /-- a trip sends the warm-class reset in progress to THERMAL_HOLD (R550) -/
  hold : Bool := false
  /-- last reading of each sensor in 1/16 degree (R578) -/
  temps : List (Nat × BitVec 16) := []
  /-- sensors that hold THERM_TRIP_N asserted -/
  trips : List Nat := []
  /-- consecutive polls each regulator has missed (R571) -/
  pmbMiss : List (Nat × Nat) := []
  /-- instant of the last AVSBus write of each rail (R570) -/
  avsAt : List (Nat × Nat) := []
  tap : TapRec := {}
deriving DecidableEq, Repr

/-- The machine right after reset: power-on reset recognised, nothing started (R542, R553; log entry 14, DEDUCED). -/
def State.reset : State := { regs := [(0x3040, 1#32), (0x3044, 1#32)] }

end Sys2Proof.Machine
end

