-- ==== Sys2Proof/Machine/Ops.lean ====
section
/-! DEFINITION. The named operations over the state: registers, page errors and alerts, memory and translation, clusters and domains. -/

namespace Sys2Proof.Machine

open Sys2Proof

/-! ## Registers -/

/-- The stored value of the register with a key. -/
def State.rd (s : State) (k : Nat) : Word := mapGet (resetReg k) s.regs k

/-- Store a register. -/
def State.wr (s : State) (k : Nat) (v : Word) : State :=
  { s with regs := mapSet (resetReg k) s.regs k v }

/-- A 64-bit pair, bits [31:0] at the lower offset (R13). -/
def State.rd64 (s : State) (k : Nat) : DWord := (s.rd (k + 4) ++ s.rd k : BitVec (32 + 32))

/-- Store a 64-bit pair. -/
def State.wr64 (s : State) (k : Nat) (v : DWord) : State :=
  (s.wr k (v.setWidth 32)).wr (k + 4) ((v >>> 32).setWidth 32)

/-- Add to a saturating 32-bit counter. -/
def State.inc (s : State) (k : Nat) (n : Nat := 1) : State := s.wr k (satAdd (s.rd k) n)

/-- Add to a saturating 64-bit counter. -/
def State.inc64 (s : State) (k : Nat) (n : Nat := 1) : State := s.wr64 k (satAdd (s.rd64 k) n)

/-- Add to a saturating field of a register. -/
def State.incFld (s : State) (k lo len : Nat) (n : Nat := 1) : State :=
  s.wr k (setFld (s.rd k) lo len (min (2 ^ len - 1) (fld (s.rd k) lo len + n)))

/-- Write a field of a register. -/
def State.wrFld (s : State) (k lo len v : Nat) : State := s.wr k (setFld (s.rd k) lo len v)

/-- Write one bit of a register. -/
def State.wrBit (s : State) (k i : Nat) (b : Bool) : State := s.wr k (setBit (s.rd k) i b)

/-- Clear a list of registers. -/
def State.clearRegs (s : State) (ks : List Nat) : State := ks.foldl (fun t k => t.wr k 0) s

/-- Registers at offsets `a`, `a+4`, … up to `b` of a page. -/
def offRange (p a b : Nat) : List Nat := (List.range ((b - a) / 4 + 1)).map fun i => reg p (a + 4 * i)

/-- A per-session register: selections and latches (R433). -/
def State.srd (s : State) (se k : Nat) : Word := mapGet 0 s.sregs (se * 2 ^ 28 + k)

/-- Store a per-session register. -/
def State.swr (s : State) (se k : Nat) (v : Word) : State :=
  { s with sregs := mapSet 0 s.sregs (se * 2 ^ 28 + k) v }

/-- The Ed448 signature of a message: 114 bytes, whatever the free value holds (R507; log entry 7, PRESUMED). -/
def signature (key : Nat) (m : List Byte) : List Byte := (Config.ed448Sign key m ++ List.replicate 114 0).take 114

/-- KMAC256 of n bits, whatever the free value holds (R438; log entry 7, PRESUMED). -/
def kmac256 (key m : List Byte) (n : Nat) (label : List Byte) : Nat := Config.kmac256 key m n label % 2 ^ n
/-- SHAKE256 of n bytes, whatever the free value holds (log entry 7, PRESUMED). -/
def shake256 (m : List Byte) (n : Nat) : List Byte := (Config.shake256 m n ++ List.replicate n 0).take n

/-! ## Records -/

/-- The front-end record of a context. -/
def State.getCtx (s : State) (c : Nat) : CtxRec := mapGet {} s.ctx c
/-- Replace the front-end record of a context. -/
def State.setCtx (s : State) (c : Nat) (r : CtxRec) : State := { s with ctx := mapSet {} s.ctx c r }
/-- Change the front-end record of a context. -/
def State.modCtx (s : State) (c : Nat) (f : CtxRec → CtxRec) : State := s.setCtx c (f (s.getCtx c))

/-- Key of a core: cluster and physical core. -/
def coreKey (cl core : Nat) : Nat := cl * 128 + core
/-- The record of a core. -/
def State.getCore (s : State) (k : Nat) : CoreRec := mapGet {} s.cores k
/-- Replace the record of a core. -/
def State.setCore (s : State) (k : Nat) (r : CoreRec) : State := { s with cores := mapSet {} s.cores k r }
/-- Change the record of a core. -/
def State.modCore (s : State) (k : Nat) (f : CoreRec → CoreRec) : State := s.setCore k (f (s.getCore k))

/-- The record of a session. -/
def State.getSess (s : State) (i : Nat) : SessRec := mapGet {} s.sess i
/-- Replace the record of a session. -/
def State.setSess (s : State) (i : Nat) (r : SessRec) : State := { s with sess := mapSet {} s.sess i r }
/-- Change the record of a session. -/
def State.modSess (s : State) (i : Nat) (f : SessRec → SessRec) : State := s.setSess i (f (s.getSess i))

/-- Record a message the module sends (log entry 15, DESIGN CHOICE). -/
def State.emit (s : State) (o : Output) : State := { s with out := s.out ++ [o] }

/-- A free value of 64 bits; the index advances (log entry 9, DESIGN CHOICE). -/
def State.draw (s : State) : DWord × State := (Config.freeWord s.fresh, { s with fresh := s.fresh + 1 })

/-- Add to the charge or weight of a domain on a rail, in pC (R497, R498). -/
def State.addCharge (s : State) (rail dom pc : Nat) : State :=
  if pc = 0 then s else { s with met := { s.met with charge := addTo s.met.charge (rail * 2048 + dom) pc } }

/-- Count corrected errors in a 32-bit counter, and toward CE_STORM (R515, R532). -/
def State.countCE (s : State) (k n : Nat) : State := ({ s with ceNew := s.ceNew + n } : State).inc k n

/-- The scale that running timers count on: fabric time, with what the step out of ACQUIRING set it back by, so that each keeps its remaining duration (R304, R315). -/
def State.timer (s : State) : Nat := s.now.toNat + s.time.setBack

/-- The last instant at which fabric-time timeouts were evaluated, a whole multiple of 64 ns, on the timers' scale (R315). -/
def State.evaluated (s : State) : Nat := s.now.toNat / 64 * 64 + s.time.setBack

/-! ## Events, errors and the alert queue (R430, R431, R527, R528) -/

/-- Bit ERROR of EVENT. -/
def evError : Nat := 30
/-- Bit INVALID_WRITE of EVENT. -/
def evInvalid : Nat := 31

/-- Entries up to which the alert queue takes a severity (R529). -/
def alertLimit (sev : Nat) : Nat := if sev = 0 then 240 else if sev = 1 then 255 else 256

/-- The queue entry of a page's event (R529). -/
def State.alertOf (s : State) (page sev : Nat) (bits : Word) : Alert :=
  { seq := s.alertSeq, time := s.now.toNat, page := page, sev := sev,
    slot := fld (s.rd (reg pgSTRP Off.STRP_VALUE)) 2 2, event := bits,
    code := (s.rd (reg page Off.ERR_CODE)).setWidth 16, info0 := s.rd (reg page Off.ERR_INFO0) }

/-- Sequence numbers that a dropped entry takes: QUEUE_OVERFLOW rises with it, and where it is enabled its own NOTICE finds no place either (R528, R529). -/
def State.dropCount (s : State) : Nat :=
  if !bit (s.rd (reg pgERR Off.EVENT)) 1 && bit (s.rd (reg pgERR Off.EVENT_EN)) 1 then 2 else 1

/-- An entry that finds no place is dropped and counted (R529). -/
def State.dropAlert (s : State) : State :=
  let t : State := { s.inc (reg pgERR Off.ERR_Q_DROPPED) s.dropCount with alertSeq := s.alertSeq + s.dropCount }
  t.wr (reg pgERR Off.EVENT) (s.rd (reg pgERR Off.EVENT) ||| 2#32)

/-- Push an entry on the alert queue, or drop it when the severity finds no place (R528, R529). -/
def State.pushAlert (s : State) (page sev : Nat) (bits : Word) : State :=
  if s.alerts.length < alertLimit sev then { s with alerts := s.alerts ++ [s.alertOf page sev bits], alertSeq := s.alertSeq + 1 }
  else s.dropAlert

/-- Set EVENT bits of a page; enabled bits that rise push one entry (R528). -/
def State.raiseBits (s : State) (page : Nat) (bits : Word) : State :=
  let old := s.rd (reg page Off.EVENT)
  let rose := bits &&& ~~~old &&& s.rd (reg page Off.EVENT_EN)
  let s := s.wr (reg page Off.EVENT) (old ||| bits)
  if rose = 0 then s else s.pushAlert page (if bit rose evError then 1 else 0) rose

/-- Set one EVENT bit of a page. -/
def State.raise (s : State) (page i : Nat) : State := s.raiseBits page (BitVec.ofNat 32 (2 ^ i))

/-- Record an error on a page, the first one only, and set ERROR with the given event bits (R431). -/
def State.pageErr (s : State) (page : Nat) (code : Code) (info0 : Nat := 0) (info1 : Nat := 0) (bits : Word := 0) : State :=
  let s := if bit (s.rd (reg page Off.EVENT)) evError then s
    else ((s.wr (reg page Off.ERR_CODE) (code.setWidth 32)).wr (reg page Off.ERR_INFO0) (BitVec.ofNat 32 info0)).wr
      (reg page Off.ERR_INFO1) (BitVec.ofNat 32 info1)
  s.raiseBits page (bits ||| BitVec.ofNat 32 (2 ^ evError))

/-- A refused write sets INVALID_WRITE of its page (R431). -/
def State.invalidWrite (s : State) (page : Nat) : State := s.raise page evInvalid

/-! ## Enabled units, partitions and domains -/

/-- What a physical cluster is used for: the grade's layout unless the fuses or repair say otherwise (R26, R27; log entry 10, DESIGN CHOICE). -/
def State.cluUse (s : State) (cl : Nat) : CluUse :=
  let n := cl % 375
  let en := if s.fuse.grade = 2 then 320 else 360
  mapGet (if n < en then .enabled else if n < en + 15 then .spare else .off) s.fuse.clu cl

/-- Is a cluster enabled? -/
def State.cluEnabled (s : State) (cl : Nat) : Bool := decide (s.cluUse cl = .enabled)

/-- Physical core of a logical core of a cluster (R26, R27). -/
def State.physCore (s : State) (cl l : Nat) : Nat := mapGet l s.fuse.core (coreKey cl l)

/-- Logical core that a physical core serves, or none. -/
def State.logCore (s : State) (cl p : Nat) : Option Nat :=
  (List.range 96).find? fun l => decide (s.physCore cl l = p)

/-- Is the page of an instance present (R590)? -/
def State.pagePresent (s : State) (k : PageKind) (i : Nat) : Bool :=
  let stackIn := decide (s.fuse.grade ≠ 2) || decide (i < 8) || decide (i % 2 = 0)
  match k with
  | .hbm => stackIn
  | .stkRepair => stackIn
  | .eth => decide (s.fuse.grade ≠ 2) || decide (i < 12) || decide (16 ≤ i)
  | .met => decide (s.fuse.grade ≠ 3)
  | .twin => decide (s.fuse.grade ≠ 3)
  | .clu => decide (s.cluUse i ≠ .off)
  | .rte => decide (s.cluUse i ≠ .off)
  | _ => true

/-- Is a fabric or host port present (R5, R6)? -/
def State.portPresent (s : State) (p : Nat) : Bool := decide (p < 18) && s.pagePresent .eth p

/-- Is an engine class present in GLOB_FEAT_ENGINES (R250)? -/
def State.enginePresent (s : State) (ec : Nat) : Bool :=
  decide (ec < 12) && (decide (s.fuse.grade ≠ 3) || decide (ec < 8) || decide (10 ≤ ec))

/-- The clusters of a domain's partition in rank order (R255). -/
def State.partition (s : State) (d : Nat) : List Nat :=
  s.regs.filterMap fun (k, v) =>
    if k % 4096 = Off.CLU_PART && decide (0x1000 ≤ k / 4096) && decide (k / 4096 < 0x1BB8)
        && bit v 10 && fld v 0 10 == d && s.cluEnabled (k / 4096 - 0x1000)
    then some (k / 4096 - 0x1000) else none

/-- Domain of a bound context (R254). -/
def State.ctxDom (s : State) (c : Nat) : Option Nat :=
  let b := s.rd (reg (pgCTX c) Off.CTX_BIND)
  if bit b 31 then some (fld b 0 10) else none

/-- Contexts with a bound or a listed state, in ascending number: those that CTX_BIND lists. -/
def State.boundCtxs (s : State) : List (Nat × Nat) :=
  s.regs.filterMap fun p =>
    let k := p.1
    if k % 4096 = Off.CTX_BIND && decide (0x4000 ≤ k / 4096) && decide (k / 4096 < 0x8000) && bit (s.rd k) 31
    then some (k / 4096 - 0x4000, fld (s.rd k) 0 10) else none

/-- Priority class of a context (R258). -/
def State.ctxClass (s : State) (c : Nat) : Nat := fld (s.rd (reg (pgCTX c) Off.CTX_PRIO)) 0 2

/-- The tie rule over contenders (index, class), keyed by arbiter: the grant and the advanced pointer (R260). -/
def State.tieGrant (s : State) (arb n : Nat) (req : List (Nat × Nat)) : Option Nat × State :=
  let top := req.foldl (fun m r => max m r.2) 0
  let ptr := mapGet 0 s.ties arb
  let cands := (req.filter fun r => r.2 == top).map Prod.fst
  let after := cands.filter fun i => decide (ptr ≤ i)
  let pick := (if after = [] then cands else after).min?
  match pick with
  | none => (none, s)
  | some i => (some i, { s with ties := mapSet 0 s.ties arb (if n = 0 then 0 else (i + 1) % n) })

/-! ## Addresses and translation (R329, R330) -/

/-- First slow-tier PA (R329). -/
def slowBase : Nat := 0x1000000000000
/-- Store key of cluster-store offset 0 of a cluster (R147). -/
def csBase (cl : Nat) : Nat := 2 ^ 53 + cl * 2 ^ 21
/-- Store key of core-store offset 0 of a physical core (R99). -/
def coreBase (cl core : Nat) : Nat := 2 ^ 54 + (cl * 128 + core) * 2 ^ 14

/-- Is a PA backed (R329)? -/
def State.paBacked (s : State) (pa : Nat) : Bool :=
  decide (pa < (if s.fuse.grade = 2 then 552 else 736) * 2 ^ 30)
    || (decide (slowBase ≤ pa) && decide (pa < slowBase + 800 * 2 ^ 30))

/-- Fields of a region table entry (R331). -/
def Region.da (r : Region) : Nat := fld r.e0 0 31
/-- VALID. -/
def Region.valid (r : Region) : Bool := bit r.e0 31
/-- GRANULES. -/
def Region.granules (r : Region) : Nat := fld r.e1 0 24
/-- PA_GRAN. -/
def Region.pa (r : Region) : Nat := fld r.e2 0 31
/-- WRITE. -/
def Region.write (r : Region) : Bool := bit r.e3 0
/-- NARROW. -/
def Region.narrow (r : Region) : Bool := bit r.e3 1
/-- SLOW. -/
def Region.slow (r : Region) : Bool := bit r.e3 2

/-- The active region table of a domain (R332). -/
def State.regions (s : State) (d : Nat) : List Region := mapGet [] s.active d

/-- Translation of a domain address (R330): the PA, or the fault's code. -/
def State.xlate (s : State) (d a : Nat) (wr upd : Bool) : Except Code Nat :=
  if 2 ^ 52 ≤ a then .error Err.TRANSLATION_FAULT
  else
    let g := a / 2 ^ 21
    match (s.regions d).find? fun r => r.valid && decide (r.da ≤ g) && decide (g < r.da + r.granules) with
    | none => .error Err.TRANSLATION_FAULT
    | some r =>
      let pa := (r.pa + (g - r.da)) * 2 ^ 21 + a % 2 ^ 21
      if wr && !r.write then .error Err.WRITE_PROTECT
      else if decide (slowBase ≤ pa) && !upd then .error Err.TIER_ACCESS
      else .ok pa

/-! ## Bytes, lines and granules -/

/-- The canonical form of memory: addresses rise strictly and no entry holds 0, which an unlisted address reads as. -/
def Memory.wf (m : List Host.Cell) : Bool := mapWf (fun _ => 0) m

/-- A stored byte of any tier or store; an unlisted byte reads 0 (log entry 2, DESIGN CHOICE). -/
def State.byte (s : State) (a : Nat) : Byte := mapGet 0 s.mem a
/-- Store a byte. -/
def State.setByte (s : State) (a : Nat) (v : Byte) : State := { s with mem := mapSet 0 s.mem a v }
/-- `n` bytes from `a`, as a little-endian number. -/
def State.bytesNat (s : State) (a n : Nat) : Nat := leNat (fun i => s.byte (a + i)) n
/-- The mark of a 64-byte line. -/
def State.mark (s : State) (l : Nat) : LineMark := mapGet {} s.marks l
/-- Replace the mark of a 64-byte line. -/
def State.setMark (s : State) (l : Nat) (m : LineMark) : State := { s with marks := mapSet {} s.marks l m }
/-- The record of a granule. -/
def State.gran (s : State) (g : Nat) : Gran := mapGet {} s.grans g
/-- Replace the record of a granule. -/
def State.setGran (s : State) (g : Nat) (r : Gran) : State := { s with grans := mapSet {} s.grans g r }

/-- W of a domain (R466). -/
def State.writeGen (s : State) (d : Nat) : Nat := fld (s.rd (wreg d pgKEY Off.KEY_DOM_MEM_GEN)) 0 6
/-- May domain d read a granule of generation g (R466)? -/
def State.genLive (s : State) (d g : Nat) : Bool :=
  let r := s.rd (wreg d pgKEY Off.KEY_DOM_MEM_GEN)
  fld r 0 6 == g || (bit r 14 && fld r 8 6 == g)

/-- Is a 64-byte line of a tier poisoned as stored? -/
def State.linePoison (s : State) (l : Nat) : Bool :=
  let m := s.mark l
  m.poison || ((s.gran (l / 2 ^ 15)).poisoned && !m.clean)

/-- The 64-byte lines whose codewords and tag decide a read of line `l`: the tag unit, or the line itself in a narrow region (R344). -/
def State.tagLines (s : State) (l : Nat) : List Nat :=
  if (s.gran (l / 2 ^ 15)).narrow then [l] else (List.range 8).map fun i => l / 8 * 8 + i

/-- The tag unit number of a PA's write-combining entry, and a byte as an access sees it: buffered bytes over memory (R347). -/
def State.tierByte (s : State) (a : Nat) : Byte :=
  match s.wc.findSome? fun e => if e.unit = a / 512 then (e.bytes.find? fun b => b.1 == a).map Prod.snd else none with
  | some v => v
  | none => s.byte a

/-- Drop buffered bytes that a direct write replaces (R347). -/
def State.wcDrop (s : State) (bs : List (Nat × Byte)) : State :=
  if s.wc = [] then s
  else { s with wc := (s.wc.map fun e => { e with bytes := e.bytes.filter fun b => !bs.any fun c => c.1 == b.1 }).filter fun e => !e.bytes.isEmpty }

/-- Write the zeros of a pending admission fill: the access waits for it, and finds the granule filled (R334). -/
def State.fillGran (s : State) (g : Nat) : State :=
  match (s.gran g).fill with
  | none => s
  | some d =>
    let s : State := { s with
      mem := s.mem.filter fun c => decide (c.1 / 2 ^ 21 ≠ g),
      marks := s.marks.filter fun m => decide (m.1 / 2 ^ 15 ≠ g) }
    s.setGran g { s.gran g with dom := some d, gen := s.writeGen d, fill := none, poisoned := false, released := none }

/-- Why a read of a tier line by domain d is poisoned, if it is (R338, R344, R466); a pending fill of d reads as filled (R334). -/
def State.tierBad (s : State) (d l : Nat) : Option Code :=
  let g := s.gran (l / 2 ^ 15)
  if g.fill.isSome then (if g.fill = some d then none else some Err.TAG_FAIL)
  else if !s.genLive d g.gen then some Err.RETIRED_GENERATION
  else if (s.tagLines l).any s.linePoison then some Err.MEM_UE
  else if (s.tagLines l).any fun i => decide (((s.mark i).own.orElse fun _ => g.dom) ≠ some d) then some Err.TAG_FAIL
  else none

/-- The 64-byte lines that `n` bytes from `a` touch. -/
def linesOf (a n : Nat) : List Nat :=
  if n = 0 then [] else (List.range ((a + n - 1) / 64 - a / 64 + 1)).map fun i => a / 64 + i

/-- What a read answers. -/
inductive Rd where
  | ok (v : Nat)
  /-- poisoned, with the origin code; the flag tells a marker from a fresh error -/
  | poison (c : Code) (v : Nat)
  | fault (c : Code)
deriving DecidableEq, Repr

/-- Domain read of `n` bytes at a domain address (R330, R344). -/
def State.tierRead (s : State) (d a n : Nat) (upd : Bool := false) : Rd :=
  match s.xlate d a false upd with
  | .error c => .fault c
  | .ok pa =>
    let v := leNat (fun i => if (s.gran ((pa + i) / 2 ^ 21)).fill.isSome then 0 else s.tierByte (pa + i)) n
    match (linesOf pa n).findSome? (s.tierBad d) with
    | some c => .poison c v
    | none => .ok v

/-- Read of `n` bytes of an on-die store by domain d: zeros from a line of another owner (R470), poison as stored (R148). -/
def State.storeRead (s : State) (d a n : Nat) (ue : Code) : Rd :=
  let v := leNat (fun i => if (s.mark ((a + i) / 64)).own = some d then s.byte (a + i) else 0) n
  if (linesOf a n).any fun l => (s.mark l).own == some d && (s.mark l).poison then .poison ue v else .ok v

/-- Write one byte of an on-die store for domain d; a line of another owner is zeroed first (R470). -/
def State.storeByte (s : State) (d a : Nat) (v : Byte) : State :=
  let l := a / 64
  let s := if (s.mark l).own = some d then s
    else ((List.range 64).foldl (fun t i => t.setByte (l * 64 + i) 0) s).setMark l { own := some d }
  s.setByte a v

/-- Mark a store or tier line poisoned (R339, R518). -/
def State.poisonLine (s : State) (l : Nat) : State := s.setMark l { s.mark l with poison := true, clean := false }

/-! ## Rotation (R466 to R469, R477) -/

/-- Key of a register of a domain's window of the KEY page; 1,024 is the operator role. -/
def keyReg (d off : Nat) : Nat := wreg d pgKEY off
/-- Write W, O and the flags of a domain (R487). -/
def State.setGens (s : State) (d w o : Nat) (live rot : Bool) : State :=
  s.wr (keyReg d Off.KEY_DOM_MEM_GEN) (BitVec.ofNat 32 (w % 64 + o % 64 * 256 + b2n live * 2 ^ 14 + b2n rot * 2 ^ 15))
/-- O of a domain. -/
def State.oldGen (s : State) (d : Nat) : Nat := fld (s.rd (keyReg d Off.KEY_DOM_MEM_GEN)) 8 6
/-- ROTATING of a domain. -/
def State.rotating (s : State) (d : Nat) : Bool := bit (s.rd (keyReg d Off.KEY_DOM_MEM_GEN)) 15

/-- Granules that a table maps, with NARROW. -/
def tableGrans (t : List Region) : List (Nat × Bool) :=
  t.flatMap fun r => (List.range r.granules).map fun i => (r.pa + i, r.narrow)
/-- Granules mapped in a domain (R331). -/
def State.mapped (s : State) (d : Nat) : List Nat := (tableGrans (s.regions d)).map Prod.fst

/-- Mapped granules still at O in one tier, in ascending order. -/
def State.toMove (s : State) (d : Nat) (slow : Bool) : List Nat :=
  let o := s.oldGen d
  sortNat ((s.mapped d).filter fun g => (decide (slowBase / 2 ^ 21 ≤ g) == slow) && (s.gran g).fill.isNone && (s.gran g).gen == o)

/-- The rotation ends when nothing is left at O (R467). -/
def State.rotationEnd (s : State) (d : Nat) : State :=
  if s.rotating d && (s.toMove d false).isEmpty && (s.toMove d true).isEmpty then
    (s.setGens d (s.writeGen d) (s.oldGen d) false false).raise pgKEY 0
  else s

/-- Lines of 256 bytes of a granule that a move finds poisoned or with a failing tag. -/
def State.badLines (s : State) (d g : Nat) : List Nat :=
  let gr := s.gran g
  if gr.dom = some d && !gr.poisoned && !(s.marks.any fun m => m.1 / 2 ^ 15 == g) then []
  else (List.range 8192).filter fun i => (List.range 4).any fun j => (s.tierBad d ((g * 8192 + i) * 4 + j)).isSome

/-- Move the lines of a granule from O to W: bad lines are written poisoned and counted (R467, R477). -/
def State.moveLines (s : State) (d g : Nat) : State :=
  let bad := s.badLines d g
  let s := bad.foldl (fun t i => (List.range 4).foldl (fun u j => u.setMark ((g * 8192 + i) * 4 + j) { poison := true }) t) s
  let s := s.inc (reg pgKEY Off.KEY_MOVE_POISONED) bad.length
  s.setGran g { s.gran g with gen := s.writeGen d, dom := some d }

/-- A write of domain d about to touch a granule: it moves the granule to W first, out of order (R467); a granule of a generation that is not live is written poisoned under W (R468). -/
def State.touchGran (s : State) (d g : Nat) : State :=
  let r := s.gran g
  let w := s.writeGen d
  if r.gen = w then s
  else if s.genLive d r.gen then (s.moveLines d g).rotationEnd d
  else
    let s := { s with marks := s.marks.filter fun p => decide (p.1 / 2 ^ 15 ≠ g) }
    s.setGran g { r with gen := w, poisoned := true, dom := some d }

/-- Does the tag unit of a line read bad for domain d in a default region (R344, R354)? -/
def State.unitBad (s : State) (d unit : Nat) : Bool :=
  let gr := s.gran (unit / 2 ^ 12)
  gr.fill.isNone && (List.range 8).any fun i =>
    s.linePoison (unit * 8 + i) || decide (((s.mark (unit * 8 + i)).own.orElse fun _ => gr.dom) ≠ some d)

/-- Write bytes of one 256-byte tier line: a line of a bad unit takes them only when all of it is written (R339, R354). -/
def State.tierLine (s : State) (d line : Nat) (bad : Bool) (bs : List (Nat × Byte)) : State :=
  let s := (s.fillGran (line / 2 ^ 13)).touchGran d (line / 2 ^ 13)
  let s := s.wcDrop bs
  let whole := (List.range 256).all fun i => bs.any fun b => b.1 == line * 256 + i
  let marks := (List.range 4).map fun i => line * 4 + i
  let gr := s.gran (line / 2 ^ 13)
  let put (t : State) : State := bs.foldl (fun u b => u.setByte b.1 b.2) t
  let own (t : State) (m : Nat) : State :=
    t.setMark m { poison := false, clean := gr.poisoned, own := if gr.dom = some d then none else some d }
  if whole then put (marks.foldl own s)
  else if gr.narrow then
    bs.foldl (fun u b =>
      let l := b.1 / 64
      let full := (List.range 64).all fun i => bs.any fun c => c.1 == l * 64 + i
      if full then (own u l).setByte b.1 b.2
      else if u.linePoison l || decide (((u.mark l).own.orElse fun _ => gr.dom) ≠ some d) then u.poisonLine l
      else u.setByte b.1 b.2) s
  else if bad || marks.any s.linePoison then
    marks.foldl State.poisonLine s
  else put s

/-- Write bytes to physical addresses of the tiers for domain d, line by line; of a unit that reads bad, a line not wholly written is written poisoned (R354). -/
def State.tierBytes (s : State) (d : Nat) (bs : List (Nat × Byte)) : State :=
  (bs.map fun b => b.1 / 512).eraseDups.foldl (fun t u =>
    let bad := t.unitBad d u
    let mine := bs.filter fun b => b.1 / 512 == u
    let lines := (mine.map fun b => b.1 / 256).eraseDups
    let v := lines.foldl (fun v l => v.tierLine d l bad (mine.filter fun b => b.1 / 256 == l)) t
    if bad && !(v.gran (u / 2 ^ 12)).narrow then
      ((List.range 8).filter fun i => !lines.contains (2 * u + i / 4)).foldl (fun w i => w.poisonLine (8 * u + i)) v
    else v) s

/-- A context is ACTIVE in the states READY to RESTORING (R265). -/
def RunState.active : RunState → Bool
  | .ready => true | .running => true | .stopping => true | .saving => true | .saved => true | .restoring => true
  | _ => false

/-- Image ranges of a context as (address, bytes): stream, descriptor table, unit set table (R213). -/
def State.imageRanges (s : State) (c : Nat) : List (Nat × Nat) :=
  let p := pgCTX c
  [((s.rd64 (reg p Off.CTX_STREAM_BASE_LO)).toNat, (s.rd (reg p Off.CTX_STREAM_LEN)).toNat),
   ((s.rd64 (reg p Off.CTX_DESC_BASE_LO)).toNat, 128 * (s.rd (reg p Off.CTX_DESC_COUNT)).toNat),
   ((s.rd64 (reg p Off.CTX_UNITSET_BASE_LO)).toNat, 4096)]

/-- Every domain address by which d reaches the data at one of its addresses: two regions may map one granule (R333). -/
def State.aliases (s : State) (d a : Nat) : List Nat :=
  match s.xlate d a false true with
  | .error _ => [a]
  | .ok pa => (s.regions d).filterMap fun r =>
    if r.valid && decide (r.pa ≤ pa / 2 ^ 21) && decide (pa / 2 ^ 21 < r.pa + r.granules)
    then some ((r.da + (pa / 2 ^ 21 - r.pa)) * 2 ^ 21 + pa % 2 ^ 21) else none

/-- The parts of n bytes from a that lie in one granule each. -/
def granRuns (a n : Nat) : List (Nat × Nat) :=
  if n = 0 then [] else
    (List.range ((a + n - 1) / 2 ^ 21 - a / 2 ^ 21 + 1)).map fun i =>
      let lo := max a ((a / 2 ^ 21 + i) * 2 ^ 21)
      (lo, min (a + n) ((a / 2 ^ 21 + i + 1) * 2 ^ 21) - lo)

/-- Image ranges of the ACTIVE contexts of a domain (R214). -/
def State.domImages (s : State) (d : Nat) : List (Nat × Nat) :=
  (s.ctx.filter fun p => p.2.run.active && s.ctxDom p.1 == some d).flatMap fun p => s.imageRanges p.1

/-- Does a write of n bytes at a domain address of d touch the image of an ACTIVE context, under any of its names (R214, R333)? -/
def State.hitsImage (s : State) (d a n : Nat) : Bool :=
  let im := s.domImages d
  !im.isEmpty && (granRuns a n).any fun q => (s.aliases d q.1).any fun b =>
    im.any fun r => decide (b < r.1 + r.2) && decide (r.1 < b + q.2)

/-- Write bytes at domain addresses of d: all of them, or none and the first fault's code (R214, R330). -/
def State.tierWrite (s : State) (d : Nat) (bs : List (Nat × Byte)) (upd : Bool := false) : Except Code State := do
  let ps ← bs.mapM fun b => do
    let pa ← s.xlate d b.1 true upd
    if s.hitsImage d b.1 1 then .error Err.IMAGE_WRITE else pure (pa, b.2)
  pure (s.tierBytes d ps)

/-- The bytes of a number at consecutive addresses. -/
def bytesAt (a n v : Nat) : List (Nat × Byte) := (List.range n).map fun i => (a + i, byteOf v i)

/-- A page error of the HBM page of a PA's stack or of the SLOW page, with the PA recorded (R356, R358). -/
def State.isSlow (pa : Nat) : Bool := decide (slowBase ≤ pa)

/-! ## Context registers -/

/-- PARn (R252). -/
def State.par (s : State) (c n : Nat) : DWord := s.rd64 (reg (pgCTX c) (Off.CTX_PARn_LO + 8 * n))
/-- A write of PARn while it is the count register of an active loop is noted (R243). -/
def State.notePar (s : State) (c n : Nat) : State :=
  if (s.getCtx c).stack.any (fun l => l.reg == some n) then s.wrBit (reg (pgCTX c) Off.CTX_STREAM_STATUS) 0 true else s
/-- Write PARn. -/
def State.setPar (s : State) (c n : Nat) (v : DWord) : State :=
  (s.notePar c n).wr64 (reg (pgCTX c) (Off.CTX_PARn_LO + 8 * n)) v
/-- AREGn. -/
def State.areg (s : State) (c n : Nat) : DWord := s.rd64 (reg (pgCTX c) (Off.CTX_AREGn_LO + 8 * n))
/-- Write AREGn. -/
def State.setAreg (s : State) (c n : Nat) (v : DWord) : State := s.wr64 (reg (pgCTX c) (Off.CTX_AREGn_LO + 8 * n)) v
/-- Key of SEMn. -/
def semKey (c n : Nat) : Nat := reg (pgCTX c) (Off.CTX_SEMn + 4 * n)
/-- SEMn. -/
def State.sem (s : State) (c n : Nat) : Word := s.rd (semKey c n)
/-- Key of CNTn. -/
def cntKey (c n : Nat) : Nat := reg (pgCTX c) (Off.CTX_CNTn + 4 * n)
/-- CTX_STEP (R230). -/
def State.step' (s : State) (c : Nat) : DWord := s.rd64 (reg (pgCTX c) Off.CTX_STEP_LO)
/-- CTX_PC. -/
def State.pc (s : State) (c : Nat) : DWord := s.rd64 (reg (pgCTX c) Off.CTX_PC_LO)
/-- Set CTX_PC. -/
def State.setPc (s : State) (c : Nat) (v : DWord) : State := s.wr64 (reg (pgCTX c) Off.CTX_PC_LO) v

/-- A signal adds to a semaphore, saturating and setting SEM_SATURATED (R231). -/
def State.signal (s : State) (c n : Nat) (k : Nat) : State :=
  let v := s.sem c n
  let s := s.wr (semKey c n) (satAdd v k)
  if 2 ^ 32 ≤ v.toNat + k then s.wrBit (reg (pgCTX c) Off.CTX_STREAM_STATUS) 1 true else s

/-- Fields of the NaN trap record, engine and coordinate (R66): first event, or MORE and the count (R62, R63). The caller stops the context when HALT is set. -/
def State.nanRecord (s : State) (c off engine coord : Nat) : State :=
  let p := pgCTX c
  if bit (s.rd (reg p Off.CTX_NAN_STATUS)) 0 then
    (s.wrBit (reg p Off.CTX_NAN_STATUS) 1 true).inc (reg p Off.CTX_NAN_COUNT)
  else
    let s := s.wrBit (reg p Off.CTX_NAN_STATUS) 0 true
    let s := s.wr64 (reg p Off.CTX_NAN_OFFSET_LO) (BitVec.ofNat 64 off)
    let s := s.wr (reg p Off.CTX_NAN_ENGINE) (BitVec.ofNat 32 engine)
    let s := s.wr (reg p Off.CTX_NAN_COORD) (BitVec.ofNat 32 coord)
    s.pageErr p Err.NAN_TRAP

end Sys2Proof.Machine
end

