-- ==== Sys2Proof/Machine/Gwetur.lean ====
section
/-! DEFINITION. Gwetur frames: layout, CRC-64, digests, and the abort flag of a member's open windows (R360 to R370, R378). -/

namespace Sys2Proof.Machine

open Sys2Proof

/-- The domain of a context, 0 when it is unbound. -/
def State.domOf (s : State) (c : Nat) : Nat := (s.ctxDom c).getD 0

/-- The record of a group slot. -/
def State.getGrp (s : State) (g : Nat) : GrpRec := mapGet {} s.grps g
/-- Replace the record of a group slot. -/
def State.setGrp (s : State) (g : Nat) (r : GrpRec) : State := { s with grps := mapSet {} s.grps g r }
/-- Change the record of a group slot. -/
def State.modGrp (s : State) (g : Nat) (f : GrpRec → GrpRec) : State := s.setGrp g (f (s.getGrp g))
/-- Key of a register of group slot g. -/
def grpReg (g off : Nat) : Nat := wreg g pgCOLL off
/-- Owning context of a group slot (R360). -/
def State.grpCtx (s : State) (g : Nat) : Nat := fld (s.rd (grpReg g Off.COLL_GRP_CTX)) 0 14
/-- Group identifier of a slot. -/
def State.grpId (s : State) (g : Nat) : Nat := fld (s.rd (grpReg g Off.COLL_GRP_ID)) 0 20
/-- VALID of a slot. -/
def State.grpValid (s : State) (g : Nat) : Bool := bit (s.rd (grpReg g Off.COLL_GRP_ID)) 31
/-- n of a group. -/
def State.grpN (s : State) (g : Nat) : Nat := fld (s.rd (grpReg g Off.COLL_GRP_SIZE)) 0 17
/-- The member's own rank. -/
def State.grpRank (s : State) (g : Nat) : Nat := fld (s.rd (grpReg g Off.COLL_GRP_RANK)) 0 16
/-- Ports of a group in ascending order. -/
def State.grpPorts (s : State) (g : Nat) : List Nat := (List.range 16).filter fun p => bit (s.rd (grpReg g Off.COLL_GRP_PORTS)) p
/-- ATTEMPT of a group. -/
def State.grpAttempt (s : State) (g : Nat) : Nat := fld (s.rd (grpReg g Off.COLL_GRP_ATTEMPT)) 0 8
/-- The timeout of a group in ns. -/
def State.grpTimeout (s : State) (g : Nat) : Nat := fld (s.rd (grpReg g Off.COLL_GRP_TIMEOUT)) 0 24 * 1000

/-- Group slots of a context with an open window. -/
def State.openGrps (s : State) (c : Nat) : List Nat :=
  s.grps.filterMap fun p => if p.2.winOpen && s.grpCtx p.1 == c then some p.1 else none

/-! ## Frames (R366 to R370) -/

/-- One step of the reflected CRC-64/XZ over a bit (R370). -/
def crcBit (c : Nat) : Nat := if c % 2 = 1 then c / 2 ^^^ 0xC96C5795D7870F42 else c / 2

/-- CRC-64/XZ of a byte list (R370). -/
def crc64 (bs : List Byte) : DWord :=
  BitVec.ofNat 64 ((bs.foldl (fun c b => (List.range 8).foldl (fun x _ => crcBit x) (c ^^^ b.toNat)) (2 ^ 64 - 1)) ^^^ (2 ^ 64 - 1))

/-- `n` bytes of a number, most significant first (network byte order). -/
def beBytes (n v : Nat) : List Byte := (List.range n).map fun i => byteOf v (n - 1 - i)

end Sys2Proof.Machine

namespace Sys2Proof

open Sys2Proof.Machine

/-- The 48 header bytes (R367). -/
def Gw.header (f : Gw) : List Byte :=
  beBytes 1 f.version ++ beBytes 1 (f.kind + 16 * f.op) ++ beBytes 1 f.fmt ++ beBytes 1 f.flags ++ beBytes 4 f.group ++ beBytes 4 f.seq
    ++ beBytes 4 f.chunk ++ beBytes 8 f.step ++ beBytes 2 (toTwos 16 f.scale) ++ beBytes 2 f.src ++ beBytes 4 f.amax
    ++ beBytes 8 f.digest ++ beBytes 2 f.err ++ beBytes 2 f.count ++ beBytes 2 f.len ++ beBytes 2 f.rsv

/-- The PDU: header, payload and CRC (R366). -/
def Gw.bytes (f : Gw) : List Byte :=
  let b := f.header ++ f.data
  b ++ beBytes 8 (crc64 b).toNat

/-- FLAGS bit i: 0 SATURATED, 1 ZERO_CHUNK, 2 ABORT, 3 LAST, 4 NO_RANK. -/
def Gw.flag (f : Gw) (i : Nat) : Bool := f.flags / 2 ^ i % 2 == 1

end Sys2Proof

namespace Sys2Proof.Machine

open Sys2Proof

/-- Valid COLL slots that hold a group identifier (R317). -/
def State.slotsOfGroup (s : State) (g : Nat) : List Nat :=
  (s.regs.filterMap fun p =>
    if p.1 % 2 ^ 28 = reg pgCOLL Off.COLL_GRP_ID && decide (2 ^ 28 ≤ p.1) && bit p.2 31 && fld p.2 0 20 == g
    then some (p.1 / 2 ^ 28 - 1) else none)

/-- Key of a register of an Ethernet port (R459). -/
def ethReg (p off : Nat) : Nat := reg (pgETH p) off

/-- Does a port carry data frames: present, link up, and secured where MACsec is required (R428, R453)? -/
def State.portCarries (s : State) (p : Nat) : Bool :=
  s.portPresent p && bit (s.rd (ethReg p Off.ETH_STATE)) 0
    && (!bit (s.rd (ethReg p Off.ETH_MSEC_CFG)) 0 || bit (s.rd (ethReg p Off.ETH_STATE)) 3)

/-- Count one frame of a port: received or sent, in units of 1,024 (R459). -/
def State.countFrame (s : State) (p : Nat) (tx : Bool) : State :=
  let k := p * 2 + b2n tx
  let n := mapGet 0 s.ethRem k + 1
  let s : State := { s with ethRem := mapSet 0 s.ethRem k (n % 1024) }
  if n = 1024 then s.inc (ethReg p (if tx then Off.ETH_TX_FRAMES else Off.ETH_RX_FRAMES)) else s

/-- Weight of frames on the SerDes rail: 28 charge units for each 64 bytes (R498). -/
def State.serdes (s : State) (dom : Option Nat) (bytes : Nat) : State :=
  match dom with
  | some d => s.addCharge 12 d (2800 * cdiv bytes 64)
  | none => s

/-- Send a frame for a domain, or for the module: a port that carries no data frame sends nothing, nor does a domain under scrub (R453, R474). -/
def State.sendFrame (s : State) (port : Nat) (dom : Option Nat) (kind : String) (fields : List Nat) (data : List Byte) : State :=
  if s.portCarries port && !(match dom with | some d => s.scrub.contains d | none => false) then
    ((s.serdes dom data.length).countFrame port true).emit (.frame port kind fields data)
  else s

/-- Domain of a group identifier. -/
def State.groupDom (s : State) (id : Nat) : Option Nat := (s.slotsOfGroup id).head?.map fun g => s.domOf (s.grpCtx g)

/-- Send a PDU on a port. -/
def State.sendGw (s : State) (port : Nat) (f : Gw) : State := s.sendFrame port (s.groupDom (f.group % 2 ^ 20)) "GWETUR" [] f.bytes

/-- GROUP word of a slot's frames. -/
def State.groupWord (s : State) (g : Nat) : Nat := s.grpId g + s.grpAttempt g * 2 ^ 20

/-- The digest of a chunk instance (R369). -/
def State.digest (s : State) (g : Nat) (fmt op tensor redo elems : Nat) (scale : Int) : Nat :=
  let m := [0x47#8, 0x57#8, 0x54#8, 0x52#8] ++ toLe 4 (s.grpId g) ++ toLe 8 (s.step' (s.grpCtx g)).toNat ++ toLe 8 elems ++ toLe 2 tensor
    ++ toLe 1 fmt ++ toLe 1 op ++ toLe 2 (toTwos 16 scale) ++ toLe 1 redo ++ toLe 1 (s.grpAttempt g)
  (shake256 m 8).foldl (fun a b => a * 256 + b.toNat) 0

/-- Send an ABORT on a group naming this member, and the tensor whose deadline has passed where there is one (R375, R378). -/
def State.sendAbort (s : State) (g : Nat) (err : Code) (tensor : Nat := 0) : State :=
  s.sendGw ((s.grpPorts g).headD 0)
    { kind := 2, flags := 4, group := s.groupWord g, seq := tensor, step := (s.step' (s.grpCtx g)).toNat, src := s.grpRank g, err := err.toNat }

/-- The step record of a context. -/
def State.getStep (s : State) (c : Nat) : StepRec := mapGet {} s.steps c
/-- Replace the step record of a context. -/
def State.setStep (s : State) (c : Nat) (r : StepRec) : State := { s with steps := mapSet {} s.steps c r }
/-- Change the step record of a context. -/
def State.modStep (s : State) (c : Nat) (f : StepRec → StepRec) : State := s.setStep c (f (s.getStep c))
/-- The first error of a context's step stands (R380). -/
def State.stepErr (s : State) (c : Nat) (e : Code) : State := s.modStep c fun r => { r with firstErr := r.firstErr.orElse fun _ => some e }

/-- Raise the abort flag on each open collective of a context: the first code stands, and an ABORT is sent (R273, R378). -/
def State.abortFlags (s : State) (c : Nat) (code : Code) : State :=
  (s.openGrps c).foldl (fun t g =>
    if (t.getGrp g).abort.isSome then t
    else (t.modGrp g fun r => { r with abort := some code }).sendAbort g code) (if s.openGrps c = [] then s else s.stepErr c code)

end Sys2Proof.Machine
end

