-- ==== Sys2Proof/Machine/Ledger.lean ====
section
/-! DEFINITION. The current ledger: costs, reservations, the tick, ballast charges, profiles, LSTEP_N and the throttle (R281 to R302). -/

namespace Sys2Proof.Machine

open Sys2Proof

/-- A register of account a (R300). -/
def railReg (a off : Nat) : Nat := reg pgLEDG (off + 0x40 * a)
/-- The record of a compute rail. -/
def State.rail (s : State) (a : Nat) : RailRec := mapGet {} s.rails a
/-- Replace the record of a rail. -/
def State.setRail (s : State) (a : Nat) (r : RailRec) : State := { s with rails := mapSet {} s.rails a r }
/-- Change the record of a rail. -/
def State.modRail (s : State) (a : Nat) (f : RailRec → RailRec) : State := s.setRail a (f (s.rail a))
/-- Ceiling of an account. -/
def State.ceil (s : State) (a : Nat) : Nat := (s.rd (railReg a Off.LEDG_RAIL_CEIL)).toNat

/-! ## Costs (R284) -/

/-- Cost of a current class in LU at scale 1,024, and its frozen cost where it has one; a frozen staging cluster keeps its full cost, as CLUSTER_ON does (R284, R597; log entry 39, DEDUCED). -/
def classCost (ic : Nat) (acct : Nat) : Nat × Option Nat :=
  match ic with
  | 1 => (15, some 3) | 2 => (120, some 20) | 3 => (40, some 8) | 4 => (12, some 2) | 5 => (14, some 2) | 6 => (15, some 2)
  | 7 => (3000, none) | 8 => (400, none) | 9 => (3, some 1) | 11 => (2000, none)
  | 12 => (if acct = 11 then 500 else 6000, none) | 13 => (1500, none) | 14 => (96, some 96) | 15 => (2000, none)
  | _ => (0, none)

/-- A cost on an account: scaled and rounded up (R284). -/
def State.scaled (s : State) (acct cost : Nat) : Nat := cdiv (cost * (s.rd (railReg acct Off.LEDG_RAIL_SCALE)).toNat) 1024

/-- Array classes share a core: the costlier counts (R285). -/
def LUnit.isArray (u : LUnit) : Bool := decide (4 ≤ u.iclass) && decide (u.iclass ≤ 6)

/-- Cluster and core of an array unit. -/
def LUnit.place (u : LUnit) : Nat × Option Nat := (u.ix, u.core)

/-- Work of an account over a list of reservations, CLUSTER_ON and DIE_NET included; a cluster ungated for STAGING costs 96 once (R282, R285, R554). -/
def State.workOf (s : State) (acct : Nat) (us : List LUnit) : Nat :=
  let mine := us.filter fun u => u.acct == acct
  let arr := mine.filter LUnit.isArray
  let cores := (arr.map LUnit.place).eraseDups
  let sum (l : List Nat) : Nat := l.foldl (· + ·) 0
  let arrays := sum (cores.map fun p => (arr.filter fun u => u.place == p).foldl (fun m u => max m (s.scaled acct (classCost u.iclass acct).1)) 0)
  let others := sum ((mine.filter fun u => !u.isArray && u.iclass != 14).map fun u => s.scaled acct (classCost u.iclass acct).1)
  let clus := ((mine.filter fun u => decide (u.ix < 375)).map LUnit.ix).eraseDups
  if acct < 8 then arrays + others + clus.length * s.scaled acct 96 + (if clus = [] then 0 else s.scaled acct 800)
  else arrays + others

/-- Work of an account (R282). -/
def State.work (s : State) (acct : Nat) : Nat := s.workOf acct s.lresv

/-- A of an account: the register of a compute account, work elsewhere (R282). -/
def State.account (s : State) (a : Nat) : Nat :=
  if a < 8 then (s.rd (railReg a Off.LEDG_RAIL_ACCOUNT)).toNat else s.work a

/-! ## Requests and releases (R285) -/

/-- Passes whose current has been granted may go on (R93, R287). -/
def State.markGranted (s : State) (us : List LUnit) : State :=
  us.foldl (fun t u => match u.core, u.owner with
    | some k, some o =>
      t.modCore (coreKey (u.acct * 375 + u.ix) k) fun r =>
        { r with queue := r.queue.map fun p => if p.ctx == o.1 && p.id == o.2 then { p with granted := true } else p }
    | _, _ => t) s

/-- Does the core of an array unit hold an array reservation of at least its cost (R285)? -/
def State.covers (s : State) (u : LUnit) : Bool :=
  u.isArray && s.lresv.any fun v => v.isArray && v.acct == u.acct && v.place == u.place && decide ((classCost u.iclass 0).1 ≤ (classCost v.iclass 0).1)

/-- A core that keeps its array reservation from one pass to the next needs no grant for a pass of the same or a cheaper class (R285). -/
def State.coverArrays (s : State) : State :=
  let us := s.lreqs.flatMap fun r => r.units.filter s.covers
  if us = [] then s
  else
    let t : State := { s with
      lreqs := (s.lreqs.map fun r => { r with units := r.units.filter fun u => !s.covers u }).filter fun r => !r.units.isEmpty,
      lresv := s.lresv ++ us }
    t.markGranted us

/-- Does a command still wait for current, on one cluster or on any (R285)? -/
def State.waitsCurrent (s : State) (c id : Nat) (cl : Option Nat) : Bool :=
  s.lreqs.any fun q => q.units.any fun u => u.owner == some (c, id) && cl.all fun k => u.acct == k / 375 && u.ix == k % 375

/-- Release the reservations that a test picks, granted or waiting; the fall of each compute account becomes ballast in debt of `bill` or of the unit's domain (R285, R287, R291). -/
def State.releaseUnits (s : State) (p : LUnit → Bool) (bill : Option Nat) : State :=
  let gone := s.lresv.filter p
  if gone = [] && !(s.lreqs.any fun r => r.units.any p) then s
  else
    let t : State := { s with
      lresv := s.lresv.filter fun u => !p u,
      lreqs := (s.lreqs.map fun r => { r with units := r.units.filter fun u => !p u }).filter fun r => !r.units.isEmpty }
    ((gone.map LUnit.acct).eraseDups.filter fun a => decide (a < 8)).foldl (fun u a =>
      let fall := s.work a - u.work a
      let last := (gone.filter fun x => x.acct == a).getLast?
      let dom := bill.getD ((last.map LUnit.dom).getD 1024)
      u.modRail a fun r => { r with debts := addTo r.debts dom fall, freed := (last.bind LUnit.owner).map Prod.fst }) t

/-- Release every reservation of a command. -/
def State.releaseCmd (s : State) (c id : Nat) : State := s.releaseUnits (fun u => u.owner == some (c, id)) none

/-- Release every reservation of a context, billed as R291 says. -/
def State.releaseCtx (s : State) (c : Nat) (bill : Option Nat) : State :=
  s.releaseUnits (fun u => match u.owner with | some o => o.1 == c | none => false) bill

/-! ## Freezing (R294, R597) -/

/-- A unit that the ledger may freeze: order key (activity, priority class, context, cluster, unit), saving and name (cluster index, core or none, kind). -/
structure FreezeUnit where
  key : List Int
  saving : Nat
  name : Nat × Option Nat × Nat
deriving DecidableEq, Repr

/-- Kind of the unit that a reservation pays for: a core; a staging cluster, a router unit, a vector engine or a mover. -/
def LUnit.kind (u : LUnit) : Nat := if u.core.isSome then 0 else u.iclass * 4 + u.sub

/-- Name of the unit that a reservation pays for. -/
def LUnit.name (u : LUnit) : Nat × Option Nat × Nat := (u.ix, u.core, u.kind)

/-- Lexicographic order of keys. -/
def keyLt : List Int → List Int → Bool
  | a :: l, b :: m => decide (a < b) || (decide (a = b) && keyLt l m)
  | _, _ => false

/-- Insert into a list sorted by key. -/
def insertKey (u : FreezeUnit) : List FreezeUnit → List FreezeUnit
  | [] => [u]
  | v :: l => if keyLt u.key v.key then u :: v :: l else v :: insertKey u l

/-- What freezing a unit saves: of the reservations on a core the array classes count once, at the costliest (R285, R597). -/
def State.savingOf (s : State) (acct : Nat) (us : List LUnit) : Nat :=
  let full := us.foldl (fun n u => if u.isArray then n else n + s.scaled acct (classCost u.iclass acct).1) 0
  let cold := us.foldl (fun n u => if u.isArray then n else n + s.scaled acct ((classCost u.iclass acct).2.getD 0)) 0
  let arr (f : LUnit → Nat) : Nat := (us.filter LUnit.isArray).foldl (fun m u => max m (s.scaled acct (f u))) 0
  full + arr (fun u => (classCost u.iclass acct).1) - (cold + arr fun u => (classCost u.iclass acct).2.getD 0)

/-- The units of an account in freeze order: ascending class, descending context, descending cluster, cores downwards, then router unit, vector engine and movers 3 to 0; the ledger's own activities last (R294, R597). -/
def State.freezeOrder (s : State) (acct : Nat) : List FreezeUnit :=
  let mine := s.lresv.filter fun u => u.acct == acct && (classCost u.iclass acct).2.isSome
  let units := mine.foldl (fun acc u => if acc.any fun v => v.name == u.name then acc else u :: acc) []
  let us := units.map fun u =>
    let place : Int := match u.core with
      | some k => 200 - (k : Int)
      | none => if u.iclass = 3 then 1000 else if u.iclass = 2 then 1001 else 1010 - (u.sub : Int)
    let ctx : Int := match u.owner with | some o => (o.1 : Int) | none => -1
    ({ key := [if u.owner.isSome then 0 else 1, (u.prio : Int), -ctx, -(u.ix : Int), place],
       saving := s.savingOf acct (mine.filter fun v => v.name == u.name), name := u.name } : FreezeUnit)
  us.foldl (fun acc u => insertKey u acc) []

/-- Modelled work of an account: work less the saving of each frozen unit (R287). -/
def State.modelledWork (s : State) (acct : Nat) : Nat :=
  let fr := (s.rail acct).frozen
  if fr = [] then s.work acct
  else ((s.freezeOrder acct).filter fun u => fr.contains u.name).foldl (fun m u => m - u.saving) (s.work acct)

/-- Is a core frozen under the ledger cause (R82)? -/
def State.coreFrozen (s : State) (cl core : Nat) : Bool := (s.rail (cl / 375)).frozen.contains (cl % 375, some core, 0)

/-- Is an instance of a vector, mover or router command of a current class frozen (R597)? -/
def State.unitFrozen (s : State) (cl iclass sub : Nat) : Bool := (s.rail (cl / 375)).frozen.contains (cl % 375, none, iclass * 4 + sub)

/-- Freeze in order until the modelled work is at most `a`: the modelled work and the frozen units (R287). -/
def freezeTo (a : Nat) : Nat → List FreezeUnit → Nat × List (Nat × Option Nat × Nat)
  | m, [] => (m, [])
  | m, u :: l =>
    if m ≤ a then (m, [])
    else
      let r := freezeTo a (m - u.saving) l
      (r.1, u.name :: r.2)

/-! ## The tick (R287, R290 to R293) -/

/-- Throttle floor of a compute account (R294). -/
def State.thrFloor (s : State) (a : Nat) : Nat := s.ceil a * fld (s.rd (reg pgLEDG Off.LEDG_THR_FLOOR)) 0 7 / 100

/-- Does a context have clusters on a die (R290)? -/
def State.onDie (s : State) (c a : Nat) : Bool :=
  let b := s.rd (reg (pgCTX c) Off.CTX_CLAIM_CL)
  match s.ctxDom c with
  | some d => (((s.partition d).drop (fld b 0 12)).take (fld b 16 12)).any fun cl => cl / 375 == a
  | none => false

/-- Armed domains of a die under STEP (R290, R291). -/
def State.armedDoms (s : State) (a : Nat) : List Nat :=
  ((s.armed.filter fun c => s.onDie c a).filterMap s.ctxDom).eraseDups

/-- The floor held on a compute account (R290). -/
def State.floorHeld (s : State) (a : Nat) : Nat :=
  let r := s.rd (railReg a Off.LEDG_RAIL_FLOOR)
  match fld r 20 2 with
  | 1 => fld r 0 20
  | 2 => if s.armedDoms a = [] then 0 else fld r 0 20
  | _ => 0

/-- The LSTEP_N output of a rail is asserted. -/
def State.lstep (s : State) (a : Nat) : Bool := bit (s.rd (reg pgLEDG Off.LEDG_LSTEP_STATE)) a
/-- Assert LSTEP_N of a rail: its lead and its 1 us of an unchanged account count from here; an assertion that stands continues (R293, R298). -/
def State.assertLstep (s : State) (a : Nat) : State :=
  if s.lstep a then s
  else (s.wrBit (reg pgLEDG Off.LEDG_LSTEP_STATE) a true).modRail a fun r => { r with age := 0, leadDone := false, still := 0 }

/-- Ticks of LEDG_LSTEP_LEAD. -/
def State.leadTicks (s : State) : Nat := fld (s.rd (reg pgLEDG Off.LEDG_LSTEP_LEAD)) 0 5 * 500

/-- Record ballast charge of one tick: B LU for 2 ns is 2B pC (R291, R299, R300). -/
def State.chargeBallast (s : State) (a : Nat) (dom b : Nat) : State :=
  if b = 0 then s
  else
    let pc := 2 * b
    let bump (t : State) (key reg0 : Nat) : State :=
      let x := mapGet 0 t.ballastPc key + pc
      ({ t with ballastPc := mapSet 0 t.ballastPc key (x % 1000) } : State).inc64 reg0 (x / 1000)
    let s := bump s (a * 2048 + 2047) (railReg a Off.LEDG_RAIL_BALLAST_NC_LO)
    let s := bump s (16 * 2048 + dom) (if dom = 1024 then reg pgLEDG Off.LEDG_OP_BALLAST_LO else wreg dom pgLEDG Off.LEDG_DOM_BALLAST_LO)
    { s with ballastBill := addTo s.ballastBill (a * 2048 + dom) pc }

/-- Split a rail's ballast of one tick among its debts, which shrink in proportion as it decays, its profile, its floor and the operator (R291). -/
def State.splitBallast (s : State) (a b : Nat) (stopping : Bool) : State :=
  let r := s.rail a
  let total := (r.debts.map Prod.snd).foldl (· + ·) 0
  let debts := if total ≤ b then r.debts else (r.debts.map fun p => (p.1, p.2 * b / total)).filter fun p => p.2 != 0
  let s := s.setRail a { r with debts := debts }
  let s := debts.foldl (fun t p => t.chargeBallast a p.1 p.2) s
  let rest := b - (debts.map Prod.snd).foldl (· + ·) 0
  let arm := s.armedDoms a
  if stopping then s.chargeBallast a 1024 rest
  else if r.prof.isSome then s.chargeBallast a r.profDom rest
  else if arm = [] then s.chargeBallast a 1024 rest
  else (arm.zipIdx).foldl (fun t p => t.chargeBallast a p.1 (rest / arm.length + (if p.2 < rest % arm.length then 1 else 0))) s

/-- Cap of a compute account (R287, R579). -/
def State.cap (s : State) (a : Nat) : Nat :=
  let r := s.rail a
  let c := s.ceil a
  let c := if s.thr.throttled || !r.caps.isEmpty then min c (s.thrFloor a) else c
  if r.prof.isSome then min c (r.guide / 50) else c

/-- The head request of an account under the tie rule, without advancing the pointer (R287). -/
def State.headReq (s : State) (a : Nat) : Option LReq :=
  let rs := s.lreqs.filter fun r => r.acct == a
  let heads := rs.filter fun r => (rs.find? fun q => q.ix == r.ix) == some r
  match (s.tieGrant (0x10000 + a) 0 (heads.map fun r => (r.ix, r.prio))).1 with
  | some i => heads.find? fun r => r.ix == i
  | none => none

/-- Grant a request: its units are reserved and the pointer advances; the passes of its cores go on (R93, R285, R287). -/
def State.grantReq (s : State) (h : LReq) : State :=
  let rs := s.lreqs.filter fun r => r.acct == h.acct
  let heads := rs.filter fun r => (rs.find? fun q => q.ix == r.ix) == some r
  let s := (s.tieGrant (0x10000 + h.acct) (if h.acct < 8 then 1024 else 65536) (heads.map fun r => (r.ix, r.prio))).2
  let s : State := { s with lreqs := s.lreqs.erase h, lresv := s.lresv ++ h.units }
  (s.markGranted h.units).coverArrays

/-- Ticks in which a request waited (R300). -/
def State.countWait (s : State) (a : Nat) : State :=
  if s.lreqs.any fun q => q.acct == a then s.inc (railReg a Off.LEDG_RAIL_WAIT) else s

/-- LEDG_RAIL_PEAK follows an account (R300). -/
def State.notePeak (s : State) (a n : Nat) : State :=
  if (s.rd (railReg a Off.LEDG_RAIL_PEAK)).toNat < n then s.wr (railReg a Off.LEDG_RAIL_PEAK) (BitVec.ofNat 32 n) else s

/-- Accounts 8 to 12 grant a request as soon as it fits under the ceiling; one that does not fit holds those behind it (R287). -/
def State.grantRun (a : Nat) : Nat → State → State
  | 0, s => s
  | n + 1, s =>
    match s.headReq a with
    | some q => if s.workOf a (s.lresv ++ q.units) ≤ s.ceil a then State.grantRun a n ((s.grantReq q).notePeak a (s.workOf a (s.lresv ++ q.units))) else s
    | none => s

/-- Grant every request of an account that fits (R287). -/
def State.grantFits (s : State) (a : Nat) : State := State.grantRun a s.lreqs.length s

/-- Ask for reservations: one request per account and contender (R285). -/
def State.askUnits (s : State) (us : List LUnit) : State :=
  let keys := (us.map fun u => (u.acct, u.ix)).eraseDups
  let t := State.coverArrays { s with lreqs := s.lreqs ++ keys.map fun k =>
    let mine := us.filter fun u => u.acct == k.1 && u.ix == k.2
    { acct := k.1, ix := k.2, prio := (mine.head?.map LUnit.prio).getD 0, dom := (mine.head?.map LUnit.dom).getD 1024, units := mine } }
  ((keys.map Prod.fst).eraseDups.filter fun a => decide (8 ≤ a)).foldl State.grantFits t

/-- The guide of an active profile moves for one tick (R292). -/
def State.moveGuide (s : State) (a : Nat) : State :=
  let r := s.rail a
  match r.prof, r.seg with
  | some _, none => s.setRail a { r with timer := r.timer + 1 }
  | some p, some g =>
    let tgt := min (s.ceil a) (fld (s.rd (reg pgLEDG (Off.LEDG_PROF_TGT + 0x40 * p + 8 * g))) 0 20) * 50
    let rate := min (s.rd (railReg a Off.LEDG_RAIL_SLEW)).toNat (fld (s.rd (reg pgLEDG (Off.LEDG_PROF_RATE + 0x40 * p + 8 * g))) 0 13)
    if r.guide = tgt then s.setRail a { r with timer := r.timer + 1 }
    else s.setRail a { r with guide := if r.guide < tgt then min tgt (r.guide + rate) else max tgt (r.guide - rate), timer := 0 }
  | none, _ => s

/-- Work charges of one tick, by domain: granted reservations with CLUSTER_ON of the clusters that hold them; the operator has the rest (R497, R498). -/
def State.chargeWork (s : State) (a : Nat) : State :=
  let doms := ((s.lresv.filter fun u => u.acct == a && decide (u.dom < 1024)).map LUnit.dom).eraseDups
  let part (d : Nat) : Nat :=
    let us := s.lresv.filter fun u => u.dom == d
    s.workOf a us - (if a < 8 && us.any (fun u => u.acct == a && decide (u.ix < 375)) then s.scaled a 800 else 0)
  let s1 := doms.foldl (fun t d => t.addCharge a d (2 * part d)) s
  s1.addCharge a 1024 (2 * (s.work a - doms.foldl (fun n d => n + part d) 0))

/-- Does a stop of the module take its compute accounts to 0 (R297)? -/
def State.stopping (s : State) : Bool := s.warm.isSome || s.fatal.isSome

/-- What bounds a compute account in one tick (R287, R293, R294). -/
structure RailTick where
  a0 : Nat
  cap : Nat
  hold : Nat
  /-- the wanted value, its head request included -/
  want : Nat
  a1 : Nat
deriving DecidableEq, Repr

/-- The account of the next tick, after LSTEP_N has asserted for a rise that would leave the band; a warm reset, and the stop of a fatal error, ignore floors and profiles (R287, R293 to R297). -/
def State.railTick (s : State) (a : Nat) (h : Option LReq) : State × RailTick :=
  let r := s.rail a
  let a0 := s.account a
  let step := (s.rd (railReg a Off.LEDG_RAIL_SLEW)).toNat / 50
  let cap := if s.stopping then s.ceil a else s.cap a
  let band := s.ceil a / 10
  let anchor := (s.rd (railReg a Off.LEDG_RAIL_ANCHOR)).toNat
  let hold := if s.stopping then 0 else min cap (max (s.floorHeld a) (if r.prof.isSome then r.guide / 50 else 0))
  let want := match h with | some q => s.workOf a (s.lresv ++ q.units) | none => s.work a
  let free := s.lstep a && r.leadDone
  let t := if anchor + band < max want (min cap hold) && !free then s.assertLstep a else s
  let top := if free then 2 ^ 20 else anchor + band
  let up := max (min (min (a0 + step) cap) top) (a0 - step)
  let up := if s.thr.throttled || r.relHold then min up a0 else up
  let down := max (a0 - step) hold
  (t, { a0 := a0, cap := cap, hold := hold, want := want, a1 := if s.stopping then a0 - step else min (max want down) up })

/-- Count the frozen cores of a tick: a tick of 2 ns is 2.2 cycles of the array clock (R4, R82, R103). -/
def State.countFrozen (s : State) (a : Nat) (fr : List (Nat × Option Nat × Nat)) : State :=
  if fr = [] then s
  else
    let n := (s.rail a).fifths + 11
    let s := (s.inc (railReg a Off.LEDG_RAIL_FREEZE_TICKS)).modRail a fun r => { r with fifths := n % 5 }
    fr.foldl (fun t f => match f.2.1 with
      | some k => t.inc (wreg k (pgCLU (a * 375 + f.1)) Off.CORE_FREEZE_LEDGER) (n / 5)
      | none => t) s

/-- One tick of a compute account (R287, R293 to R295). -/
def State.tickRail (s : State) (a : Nat) : State :=
  let s := s.moveGuide a
  let stop := s.stopping
  let h := if stop then none else s.headReq a
  let (s, x) := s.railTick a h
  let s := match h with
    | some q =>
      let s := s.modRail a fun r => if x.a0 < x.a1 then { r with debts := addTo r.debts q.dom (x.a1 - x.a0) } else r
      if x.want ≤ x.a1 then s.grantReq q else s
    | none => s
  let s := s.countWait a
  let (m, fr) := freezeTo x.a1 (s.work a) (s.freezeOrder a)
  let s := (s.countFrozen a fr).wr (railReg a Off.LEDG_RAIL_ACCOUNT) (BitVec.ofNat 32 x.a1)
  let s := s.notePeak a x.a1
  let s := if x.a1 + s.ceil a / 10 < (s.rd (railReg a Off.LEDG_RAIL_ANCHOR)).toNat then s.assertLstep a else s
  let held := stop || (decide (x.want ≤ x.hold) && x.a1 == x.hold)
  let s := s.modRail a fun r => { r with
    modelled := m, frozen := fr, still := if x.a1 = x.a0 then r.still + 1 else 0, age := r.age + 1,
    rise := !s.thr.throttled && !stop && decide (x.a1 < min x.cap (max x.want x.hold)), debts := if held then [] else r.debts }
  (s.splitBallast a (x.a1 - m) stop).chargeWork a

/-- One tick of accounts 8 to 12: requests are granted under the ceiling alone (R287). -/
def State.tickOther (s : State) (a : Nat) : State :=
  let s := s.grantFits a
  (s.countWait a).notePeak a (s.work a)

/-- Weights of the I/O and update dies for one tick (R498). -/
def State.chargeOther (s : State) (a : Nat) : State :=
  ((s.lresv.filter fun u => u.acct == a && decide (u.dom < 1024)).map LUnit.dom).eraseDups.foldl (fun t d =>
    t.addCharge a d (2 * s.workOf a (s.lresv.filter fun u => u.dom == d))) s

/-- One sample of THROTTLE_N: a low one lapses the warning of a release, and ends a release whose rise has not begun (R294 to R296). -/
def State.sampleThrottle (s : State) (low : Bool) : State :=
  let t := s.thr
  let k := reg pgLEDG
  let s := s.wrBit (k Off.LEDG_THR_STATUS) 1 low
  if low then
    let s := if t.throttled && t.low = 0 then s.inc (k Off.LEDG_THR_TOGGLES) else s
    let cut := !t.throttled && (List.range 8).any fun a => (s.rail a).relHold
    { s with thr := { t with low := t.low + 1, high := 0, toggles := if t.throttled && t.low = 0 then t.toggles + 1 else t.toggles,
                             warned := false, broken := t.broken || cut } }
  else
    let s := if !t.throttled && 0 < t.low && t.low < 50 then s.inc (k Off.LEDG_THR_GLITCHES) else s
    { s with thr := { t with low := 0, high := t.high + 1, held := false } }

/-- Every account for one ledger tick, after the sample of THROTTLE_N (R287). -/
def State.ledgerTick (s : State) (low : Bool) : State :=
  let s := s.sampleThrottle low
  let s := (List.range 8).foldl State.tickRail s
  let s := ((List.range 5).map (8 + ·)).foldl State.tickOther s
  (s.chargeOther 8).chargeOther 9

/-! ## Throttle, LSTEP_N and profiles -/

/-- Recognition of THROTTLE_N (R294). -/
def State.throttle (s : State) : State :=
  let k := reg pgLEDG
  let s : State := { s with thr := { s.thr with throttled := true, toggles := 0, warned := false, broken := false } }
  let s := s.inc (k Off.LEDG_THR_COUNT)
  let s := s.wr64 (k Off.LEDG_THR_LAST_LO) s.now
  let s := (List.range 8).foldl (fun t a =>
    let t := t.assertLstep a
    let (m, fr) := freezeTo (t.thrFloor a) (t.work a) (t.freezeOrder a)
    let a1 := min m (t.account a)
    (t.wr (railReg a Off.LEDG_RAIL_ACCOUNT) (BitVec.ofNat 32 a1)).modRail a fun r =>
      { r with modelled := m, frozen := fr, debts := [], units := [], still := 0, relHold := false, rise := false }) s
  (s.wrBit (k Off.LEDG_THR_STATUS) 0 true).raise pgLEDG 0

/-- Release of the throttle: a rail that has not warned for its lead waits for it; a release that a low run ended begins again (R295). -/
def State.unthrottle (s : State) : State :=
  let s := if s.thr.throttled then s.raise pgLEDG 2 else s
  let s : State := { s with thr := { s.thr with throttled := false, warned := false, broken := false } }
  let s := (List.range 8).foldl (fun t a => t.modRail a fun r => { r with relHold := !r.leadDone }) s
  s.wrBit (reg pgLEDG Off.LEDG_THR_STATUS) 0 false

/-- Must LSTEP_N of a rail stay asserted though its account is unchanged: a profile's lead, a warned rise that has not been made, the warning of a throttle release, the ramp of a stop (R292, R293, R295, R297)? -/
def State.lstepHeld (s : State) (a : Nat) : Bool :=
  let r := s.rail a
  (r.prof.isSome && r.seg.isNone) || r.rise || (r.relHold && !s.thr.broken) || s.thr.warned || (s.stopping && s.account a != 0)

/-- A profile starts on the rails of its mask, some ticks after its instant (R292, R298, R318). -/
def State.startProfile (s : State) (p dom late : Nat) : State :=
  let cfg := s.rd (reg pgLEDG (Off.LEDG_PROF_CFG + 0x40 * p))
  let lead := fld cfg 8 5
  let min' := fld (s.rd (reg pgLEDG Off.LEDG_LSTEP_LEAD)) 0 5
  let clip (t : State) : State := t.pageErr pgLEDG Err.PROFILE_CLIPPED p 0 0x10#32
  let rails := (List.range 8).filter fun a => bit cfg a
  let segs := List.range (fld cfg 13 3 + 1)
  let s := if lead < min' then clip s else s
  let s := if rails.any fun a => segs.any fun g =>
      decide ((s.rd (railReg a Off.LEDG_RAIL_SLEW)).toNat < fld (s.rd (reg pgLEDG (Off.LEDG_PROF_RATE + 0x40 * p + 8 * g))) 0 13)
        || decide (s.ceil a < fld (s.rd (reg pgLEDG (Off.LEDG_PROF_TGT + 0x40 * p + 8 * g))) 0 20) then clip s else s
  rails.foldl (fun t a =>
    let t := if (t.rail a).prof.isSome then t.pageErr pgLEDG Err.PROFILE_REPLACED p a 0x20#32 else t
    (t.assertLstep a).modRail a fun r =>
      { r with prof := some p, seg := none, guide := 50 * t.account a, timer := late, lead := max lead min' * 500, profDom := dom }) s

/-- Segments of the profile on a rail. -/
def State.profSegs (s : State) (p : Nat) : Nat := fld (s.rd (reg pgLEDG (Off.LEDG_PROF_CFG + 0x40 * p))) 13 3 + 1

/-- Has the present lead or hold of a rail's profile expired: the next segment, if any (R292)? -/
def State.profNext (s : State) (a : Nat) : Option (Nat × Bool) :=
  let r := s.rail a
  match r.prof, r.seg with
  | some _, none => if r.lead ≤ r.timer then some (0, false) else none
  | some p, some g =>
    let tgt := min (s.ceil a) (fld (s.rd (reg pgLEDG (Off.LEDG_PROF_TGT + 0x40 * p + 8 * g))) 0 20) * 50
    let hold := fld (s.rd (reg pgLEDG (Off.LEDG_PROF_RATE + 0x40 * p + 8 * g))) 16 16 * 500
    if r.guide = tgt && decide (hold ≤ r.timer) then some (g + 1, g + 1 == s.profSegs p) else none
  | none, _ => none

/-- LEDG_RAIL_STATE (R300). -/
def State.railState (s : State) (a : Nat) : Word :=
  let r := s.rail a
  BitVec.ofNat 32 (b2n (s.lstep a) + 2 * b2n s.thr.throttled + 4 * b2n r.prof.isSome
    + 8 * b2n (s.lstep a && !r.leadDone && decide ((s.rd (railReg a Off.LEDG_RAIL_ANCHOR)).toNat + s.ceil a / 10 ≤ s.account a))
    + 16 * r.prof.getD 0 + 256 * r.seg.getD 0)

/-- Is a profile active on any rail (R301)? -/
def State.profActive (s : State) (p : Nat) : Bool := (List.range 8).any fun a => (s.rail a).prof == some p

end Sys2Proof.Machine
end

