-- ==== Sys2Proof/Machine/Fn.lean ====
section
/-! DEFINITION. The bounds of R90 and R139: enclosures of the exact results of the vector functions and of the drain's exp2, and the free result inside the bound (log entry 8, DESIGN CHOICE). -/

namespace Sys2Proof.Machine

open Sys2Proof

/-! ## Fixed-point arithmetic of 192 fraction bits -/

/-- Fraction bits of the enclosures. -/
def fxP : Nat := 192
/-- 1. -/
def fxOne : Int := 2 ^ fxP
/-- ln 2, truncated. -/
def fxLn2 : Int := 4350955369971217654477563090224794165364344896676135745069
/-- π, truncated. -/
def fxPi : Int := 19720096697726538562396133364228268891463450865190089732560
/-- 1/√(2π), truncated. -/
def fxGauss : Int := 2504201280626952864894549311249338563268063356138482501336
/-- Product, rounded down. -/
def fxMul (a b : Int) : Int := a * b / fxOne
/-- Quotient, rounded down. -/
def fxDiv (a b : Int) : Int := a * fxOne / b
/-- m × 2^e, rounded down. -/
def fxOf (m : Nat) (e : Int) : Int :=
  if 0 ≤ e + (fxP : Int) then (m : Int) * 2 ^ (e + (fxP : Int)).toNat else (m : Int) / 2 ^ (-(e + (fxP : Int))).toNat

/-- e^t for 0 ≤ t < 1: forty-eight terms of the series. -/
def fxExp (t : Int) : Int := (List.range 48).foldl (fun a k => fxOne + fxMul t a / ((48 - k : Nat) : Int)) fxOne

/-- Σ z^(2k+1) / (2k+1), the inverse hyperbolic tangent for z ≤ 1/3. -/
def fxAtanh (z : Int) : Int :=
  fxMul z ((List.range 72).foldl (fun a k => fxOne / ((2 * (71 - k) + 1 : Nat) : Int) + fxMul (fxMul z z) a) 0)

/-- sin t for 0 ≤ t < 7. -/
def fxSin (t : Int) : Int :=
  fxMul t ((List.range 40).foldl (fun a k => fxOne - fxMul (fxMul t t) a / (((2 * (40 - k)) * (2 * (40 - k) + 1) : Nat) : Int)) fxOne)

/-- cos t for 0 ≤ t < 7. -/
def fxCos (t : Int) : Int :=
  (List.range 40).foldl (fun a k => fxOne - fxMul (fxMul t t) a / (((2 * (40 - k) - 1) * (2 * (40 - k)) : Nat) : Int)) fxOne

/-- Σ (−1)^k x^(2k+1) / (2^k k! (2k+1)) for 0 ≤ x < 10: the Gaussian integral from 0 times √(2π). -/
def fxGaussInt (x : Int) : Int :=
  let h := fxMul x x / 2
  let ts := (List.range 256).foldl (fun (r : Int × Int) k => (r.1 + r.2 / ((2 * k + 1 : Nat) : Int), -(fxMul r.2 h) / ((k + 1 : Nat) : Int))) (0, x)
  ts.1

/-- The whole part of the square root of n: 320 binary digits, the highest first. -/
def isqrt (n : Nat) : Nat :=
  (List.range 320).foldl (fun r k => let c := r + 2 ^ (319 - k); if c * c ≤ n then c else r) 0

/-! ## Enclosures -/

/-- An exact result y with |y − (−1)^neg m 2^e| ≤ err 2^e. -/
structure Encl where
  neg : Bool
  m : Nat
  e : Int
  err : Nat
deriving DecidableEq, Repr

/-- The enclosure of a fixed-point number. -/
def Encl.ofFx (x : Int) (e : Int) : Encl := ⟨decide (x < 0), x.natAbs, e - (fxP : Int), 2 ^ 80⟩

/-- 2^x of a finite x below 2^9 in magnitude. -/
def enclExp2 (neg : Bool) (m : Nat) (e : Int) : Encl :=
  let x : Int := if neg then -fxOf m e else fxOf m e
  .ofFx (fxExp (fxMul (x % fxOne) fxLn2)) (x / fxOne)

/-- log2 of m 2^e, m positive. -/
def enclLog2 (m : Nat) (e : Int) : Encl :=
  let k := Nat.log2 m
  let a := fxOf m (-(k : Int))
  .ofFx ((k + e) * fxOne + fxDiv (2 * fxAtanh (fxDiv (a - fxOne) (a + fxOne))) fxLn2) 0

/-- 1/√x of m 2^e, m positive. -/
def enclRsqrt (m : Nat) (e : Int) : Encl :=
  let (m, e) := if e % 2 = 0 then (m, e) else (2 * m, e - 1)
  ⟨false, isqrt (2 ^ 300 / m), -150 - e / 2, 2⟩

/-- 1/x of ±m 2^e, m positive. -/
def enclRcp (neg : Bool) (m : Nat) (e : Int) : Encl := ⟨neg, 2 ^ 200 / m, -200 - e, 1⟩

/-- e^(−x) of m 2^e below 2^9 as a fixed-point number. -/
def fxExpNeg (m : Nat) (e : Int) : Int :=
  let y := -(fxOf m e)
  let k := y / fxLn2
  fxExp (y - k * fxLn2) / 2 ^ (-k).toNat

/-- tanh of ±m 2^e; below 2^-20 it is x to a relative 2^-40, from 2^6 on it is 1 to 2^-100. -/
def enclTanh (neg : Bool) (m : Nat) (e : Int) : Encl :=
  let top : Int := (Nat.log2 m : Int) + e
  if m = 0 then ⟨neg, 0, 0, 0⟩
  else if top < -20 then ⟨neg, m * 2 ^ 40, e - 40, m⟩
  else if 6 ≤ top then ⟨neg, 2 ^ 100, -100, 1⟩
  else
    let z := fxExpNeg m (e + 1)
    { Encl.ofFx (fxDiv (fxOne - z) (fxOne + z)) 0 with neg := neg }

/-- 1/(1 + e^−x) of ±m 2^e as a fixed-point number; from 2^8 on it is 0 or 1 to 2^-180. -/
def fxSigmoid (neg : Bool) (m : Nat) (e : Int) : Int :=
  if m ≠ 0 && decide (8 ≤ (Nat.log2 m : Int) + e) then (if neg then 0 else fxOne)
  else
    let z := fxExpNeg m e
    if neg then fxDiv z (fxOne + z) else fxDiv fxOne (fxOne + z)

/-- The distribution function of the normal distribution at ±m 2^e; beyond 9 it is 0 or 1 to 2^-60. -/
def fxPhi (neg : Bool) (m : Nat) (e : Int) : Int :=
  if decide ((fxOf 9 0) < fxOf m e) || (m ≠ 0 && decide (5 ≤ (Nat.log2 m : Int) + e)) then (if neg then 0 else fxOne)
  else
    let h := fxMul fxGauss (fxGaussInt (fxOf m e))
    if neg then fxOne / 2 - h else fxOne / 2 + h

/-- x y of ±m 2^e and a fixed-point y: the error of y grows with x. -/
def enclTimes (neg : Bool) (m : Nat) (e : Int) (y : Int) (err : Nat) : Encl := ⟨neg, m * y.natAbs, e - (fxP : Int), m * err⟩

/-- sin or cos of a phase in units of 2^-32 turns. -/
def enclTrig (cos : Bool) (ph : Nat) : Encl :=
  let t := 2 * fxPi * (ph % 2 ^ 32 : Nat) / 2 ^ 32
  .ofFx (if cos then fxCos t else fxSin t) 0

/-! ## The free result inside the bound -/

/-- Exponent of one FP32 ulp of the enclosed result. -/
def Encl.ulp (x : Encl) : Int := if x.m + x.err = 0 then -149 else max (-149) ((Nat.log2 (x.m + x.err) : Int) + x.e - 23)

/-- Can a pattern lie within k ulps of the exact result, or within 2^floor of it where that is more? -/
def Encl.within (x : Encl) (k : Nat) (floor : Option Int) (p : Nat) : Bool :=
  match decodeFloat 0 p with
  | .fin n m e =>
    let f := floor.getD x.ulp
    let g := min (min x.e e) (min x.ulp f)
    let at' (n : Bool) (m : Nat) (e : Int) : Int := (if n then -1 else 1) * ((m * 2 ^ (e - g).toNat : Nat) : Int)
    decide ((at' x.neg x.m x.e - at' n m e).natAbs ≤ x.err * 2 ^ (x.e - g).toNat + max (k * 2 ^ (x.ulp - g).toNat) (2 ^ (f - g).toNat))
  | _ => false

/-- The free pattern p where it keeps the bound, else the enclosure's centre rounded to nearest. -/
def Encl.pick (x : Encl) (k : Nat) (floor : Option Int) (p : Nat) : Nat :=
  if x.within k floor p then p else f32Round false (.fin x.neg x.m x.e)

/-- A vector function: the special inputs of R139, else a free value within the function's bound (log entry 8, DESIGN CHOICE). -/
def f32Fn (f : Config.Fn) (a : Nat) : Nat :=
  let p := f32Flush a
  let neg := decide (p / 2 ^ 31 % 2 = 1)
  let zero := decide (p % 2 ^ 31 = 0)
  let inf := f32IsInf p
  let one := 0x3F800000
  let pinf := 0x7F800000
  let ninf := 0xFF800000
  let raw := (Config.fn f (BitVec.ofNat 32 p)).toNat
  let (m, e) := match decodeFloat 0 p with | .fin _ m e => (m, e) | _ => (0, 0)
  let open' (x : Encl) (k : Nat) (floor : Option Int) : Nat := f32Flush (x.pick k floor raw)
  if f32IsNaN p then f32NaN
  else match f with
  | .exp2 => if zero then one else if inf && neg then 0
      else if !((decodeFloat 0 p).lt (.fin false 1 7)) then pinf
      else if (decodeFloat 0 p).lt (.fin true 1 8) then 0 else open' (enclExp2 neg m e) 1 none
  | .log2 => if zero then ninf else if neg then f32NaN else if inf then pinf else if p = one then 0 else open' (enclLog2 m e) 1 none
  | .rsqrt => if zero then (if neg then ninf else pinf) else if neg then f32NaN else if inf then 0 else open' (enclRsqrt m e) 1 none
  | .rcp => if zero then (if neg then ninf else pinf) else if inf then (if neg then 2 ^ 31 else 0) else open' (enclRcp neg m e) 1 none
  | .tanh => if inf then (if neg then 0xBF800000 else one) else open' (enclTanh neg m e) 2 none
  | .sigmoid => if inf then (if neg then 0 else one) else open' (.ofFx (fxSigmoid neg m e) 0) 2 (some (-30))
  | .gelu => if inf then (if neg then 2 ^ 31 else pinf) else open' (enclTimes neg m e (fxPhi neg m e) (2 ^ 132)) 3 (some (-30))
  | .silu => if inf then (if neg then 2 ^ 31 else pinf) else open' (enclTimes neg m e (fxSigmoid neg m e) (2 ^ 80)) 3 (some (-30))
  | .cos => p
  | .sin => p

/-- sin or cos of ROPE of a phase in units of 2^−32 turns: a free value within 2^−22 (R139, R143). -/
def ropeTrig (cos : Bool) (ph : Nat) : Nat :=
  f32Flush ((enclTrig cos ph).pick 0 (some (-22)) (Config.fn (if cos then .cos else .sin) (BitVec.ofNat 32 ph)).toNat)

/-- √(m 2^e), to 2^-190 of itself. -/
def enclSqrt (m : Nat) (e : Int) : Encl :=
  let n : Nat := 400 + (e % 2).toNat
  ⟨false, isqrt (m * 2 ^ n), (e - (n : Int)) / 2, 1⟩

/-- SQRT of the update die: the arguments of R392, else a free value within 1 ulp (log entry 8, DESIGN CHOICE). -/
def f32Sqrt (a : Nat) : Nat :=
  let x := f32Flush a
  if f32IsNaN x then f32NaN
  else if x % 2 ^ 31 = 0 then x
  else if 2 ^ 31 ≤ x then f32NaN
  else if f32IsInf x then x
  else match decodeFloat 0 x with
    | .fin _ m e => f32Flush ((enclSqrt m e).pick 1 none (Config.updFn 0 (BitVec.ofNat 32 x)).toNat)
    | _ => x

/-- The exp2 unit of a drain column: a free value within 2 ulp; subnormals kept (R43, R90). -/
def drainExp2 (a : Nat) : Nat :=
  if f32IsNaN a then f32NaN
  else if a % 2 ^ 31 = 0 then 0x3F800000
  else if a = 0xFF800000 then 0
  else if !((decodeFloat 0 a).lt (.fin false 1 7)) then 0x7F800000
  else if (decodeFloat 0 a).lt (.fin true 1 8) then (⟨false, 0, 0, 0⟩ : Encl).pick 2 none (Config.drainExp2 (BitVec.ofNat 32 a)).toNat
  else match decodeFloat 0 a with
    | .fin n m e => (enclExp2 n m e).pick 2 none (Config.drainExp2 (BitVec.ofNat 32 a)).toNat
    | _ => 0

end Sys2Proof.Machine
end

