-- ==== Sys2Proof/Machine/Operands.lean ====
section
/-! DEFINITION. Operand descriptors, address generation and element access (R213 to R218, R246, R247), zero-row bitmaps (R164, R598), scale records (R54 to R57) and the fields of a command (R217, R223 to R227). -/

namespace Sys2Proof

open Sys2Proof.Machine

/-! ## Fields of a command (R217, R218) -/

/-- OPCODE. -/
def Cmd.opcode (w : Cmd) : Nat := fld w.hdr 0 8
/-- ECLASS. -/
def Cmd.eclass (w : Cmd) : Nat := fld w.hdr 8 4
/-- ICLASS. -/
def Cmd.iclass (w : Cmd) : Nat := fld w.hdr 12 4
/-- UNITSET. -/
def Cmd.unitset (w : Cmd) : Nat := fld w.hdr 16 8
/-- WAIT_SEM. -/
def Cmd.waitSem (w : Cmd) : Nat := fld w.hdr 24 8
/-- WAIT_DEC. -/
def Cmd.waitDec (w : Cmd) : Nat := fld w.hdr 32 4
/-- SIG_SEM. -/
def Cmd.sigSem (w : Cmd) : Nat := fld w.hdr 36 8
/-- SIG_INC. -/
def Cmd.sigInc (w : Cmd) : Nat := fld w.hdr 44 4
/-- COND_SEL. -/
def Cmd.condSel (w : Cmd) : Nat := fld w.hdr 48 3
/-- COND_EN. -/
def Cmd.condEn (w : Cmd) : Bool := bit w.hdr 51
/-- COND_NEG. -/
def Cmd.condNeg (w : Cmd) : Bool := bit w.hdr 52
/-- FENCE. -/
def Cmd.fence (w : Cmd) : Bool := bit w.hdr 56
/-- Operand slot i: OPA, OPB, OPC, OPD. -/
def Cmd.slot (w : Cmd) (i : Nat) : Nat := fld w.slots (16 * i) 16
/-- The field of `len` bits at bit `lo` of the 128-bit operation word. -/
def Cmd.op (w : Cmd) (lo len : Nat) : Nat :=
  (w.op0.toNat + 2 ^ 64 * w.op1.toNat) / 2 ^ lo % 2 ^ len
/-- One bit of the operation word. -/
def Cmd.opBit (w : Cmd) (i : Nat) : Bool := w.op i 1 == 1
/-- SEEDED (R223). -/
def Cmd.seeded (w : Cmd) : Bool := w.opBit 49
/-- DEST (R223). -/
def Cmd.dest (w : Cmd) : Nat := w.op 26 2
/-- SPOOL_NEXT (R223). -/
def Cmd.spoolNext (w : Cmd) : Int := sext (w.op 50 8) 8
/-- Is a command the head of a spool chain (R224)? -/
def Cmd.isHead (w : Cmd) : Bool := w.opcode == 0x10 && !w.seeded && w.dest == 3
/-- May a command be a chain's member behind its head (R224)? -/
def Cmd.isMember (w : Cmd) : Bool := w.opcode == 0x10 && w.seeded && !w.condEn && w.waitDec == 0 && !w.fence

end Sys2Proof

namespace Sys2Proof.Machine

open Sys2Proof

/-- A context fault: its code, ERR_INFO0 and ERR_INFO1. -/
structure Flt where
  code : Code
  i0 : Nat := 0
  i1 : Nat := 0
deriving DecidableEq, Repr

/-- The command whose 32 bytes are a little-endian number. -/
def cmdOfNat (v : Nat) : Cmd :=
  ⟨BitVec.ofNat 64 v, BitVec.ofNat 64 (v / 2 ^ 64), BitVec.ofNat 64 (v / 2 ^ 128), BitVec.ofNat 64 (v / 2 ^ 192)⟩

/-! ## Reads of one space -/

/-- Store key of an address in space 1 or 2 of an instance; for an ARRAY operand space 2 is the instance's own core store (R246). -/
def State.storeKey (s : State) (sp cl core addr : Nat) (array : Bool) : Option Nat :=
  if sp = 1 then if addr < 2 ^ 21 then some (csBase cl + addr) else none
  else if array then if addr < 2 ^ 14 then some (coreBase cl core + addr) else none
  else if addr / 2 ^ 14 < 96 then some (coreBase cl (s.physCore cl (addr / 2 ^ 14)) + addr % 2 ^ 14) else none

/-- The store ranges that n bytes of space 1 or 2 lie in: place within the access, store key, bytes; none where a byte lies beyond the store (R151, R246). -/
def State.storeRuns (s : State) (sp cl core addr n : Nat) (array : Bool) : Option (List (Nat × Nat × Nat)) :=
  (List.range ((addr % 2 ^ 14 + n - 1) / 2 ^ 14 + 1)).mapM fun i =>
    let lo := if i = 0 then addr else (addr / 2 ^ 14 + i) * 2 ^ 14
    let hi := min (addr + n) ((addr / 2 ^ 14 + i + 1) * 2 ^ 14)
    (s.storeKey sp cl core lo array).map fun k => (lo - addr, k, hi - lo)

/-- Read bytes in a space for domain d: the value and, if it is poisoned, the fault a consumer takes (R520, R521). -/
def State.spRead (s : State) (d sp cl core addr n : Nat) (array : Bool := false) (upd : Bool := false) : Except Flt (Nat × Option Flt) :=
  if sp = 0 then
    match s.tierRead d addr n upd with
    | .fault c => .error ⟨c, addr % 2 ^ 32, addr / 2 ^ 32 % 2 ^ 20⟩
    | .poison c v => .ok (v, some ⟨c, 4, addr % 2 ^ 32⟩)
    | .ok v => .ok (v, none)
  else
    match s.storeRuns sp cl core addr n array with
    | none => .error ⟨Err.MOVER_RANGE, 0, 0⟩
    | some runs =>
      let ue := if sp = 1 then Err.CLUSTER_STORE_UE else Err.CORE_STORE_UE
      runs.foldlM (fun (a : Nat × Option Flt) r =>
        match s.storeRead d r.2.1 r.2.2 ue with
        | .poison c v => .ok (a.1 + v * 256 ^ r.1, a.2.orElse fun _ => some ⟨c, 4 + sp, (addr + r.1) % 2 ^ 32⟩)
        | .fault c => .error ⟨c, 0, 0⟩
        | .ok v => .ok (a.1 + v * 256 ^ r.1, a.2)) (0, none)

/-- Read bytes that steer or scale work: poison faults (R520). -/
def State.spReadSafe (s : State) (d sp cl core addr n : Nat) (array : Bool := false) (upd : Bool := false) : Except Flt Nat :=
  match s.spRead d sp cl core addr n array upd with
  | .error f => .error f
  | .ok (_, some f) => .error f
  | .ok (v, none) => .ok v

/-- Read through an auxiliary address: space in bits [63:62], offset in bits [51:0]; the byte address is modulo 2^64 (R246, R247). -/
def State.auxRead (s : State) (d aux : Nat) (off : Int) (n cl core : Nat) (array : Bool := false) : Except Flt Nat :=
  s.spReadSafe d (aux / 2 ^ 62 % 4) cl core (((aux % 2 ^ 52 : Nat) + off) % (2 ^ 64 : Nat)).toNat n array

/-- Write (address, byte) pairs in a space for domain d. -/
def State.spWrite (s : State) (d sp cl core : Nat) (bs : List (Nat × Byte)) (array : Bool := false) (upd : Bool := false) : Except Flt State :=
  match bs with
  | [] => .ok s
  | b0 :: _ =>
    if sp = 0 then
      match s.tierWrite d bs upd with
      | .ok t => .ok t
      | .error c => .error ⟨c, b0.1 % 2 ^ 32, b0.1 / 2 ^ 32 % 2 ^ 20⟩
    else
      match bs.mapM fun b => (s.storeKey sp cl core b.1 array).map fun k => (k, b.2) with
      | none => .error ⟨Err.MOVER_RANGE, 0, 0⟩
      | some ks =>
        let t := ks.foldl (fun u b => u.storeByte d b.1 b.2) s
        let lines := (ks.map fun b => b.1 / 64).eraseDups
        .ok (lines.foldl (fun u l =>
          if (List.range 64).all fun i => ks.any fun b => b.1 == l * 64 + i then u.setMark l { own := some d } else u) t)

/-! ## Descriptors -/

/-- A 128-byte operand descriptor as stored (R246). -/
structure Desc where
  base : Nat
  ctrl : BitVec 32
  routerC : Nat
  count : List Nat
  stride : List Int
  lstride : List Int
  icl : Int
  icore : Int
  auxMap : Nat
  auxIdx : Nat
  auxScale : Nat
deriving DecidableEq, Repr

/-- The descriptor whose 128 bytes are a little-endian number. -/
def descOfNat (v : Nat) : Desc :=
  let f (off n : Nat) : Nat := v / 256 ^ off % 256 ^ n
  { base := f 0 8, ctrl := BitVec.ofNat 32 (f 8 4), routerC := f 12 4,
    count := (List.range 4).map fun i => f (16 + 4 * i) 4,
    stride := (List.range 4).map fun i => sext (f (32 + 8 * i) 8) 64,
    lstride := (List.range 4).map fun i => sext (f (64 + 8 * i) 8) 64,
    icl := sext (f 96 4) 32, icore := sext (f 100 4) 32,
    auxMap := f 104 8, auxIdx := f 112 8, auxScale := f 120 8 }

/-- SPACE. -/
def Desc.space (d : Desc) : Nat := fld d.ctrl 0 2
/-- FORMAT. -/
def Desc.fmt (d : Desc) : Nat := fld d.ctrl 2 4
/-- MASK. -/
def Desc.mask (d : Desc) : Bool := bit d.ctrl 22
/-- Element width in bits (R247). -/
def Desc.width (d : Desc) : Nat := if d.mask then 1 else fmtWidth d.fmt
/-- Number of elements. -/
def Desc.elems (d : Desc) : Nat := d.count.foldl (· * ·) 1
/-- COUNT[i]. -/
def Desc.cnt (d : Desc) (i : Nat) : Nat := d.count.getD i 1
/-- STRIDE[i]. -/
def Desc.str (d : Desc) (i : Nat) : Int := d.stride.getD i 0

/-- An auxiliary address with the reserved space code, or with a reserved bit set (R246). -/
def auxBad (a : Nat) : Bool := decide (a / 2 ^ 52 % 2 ^ 10 ≠ 0) || decide (a / 2 ^ 62 % 4 = 3)

/-- Checks of R247 and R57 that a descriptor fails on its own. -/
def Desc.bad (d : Desc) : Bool :=
  d.space == 3 || decide (fld d.ctrl 23 9 ≠ 0) || decide (d.routerC / 2 ^ 17 ≠ 0)
    || d.count.any (· == 0) || decide (2 ^ 40 < d.elems)
    || (bit d.ctrl 18 && bit d.ctrl 19)
    || (bit d.ctrl 14 && !bit d.ctrl 13) || (bit d.ctrl 15 && !bit d.ctrl 14)
    || (decide (d.width < 8) && !d.mask && decide (d.str 0 ≠ 1))
    || (d.fmt == 13 && bit d.ctrl 19)
    || ((bit d.ctrl 16 || bit d.ctrl 17) && auxBad d.auxMap)
    || (bit d.ctrl 13 && auxBad d.auxIdx)
    || ((bit d.ctrl 18 || bit d.ctrl 19) && auxBad d.auxScale)
    || (bit d.ctrl 16 && (decide (d.str 0 ≠ 1) || decide (d.str 1 < d.cnt 0)))

/-- The descriptor with its address register, loop indices and instance latched (R229, R247). -/
def Desc.resolve (d : Desc) (areg : Nat) (loops : List Nat) (c k cl core : Nat) : Opnd :=
  let l := (d.lstride.zip (loops ++ [0, 0, 0, 0])).foldl (fun (a : Int) (p : Int × Nat) => a + p.1 * (p.2 : Int)) 0
  { space := d.space, fmt := d.fmt,
    base := ((d.base + (if bit d.ctrl 10 then areg else 0)) % 2 ^ 64 : Nat),
    count := d.count, stride := d.stride, offset := l + d.icl * c + d.icore * k,
    indDim := fld d.ctrl 11 2, indEn := bit d.ctrl 13, indRouter := bit d.ctrl 14, indToken := bit d.ctrl 15,
    routerC := d.routerC % 2 ^ 17, zb := bit d.ctrl 16, isMeta := bit d.ctrl 17, scaled := bit d.ctrl 18,
    delayed := bit d.ctrl 19, blk := fld d.ctrl 20 2, mask := d.mask, auxMap := d.auxMap, auxIdx := d.auxIdx,
    auxScale := d.auxScale, cl := cl, core := core }

/-- The operand of a slot. -/
def InstOps.get (x : InstOps) (slot : Nat) (sub : Nat := 0) : Option Opnd :=
  (x.os.find? fun o => o.1 == slot && o.2.1 == sub).map fun o => o.2.2

/-- All operands of a slot in order. -/
def InstOps.all (x : InstOps) (slot : Nat) : List Opnd := (x.os.filter fun o => o.1 == slot).map fun o => o.2.2

/-- Element width in bits. -/
def Opnd.width (o : Opnd) : Nat := if o.mask then 1 else fmtWidth o.fmt
/-- Elements of the sequence. -/
def Opnd.elems (o : Opnd) : Nat := o.count.foldl (· * ·) 1
/-- COUNT[i]. -/
def Opnd.cnt (o : Opnd) (i : Nat) : Nat := o.count.getD i 1

/-- Index i_d of element number n, i0 fastest. -/
def Opnd.ix (o : Opnd) (n d : Nat) : Nat := n / ((o.count.take d).foldl (· * ·) 1) % o.cnt d

/-- Position in the index tensor of element number n (R247). -/
def Opnd.idxPos (o : Opnd) (n : Nat) : Int := (n / ((o.count.take o.indDim).foldl (· * ·) 1) : Nat) + o.offset

/-- Offset E without indirection (R247). -/
def Opnd.plainOff (o : Opnd) (n : Nat) : Int :=
  (List.range 4).foldl (fun a d => a + o.stride.getD d 0 * (o.ix n d : Int)) o.offset

/-- Offset E of element number n; none for a padding entry (R182, R247). -/
def State.elemOff (s : State) (dom : Nat) (o : Opnd) (array : Bool) (n : Nat) : Except Flt (Option Int) := do
  if !o.indEn then pure (some (o.plainOff n))
  else
    let e ← s.auxRead dom o.auxIdx (o.idxPos n * 4) 4 o.cl o.core array
    let inner := (List.range o.indDim).foldl (fun a d => a + o.stride.getD d 0 * (o.ix n d : Int)) 0
    let at' (row : Nat) : Option Int := some (inner + o.stride.getD o.indDim 0 * (row : Int))
    if !o.indRouter then pure (at' e)
    else if o.indToken then
      pure (if e / 2 ^ 31 = 1 then at' (e % 2 ^ 12 * o.routerC + e / 2 ^ 12 % 2 ^ 16) else none)
    else pure (if e / 2 ^ 31 = 1 then at' (e % 2 ^ 16) else none)

/-- Byte address and bit of the element at offset E (R247). -/
def Opnd.addr (o : Opnd) (e : Int) : Nat × Nat :=
  let b := e * (o.width : Int)
  (((o.base + b / 8) % 2 ^ 64).toNat, (b % 8).toNat)

/-- Offsets of the padding elements of a block-scaled tensor: those that a row's last block has past its COUNT[0] elements, where the element's byte lies in the store, or in the 2 MiB granule of the row's last element (R51; log entry 33, DESIGN CHOICE). -/
def Opnd.padOffs (o : Opnd) (rows : Nat) (rowLen bs : Nat) (last : Nat → Int) (stride : Int) : List Int :=
  let pad := cdiv rowLen bs * bs - rowLen
  (List.range rows).flatMap fun r =>
    ((List.range pad).map fun (i : Nat) => last r + stride * ((i : Int) + 1)).filter fun e =>
      let a := (o.addr e).1
      if o.space = 0 then decide (a / 2 ^ 21 = (o.addr (last r)).1 / 2 ^ 21) else if o.space = 1 then decide (a < 2 ^ 21)
      else decide (a / 2 ^ 14 = (o.addr (last r)).1 / 2 ^ 14)

/-- Read the raw pattern of the element at offset E, with its poison. -/
def State.readPat (s : State) (dom : Nat) (o : Opnd) (array : Bool) (e : Int) (upd : Bool := false) : Except Flt (Nat × Option Flt) := do
  let (a, b) := o.addr e
  let n := (b + o.width + 7) / 8
  let (v, p) ← s.spRead dom o.space o.cl o.core a n array upd
  pure (v / 2 ^ b % 2 ^ o.width, p)

/-- Scale record fields (R54): byte offset and width within the 128 bytes. -/
def srec (v off n : Nat) : Nat := v / 256 ^ off % 256 ^ n

/-- step_scale of R57 over a record's 128 bytes. -/
def stepScale (rec fmt n : Nat) : Int :=
  let flags := srec rec 0x12 1
  if flags / 4 % 2 = 1 then sext (srec rec 0x0C 2) 16
  else
    let h := srec rec 0x0E 1 % 16 + 1
    let fill := srec rec 0x10 1
    let head := srec rec 0x11 1
    let flush (a : Nat) : Nat := if a < 2 ^ 23 then 0 else a
    let a0 := if fill < h then flush (srec rec 0x08 4) else 0
    let a := (List.range (min h fill)).foldl (fun m j => max m (flush (srec rec (0x40 + 4 * ((head + 16 - j % 16) % 16)) 4))) a0
    let e := expCeil a
    let m := sext (srec rec 0x0F 1) 8
    let clamp (lo hi x : Int) : Int := max lo (min hi x)
    if flags / 8 % 2 = 1 && !isBfxFmt fmt then clamp (-127) 127 (e + m - fmtEmax fmt)
    else
      let p : Int := if flags / 2 % 2 = 1 then 63 else 31
      clamp (-256) 255 (e + m + (ceilLog2 n : Int) + 1 - p)

/-- Is a record refused with SCALE_RECORD_INVALID (R55, R57)? -/
def scaleRecBad (rec fmt : Nat) : Bool :=
  let margin := sext (srec rec 0x0F 1) 8
  let sm := srec rec 0x13 1
  let fill := srec rec 0x10 1
  let head := srec rec 0x11 1
  let badAmax (a : Nat) : Bool := decide (2 ^ 31 ≤ a) || decide (a / 2 ^ 23 % 256 = 255)
  decide (margin < -8) || decide (15 < margin) || decide (sm < 1) || decide (8 < sm) || decide (16 < fill) || decide (15 < head)
    || badAmax (srec rec 0x08 4)
    || ((List.range (min fill 16)).any fun j => badAmax (srec rec (0x40 + 4 * ((head + 16 - j % 16) % 16)) 4))
    || (isBfxFmt fmt && decide ((fmt == 15) ≠ (srec rec 0x12 1 / 2 % 2 == 1)))

/-- Read and check the scale record a descriptor names (R55); the step counter is t. -/
def State.scaleRecord (s : State) (dom : Nat) (aux fmt cl core : Nat) (t : Nat) (array : Bool := false) : Except Flt Nat := do
  let v ← s.auxRead dom aux 0 128 cl core array
  if scaleRecBad v fmt then .error ⟨Err.SCALE_RECORD_INVALID, 0, 0⟩
  else if srec v 0x10 1 ≠ 0 && srec v 0 8 ≠ (t + 2 ^ 64 - 1) % 2 ^ 64 then .error ⟨Err.SCALE_HISTORY_SKEW, 0, 0⟩
  else pure v

/-- Scale in use of a record: computed from the history for a stored tensor, SCALE_CUR for a wire tensor (R48, R57). -/
def recScale (rec fmt : Nat) : Int :=
  if srec rec 0x12 1 / 8 % 2 = 1 then stepScale rec fmt 1 else sext (srec rec 0x0C 2) 16

/-- Is a scale record that of a stored tensor (R54, R60)? -/
def recStored (rec : Nat) : Bool := decide (srec rec 0x12 1 / 8 % 2 = 1)

/-- What an engine finds in the scale record of a DELAYED operand: the scale exponent in use, else 0, and whether its amax is this module's to stage (R48, R57, R60). A stored tensor's SCALE_CUR is written at the record's first use of a step, and again with the same value at each later one (log entry 33, DEDUCED). -/
def State.opndScale (s : State) (dom : Nat) (o : Opnd) (t : Nat) (array : Bool := false) : Except Flt (State × Int × Bool) := do
  if o.delayed then
    let r ← s.scaleRecord dom o.auxScale o.fmt o.cl o.core t array
    if recStored r then
      let u ← s.spWrite dom (o.auxScale / 2 ^ 62 % 4) o.cl o.core (bytesAt (o.auxScale % 2 ^ 52 + 0x0C) 2 (toTwos 16 (recScale r o.fmt))) array
      pure (u, recScale r o.fmt, true)
    else pure (s, recScale r o.fmt, false)
  else pure (s, 0, false)

/-- A value as the elements of a DELAYED output hold it: divided by the tensor's scale, INT8 weighted 2^-6 (R49, R57). -/
def Opnd.toStored (o : Opnd) (sc : Int) (v : Val) : Val :=
  if o.delayed && !isBfxFmt o.fmt then v.scale ((if o.fmt = 8 then 6 else 0) - sc) else v

/-- Scale byte of the block that holds element number n (R53): blocks of an innermost row are contiguous. -/
def State.scaleByte (s : State) (dom : Nat) (o : Opnd) (array : Bool) (n : Nat) : Except Flt Nat := do
  let c0 := o.cnt 0
  let per := cdiv c0 (blkSize o.blk)
  s.auxRead dom o.auxScale (n / c0 * per + n % c0 / blkSize o.blk) 1 o.cl o.core array

/-- The exact value of element number n, with its poison; padding reads +0, and a one-bit element 0 or 1 (R48, R52, R57, R182, R246). An array operand without a scale plane has X = 0, so neither a scale record nor the INT8 weight of a scaled tensor enters its products (R107). -/
def State.readElem (s : State) (dom : Nat) (o : Opnd) (array : Bool) (sc : Int) (n : Nat) : Except Flt (Val × Option Flt) := do
  match ← s.elemOff dom o array n with
  | none => pure (.fin false 0 0, none)
  | some e =>
    let (p, bad) ← s.readPat dom o array e
    if o.mask then pure (.fin false p 0, bad)
    else if o.scaled then
      let b ← s.scaleByte dom o array n
      pure (blkRead o.fmt b p, bad)
    else if o.delayed && !isBfxFmt o.fmt && !array then
      pure ((if o.fmt = 8 then (decodeFmt o.fmt 0 p).scale (-6) else decodeFmt o.fmt 0 p).scale sc, bad)
    else pure (decodeFmt o.fmt sc p, bad)

/-- The exact value of element number n for a consumer: poison faults (R520). -/
def State.readVal (s : State) (dom : Nat) (o : Opnd) (array : Bool) (sc : Int) (n : Nat) : Except Flt Val := do
  match ← s.readElem dom o array sc n with
  | (v, none) => pure v
  | (_, some f) => .error f

/-- Merge patterns of `w` bits at (byte address, bit) places into bytes; `old` gives the bytes they only partly cover. -/
def packBits (old : Nat → Byte) (w : Nat) (els : List (Nat × Nat × Nat)) : List (Nat × Byte) :=
  els.foldl (fun acc el =>
    let (a, b, v) := el
    (List.range ((b + w + 7) / 8)).foldl (fun acc j =>
      let cur := mapGet none (acc.map fun p => (p.1, some p.2)) (a + j)
      let c : Nat := (cur.getD (old (a + j))).toNat
      let lo := 8 * j
      let keep := (List.range 8).foldl (fun x i =>
        let pos := lo + i
        let inEl := decide (b ≤ pos) && decide (pos < b + w)
        x + (if inEl then v / 2 ^ (pos - b) % 2 else c / 2 ^ i % 2) * 2 ^ i) 0
      mapPut (a + j) (BitVec.ofNat 8 keep) acc) acc) []

/-- Write patterns to the elements at offsets E (later entries win, R153). -/
def State.writePats (s : State) (dom : Nat) (o : Opnd) (array : Bool) (els : List (Int × Nat)) (upd : Bool := false) : Except Flt State := do
  let places := els.map fun p => ((o.addr p.1).1, (o.addr p.1).2, p.2 % 2 ^ o.width)
  let old (a : Nat) : Byte := match s.spRead dom o.space o.cl o.core a 1 array upd with
    | .ok (v, _) => BitVec.ofNat 8 v
    | .error _ => 0
  s.spWrite dom o.space o.cl o.core (packBits old o.width places) array upd

/-- Write a scale plane: block b of innermost row r (R53). -/
def State.writeScales (s : State) (dom : Nat) (o : Opnd) (array : Bool) (bs : List (Nat × Nat)) : Except Flt State :=
  s.spWrite dom (o.auxScale / 2 ^ 62 % 4) o.cl o.core
    (bs.map fun p => (o.auxScale % 2 ^ 52 + p.1, BitVec.ofNat 8 p.2)) array

/-! ## Zero-row bitmaps (R164, R598) -/

/-- Byte offset and bit in the bitmap of the granule that holds offset E (R598). -/
def Opnd.zbPlace (o : Opnd) (e : Int) : Nat × Nat :=
  let k := (o.stride.getD 1 1).toNat
  let m := (e / (k : Int)).toNat
  let g := (e % (k : Int)).toNat / 16
  (m * cdiv k 128 + g / 8, g % 8)

/-- The bitmap bit of the granule that holds offset E. -/
def State.zbBit (s : State) (dom : Nat) (o : Opnd) (array : Bool) (e : Int) : Except Flt Bool := do
  let (b, i) := o.zbPlace e
  let v ← s.auxRead dom o.auxMap b 1 o.cl o.core array
  pure (v / 2 ^ i % 2 == 1)

/-- Write bitmap bits at (offset E, value) (R167). -/
def State.writeZb (s : State) (dom : Nat) (o : Opnd) (array : Bool) (bs : List (Int × Bool)) : Except Flt State := do
  let sp := o.auxMap / 2 ^ 62 % 4
  let base := o.auxMap % 2 ^ 52
  let places := bs.map fun p => (base + (o.zbPlace p.1).1, (o.zbPlace p.1).2, b2n p.2)
  let old (a : Nat) : Byte := match s.spRead dom sp o.cl o.core a 1 array with
    | .ok (v, _) => BitVec.ofNat 8 v
    | .error _ => 0
  s.spWrite dom sp o.cl o.core (packBits old 1 places) array

/-- Lowest and highest offset E a descriptor reaches in one instance, without indirection. -/
def Opnd.span (o : Opnd) : Int × Int :=
  (List.range 4).foldl (fun r d =>
    let x := o.stride.getD d 0 * ((o.cnt d : Int) - 1)
    if x < 0 then (r.1 + x, r.2) else (r.1, r.2 + x)) (o.offset, o.offset)

/-- Byte range a plain descriptor covers in its store: first byte and one past the last (R247). -/
def Opnd.byteSpan (o : Opnd) : Int × Int :=
  let (lo, hi) := o.span
  let w := (o.width : Int)
  (o.base + lo * w / 8, o.base + (hi * w + w + 7) / 8)

/-- Does a plain operand lie inside its store (R247, R151)? -/
def Opnd.inStore (o : Opnd) (array : Bool) : Bool :=
  let (lo, hi) := o.byteSpan
  let top : Int := if o.space = 1 then 2 ^ 21 else if array then 2 ^ 14 else 96 * 2 ^ 14
  decide (o.space = 0) || (decide (0 ≤ lo) && decide (hi ≤ top))

/-- The amax of finite values as a finite FP32 pattern: a finite value above the largest one counts as the largest (R56; log entry 33, DESIGN CHOICE). -/
def amaxOf (vs : List Val) : Nat :=
  vs.foldl (fun a v => match v with
    | .fin _ m e => max a (min (maxFinite 0) (f32Flush (f32Round false (.fin false m e))))
    | _ => a) 0

/-- Stage the amax of a stored DELAYED tensor that an engine wrote; it joins the history at commit (R59, R60). A wire tensor's amax travels with its chunks (R58). -/
def State.stageAmax (s : State) (c : Nat) (o : Opnd) (stored : Bool) (a : Nat) : State :=
  if stored then
    match s.amax.find? fun x => x.1 == (c, o.auxScale) with
    | some _ => { s with amax := s.amax.map fun x => if x.1 == (c, o.auxScale) then (x.1, max x.2 a) else x }
    | none => { s with amax := s.amax ++ [((c, o.auxScale), a)] }
  else s

end Sys2Proof.Machine
end

