-- ==== Sys2Proof/Machine/Context.lean ====
section
/-! DEFINITION. Contexts: conditions, faults, retirement, claims, residency, pre-emption, save and restore (R228, R231, R235, R254 to R276). -/

namespace Sys2Proof.Machine

open Sys2Proof

/-! ## Conditions (R228) -/

/-- Loop entry at a depth, 0 outermost (R241). -/
def CtxRec.loopAt (r : CtxRec) (d : Nat) : Option Loop :=
  if d < r.stack.length then r.stack[r.stack.length - 1 - d]? else none

/-- Loop indices by depth, 0 where no loop is active (R228). -/
def CtxRec.loopIx (r : CtxRec) : List Nat := (List.range 4).map fun d => ((r.loopAt d).map Loop.index).getD 0

/-- The source of comparator n (R228). -/
def State.cmpSource (s : State) (c : Nat) (ctrl : Word) : Nat :=
  let i := fld ctrl 3 8
  match fld ctrl 0 3 with
  | 0 => (s.rd (cntKey c (i % 8))).toNat
  | 1 => (s.sem c i).toNat
  | 2 => (s.par c (i % 64)).toNat
  | 3 => (s.getCtx c).loopIx.getD i 0
  | _ => 0

/-- COND n (R228). -/
def State.cond (s : State) (c n : Nat) : Bool :=
  let p := pgCTX c
  let ctrl := s.rd (reg p (Off.CTX_CMPn_CTRL + 8 * n))
  let x := s.cmpSource c ctrl
  let y := if bit ctrl 14 then (s.par c (fld ctrl 15 6)).toNat else (s.rd (reg p (Off.CTX_CMPn_REF + 8 * n))).toNat
  match fld ctrl 11 3 with
  | 0 => x == y
  | 1 => x != y
  | 2 => decide (x < y)
  | 3 => decide (x ≤ y)
  | 4 => decide (y < x)
  | 5 => decide (y ≤ x)
  | _ => false

/-! ## Claims and residency (R262 to R267) -/

/-- A claim: first and count of clusters, cores and slices (R262). -/
structure Claim where
  cl : Nat
  cln : Nat
  core : Nat
  coren : Nat
  cs : Nat
  csn : Nat
deriving DecidableEq, Repr

/-- The claim words of a context: as granted while it is resident, else as its registers hold them (R264, R277). -/
def State.claimWords (s : State) (c : Nat) : Word × Word :=
  (s.getCtx c).grantedClaim.getD (s.rd (reg (pgCTX c) Off.CTX_CLAIM_CL), s.rd (reg (pgCTX c) Off.CTX_CLAIM_CORE))

/-- The claim of a context (R277). -/
def State.claim (s : State) (c : Nat) : Claim :=
  let a := (s.claimWords c).1
  let b := (s.claimWords c).2
  ⟨fld a 0 12, fld a 16 12, fld b 0 7, fld b 8 7, fld b 16 5, fld b 24 6⟩

/-- Do two ranges have a number in common? -/
def rangesMeet (a n b m : Nat) : Bool := decide (0 < n) && decide (0 < m) && decide (a < b + m) && decide (b < a + n)

/-- Is an address of space 1 or 2 inside the claim of a context (R263)? -/
def State.inClaim (s : State) (c sp addr : Nat) : Bool :=
  let k := s.claim c
  if sp = 1 then decide (k.cs ≤ addr / 2 ^ 16) && decide (addr / 2 ^ 16 < k.cs + k.csn)
  else if sp = 2 then decide (k.core ≤ addr / 2 ^ 14) && decide (addr / 2 ^ 14 < k.core + k.coren)
  else true

/-- The check of an element reached through an index tensor, from its first byte to its last: its iteration number is recorded (R151, R263). -/
def State.reach (s : State) (c : Nat) (o : Opnd) (n : Nat) (e : Int) : Except Flt Unit :=
  let (a, b) := o.addr e
  if o.indEn && !(s.inClaim c o.space a && s.inClaim c o.space (a + (b + o.width + 7) / 8 - 1))
  then .error ⟨Err.MOVER_RANGE, n % 2 ^ 32, n / 2 ^ 32⟩ else .ok ()

/-- Offset E of element number n for an engine other than the arrays, checked against the claim; none for a padding entry (R182, R247, R263). -/
def State.reachOff (s : State) (c : Nat) (o : Opnd) (n : Nat) : Except Flt (Option Int) := do
  match ← s.elemOff (s.domOf c) o false n with
  | none => pure none
  | some e =>
    s.reach c o n e
    pure (some e)

/-- The exact value of element number n for an engine other than the arrays (R263, R520). -/
def State.reachVal (s : State) (c : Nat) (o : Opnd) (sc : Int) (n : Nat) : Except Flt Val := do
  if o.indEn then
    let _ ← s.reachOff c o n
    s.readVal (s.domOf c) o false sc n
  else s.readVal (s.domOf c) o false sc n

/-- Two claims overlap (R264). -/
def Claim.meets (x y : Claim) : Bool :=
  rangesMeet x.cl x.cln y.cl y.cln && (rangesMeet x.core x.coren y.core y.coren || rangesMeet x.cs x.csn y.cs y.csn)

/-- Does a claim exceed the partition, the cluster or the store (R266)? -/
def State.claimBad (s : State) (c : Nat) : Bool :=
  let k := s.claim c
  decide ((s.partition (s.domOf c)).length < k.cl + k.cln) || decide (96 < k.core + k.coren) || decide (32 < k.cs + k.csn)

/-- Resident contexts of the same domain whose claims overlap that of c (R264). -/
def State.rivals (s : State) (c : Nat) : List Nat :=
  s.ctx.filterMap fun p =>
    if p.2.resident && p.1 != c && s.ctxDom p.1 == s.ctxDom c && (s.claim p.1).meets (s.claim c) then some p.1 else none

/-- Physical cluster of a rank of the context's partition. -/
def State.physClu (s : State) (c rank : Nat) : Nat := (s.partition (s.domOf c)).getD rank 0

/-- The physical clusters of a context's claim, with their ranks within the claim. -/
def State.claimClusters (s : State) (c : Nat) : List (Nat × Nat) :=
  let k := s.claim c
  (List.range k.cln).map fun i => (i, s.physClu c (k.cl + i))

/-- A higher-class context of the domain that waits for the claim of c (R266, R276). -/
def State.wantedBy (s : State) (c : Nat) : Bool :=
  s.ctx.any fun p => (p.2.run == .ready || (p.2.run == .saved && !p.2.byPreempt)) && !p.2.resident
    && s.ctxDom p.1 == s.ctxDom c && decide (s.ctxClass c < s.ctxClass p.1) && (s.claim p.1).meets (s.claim c)

/-- The movers of the claimed clusters ask for the current of a save (R270, R284). -/
def State.askSave (s : State) (c : Nat) : State :=
  s.askUnits ((s.claimClusters c).flatMap fun q => (List.range 4).map fun mv =>
    ({ acct := q.2 / 375, ix := q.2 % 375, owner := some (c, 2 ^ 64), sub := mv, iclass := 1, dom := s.domOf c, prio := s.ctxClass c } : LUnit))

/-- The save of a FAULTED context that keeps a claim which a higher class needs (R267, R276). -/
def State.saveFault (s : State) (c : Nat) : State := (s.askSave c).modCtx c fun r => { r with savingFault := true }

/-! ## Faults (R97, R249, R273) -/

/-- Tiles an operation names: all four under JOIN (R94). -/
def tileList (t : Nat) : List Nat := if t = 4 then [0, 1, 2, 3] else [t]

/-- The TILE and DEST fields of a pass or tile drain (R223, R225). -/
def Pass.tiles (p : Pass) : List Nat :=
  if p.isPass then
    match p.w.op 26 2 with
    | 0 => tileList (p.w.op 28 3)
    | 1 => tileList (p.w.op 28 3)
    | _ => []
  else tileList (p.w.op 9 3)

/-- Destination of a pass (R223). -/
def Pass.dest (p : Pass) : Dest :=
  if !p.isPass then .drain
  else match p.w.op 26 2 with
    | 0 => .overwrite
    | 1 => .accumulate
    | 2 => .drain
    | _ => .spool

/-- The record of a tile. -/
def CoreRec.tile (r : CoreRec) (t : Nat) : Tile := mapGet {} r.tiles t
/-- Replace a tile. -/
def CoreRec.setTile (r : CoreRec) (t : Nat) (x : Tile) : CoreRec := { r with tiles := mapSet {} r.tiles t x }
/-- Poison tiles (R97). -/
def CoreRec.poisonTiles (r : CoreRec) (ts : List Nat) : CoreRec :=
  ts.foldl (fun a t => a.setTile t { a.tile t with poison := true }) r

/-- Every core record that holds passes of a context: the cores, and the saved claim of the context (R270). -/
def State.passRecs (s : State) (c : Nat) : List CoreRec := s.cores.map Prod.snd ++ (mapGet {} s.saves c).cores.map Prod.snd

/-- Has an operation issued: it is in flight, or was when it was pre-empted, or is a member of a chain of which that holds? -/
def State.inFlight (s : State) (c : Nat) (p : Pass) : Bool :=
  (s.passRecs c).any fun r =>
    (r.air.any fun x => x.ctx == c && (x == p || (p.chain.isSome && x.chain == p.chain)))
      || r.queue.any fun x => x.ctx == c && x.begun && (x == p || (p.chain.isSome && x.chain == p.chain))

/-- Stop every pass of a context on its cores or in its saved state: the tiles that those in flight name are poisoned, nothing more enters (R97, R98, R273). -/
def State.stopPasses (s : State) (c : Nat) : State :=
  let stop (r : CoreRec) : CoreRec :=
    let mine (x : Pass) : Bool := x.ctx == c
    let hit := ((r.air ++ r.queue).filter fun x => mine x && x.isPass && s.inFlight c x).flatMap Pass.tiles
    let t := r.poisonTiles hit
    { t with queue := r.queue.filter (fun x => !mine x), air := r.air.filter (fun x => !mine x), seeds := r.seeds.filter fun x => x.1 % 2 ^ 14 ≠ c }
  { s with cores := s.cores.map fun p => (p.1, stop p.2),
           saves := s.saves.map fun v => if v.1 = c then (v.1, { v.2 with cores := v.2.cores.map fun p => (p.1, stop p.2) }) else v }

/-- Commands of ECLASS 5 to 11 run on past a fault or a pre-emption (R269, R273). -/
def Live.runsOn (l : Live) : Bool := decide (5 ≤ l.w.eclass)

/-- A command in flight that faults leaves without a signal, and its current with it (R249, R273). -/
def State.dropCmd (s : State) (c id : Nat) : State := (s.modCtx c fun r => { r with live := r.live.filter fun l => l.id != id }).releaseCmd c id

/-- A context fault in one sequence (R273): instances stop, the code is recorded, abort flags rise, the context is FAULTED; during STOPPING it is saved where a higher class still needs its claim (R276). -/
def State.ctxFault (s : State) (c : Nat) (f : Flt) : State :=
  if (s.getCtx c).run = .faulted then s
  else
    let s := s.stopPasses c
    let s := s.pageErr (pgCTX c) f.code f.i0 f.i1
    let s := s.abortFlags c f.code
    let keep := ((s.getCtx c).live.filter Live.runsOn).map Live.id
    let s := s.releaseUnits (fun u => match u.owner with | some o => o.1 == c && !keep.contains o.2 | none => false) none
    let stopping := (s.getCtx c).run == .stopping
    let s := s.modCtx c fun r => { r with run := .faulted, held := none, live := r.live.filter Live.runsOn, chainLeft := 0,
                                          engines := [], preemptAfter := false }
    if stopping && s.wantedBy c then s.saveFault c else s

/-- A refusal at admission: the code, with bits [31:0] of the offset in ERR_INFO1 (R249). -/
def State.refuse (s : State) (c : Nat) (f : Flt) : State :=
  s.ctxFault c { f with i1 := (s.pc c).toNat % 2 ^ 32 }

/-- A NaN event of a context: record it, and stop the context under HALT = 1 (R62, R63, R65). -/
def State.nanEvent (s : State) (c off engine coord : Nat) : State :=
  let fired := bit (s.rd (reg (pgCTX c) Off.CTX_NAN_STATUS)) 0
  let s := s.nanRecord c off engine coord
  if !fired && bit (s.rd (reg (pgCTX c) Off.CTX_NAN_MODE)) 0 then s.ctxFault c ⟨Err.NAN_TRAP, 0, 0⟩ else s

/-- Several NaN events of one cycle: the smallest ENGINE:COORD is recorded, SAME_CYCLE is set when there are more (R64). -/
def State.nanEvents (s : State) (c off : Nat) (evs : List (Nat × Nat)) : State :=
  match (evs.map fun e => e.1 * 2 ^ 32 + e.2).min? with
  | none => s
  | some m =>
    let fired := bit (s.rd (reg (pgCTX c) Off.CTX_NAN_STATUS)) 0
    let s1 := s.nanEvent c off (m / 2 ^ 32) (m % 2 ^ 32)
    let rest := evs.length - 1
    if rest = 0 then s1
    else
      let p := pgCTX c
      let s2 := if fired then s1 else s1.wrBit (reg p Off.CTX_NAN_STATUS) 2 true
      (s2.wrBit (reg p Off.CTX_NAN_STATUS) 1 true).inc (reg p Off.CTX_NAN_COUNT) rest

/-! ## Retirement (R231, R235) -/

/-- A command retires: it leaves the live list, releases its current and signals (R231, R285). -/
def State.retireCmd (s : State) (c : Nat) (l : Live) : State :=
  let s := (s.modCtx c fun r => { r with live := r.live.filter fun x => x.id != l.id }).releaseCmd c l.id
  if l.w.sigInc = 0 then s else s.signal c l.w.sigSem l.w.sigInc

/-- One instance of a command retires; the command retires with its last instance (R216). -/
def State.retireOne (s : State) (c id : Nat) : State :=
  match (s.getCtx c).live.find? (·.id == id) with
  | none => s
  | some l =>
    if l.left ≤ 1 then s.retireCmd c l
    else s.modCtx c fun r => { r with live := r.live.map fun x => if x.id == id then { x with left := x.left - 1 } else x }

/-- The command in flight with an id. -/
def State.liveOf (s : State) (c id : Nat) : Option Live := (s.getCtx c).live.find? (·.id == id)

/-! ## Pre-emption and residency (R264 to R268) -/

/-- Passes of a context on any core. -/
def State.hasPasses (s : State) (c : Nat) : Bool :=
  s.cores.any fun p => p.2.queue.any (fun x => x.ctx == c) || p.2.air.any (fun x => x.ctx == c)

/-- Engines of a context with work in flight; the front end always stops (R269). -/
def State.busyEngines (s : State) (c : Nat) : List Engine :=
  let r := s.getCtx c
  let cls (lo hi : Nat) : Bool := r.live.any fun l => decide (lo ≤ l.w.opcode) && decide (l.w.opcode ≤ hi)
  [Engine.frontEnd] ++ (if cls 0x10 0x10 then [Engine.array] else []) ++ (if cls 0x11 0x11 then [Engine.tileDrain] else [])
    ++ (if cls 0x20 0x3F then [Engine.vector] else []) ++ (if cls 0x40 0x41 then [Engine.mover] else [])
    ++ (if cls 0x42 0x42 then [Engine.maskWalk] else []) ++ (if cls 0x50 0x50 then [Engine.router] else [])

/-- A pre-emption is taken: a running context stops, a restoring one is pre-empted after its restore, a faulted one is saved (R267, R268, R276). -/
def State.preempt (s : State) (c : Nat) (byWrite : Bool) : State :=
  let r := s.getCtx c
  match r.run with
  | .running =>
    let s := s.inc (reg (pgCTX c) Off.CTX_PREEMPTS)
    s.setCtx c { r with run := .stopping, engines := s.busyEngines c, byPreempt := byWrite, preemptAt := s.now.toNat }
  | .restoring => s.setCtx c { r with preemptAfter := true, byPreempt := r.byPreempt || byWrite, preemptAt := if r.preemptAfter then r.preemptAt else s.now.toNat }
  | .faulted =>
    if r.resident && !byWrite && !r.savingFault then
      ((s.inc (reg (pgCTX c) Off.CTX_PREEMPTS)).setCtx c { r with preemptAt := s.now.toNat }).saveFault c
    else s
  | _ => s

/-- The tiles of a context that starts have had no overwrite since: their origins are all ones (R97). -/
def State.clearOrigins (s : State) (c : Nat) : State :=
  let k := s.claim c
  (s.claimClusters c).foldl (fun t q => (List.range k.coren).foldl (fun u i =>
    u.modCore (coreKey q.2 (u.physCore q.2 (k.core + i))) fun r =>
      { r with tiles := r.tiles.foldl (fun m p => mapSet {} m p.1 { p.2 with origin := BitVec.allOnes 64 }) r.tiles }) t) s

/-- A grant of residency (R266): a saved context restores, any other runs; the first grant of a replay clears the tile origins. -/
def State.grantClaim (s : State) (c : Nat) : State :=
  let r := s.getCtx c
  let s := if r.starting && !r.saveValid then s.clearOrigins c else s
  s.modCtx c fun r => { r with resident := true, starting := false, grantedClaim := some (s.claimWords c), run := if r.saveValid then .restoring else .running }

/-- A request for residency (R266). -/
def State.requestClaim (s : State) (c : Nat) : State :=
  if s.claimBad c then s.ctxFault c ⟨Err.CLAIM_INVALID, 0, 0⟩
  else
    let rv := s.rivals c
    if rv = [] then s.grantClaim c
    else if rv.all fun x => decide (s.ctxClass x < s.ctxClass c) then rv.foldl (fun t x => t.preempt x false) s
    else s

/-- READY or SAVED contexts waiting for a claim that no resident claim overlaps: (context, class) (R266). -/
def State.waiting (s : State) : List (Nat × Nat) :=
  s.ctx.filterMap fun p =>
    if (p.2.run == .ready || (p.2.run == .saved && !p.2.byPreempt)) && !p.2.resident && !s.claimBad p.1 && (s.rivals p.1).isEmpty
    then some (p.1, s.ctxClass p.1) else none

/-- The context frees its claim (R267). -/
def State.freeClaim (s : State) (c : Nat) : State := s.modCtx c fun r => { r with resident := false, grantedClaim := none }

/-! ## Save and restore (R270, R271, R275) -/

/-- SAVE_SIZE (R270). -/
def State.saveSize (s : State) (c : Nat) : Nat :=
  let k := s.claim c
  4096 + k.cln * (16384 + k.coren * 29696 + k.csn * 65536)

/-- Parts of a claim: (physical base, saved base, bytes) of every claimed store range. -/
def State.saveParts (s : State) (c : Nat) : List (Nat × Nat × Nat) :=
  let k := s.claim c
  (s.claimClusters c).flatMap fun (r, cl) =>
    (csBase cl + k.cs * 2 ^ 16, r * 2 ^ 24 + k.cs * 2 ^ 16, k.csn * 2 ^ 16) ::
      (List.range k.coren).map fun i =>
        (coreBase cl (s.physCore cl (k.core + i)), r * 2 ^ 24 + 2 ^ 21 + (k.core + i) * 2 ^ 14, 2 ^ 14)

/-- Entries of a table in a range of keys, moved to another base. -/
def moveKeys {α : Type} (l : List (Nat × α)) (src dst n : Nat) : List (Nat × α) :=
  l.filterMap fun p => if src ≤ p.1 ∧ p.1 < src + n then some (p.1 - src + dst, p.2) else none

/-- Entries outside a range of keys. -/
def dropKeys {α : Type} (l : List (Nat × α)) (src n : Nat) : List (Nat × α) :=
  l.filter fun p => !(decide (src ≤ p.1) && decide (p.1 < src + n))

/-- Write every entry of a list into a table whose unlisted keys read `d`. -/
def putAll {α : Type} [DecidableEq α] (d : α) (l m : List (Nat × α)) : List (Nat × α) := l.foldl (fun acc p => mapSet d acc p.1 p.2) m

/-- The on-die state of a context's claim, as an access of its domain reads it: lines and tiles of another owner read as zeros (R270, R470). The next core of each pass is kept as a logical core. -/
def State.takeSave (s : State) (c : Nat) : SaveRec :=
  let k := s.claim c
  let d := s.domOf c
  let parts := s.saveParts c
  let mine (p : Nat × Byte) : Bool := (s.mark (p.1 / 64)).own == some d
  let core (cl key : Nat) : CoreRec :=
    let r := s.getCore key
    let f (p : Pass) : Pass := { p with next := (s.logCore cl p.next).getD 0 }
    { r with tiles := r.tiles.filter fun t => t.2.own == some d, queue := r.queue.map f, air := r.air.map f }
  { clus := (s.claimClusters c).map Prod.snd,
    cores := (s.claimClusters c).flatMap fun (r, cl) => (List.range k.coren).map fun i =>
      (r * 128 + (k.core + i), core cl (coreKey cl (s.physCore cl (k.core + i)))),
    bytes := putAll 0 (parts.flatMap fun p => moveKeys (s.mem.filter mine) p.1 p.2.1 p.2.2) [],
    marks := putAll {} (parts.flatMap fun p => moveKeys (s.marks.filter fun m => m.2.own == some d) (p.1 / 64) (p.2.1 / 64) (p.2.2 / 64)) [] }

/-- Does a save meet a poisoned line of the claimed stores (R275)? -/
def State.storePoison (s : State) (c : Nat) : Bool :=
  (s.saveParts c).any fun p => s.marks.any fun m =>
    m.2.poison && m.2.own == some (s.domOf c) && decide (p.1 / 64 ≤ m.1) && decide (m.1 < (p.1 + p.2.2) / 64)

/-- An operand of an array pass on the core where it now is. -/
def Opnd.place (o : Opnd) (cl core : Nat) : Opnd := { o with cl := cl, core := core }

/-- A saved pass on the core that now holds it (R271). -/
def State.placePass (s : State) (cl core : Nat) (p : Pass) : Pass :=
  let f (o : Option Opnd) : Option Opnd := o.map fun x => x.place cl core
  { p with a := f p.a, b := f p.b, c := f p.c, d := f p.d, next := s.physCore cl p.next }

/-- Write saved on-die state into the claim now granted; logical ranks govern (R271). -/
def State.putSave (s : State) (c : Nat) (v : SaveRec) : State :=
  let k := s.claim c
  let s := (s.saveParts c).foldl (fun t p =>
    { t with mem := putAll 0 (moveKeys v.bytes p.2.1 p.1 p.2.2) (dropKeys t.mem p.1 p.2.2),
             marks := putAll {} (moveKeys v.marks (p.2.1 / 64) (p.1 / 64) (p.2.2 / 64)) (dropKeys t.marks (p.1 / 64) (p.2.2 / 64)) }) s
  (s.claimClusters c).foldl (fun t q => (List.range k.coren).foldl (fun u i =>
    let core := u.physCore q.2 (k.core + i)
    let r := mapGet {} v.cores (q.1 * 128 + (k.core + i))
    u.setCore (coreKey q.2 core) { r with queue := r.queue.map (u.placePass q.2 core), air := r.air.map (u.placePass q.2 core) }) t) s

/-- Replace every entry of a range of keys. -/
def spliceKeys {α : Type} (lo n : Nat) (new m : List (Nat × α)) : List (Nat × α) :=
  (m.filter fun p => decide (p.1 < lo)) ++ new ++ m.filter fun p => decide (lo + n ≤ p.1)

/-- Pieces of the save area, one to a granule of domain addresses: address and bytes (R270). -/
def State.savePieces (s : State) (c : Nat) : List (Nat × Nat) :=
  let base := (s.rd64 (reg (pgCTX c) Off.CTX_SAVE_BASE_LO)).toNat
  let n := s.saveSize c
  (List.range ((base + n - 1) / 2 ^ 21 - base / 2 ^ 21 + 1)).map fun i =>
    let a := max base ((base / 2 ^ 21 + i) * 2 ^ 21)
    (a, min (base + n) ((base / 2 ^ 21 + i + 1) * 2 ^ 21) - a)

/-- Does a save or restore meet a translation fault, or a save a write that memory refuses (R214, R275)? -/
def State.saveAreaFault (s : State) (c : Nat) (wr : Bool) : Bool :=
  (s.savePieces c).any fun r =>
    match s.xlate (s.domOf c) r.1 wr false with
    | .ok _ => wr && s.hitsImage (s.domOf c) r.1 r.2
    | .error _ => true

/-- Physical pieces of the save area: PA and bytes. -/
def State.saveRuns (s : State) (c : Nat) : List (Nat × Nat) :=
  (s.savePieces c).filterMap fun r => match s.xlate (s.domOf c) r.1 false false with
    | .ok pa => some (pa, r.2)
    | .error _ => none

/-- Full lines of a granule take bytes that the spec leaves open: each is a free value (log entry 17, DESIGN CHOICE). -/
def State.freeRun (s : State) (d pa n : Nat) : State :=
  let s := (s.fillGran (pa / 2 ^ 21)).touchGran d (pa / 2 ^ 21)
  let gr := s.gran (pa / 2 ^ 21)
  let m : LineMark := { poison := false, clean := gr.poisoned, own := if gr.dom = some d then none else some d }
  { s with
    mem := spliceKeys pa n ((List.range n).filterMap fun i =>
      let v : Byte := (Config.freeWord (s.fresh + i)).setWidth 8
      if v = 0 then none else some (pa + i, v)) s.mem
    marks := spliceKeys (pa / 64) (n / 64) (if m = {} then [] else (List.range (n / 64)).map fun i => (pa / 64 + i, m)) s.marks
    wc := (s.wc.map fun e => { e with bytes := e.bytes.filter fun b => decide (b.1 < pa) || decide (pa + n ≤ b.1) }).filter fun e => !e.bytes.isEmpty
    fresh := s.fresh + n }

/-- The movers write the save area; its layout, and so each byte, is internal to the module (R270). -/
def State.writeSave (s : State) (c : Nat) : State := (s.saveRuns c).foldl (fun t r => t.freeRun (s.domOf c) r.1 r.2) s

/-- Does any line of the save area read poisoned (R275)? Only lines with a mark or in a poisoned or foreign granule can. -/
def State.saveAreaPoison (s : State) (c : Nat) : Bool :=
  let d := s.domOf c
  (s.saveRuns c).any fun r =>
    let g := s.gran (r.1 / 2 ^ 21)
    if g.fill.isSome then decide (g.fill ≠ some d)
    else !s.genLive d g.gen || g.poisoned || decide (g.dom ≠ some d)
      || s.marks.any fun m => decide (m.1 / 2 ^ 15 = r.1 / 2 ^ 21) && (m.2.poison || decide (m.2.own.getD d ≠ d))
          && decide (r.1 / 64 ≤ m.1) && decide (m.1 * 64 < r.1 + r.2)

end Sys2Proof.Machine
end

