-- ==== Sys2Proof/Machine/Array.lean ====
section
/-! DEFINITION. Matrix cores: windows, products, sums, replay, spool chains and the drain path (R68 to R133). -/

namespace Sys2Proof.Machine

open Sys2Proof

/-! ## Windows (R110 to R112) -/

/-- Weight slots per column: 16, or 32 in the 4-bit formats (R70, R158). -/
def slotsOf (fmt : Nat) : Nat := if fmt = 7 || fmt = 9 then 32 else 16
/-- Elements of a streamed row (R70). -/
def rowWidth (fmt sparse : Nat) : Nat :=
  slotsOf fmt * (match sparse with | 0 => 1 | 1 => 2 | _ => 4)

/-- Wdef (R111). -/
def wdef (fmt : Nat) (scaled : Bool) : Int :=
  match fmt with
  | 3 => -18 | 4 => -32 | 5 => -8 | 6 => -6 | 7 => -2 | 1 => -48 | 2 => -48
  | 8 => if scaled then -12 else 0
  | _ => 0

/-- The window a pass asks for (R110). -/
def passWindow (w : Cmd) (fmt : Nat) (scaled : Bool) : Int :=
  if w.opBit 31 then sext (w.op 32 10) 10
  else max (-512) (min 176 (wdef fmt scaled + sext (w.op 32 9) 9))

/-- Streamed rows M (R223), or ROWS of a tile drain (R225). -/
def Pass.m (p : Pass) : Nat := if p.isPass then p.w.op 0 24 else p.w.op 0 9
/-- Format of the operands. -/
def Pass.fmt (p : Pass) : Nat := (p.a.map Opnd.fmt).getD 0
/-- JOIN (R223). -/
def Pass.join (p : Pass) : Bool := p.tiles.length == 4
/-- Does the operation hold the drain path (R85)? -/
def Pass.usesDrain (p : Pass) : Bool := p.dest == .drain

/-- Tile and row of row m of an operation: rows 0 to 255 of the joined tiles under JOIN (R71). -/
def Pass.place (p : Pass) (m : Nat) : Nat × Nat := if p.join then (m / 64, m % 64) else (p.tiles.headD 0, m)

/-- An accumulator element of a tile. -/
def Tile.el (t : Tile) (row col : Nat) : AccEl := mapGet {} t.els (4 * row + col)
/-- Replace an element. -/
def Tile.setEl (t : Tile) (row col : Nat) (x : AccEl) : Tile := { t with els := mapSet {} t.els (4 * row + col) x }

/-- A tile as domain d sees it: empty when another domain owns it (R470). -/
def Tile.seenBy (t : Tile) (d : Nat) : Tile := if t.own = some d then t else { own := some d }

/-- Shift q right by n bits to nearest even; the flag tells a discarded nonzero bit (R112). -/
def shiftQ (q : Int) (n : Nat) : Int × Bool :=
  ((if q < 0 then -1 else 1) * (roundMag .rne q.natAbs (-(n : Int)) 0 : Int), decide (q.natAbs % 2 ^ n ≠ 0))

/-- Raise a tile's window, shifting every element (R112, R115). -/
def Tile.raiseTo (t : Tile) (w : Int) : Tile × Bool :=
  if w ≤ t.w then (t, false)
  else
    let n := (w - t.w).toNat
    ({ t with w := w, els := t.els.filterMap fun p =>
        let x := { p.2 with q := (shiftQ p.2.q n).1 }
        if x = {} then none else some (p.1, x) },
     t.els.any fun p => (shiftQ p.2.q n).2)

/-- Status bits of R130. -/
def stInexact : Word := 0x10#32
/-- SHIFTED. -/
def stShifted : Word := 0x20#32
/-- W_CAPPED. -/
def stCapped : Word := 0x40#32
/-- OVF_MASKED. -/
def stMasked : Word := 0x80#32

/-- The effective window of a tile destination and the named tiles taken by domain d and shifted to it (R112, R470). -/
def openTiles (r : CoreRec) (p : Pass) (d : Nat) (w : Int) : CoreRec × Int × Word :=
  match p.dest with
  | .overwrite | .accumulate =>
    let r := p.tiles.foldl (fun a t =>
      let x := a.tile t
      a.setTile t (if x.own = some d then x else { w := w, own := some d })) r
    let r := if p.dest = .overwrite then p.tiles.foldl (fun a t => a.setTile t { a.tile t with poison := false, origin := BitVec.ofNat 64 p.off }) r else r
    if p.dest = .overwrite && p.m = 64 * p.tiles.length then
      (p.tiles.foldl (fun a t => a.setTile t { a.tile t with w := w }) r, w, 0)
    else
      let we := p.tiles.foldl (fun m t => max m (r.tile t).w) w
      (p.tiles.foldl (fun a t => a.setTile t ((a.tile t).raiseTo we).1) r, we,
        if p.tiles.any fun t => ((r.tile t).raiseTo we).2 then stShifted else 0)
  | _ => (r, w, 0)

/-! ## Products and sums (R107 to R109, R113, R116) -/

/-- The sum of one column of one streamed row inside the array (R107 to R109). -/
structure ColSum where
  el : AccEl
  /-- largest exponent of its overflowing products, and their signs -/
  ovf : Option Int := none
  pos : Bool := false
  neg : Bool := false
  /-- a product was rounded to the grid (R108) -/
  inexact : Bool := false
deriving DecidableEq, Repr

/-- The larger of two optional exponents. -/
def maxOpt : Option Int → Option Int → Option Int
  | none, y => y
  | x, none => x
  | some a, some b => some (max a b)

/-- Is q outside the range of an accumulator element (R105)? -/
def qOut (q : Int) : Bool := decide (q < -(2 ^ 95)) || decide (2 ^ 95 - 1 < q)

/-- Exponent of an overflowing sum q at window w (R109). -/
def qExp (q w : Int) : Int := (Nat.log2 q.natAbs : Int) + w

/-- Add one product to a column at window w (R107 to R109). -/
def addProduct (w : Int) (c : ColSum) (v : Val) : ColSum :=
  match v with
  | .nan => { c with el := { c.el with nan := true } }
  | .inf n => { c with el := if n then { c.el with ninf := true } else { c.el with pinf := true } }
  | .fin n m e =>
    if m = 0 then c
    else
      let top : Int := (Nat.log2 m : Int) + e
      if w + 80 ≤ top then { c with ovf := maxOpt c.ovf (some top), pos := c.pos || !n, neg := c.neg || n }
      else
        let k : Int := roundMag .rne m e w
        { c with el := { c.el with q := c.el.q + (if n then -k else k) },
                 inexact := c.inexact || (decide (e < w) && decide (m % 2 ^ (w - e).toNat ≠ 0)) }

/-- One column of a streamed row with its seed (R109, R121). -/
def columnSum (w : Int) (seed : AccEl) (prods : List Val) : ColSum := prods.foldl (addProduct w) { el := seed }

/-- Does an element carry a special flag? -/
def AccEl.special (x : AccEl) : Bool := x.nan || x.pinf || x.ninf
/-- Does an element resolve to NaN (R118)? -/
def AccEl.isNaN (x : AccEl) : Bool := x.nan || (x.pinf && x.ninf)

/-- A column sum at the array output, added to what its destination element holds: the new element, the exponent of an unmasked overflow, and the status bits (R109, R113, R116). The old element is the tile's under TILE_ACCUMULATE, else zero. -/
def sumOut (w : Int) (old : AccEl) (c : ColSum) : AccEl × Option Int × Word :=
  let st : Word := if c.inexact then stInexact else 0
  let total := old.q + c.el.q
  let wide := qOut c.el.q || qOut total
  let x : AccEl := { q := if wide then old.q else total, nan := old.nan || c.el.nan, pinf := old.pinf || c.el.pinf, ninf := old.ninf || c.el.ninf }
  let exps := maxOpt c.ovf (maxOpt (if qOut c.el.q then some (qExp c.el.q w) else none) (if qOut total then some (qExp total w) else none))
  if exps.isNone then (x, none, st)
  else if c.el.special || old.special then (x, none, st ||| stMasked)
  else if w = 176 then
    let up := c.pos || (qOut total && decide (0 < total)) || (qOut c.el.q && decide (0 < c.el.q))
    let down := c.neg || (qOut total && decide (total < 0)) || (qOut c.el.q && decide (c.el.q < 0))
    ({ x with pinf := up, ninf := down }, none, st ||| stCapped)
  else (x, exps, st)

/-! ## Sweeps -/

/-- Decode the weight tile of a pass: slots by column (R158). -/
def State.loadWeights (s : State) (p : Pass) (o : Opnd) : Except Flt (List Val) :=
  (List.range (4 * slotsOf o.fmt)).mapM fun n => s.readVal (s.domOf p.ctx) o true 0 n

/-- Index of the kept weight number n of a tile: its metadata lies at its place in the kept-value tensor's linear element order (R161). -/
def State.metaIndex (s : State) (p : Pass) (o : Opnd) (n : Nat) : Except Flt Nat := do
  match ← s.elemOff (s.domOf p.ctx) o true n with
  | none => pure 0
  | some e =>
    let b ← s.auxRead (s.domOf p.ctx) o.auxMap (e / 4) 1 o.cl o.core true
    pure (b / 4 ^ (e % 4).toNat % 4)

/-- The weight tile of a pass with its metadata, as the shadow loader latches it (R69, R75, R162). -/
def State.latchWeights (s : State) (p : Pass) : Except Flt (List Val × List Nat) :=
  match p.a with
  | none => pure ([], [])
  | some a => do
    let ws ← s.loadWeights p a
    let ix ← if p.w.op 24 2 = 0 then pure [] else (List.range (4 * slotsOf a.fmt)).mapM (s.metaIndex p a)
    pure (ws, ix)

/-- Element of the streamed row that slot j multiplies (R158). -/
def slotElem (sparse j m : Nat) : Nat :=
  match sparse with
  | 0 => j
  | 1 => 4 * (j / 2) + m
  | _ => 4 * j + m

/-- Is streamed row m skipped (R165, R598)? -/
def State.rowSkipped (s : State) (p : Pass) (o : Opnd) (width m : Nat) : Except Flt Bool := do
  if !o.zb then pure false
  else
    match ← s.elemOff (s.domOf p.ctx) o true (m * width) with
    | none => pure true
    | some e =>
      let k := (o.stride.getD 1 1).toNat
      let row := (e / (k : Int)).toNat
      let g0 := (e % (k : Int)).toNat / 16
      if (e % (k : Int)).toNat % 16 ≠ 0 then .error ⟨Err.DESCRIPTOR_INVALID, 0, 0⟩
      else
        (List.range (width / 16)).foldlM (fun acc i => do
          if cdiv k 16 ≤ g0 + i then pure acc
          else
            let v ← s.auxRead (s.domOf p.ctx) o.auxMap (row * cdiv k 128 + (g0 + i) / 8) 1 o.cl o.core true
            pure (acc && (v / 2 ^ ((g0 + i) % 8) % 2 == 1))) true

/-- The four columns of row m with their seeds; a skipped row adds nothing to them (R107, R121, R158, R166; log entry 34, DEDUCED). -/
def State.rowSums (s : State) (p : Pass) (a b : Opnd) (seed : List AccEl) (m : Nat) : Except Flt (List ColSum × Bool) := do
  let sparse := p.w.op 24 2
  let width := rowWidth a.fmt sparse
  if ← s.rowSkipped p b width m then pure ((List.range 4).map fun n => { el := seed.getD n {} }, true)
  else
    let xs ← (List.range width).mapM fun i => s.readVal (s.domOf p.ctx) b true 0 (m * width + i)
    let sl := slotsOf a.fmt
    pure ((List.range 4).map fun n =>
      columnSum p.win (seed.getD n {}) ((List.range sl).map fun j =>
        (xs.getD (slotElem sparse j (p.idx.getD (sl * n + j) 0)) (.fin false 0 0)).mul (p.wts.getD (sl * n + j) (.fin false 0 0))), false)

/-- Row m of a pass on a core: what leaves the array, or what the tile adder makes of it (R109, R113, R116). -/
def State.rowRes (s : State) (r : CoreRec) (p : Pass) (seed : List AccEl) (m : Nat) : Except Flt RowRes := do
  let (cs, skip) ← match p.a, p.b with
    | some a, some b => s.rowSums p a b seed m
    | _, _ => pure ((List.range 4).map fun n => { el := seed.getD n {} }, false)
  let outs := cs.zipIdx.map fun (c, n) => sumOut p.win (if p.dest = .accumulate then (r.tile (p.place m).1).el (p.place m).2 n else {}) c
  pure { els := outs.map Prod.fst, ovf := outs.foldl (fun a x => maxOpt a x.2.1) none,
         stat := outs.foldl (fun a x => a ||| x.2.2) 0, skip := skip }

/-- Rows of the sweep that have entered the array so far, from row 0 (R78). -/
def Pass.entered (p : Pass) : Nat := p.start + p.rows.length
/-- Has every row of the pass entered? -/
def Pass.full (p : Pass) : Bool := decide (p.m ≤ p.entered)
/-- Has a pass of a spool destination handed on every sum (R78)? -/
def Pass.handed (p : Pass) : Bool := p.dest == .spool && decide (p.m ≤ p.start + p.sent)

/-- The first row below a bound with an unmasked overflow, and the largest exponent below the bound (R114, R115). -/
def Pass.ovfBelow (p : Pass) (v : Nat) : Option (Nat × Int) :=
  (p.rows.zipIdx).foldl (fun a x =>
    if p.start + x.2 < v then
      match x.1.ovf, a with
      | some e, some (r, m) => some (r, max m e)
      | some e, none => some (p.start + x.2, e)
      | none, _ => a
    else a) none

/-- The status bits of the rows below a bound. -/
def Pass.statBelow (p : Pass) (v : Nat) : Word :=
  (p.rows.take (v - p.start)).foldl (fun a r => a ||| r.stat) p.stat

/-- The next rows of a pass stream through the array of its core, one for each seed; entered and skipped rows are counted (R78, R84, R103). -/
def State.fillRows (s : State) (cl core : Nat) (p : Pass) (seeds : List (List AccEl)) : Except Flt (State × Pass) := do
  let r := s.getCore (coreKey cl core)
  let rs ← (seeds.zipIdx).mapM fun (x, i) => s.rowRes r p x (p.entered + i)
  let skipped := (rs.filter RowRes.skip).length
  let s := (s.inc (wreg core (pgCLU cl) Off.CORE_SKIPPED_ROWS) skipped).inc64 (wreg core (pgCLU cl) Off.CORE_BEATS_LO) (rs.length - skipped)
  let p := { p with rows := p.rows ++ rs }
  let ovf := p.ovfBelow p.m
  pure (s, { p with ovf := ovf, phase := if !p.full then .stream else if ovf.isSome then .replay else .flush })

/-! ## The drain path (R85 to R91) -/

/-- Settings of a drain, of a pass or of a tile drain (R223, R225). -/
structure DrainCfg where
  rmode : Nat
  satfin : Bool
  wrap : Bool
  stat : Nat
  exp : Bool
  scale : Nat
  statRec : Nat
  salt : Nat
  blk : Nat
  blkEn : Bool
deriving DecidableEq, Repr

/-- Drain settings of an operation. -/
def Pass.drainCfg (p : Pass) : DrainCfg :=
  let w := p.w
  if p.isPass then ⟨w.op 42 2, w.opBit 44, w.opBit 45, w.op 46 2, w.opBit 48, w.op 64 32, w.op 96 9, w.op 112 16, 0, false⟩
  else ⟨w.op 12 2, w.opBit 14, w.opBit 15, w.op 16 2, w.opBit 18, w.op 32 32, w.op 64 9, w.op 80 16, w.op 19 2, w.opBit 21⟩

/-- The resolved value of an element at window w (R118). -/
def AccEl.resolve (x : AccEl) (w : Int) : Val :=
  if x.isNaN then .nan else if x.pinf then .inf false else if x.ninf then .inf true
  else .fin (decide (x.q < 0)) x.q.natAbs w

/-- One update of a column's statistics: MAX and SUM (R88). The old MAX stays where y equals it as a number, so of two zeros of opposite sign the older is kept (log entry 35, DESIGN CHOICE). -/
def statStep (scale : Nat) (mx sm x : Nat) : Nat × Nat :=
  let y := f32Round false ((decodeFloat 0 scale).mul (decodeFloat 0 x))
  let sub (a b : Nat) : Nat := f32Round false ((decodeFloat 0 a).add (decodeFloat 0 b).neg)
  let mul (a b : Nat) : Nat := f32Round false ((decodeFloat 0 a).mul (decodeFloat 0 b))
  let add (a b : Nat) : Nat := f32Round false ((decodeFloat 0 a).add (decodeFloat 0 b))
  if f32IsNaN mx || f32IsNaN y || y = 0x7F800000 then (f32NaN, f32NaN)
  else if y = 0xFF800000 then (mx, sm)
  else
    let m' := if (decodeFloat 0 mx).lt (decodeFloat 0 y) then y else mx
    let e (a : Nat) : Nat := if a = 0xFF800000 && m' = 0xFF800000 then 0 else drainExp2 (sub a m')
    (m', add (mul sm (e mx)) (e y))

/-- The rounding of one element at offset E (R41, R144). -/
def State.rndOf (s : State) (c : Nat) (step : DWord) (rmode salt : Nat) (e : Int) : Rnd :=
  if rmode = 1 then
    .sr (srDraw (s.rd64 (reg (pgCTX c) Off.CTX_SR_SEED_LO)) salt step (BitVec.ofInt 64 e))
  else .rne

/-- Stages 2 to 4 of the drain for one row: biased values, updated statistics, values to convert (R86, R89). The exponent output rounds x, STAT_SCALE × x and the difference from REF to FP32 in turn (log entry 35, DESIGN CHOICE). -/
def drainRow (cfg : DrainCfg) (bias : List Val) (p : Pass) (vals : List Val) : Pass × List Val :=
  let step (n : Nat) : Nat × Nat × Val :=
    let v0 := vals.getD n (.fin false 0 0)
    let v := match bias[n]? with | some b => v0.add b | none => v0
    let x := f32Round false v
    let mx := p.smax.getD n 0xFF800000
    let sm := p.ssum.getD n 0
    let (mx', sm') := if cfg.stat = 0 then (mx, sm) else statStep cfg.scale mx sm x
    let out := if cfg.exp then
        let y := f32Round false ((decodeFloat 0 cfg.scale).mul (decodeFloat 0 x))
        let r := p.refs.getD n 0
        decodeFloat 0 (drainExp2 (f32Round false ((decodeFloat 0 y).add (decodeFloat 0 r).neg)))
      else v
    (mx', sm', out)
  let rs := (List.range 4).map step
  ({ p with smax := rs.map (·.1), ssum := rs.map (·.2.1) }, rs.map (·.2.2))

/-- Bias of the four columns: the OPD operand (R86). -/
def State.biasOf (s : State) (p : Pass) : Except Flt (List Val) :=
  match p.d with
  | none => pure []
  | some o => (List.range 4).mapM fun n => s.readVal (s.domOf p.ctx) o true 0 n

/-- Statistics at issue: the record under Continue, −Inf and +0 under Start; REF is MAX, or 0 when that is −Inf. With STAT_MODE = 0 no MAX is loaded and REF is 0 (R87, R89; log entry 35, DESIGN CHOICE). -/
def State.loadStats (s : State) (cl core : Nat) (p : Pass) : Except Flt Pass := do
  let cfg := p.drainCfg
  let v ← if cfg.stat = 1 then s.spReadSafe (s.domOf p.ctx) 2 cl core (cfg.statRec * 32) 32 true else pure 0
  let mx := (List.range 4).map fun n => if cfg.stat = 1 then v / 2 ^ (32 * n) % 2 ^ 32 else 0xFF800000
  let sm := (List.range 4).map fun n => if cfg.stat = 1 then v / 2 ^ (128 + 32 * n) % 2 ^ 32 else 0
  pure { p with smax := mx, ssum := sm, refs := mx.map fun m => if m = 0xFF800000 then 0 else m }

/-- The statistics record written back at retire (R87). -/
def State.storeStats (s : State) (cl core : Nat) (p : Pass) : State :=
  if p.dest = .drain && p.drainCfg.stat ≠ 0 then
    let v := (List.range 4).foldl (fun a n => a + p.smax.getD n 0 * 2 ^ (32 * n) + p.ssum.getD n 0 * 2 ^ (128 + 32 * n)) 0
    match s.spWrite (s.domOf p.ctx) 2 cl core (bytesAt (p.drainCfg.statRec * 32) 32 v) true with
    | .ok t => t
    | .error _ => s
  else s

/-- Write drained rows, the first of them row m0, to OPC: conversion, saturations counted, NaNs of a BFX conversion listed (R51, R57, R86, R91). -/
def State.drainWrite (s : State) (p : Pass) (m0 : Nat) (rows : List (List Val)) : Except Flt (State × List (Nat × Nat)) := do
  match p.c with
  | none => pure (s, [])
  | some o =>
    let cfg := p.drainCfg
    let d := s.domOf p.ctx
    let (s, sc, stored) ← s.opndScale d o p.step.toNat true
    let offs ← (List.range (4 * rows.length)).mapM fun n => s.elemOff d o true (4 * m0 + n)
    let off (n : Nat) : Int := ((offs.getD n none).getD 0)
    let val (n : Nat) : Val := (rows.getD (n / 4) []).getD (n % 4) (.fin false 0 0)
    let rnd (n : Nat) : Rnd := s.rndOf p.ctx p.step cfg.rmode cfg.salt (off n)
    if cfg.blkEn then
      let bs := blkSize cfg.blk
      let per := cdiv rows.length bs
      let blocks := (List.range (4 * per)).map fun q =>
        let col := q / per
        let ms := ((List.range bs).map fun i => q % per * bs + i).filter fun m => decide (m < rows.length)
        let r := blkWrite o.fmt cfg.satfin (ms.map fun m => (val (4 * m + col), rnd (4 * m + col)))
        (q, r.1, (ms.map fun m => 4 * m + col).zip r.2)
      let pads := o.padOffs 4 rows.length bs (fun col => off (4 * (rows.length - 1) + col)) (o.stride.getD 1 1)
      let s1 ← s.writePats d o true ((pads.map fun e => (e, 0)) ++ blocks.flatMap fun b => b.2.2.map fun x => (off x.1, x.2))
      let s2 ← s1.writeScales d o true (blocks.map fun b => (b.1, b.2.1))
      pure (s2, [])
    else
      let cs := (List.range (4 * rows.length)).map fun n => (n, convert o.fmt (rnd n) cfg.satfin cfg.wrap (if isBfxFmt o.fmt then sc else 0)
        (o.toStored sc (val n)))
      let s1 ← s.writePats d o true (cs.map fun c => (off c.1, c.2.bits))
      let sat := (cs.filter fun c => c.2.sat).length
      pure ((s1.inc (reg (pgCTX p.ctx) Off.CTX_SAT_COUNT) sat).stageAmax p.ctx o stored (amaxOf ((List.range (4 * rows.length)).map val)),
        (cs.filter fun c => c.2.nan).map fun c => (m0 + c.1 / 4, c.1 % 4))

/-! ## Chains and destinations -/

/-- Are two records the same operation? -/
def Pass.same (p q : Pass) : Bool := p.ctx == q.ctx && p.id == q.id && p.pos == q.pos && p.chain == q.chain

/-- Are two operations members of one spool chain? -/
def Pass.linked (p q : Pass) : Bool := p.chain.isSome && p.ctx == q.ctx && p.chain == q.chain

/-- Replace an operation wherever its core holds it. -/
def CoreRec.setPass (r : CoreRec) (p : Pass) : CoreRec :=
  { r with queue := r.queue.map fun x => if x.same p then p else x, air := r.air.map fun x => if x.same p then p else x }

/-- Take an operation out of its core. -/
def CoreRec.dropPass (r : CoreRec) (p : Pass) : CoreRec :=
  { r with queue := r.queue.filter fun x => !x.same p, air := r.air.filter fun x => !x.same p }

/-- Members of the chain of a pass in a cluster, with their cores, in chain order (R119). -/
def State.chainOf (s : State) (cl : Nat) (p : Pass) : List (Nat × Pass) :=
  let all := s.cores.flatMap fun x => if x.1 / 128 = cl then ((x.2.queue ++ x.2.air).filter p.linked).map fun q => (x.1 % 128, q) else []
  (List.range 16).filterMap fun i => all.find? fun q => q.2.pos == i

/-- The passes that stand or replay together: a lone pass, or the members of a chain that have not retired. -/
def State.groupOf (s : State) (cl core : Nat) (p : Pass) : List (Nat × Pass) := if p.chain.isNone then [(core, p)] else s.chainOf cl p

/-- Has the front end issued every member of the chain of p (R224)? -/
def State.chainWhole (s : State) (cl : Nat) (p : Pass) : Bool :=
  p.chain.isNone || (((s.chainOf cl p).getLast?).map fun x => x.2.tail) == some true

/-- The first row with an unmasked overflow below a bound and the largest exponent there, over a group (R114, R123). -/
def groupOvf (g : List (Nat × Pass)) (v : Nat) : Option (Nat × Int) :=
  g.foldl (fun a x => match x.2.ovfBelow v, a with
    | some (r, e), some (r', e') => some (min r r', max e e')
    | some y, none => some y
    | none, _ => a) none

/-- Has every row of every member of a pass's group entered its array? -/
def State.settled (s : State) (cl core : Nat) (p : Pass) : Bool :=
  s.chainWhole cl p && (s.groupOf cl core p).all fun x => x.2.full && (s.getCore (coreKey cl x.1)).air.any x.2.same

/-- May a pass retire: its group has swept without an overflow that waits for a replay, and every earlier member has retired (R78, R123; log entry 36, DEDUCED)? -/
def State.passDone (s : State) (cl core : Nat) (p : Pass) : Bool :=
  let g := s.groupOf cl core p
  s.settled cl core p && (groupOvf g p.m).isNone && (g.head?).any fun x => x.2.same p

/-- Is every row of a pass skipped, so that it draws no array current and needs no weights (R84, R285, R599)? -/
def State.allSkipped (s : State) (p : Pass) : Bool :=
  match p.a, p.b with
  | some a, some b => b.zb && (List.range p.m).all fun m =>
      match s.rowSkipped p b (rowWidth a.fmt (p.w.op 24 2)) m with | .ok x => x | .error _ => false
  | _, _ => false

/-- Write the rows of the sweep below row v to the destination; the NaN events they bring are held with the pass (R62, R74, R84, R86). -/
def State.commitRows (s : State) (cl core : Nat) (p : Pass) (v : Nat) : Except Flt (State × Pass) := do
  let key := coreKey cl core
  let rs := (p.rows.take (v - p.start)).zipIdx.map fun (x, i) => (p.start + i, x)
  let p := { p with stat := p.statBelow v }
  let streamed := rs.flatMap fun (m, x) => x.els.zipIdx.filterMap fun (e, n) => if e.isNaN then some (true, m, n) else none
  match p.dest with
  | .overwrite | .accumulate =>
    let r := s.getCore key
    let old (m n : Nat) : AccEl := (r.tile (p.place m).1).el (p.place m).2 n
    let nans := rs.flatMap fun (m, x) => x.els.zipIdx.filterMap fun (e, n) =>
      if e.isNaN && !(p.dest == .accumulate && (old m n).isNaN) then some (false, m, n) else none
    let r' := rs.foldl (fun a x => x.2.els.zipIdx.foldl (fun b q =>
      let t := (p.place x.1).1
      b.setTile t ((b.tile t).setEl (p.place x.1).2 q.2 q.1)) a) r
    pure (s.setCore key r', { p with nans := p.nans ++ nans, undo := p.undo ++ rs.map fun x => (x.1, (List.range 4).map (old x.1)) })
  | .spool => pure (s, { p with nans := p.nans ++ streamed })
  | .drain =>
    let bias ← s.biasOf p
    let (p', vals) := rs.foldl (fun (a : Pass × List (List Val)) x =>
      let (q, y) := drainRow p.drainCfg bias a.1 (x.2.els.map fun e => e.resolve p.win)
      (q, a.2 ++ [y])) (p, [])
    let (t, bn) ← s.drainWrite p p.start vals
    pure (t, { p' with nans := p.nans ++ streamed ++ bn.map fun q => (true, q.1, q.2) })

/-- Does an operation read a poisoned tile that it does not overwrite (R97)? -/
def readsPoison (r : CoreRec) (p : Pass) (d : Nat) : Bool :=
  (p.dest == .accumulate || !p.isPass) && p.tiles.any fun t => (r.tile t).poison && (r.tile t).own == some d

/-! ## The queue of a core (R77, R85, R93, R95) -/

/-- May the operation at the head of a core's queue issue (R77, R85, R95, R115)? A pass that has handed on every sum no longer counts against the four (log entry 36, DEDUCED). -/
def CoreRec.clear (r : CoreRec) (p : Pass) : Bool :=
  (decide ((r.air.filter fun x => x.isPass && !x.handed).length < 4) || p.isPass = false)
    && !(r.air.any fun x => (x.ovf.isSome || decide (0 < x.replays)) && !x.linked p)
    && !(p.usesDrain && r.air.any Pass.usesDrain)
    && !(r.air.any fun x => x.tiles.any fun t => p.tiles.contains t)

/-- What holds an operation at issue, a bit each: 1 a tile in use, 2 the drain path or the four-pass limit (R77, R85, R95). -/
def CoreRec.stallOf (r : CoreRec) (p : Pass) : Nat :=
  b2n (r.air.any fun x => x.tiles.any fun t => p.tiles.contains t)
    + 2 * b2n ((p.usesDrain && r.air.any Pass.usesDrain) || (p.isPass && decide (4 ≤ (r.air.filter fun x => x.isPass && !x.handed).length)))

/-- Record what holds the head of the queue at issue, if something does. -/
def CoreRec.noteStall (r : CoreRec) : CoreRec :=
  match r.queue with
  | [] => r
  | p :: q => if r.clear p then r else { r with queue := { p with stall := p.stall ||| r.stallOf p } :: q }

/-- The head of the queue leaves WAIT when nothing blocks it; a granted tile drain enters flight (R93, R95). -/
def CoreRec.settle (r : CoreRec) : CoreRec :=
  match r.queue with
  | [] => r
  | p :: q =>
    if r.clear p then
      if p.isPass then { r with queue := { p with stall := 0, phase := if p.phase = .wait then .load else p.phase } :: q }
      else if p.granted then CoreRec.noteStall { r with queue := q, air := r.air ++ [{ p with stall := 0, phase := .stream }] }
      else { r with queue := { p with stall := 0, phase := .load } :: q }
    else r.noteStall

/-- The head that no hazard holds goes on, as when its current is granted. -/
def CoreRec.proceed (r : CoreRec) : CoreRec :=
  match r.queue with
  | p :: _ => if p.stall = 0 then r.settle else r
  | [] => r

/-- Put an operation at the end of a core's queue. -/
def CoreRec.enqueue (r : CoreRec) (p : Pass) : CoreRec :=
  let r' : CoreRec := { r with queue := r.queue ++ [p] }
  if r.queue = [] then r'.settle else r'

/-! ## Faults and events of an operation -/

/-- Engine field of the NaN trap for an accumulator event (R66). -/
def accEngine (cl core : Nat) (stream : Bool) : Nat :=
  cl / 375 * 2 ^ 27 + cl % 375 * 2 ^ 18 + core * 2 ^ 11 + b2n stream * 2 ^ 10

/-- Coordinate field of an accumulator event (R66). -/
def Pass.nanCoord (p : Pass) (stream : Bool) (row col : Nat) : Nat :=
  if stream then col * 2 ^ 24 + row
  else (if p.join then 0 else p.tiles.headD 0 * 2 ^ 30) + row * 2 ^ 22 + col * 2 ^ 20

/-- Merge a pass status into its command's status word (R235). -/
def Live.merge (l : Live) (st : Word) : Live :=
  let wf := fld st 16 10
  let rep := max (fld l.status 0 4) (fld st 0 4)
  let differ := bit l.status 8 || (l.wfin.isSome && l.wfin != some wf)
  let best := match l.wfin with | none => wf | some x => if sext x 10 < sext wf 10 then wf else x
  { l with status := BitVec.ofNat 32 (rep + (fld l.status 4 4 ||| fld st 4 4) * 16 + b2n differ * 256 + best * 65536), wfin := some best }

/-- A fresh uncorrectable error of a unit: the second within 24 hours creates a repair record (R523). -/
def State.noteUE (s : State) (kind clu core : Nat) : State :=
  let key := kind * 2 ^ 24 + clu * 128 + core
  let day := 24 * 3600 * 1000000000
  match s.ueSeen.find? fun p => p.1 == key && decide (s.now.toNat < p.2 + day) with
  | some _ =>
    let s := { s with ueSeen := s.ueSeen.filter fun p => p.1 != key }
    if s.repairs.length < 512 then
      ({ s with repairs := s.repairs ++ [({ kind := kind, clu := clu, core := core, row := 0 } : Repair)] }).raise pgERR 3
    else s
  | none => { s with ueSeen := (s.ueSeen.filter fun p => p.1 != key) ++ [(key, s.now.toNat)] }

/-- The offset the runtime restarts from after a fault of an operation: the origin of its destination tile, of its chain's final tile, or its own offset for DRAIN (R97). -/
def State.restartAt (s : State) (cl core : Nat) (p : Pass) : DWord :=
  let (k, t) := ((s.groupOf cl core p).getLast?).getD (core, p)
  if t.dest = .drain then BitVec.ofNat 64 t.off else ((s.getCore (coreKey cl k)).tile (t.tiles.headD 0)).origin

/-- A fault of one operation: its chain's final tile is poisoned, the core records the fault and the offset to restart from, the other members of its chain record SPOOL_BROKEN, and the context faults (R97, R98). -/
def State.passFault (s : State) (cl core : Nat) (p : Pass) (f : Flt) : State :=
  let g := s.groupOf cl core p
  let at' := s.restartAt cl core p
  let s := match g.getLast? with
    | some (k, t) => if t.isPass then s.modCore (coreKey cl k) fun r => r.poisonTiles t.tiles else s
    | none => s
  let others := g.filter fun x => !x.2.same p
  let s := others.foldl (fun t x => t.modCore (coreKey cl x.1) fun r => { r with fault := some (Err.SPOOL_BROKEN, at') }) s
  let s := s.modCore (coreKey cl core) fun r => { r with fault := some (f.code, at') }
  let s := s.ctxFault p.ctx f
  if others = [] then s else s.pageErr (pgCTX p.ctx) Err.SPOOL_BROKEN

/-! ## Issue (R78, R80, R112, R122) -/

/-- 1 when the spare row of a core is in use (R78). -/
def State.spareRow (s : State) (cl core : Nat) : Nat := b2n (bit (s.rd (wreg core (pgCLU cl) Off.CORE_ROW_MAP)) 4)

/-- Tag of the seeds that the member at a place of a chain takes. -/
def Pass.tag (p : Pass) (pos : Nat) : Nat := (p.chain.getD 0 * 16 + pos) * 2 ^ 14 + p.ctx

/-- Are the tiles that a chain's tail names free on its core: no operation in flight or queued before it names them? The chain's window is fixed on them when its head issues (R95, R122). -/
def State.tailFree (s : State) (cl core : Nat) (p : Pass) : Bool :=
  match (s.groupOf cl core p).getLast? with
  | none => true
  | some (k, t) =>
    let r := s.getCore (coreKey cl k)
    !((r.air ++ r.queue.takeWhile fun x => !x.same t).any fun x => x.tiles.any t.tiles.contains)

/-- The window of a lone pass or of a chain is fixed: the effective window of the tail, whose tiles are taken and shifted (R111, R112, R122). An INT8 pass with a scale plane on either operand takes the block-scaled default (log entry 35, DESIGN CHOICE). -/
def State.fixWindow (s : State) (cl core : Nat) (p : Pass) : State :=
  let g := s.groupOf cl core p
  let (k, t) := (g.getLast?).getD (core, p)
  let scaled := (t.a.map Opnd.scaled).getD false || (t.b.map Opnd.scaled).getD false
  let key := coreKey cl k
  let (r, w, st) := openTiles (s.getCore key) t (s.domOf t.ctx) (passWindow t.w t.fmt scaled)
  g.foldl (fun u x => u.modCore (coreKey cl x.1) fun r => r.setPass { x.2 with win := w, stat := if x.2.same t then x.2.stat ||| st else x.2.stat })
    (s.setCore key r)

/-- Take up to n entries of a tag out of a list. -/
def takeTag {α : Type} (tag : Nat) : Nat → List (Nat × α) → List α × List (Nat × α)
  | _, [] => ([], [])
  | 0, l => ([], l)
  | n + 1, x :: l =>
    if x.1 = tag then let r := takeTag tag n l; (x.2 :: r.1, r.2)
    else let r := takeTag tag (n + 1) l; (r.1, x :: r.2)

/-- The next k rows of a member go over its spool link. From the first overflowing row on its outputs are suppressed: the sums that go on with the exponents carry the flags, and their q is a free value (R115, R123; log entry 36, DEDUCED). -/
def State.handOn (s : State) (p : Pass) (k : Nat) : State × List (List AccEl) :=
  (((p.rows.drop p.sent).take k).zipIdx).foldl (fun (a : State × List (List AccEl)) x =>
    if (p.ovf.any fun o => decide (o.1 ≤ p.start + p.sent + x.2)) then
      let (els, t) := x.1.els.foldl (fun (b : List AccEl × State) e =>
        let (u, t1) := b.2.draw
        let (v, t2) := t1.draw
        (b.1 ++ [{ e with q := sext (u.toNat + v.toNat * 2 ^ 64) 96 }], t2)) ([], a.1)
      (t, a.2 ++ [els])
    else (a.1, a.2 ++ [x.1.els])) (s, [])

/-- A member of a chain that has issued goes on as far as the seeds at its core and the room in the next core's FIFO let it: at most 16 + σ rows stand in its array beyond those it has handed on (R78, R80, R82). -/
def State.pumpMember (s : State) (cl core : Nat) (p : Pass) : Except Flt State := do
  let key := coreKey cl core
  let nk := coreKey cl p.next
  let spool := p.dest == .spool
  let n := min (p.m - p.entered) (if spool then p.sent + 16 + s.spareRow cl core - p.rows.length else p.m)
  let r := s.getCore key
  let (mine, rest) := takeTag (p.tag p.pos) n r.seeds
  let (s, q) ← (if p.pos = 0 then s.fillRows cl core p (List.replicate n [])
    else (s.setCore key { r with seeds := rest }).fillRows cl core p mine)
  let k := if spool then min (q.rows.length - q.sent) (32 - (s.getCore nk).seeds.length) else 0
  let (s, els) := s.handOn q k
  let s := s.modCore key fun r => r.setPass { q with sent := q.sent + k }
  pure (s.modCore nk fun r => { r with seeds := r.seeds ++ els.map fun x => (p.tag (p.pos + 1), x) })

/-- A fault of a member: its core and its record. -/
abbrev MemberFault := Nat × Pass × Flt

/-- Every member of a chain in flight goes on once, the tail first. -/
def State.pumpRound (s : State) (cl : Nat) (p : Pass) : Except MemberFault State :=
  (s.chainOf cl p).reverse.foldlM (fun t x =>
    match (t.getCore (coreKey cl x.1)).air.find? x.2.same with
    | some q => (t.pumpMember cl x.1 q).mapError fun f => (x.1, q, f)
    | none => pure t) s

/-- Is the core of a pass, or of another member of its chain, frozen under the ledger cause (R82)? A frozen member holds its whole chain here. -/
def State.frozenPass (s : State) (cl core : Nat) (p : Pass) : Bool :=
  s.coreFrozen cl core || (s.groupOf cl core p).any fun x => s.coreFrozen cl x.1

/-- Rows stream: every row of a lone pass; those of a chain as far as its links let them. -/
def State.stream (s : State) (cl core : Nat) (p : Pass) : Except MemberFault State :=
  if p.chain.isSome then (List.range (p.m / 16 + 20)).foldlM (fun t _ => t.pumpRound cl p) s
  else match s.fillRows cl core p (List.replicate (p.m - p.entered) []) with
    | .ok (t, q) => .ok (t.modCore (coreKey cl core) fun r => r.setPass q)
    | .error f => .error (core, p, f)

/-- The state a sweep leaves, or its fault. -/
def State.orFault (s : State) (cl : Nat) (r : Except MemberFault State) : State :=
  match r with
  | .ok t => t
  | .error (core, p, f) => s.passFault cl core p f

/-- Statistics of a pass that starts its sweep at row 0 (R87). -/
def State.startStats (s : State) (cl core : Nat) (p : Pass) : Except Flt Pass :=
  if p.dest = .drain ∧ p.start = 0 then s.loadStats cl core p else .ok p

/-- A pass issues: its window is fixed where it heads its group, and its rows stream (R78, R112, R122). A pre-empted pass goes on at its resume row (R97). -/
def State.issueOnCore (s : State) (cl core : Nat) (p : Pass) : State :=
  let key := coreKey cl core
  let s := if (p.chain.isNone || p.pos == 0) && !p.begun then s.fixWindow cl core p else s
  let p := (((s.getCore key).queue.find? p.same)).getD p
  if readsPoison (s.getCore key) p (s.domOf p.ctx) then s.passFault cl core p ⟨Err.TILE_POISONED, 3 + 4, 0⟩
  else
    match s.startStats cl core p with
    | .error f => s.passFault cl core p f
    | .ok q =>
      let q := { q with phase := .stream, begun := true }
      let s := s.modCore key fun r => { (r.dropPass p) with air := r.air ++ [q] }
      (s.orFault cl (s.stream cl core q)).modCore key CoreRec.settle

/-! ## Replay (R114, R115, R123) -/

/-- w_new of a replay (R114). -/
def nextWindow (w emax : Int) : Int :=
  let x := max (w + 1) (emax - 79)
  min 176 (((x + 15) / 16) * 16)

/-- The tail's tiles as a replay shifts them: an overwrite's rows before row r have been written, an accumulate is unwound (R115). -/
def CoreRec.unwind (r : CoreRec) (p : Pass) (row : Nat) : CoreRec :=
  let put (a : CoreRec) (m : Nat) (els : List AccEl) : CoreRec := els.zipIdx.foldl (fun b q =>
    let t := (p.place m).1
    b.setTile t ((b.tile t).setEl (p.place m).2 q.2 q.1)) a
  match p.dest with
  | .overwrite => ((p.rows.take (row - p.start)).zipIdx).foldl (fun a x => put a (p.start + x.2) x.1.els) r
  | .accumulate => p.undo.foldl (fun a x => put a x.1 x.2) r
  | _ => r

/-- The first steps of a replay of a group whose first overflow below row v is in row r with largest exponent e: the tail unwinds and shifts its tiles, every member takes the new window, counts the replay and goes back to row 0; seeds on their way are gone (R114, R115, R123). -/
def State.raiseGroup (s : State) (cl : Nat) (g : List (Nat × Pass)) (v r : Nat) (e : Int) : State :=
  match g.getLast? with
  | none => s
  | some (k, t) =>
    let w := nextWindow t.win e
    let key := coreKey cl k
    let u := (s.getCore key).unwind t r
    let sh := t.tiles.any fun i => ((u.tile i).raiseTo w).2
    let s := s.setCore key (t.tiles.foldl (fun a i => a.setTile i ((a.tile i).raiseTo w).1) u)
    g.foldl (fun a x =>
      let p := x.2
      let a := a.inc (wreg x.1 (pgCLU cl) Off.CORE_ACC_REPLAYS)
      let a := a.inc (reg (pgCTX p.ctx) Off.CTX_ACC_REPLAY_COUNT)
      a.modCore (coreKey cl x.1) fun y =>
        let st := p.statBelow v ||| (if sh && p.same t then stShifted else 0)
        let z := y.setPass
          { p with win := w, replays := p.replays + 1, ovf := none, nans := [], phase := .stream, stat := st, start := 0, rows := [], sent := 0, undo := [] }
        { z with seeds := z.seeds.filter fun b => b.1 != p.tag p.pos }) s

/-- A member reloads its weights, and its statistics record, for the replay sweep (R115). -/
def State.reload (s : State) (cl core : Nat) (p : Pass) : Except Flt State := do
  let (ws, ix) ← if s.allSkipped p then pure ([], []) else s.latchWeights p
  let q ← s.startStats cl core { p with wts := ws, idx := ix }
  pure (s.modCore (coreKey cl core) fun r => r.setPass q)

/-- A replay of the group whose tail, or lone pass, is p: raise the window, reload every member, stream from row 0 (R115, R123). -/
def State.replay (s : State) (cl core : Nat) (p : Pass) : State :=
  let g := s.groupOf cl core p
  match groupOvf g p.m with
  | none => s
  | some (r, e) =>
    let s := s.raiseGroup cl g p.m r e
    let res : Except MemberFault State := do
      let t ← (s.groupOf cl core p).foldlM (fun (t : State) x =>
        match (t.getCore (coreKey cl x.1)).air.find? x.2.same with
        | some q => (t.reload cl x.1 q).mapError fun f => (x.1, q, f)
        | none => pure t) s
      match (t.getCore (coreKey cl core)).air.find? p.same with
      | some q => t.stream cl core q
      | none => pure t
    s.orFault cl res

/-- The tail, or lone pass, of a core's array whose group has an overflow and has left the array, with every pass issued after its members retired (R115, R123). -/
def State.replayDue (s : State) (cl core : Nat) : Option Pass :=
  (s.getCore (coreKey cl core)).air.find? fun p =>
    let g := s.groupOf cl core p
    p.isPass && p.tail && s.settled cl core p && (groupOvf g p.m).isSome
      && g.all fun x => (((s.getCore (coreKey cl x.1)).air.dropWhile fun y => !y.same x.2).drop 1).all fun y => !y.isPass || y.linked p

/-! ## Retirement -/

/-- The pass status word at retire (R130). -/
def Pass.statusWord (p : Pass) : Word :=
  (p.stat &&& 0xF0#32) ||| BitVec.ofNat 32 (min 15 p.replays + toTwos 10 p.win * 2 ^ 16)

/-- Current of an operation that leaves its core: a core keeps its array reservation while its queue holds an admitted pass with rows to stream, and loses it with the last (R285). -/
def State.releaseOp (s : State) (cl core : Nat) (p : Pass) : State :=
  let t := s.modCore (coreKey cl core) fun r => r.dropPass p
  let here (u : LUnit) : Bool := u.core == some core && u.acct == cl / 375 && u.ix == cl % 375
  let mine (u : LUnit) : Bool := u.owner == some (p.ctx, p.id) && here u
  let kept := t.lresv.any fun u => u.isArray && here u && !mine u
  let r := t.getCore (coreKey cl core)
  match r.queue.find? fun x => x.isPass && !t.allSkipped x with
  | some x =>
    if p.isPass && !kept then
      { t with lresv := t.lresv.map fun u => if mine u then { u with owner := some (x.ctx, x.id) } else u }
    else t.releaseUnits mine none
  | none => t.releaseUnits mine none

/-- The accumulator NaN events that an operation held (R62, R64). -/
def State.passNaNs (s : State) (cl core : Nat) (p : Pass) : State :=
  s.nanEvents p.ctx p.off (p.nans.map fun x => (accEngine cl core x.1, p.nanCoord x.1 x.2.1 x.2.2))

/-- A pass whose rows are written retires: registers, NaN events, statistics record, its command's merged status and signal (R62, R78, R87, R130, R235). -/
def State.retirePass (s : State) (cl core : Nat) (p : Pass) : State :=
  let st := p.statusWord
  let s := (s.storeStats cl core p).releaseOp cl core p
  let s := s.wr (wreg core (pgCLU cl) Off.CORE_ACC_STATUS) st
  let s := s.inc64 (wreg core (pgCLU cl) Off.CORE_PASSES_LO)
  let sk := reg (pgCTX p.ctx) Off.CTX_ACC_SUMMARY
  let s := s.wr sk (s.rd sk ||| BitVec.ofNat 32 (b2n (fld st 0 4 ≠ 0) + fld st 4 4 * 2))
  let s := s.modCtx p.ctx fun r => { r with live := r.live.map fun l => if l.id == p.id then l.merge st else l }
  let last := match s.liveOf p.ctx p.id with | some l => decide (l.left ≤ 1) | none => false
  let s := match last, s.liveOf p.ctx p.id with
    | true, some l => if p.w.opBit 111 then s.setPar p.ctx (p.w.op 105 6) (l.status.setWidth 64) else s
    | _, _ => s
  (s.retireOne p.ctx p.id).passNaNs cl core p

/-- A tile drain retires: it is no pass, and leaves the pass counters and the pass status as they are (R87, R103, R130, R225). -/
def State.retireDrain (s : State) (cl core : Nat) (p : Pass) : State :=
  (((s.storeStats cl core p).releaseOp cl core p).retireOne p.ctx p.id).passNaNs cl core p

/-- A tile drain reads its tile rows through the drain path into OPC; a NaN of a BFX conversion names its tile element (R66, R225). -/
def State.runTileDrain (s : State) (cl core : Nat) (p : Pass) : Except Flt (State × Pass) := do
  let d := s.domOf p.ctx
  let r := s.getCore (coreKey cl core)
  let p ← s.loadStats cl core p
  let bias ← s.biasOf p
  let (p', vals) := (List.range p.m).foldl (fun (acc : Pass × List (List Val)) m =>
    let t := ((r.tile (p.place m).1).seenBy d)
    let (q, v) := drainRow p.drainCfg bias acc.1 ((List.range 4).map fun n => (t.el (p.place m).2 n).resolve t.w)
    (q, acc.2 ++ [v])) (p, [])
  let (s, bn) ← s.drainWrite p 0 vals
  pure (s, { p' with nans := bn.map fun q => (false, q.1, q.2) })

end Sys2Proof.Machine
end

