-- ==== Sys2Proof/Machine/Memory.lean ====
section
/-! DEFINITION. The memory tiers: the line code, interleave, reads and writes at the base dies, write combining, patrol, region tables and stack repair (R326 to R359). -/

namespace Sys2Proof.Machine

open Sys2Proof

/-! ## The line code (R336 to R338) -/

/-- x · p mod g(x) in 16 bits (R336). -/
def codeStep (p : Nat) : Nat := if p < 2 ^ 15 then 2 * p else (2 * p) % 2 ^ 16 ^^^ 0x4EAB

/-- Column of bit i of a codeword: check bits first, then data bit i − 16 (R335, R337). -/
def codeColumn (i : Nat) : Nat :=
  if i < 16 then 2 ^ i else (List.range (i - 16)).foldl (fun c _ => codeStep c) 0x4EAB

/-- XOR of the columns of the set bits. -/
def codeXor (v : Nat) : Nat := (List.range 80).foldl (fun a i => if v / 2 ^ i % 2 = 1 then a ^^^ codeColumn i else a) 0

/-- Check bits of 64 data bits (R337). -/
def codeCheck (d : Nat) : Nat := codeXor (d * 2 ^ 16)

/-- The poison marker (R338). -/
def codeMarker : Nat := 0xFFFE

/-- What the decoder makes of a codeword (R338): the bits it flips, or poison, fresh or by the marker. -/
inductive CodeOut where
  | clean
  | fixed (mask : Nat)
  | marker
  | fresh
deriving DecidableEq, Repr

/-- Number of set bits of a 16-bit value. -/
def weight16 (v : Nat) : Nat := (List.range 16).foldl (fun a i => a + v / 2 ^ i % 2) 0

/-- Decode by syndrome (R338). -/
def codeDecode (s : Nat) : CodeOut :=
  if s = 0 then .clean
  else if s = codeMarker then .marker
  else
    let cols := (List.range 80).map codeColumn
    match (List.range 80).find? fun i => cols.getD i 0 == s with
    | some i => .fixed (2 ^ i)
    | none =>
      if weight16 s % 2 = 0 then
        match (List.range 80).findSome? fun i => ((List.range 80).find? fun j => decide (i < j) && (cols.getD i 0 ^^^ cols.getD j 0) == s).map fun j => 2 ^ i + 2 ^ j with
        | some m => .fixed m
        | none => .fresh
      else .fresh

/-- What one codeword of an access does: corrected, marker, fresh, and whether wrong data are left. -/
structure WordOut where
  fixed : Bool := false
  marker : Bool := false
  fresh : Bool := false
  wrong : Bool := false
  two : Bool := false
deriving DecidableEq, Repr

/-- A stored codeword read with an error pattern over it; the stored one carries the marker when its line is poisoned (R338, R339). -/
def readWord (poisoned : Bool) (err : Nat) : WordOut :=
  let s := codeXor err ^^^ (if poisoned then codeMarker else 0)
  match codeDecode s with
  | .clean => { wrong := decide (err % 2 ^ 80 ≠ 0) || poisoned }
  | .marker => { marker := true }
  | .fresh => { fresh := true }
  | .fixed m => { fixed := true, wrong := decide (m ≠ err % 2 ^ 80), two := decide (weight16 (m % 2 ^ 16) + (List.range 64).foldl (fun a i => a + m / 2 ^ (16 + i) % 2) 0 = 2) }

/-! ## Interleave (R340, R353) -/

/-- Rotate an n-bit value left by k. -/
def rotlN (v k n : Nat) : Nat := (v * 2 ^ k % 2 ^ n) + v / 2 ^ (n - k)

/-- fold of R340. -/
def foldHash (y n : Nat) (rot : List Nat) : Nat :=
  (rot.zipIdx).foldl (fun h p => h ^^^ rotlN (y / 2 ^ (n * p.2) % 2 ^ n) p.1 n) 0

/-- Stacks of grade S (R340). -/
def sStacks : List Nat := [0, 1, 2, 3, 4, 5, 6, 7, 8, 10, 12, 14]

/-- Stack, channel, pseudo-channel and slot of a fast-tier PA (R340). -/
def State.destination (s : State) (pa : Nat) : Nat × Nat × Nat × Nat :=
  let pc := pa / 2 ^ 8 % 2
  let u := pa / 2 ^ 9
  if s.fuse.grade = 2 then
    let q := u / 3
    let g := foldHash q 7 [0, 1, 3, 5, 2, 4]
    (sStacks.getD (4 * (u % 3) + g / 32) 0, g % 32, pc, q / 2 ^ 7)
  else
    let g := foldHash u 9 [0, 1, 3, 5, 7]
    (g / 32, g % 32, pc, u / 2 ^ 9)

/-- Package, channel and sub-channel of a slow-tier PA (R353). -/
def slowPlace (pa : Nat) : Nat × Nat × Nat :=
  let g := foldHash ((pa - slowBase) / 2 ^ 9) 6 [0, 1, 3, 5, 2, 4]
  (g / 4, g % 4, (pa - slowBase) / 2 ^ 8 % 2)

/-- Stack of a PA, or 16 for the slow tier. -/
def State.stackOf (s : State) (pa : Nat) : Nat := if slowBase ≤ pa then 16 else (s.destination pa).1

/-- Page of a PA's counters (R356, R358). -/
def State.memPage (s : State) (pa : Nat) : Nat := if slowBase ≤ pa then pgSLOW else pgHBM (s.destination pa).1
/-- Key of a memory register: the HBM page's, or the package's window of the SLOW page. -/
def State.memReg (s : State) (pa hbmOff slowOff : Nat) : Nat :=
  if slowBase ≤ pa then wreg (slowPlace pa).1 pgSLOW slowOff else reg (pgHBM (s.destination pa).1) hbmOff

/-- Count lines moved: lines of the fast tier, units of 1,024 in the slow tier (R356, R358). -/
def State.countLines (s : State) (dom pa : Nat) (wr : Bool) (n : Nat) : State :=
  let s := if slowBase ≤ pa then s.addCharge 11 dom (2000 * n) else s.addCharge 10 dom (5500 * n)
  if slowBase ≤ pa then
    let k := (slowPlace pa).1 * 2 + b2n wr
    let t := mapGet 0 s.slowRem k + n
    ({ s with slowRem := mapSet 0 s.slowRem k (t % 1024) } : State).inc
      (wreg (slowPlace pa).1 pgSLOW (if wr then Off.SLOW_WR_LINES else Off.SLOW_RD_LINES)) (t / 1024)
  else s.inc64 (reg (pgHBM (s.destination pa).1) (if wr then Off.HBM_WR_LINES_LO else Off.HBM_RD_LINES_LO)) n

/-- Count corrected codewords of a tier (R515, R532). -/
def State.countTierCE (s : State) (pa ce : Nat) : State :=
  let s : State := { s with ceNew := s.ceNew + ce }
  if slowBase ≤ pa then s.inc (s.memReg pa 0 Off.SLOW_CE) ce else s.inc64 (reg (s.memPage pa) Off.HBM_CE_LO) ce

/-- Record the PA of an error and raise it on the page (R356, R358). -/
def State.memError (s : State) (pa : Nat) (code : Code) (bits : Word) : State :=
  let k := s.memReg pa Off.HBM_LAST_PA_LO Off.SLOW_LAST_PA_LO
  (s.wr64 k (BitVec.ofNat 64 (pa % 2 ^ 52))).pageErr (s.memPage pa) code (pa % 2 ^ 32) (pa / 2 ^ 32 % 2 ^ 20) bits

/-! ## The tag cache (R345) -/

/-- The tag line that holds the tags at a PA of the fast tier: 32 units of a default region, or 4 of a narrow one, share the 256 bytes of a tag slot of their channel (R327, R342, R349). -/
def State.tagLine (s : State) (pa : Nat) : Nat :=
  let (st, ch, _, slot) := s.destination pa
  let narrow := (s.gran (pa / 2 ^ 21)).narrow
  (st * 32 + ch) * 2 ^ 41 + b2n narrow * 2 ^ 40 + slot / (if narrow then 4 else 32)

/-- A tag is read or written through its base die's 1 MiB cache of 4,096 tag lines: a miss counts and brings the line in; which line a full cache gives up is a free choice (R345; log entry 41, DESIGN CHOICE). -/
def State.tagTouch (s : State) (pa : Nat) (wr : Bool) : State :=
  if slowBase ≤ pa then s
  else
    let k := s.tagLine pa
    match s.tags.find? fun p => p.1 == k with
    | some p => if wr && !p.2 then { s with tags := s.tags.map fun q => if q.1 == k then (k, true) else q } else s
    | none =>
      let s := s.inc (reg (s.memPage pa) Off.HBM_TAG_MISSES)
      let mine := s.tags.filter fun p => p.1 / 2 ^ 46 == k / 2 ^ 46
      if mine.length < 4096 then { s with tags := s.tags ++ [(k, wr)] }
      else
        let (v, s) := s.draw
        let out := (mine.getD (v.toNat % mine.length) (k, wr)).1
        { s with tags := (s.tags.filter fun p => p.1 != out) ++ [(k, wr)] }

/-- The tags of every span of an access. -/
def State.tagSpans (s : State) (lo len : Nat) (wr : Bool) : State :=
  let step := if (s.gran (lo / 2 ^ 21)).narrow then 64 else 512
  (List.range (cdiv len step)).foldl (fun t i => t.tagTouch (lo + i * step) wr) s

/-! ## Retirement (R351) -/

/-- Key of a line's pseudo-channel or sub-channel. -/
def State.pcKey (s : State) (pa : Nat) : Nat :=
  if slowBase ≤ pa then (16 + (slowPlace pa).1) * 64 + (slowPlace pa).2.1 * 2 + (slowPlace pa).2.2
  else (s.destination pa).1 * 64 + (s.destination pa).2.1 * 2 + (s.destination pa).2.2.1

/-- Retire a line slot to a spare one (R351). -/
def State.retireSlot (s : State) (pa : Nat) : State :=
  let key := s.pcKey pa
  let total := if slowBase ≤ pa then 4096 else 2048
  let used := mapGet 0 s.sparesUsed key
  let page := s.memPage pa
  if total ≤ used then s.pageErr page Err.SPARES_EXHAUSTED (pa % 2 ^ 32) (pa / 2 ^ 32 % 2 ^ 20) 0x10#32
  else
    let s : State := { s with sparesUsed := mapSet 0 s.sparesUsed key (used + 1), patrol := mapDel (pa / 256) s.patrol }
    let s := if pa < slowBase then s.inc (reg (pgSTK_REPAIR (s.destination pa).1) Off.STK_REPAIR_LOG_COUNT) else s
    let s := s.raise page 2
    if total - (used + 1) < 256 then s.raise page 3 else s

/-- The line slots of a read, or of patrol, that yield a 2-bit correction are retired (R351). -/
def State.retireTwos (s : State) (lo : Nat) (outs : List WordOut) : State :=
  (((outs.zipIdx.filter fun p => p.1.two).map fun p => (lo + 8 * p.2) / 256).eraseDups).foldl (fun t l => t.retireSlot (l * 256)) s

/-! ## Reads (R344, R346) -/

/-- The 8-byte words of a tag unit or granule that an access at `pa` decodes: first word of the unit and how many. -/
def State.spanOf (s : State) (pa n : Nat) : Nat × Nat :=
  if (s.gran (pa / 2 ^ 21)).narrow then (pa / 64 * 64, ((pa + n - 1) / 64 - pa / 64 + 1) * 64)
  else (pa / 512 * 512, ((pa + n - 1) / 512 - pa / 512 + 1) * 512)

/-- A base die's or the slow controller's read by domain d with error patterns over the stored codewords, keyed by codeword address / 8: counters and events, slots retired, the origin code of poison and whether only markers made it (R338, R344, R351, R466). -/
def State.dieRead (s : State) (d pa n : Nat) (errs : List (Nat × Nat)) : State × Option (Code × Bool) :=
  let g := s.gran (pa / 2 ^ 21)
  let (lo, len) := s.spanOf pa n
  let lines := (linesOf lo len)
  let s1 := s.countLines d pa false (cdiv len 256)
  if g.fill.isSome then (s1, none)
  else if !s.genLive d g.gen then
    let s2 := s1.inc (reg pgKEY Off.KEY_RETIRED_READS)
    let s2 := if slowBase ≤ pa then s2 else s2.inc (reg (s.memPage pa) Off.HBM_POISON_READS)
    (s2.memError pa Err.RETIRED_GENERATION 0, some (Err.RETIRED_GENERATION, false))
  else
    let outs := (List.range (len / 8)).map fun i =>
      readWord (s.linePoison ((lo + 8 * i) / 64)) (((errs.find? fun e => e.1 == (lo + 8 * i) / 8).map Prod.snd).getD 0)
    let fresh := outs.any WordOut.fresh
    let marker := outs.any WordOut.marker
    let ce := if fresh || marker then 0 else (outs.filter WordOut.fixed).length
    let s2 := (s1.countTierCE pa ce).retireTwos lo (if fresh || marker then [] else outs)
    let s2 := if marker then s2 else s2.tagSpans lo len false
    let foreign := lines.any fun l => decide (((s.mark l).own.orElse fun _ => g.dom) ≠ some d)
    let tagBad := !fresh && !marker && (foreign || outs.any WordOut.wrong)
    let bad := fresh || marker || tagBad
    let s3 := if bad && pa < slowBase then s2.inc (reg (s.memPage pa) Off.HBM_POISON_READS) else s2
    if fresh then ((s3.inc (s.memReg pa Off.HBM_UE Off.SLOW_UE)).memError pa Err.MEM_UE 0x1#32, some (Err.MEM_UE, false))
    else if marker then (s3, some (Err.MEM_UE, true))
    else if tagBad then ((s3.inc (s.memReg pa Off.HBM_TAG_FAIL Off.SLOW_TAG_FAIL)).memError pa Err.TAG_FAIL 0x2#32, some (Err.TAG_FAIL, false))
    else (s3, none)

/-! ## Writes and write combining (R347, R348, R354) -/

/-- The read of a flush: codewords beyond repair, and wrong data that the tag tells, leave their lines poisoned (R338, R354). -/
def State.flushRead (s : State) (d pa : Nat) (errs : List (Nat × Nat)) : State :=
  let t := (s.dieRead d pa 512 errs).1
  let bad (i : Nat) : Bool :=
    let o := readWord (s.linePoison ((pa + 8 * i) / 64)) (((errs.find? fun e => e.1 == (pa + 8 * i) / 8).map Prod.snd).getD 0)
    o.fresh || o.wrong
  (((List.range 64).filter bad).map fun i => (pa + 8 * i) / 64).eraseDups.foldl State.poisonLine t

/-- Flush one entry: an incomplete one reads its unit first, with error patterns over the stored codewords, and the whole unit is written again; lines lost to poison are counted (R347, R354). -/
def State.flushEntry (s : State) (e : WcEntry) (errs : List (Nat × Nat) := []) : State :=
  let pa := e.unit * 512
  let s : State := { s with wc := s.wc.erase e }
  let whole := decide (e.bytes.length = 512)
  let page := s.memPage pa
  let fast := decide (pa < slowBase)
  let s := if whole then s else s.flushRead e.dom pa errs
  let poisoned (t : State) : List Nat := ((List.range 2).map fun i => 2 * e.unit + i).filter fun l => (List.range 4).any fun i => t.linePoison (4 * l + i)
  let s := if fast && !whole then s.inc (reg page Off.HBM_WC_RMW) else s
  let t := s.tierBytes e.dom e.bytes
  let lost := ((poisoned t).filter fun l => e.bytes.any fun b => b.1 / 256 == l).length
  let t := if fast then t.inc (reg page Off.HBM_WC_LOST) lost else t
  (t.tagSpans pa 512 true).countLines e.dom pa true 2

/-- Flush every entry that a test picks, by a fence; counts of 16 appear in HBM_WC_FLUSHES (R348, R356). -/
def State.fenceEntries (s : State) (p : WcEntry → Bool) : State :=
  (s.wc.filter p).foldl (fun t e =>
    let t := t.flushEntry e
    let st := t.stackOf (e.unit * 512)
    let n := mapGet 0 t.wcFence st + 1
    let t : State := { t with wcFence := mapSet 0 t.wcFence st (n % 16) }
    if n = 16 && st < 16 then t.incFld (reg (pgHBM st) Off.HBM_WC_FLUSHES) 16 16 else t) s

/-- Merge bytes of one unit into the buffer; the oldest entry of a full buffer leaves first (R347). -/
def State.wcMerge (s : State) (d unit : Nat) (bs : List (Nat × Byte)) : State :=
  let st := s.stackOf (unit * 512)
  match s.wc.find? fun e => e.unit == unit && e.dom == d with
  | some e =>
    let e' : WcEntry := { e with bytes := bs.foldl (fun acc b => mapPut b.1 b.2 acc) e.bytes }
    let s : State := { s with wc := s.wc.map fun x => if x == e then e' else x }
    if e'.bytes.length = 512 then s.flushEntry e' else s
  | none =>
    let mine := s.wc.filter fun e => s.stackOf (e.unit * 512) == st
    let s := (s.wc.filter fun e => e.unit == unit).foldl (fun t e => t.flushEntry e) s
    let s := if 512 ≤ mine.length then match mine with | e :: _ => s.flushEntry e | [] => s else s
    let e : WcEntry := { unit := unit, dom := d, bytes := bs.foldl (fun acc b => mapPut b.1 b.2 acc) [], born := s.timer }
    if e.bytes.length = 512 then s.flushEntry e else { s with wc := s.wc ++ [e] }

/-- A write of bytes at a PA by domain d: whole units, or whole granules of a narrow region, bypass the buffer (R347). -/
def State.dieWrite (s : State) (d : Nat) (bs : List (Nat × Byte)) : State :=
  (bs.map fun b => b.1 / 512).eraseDups.foldl (fun t u =>
    let mine := bs.filter fun b => b.1 / 512 == u
    let narrow := (t.gran (u / 2 ^ 12)).narrow
    let wholeGr := (mine.map fun b => b.1 / 64).eraseDups.all fun l => decide ((mine.filter fun b => b.1 / 64 == l).length = 64)
    if mine.length = 512 || (narrow && wholeGr) then
      let v := (t.tierBytes d mine).countLines d (u * 512) true ((mine.map fun b => b.1 / 256).eraseDups.length)
      if narrow then ((mine.map fun b => b.1 / 64).eraseDups).foldl (fun w l => w.tagTouch (l * 64) true) v else v.tagTouch (u * 512) true
    else t.wcMerge d u mine) s

/-! ## Patrol (R350, R351) -/

/-- Slots retired in a stack, or in a package from 16 on, and the fewest spares left in any of its pseudo-channels (R356, R358). -/
def State.retired (s : State) (unit : Nat) : Nat :=
  let used := (s.sparesUsed.filter fun p => p.1 / 64 == unit).map Prod.snd
  min 65535 used.sum + 65536 * ((if unit < 16 then 2048 else 4096) - used.foldl max 0)

/-- Patrol reads one line slot: the code only (R350). -/
def State.patrolRead (s : State) (pa : Nat) (errs : List (Nat × Nat)) (last : Bool) : State :=
  let line := pa / 256
  let page := s.memPage pa
  let pass := if slowBase ≤ pa then mapGet 0 s.slowPasses (slowPlace pa).1 else (s.rd (reg page Off.HBM_PATROL_PASSES)).toNat
  let outs := (List.range 32).map fun i =>
    readWord (s.linePoison ((line * 256 + 8 * i) / 64)) (((errs.find? fun e => e.1 == line * 32 + i).map Prod.snd).getD 0)
  let s :=
    if outs.any WordOut.fresh then
      let s := (s.inc (s.memReg pa Off.HBM_UE Off.SLOW_UE)).memError (line * 256) Err.MEM_UE 0x1#32
      ((List.range 4).map fun i => line * 4 + i).foldl State.poisonLine s
    else
      let ce := (outs.filter WordOut.fixed).length
      let s := s.countTierCE pa ce
      let seen := (s.patrol.find? fun p => p.1 == line).map Prod.snd
      if ce = 0 then s
      else if outs.any WordOut.two || (match seen with | some q => q + 1 == pass | none => false) then s.retireSlot pa
      else { s with patrol := mapPut line pass s.patrol }
  if last then
    if slowBase ≤ pa then ({ s with slowPasses := mapSet 0 s.slowPasses (slowPlace pa).1 (mapGet 0 s.slowPasses (slowPlace pa).1 + 1) } : State).raise page 5 else (s.inc (reg page Off.HBM_PATROL_PASSES)).raise page 5
  else s

/-! ## Region tables (R331, R332) -/

/-- Number of staged entries of a domain. -/
def State.stagedCount (s : State) (d : Nat) : Nat := fld (s.rd (wreg d pgGLOB Off.GLOB_DOM_XLAT_COUNT)) 0 13
/-- The staged table of a domain. -/
def State.stagedTable (s : State) (d : Nat) : List Region :=
  (List.range (s.stagedCount d)).map fun i => mapGet {} s.staged (d * 4096 + i)

/-- Reserved bits of an entry (R331). -/
def Region.rsv (r : Region) : Bool :=
  decide (fld r.e1 24 8 ≠ 0) || bit r.e2 31 || decide (fld r.e3 3 29 ≠ 0)

/-- Is an entry invalid after its predecessor (R332)? -/
def State.regionBad (s : State) (prev : Option Region) (r : Region) : Bool :=
  let last := r.pa + r.granules - 1
  let slow := decide (slowBase / 2 ^ 21 ≤ r.pa)
  !r.valid || r.rsv || decide (r.granules = 0)
    || (match prev with | some q => decide (r.da < q.da + q.granules) || decide (r.da ≤ q.da) | none => false)
    || !s.paBacked (r.pa * 2 ^ 21) || !s.paBacked (last * 2 ^ 21 + 2 ^ 21 - 1) || (slow != decide (slowBase / 2 ^ 21 ≤ last))
    || (slow != r.slow) || (r.narrow && r.slow)

/-- Index of the first bad entry of a table. -/
def State.firstBad (s : State) : Option Region → Nat → List Region → Option Nat
  | _, _, [] => none
  | p, i, r :: l => if s.regionBad p r then some i else s.firstBad (some r) (i + 1) l

/-- Narrow granules of every domain, with domain d's table replaced (R332). -/
def State.narrowUsed (s : State) (d : Nat) (t : List Region) : Nat :=
  let n (l : List Region) : Nat := (l.filter Region.narrow).foldl (fun a r => a + r.granules) 0
  n t + (s.active.filter fun p => p.1 != d).foldl (fun a p => a + n p.2) 0

/-- ACTIVATE (R332): the staged table is checked and replaces the active one. -/
def State.activate (s : State) (d : Nat) : State :=
  let t := s.stagedTable d
  let k := wreg d pgGLOB Off.GLOB_DOM_XLAT_STATUS
  let refuse (c : Code) (i : Nat) : State :=
    ((s.wrBit k 1 true).wrFld k 16 12 i).pageErr pgGLOB c d i
  match s.firstBad none 0 t with
  | some i => refuse Err.XLAT_TABLE_INVALID i
  | none =>
    if (if s.fuse.grade = 2 then 40960 else 57344) < s.narrowUsed d t then refuse Err.NARROW_POOL_FULL 0
    else
      let s := s.fenceEntries fun e => e.dom == d
      let old := tableGrans (s.regions d)
      let new := tableGrans t
      let s : State := { s with active := mapSet [] s.active d t }
      let s := (old.filter fun g => !new.any fun h => h.1 == g.1).foldl (fun u g =>
        u.setGran g.1 { u.gran g.1 with released := some d, fill := none }) s
      let s := (new.filter fun g => !old.any fun h => h.1 == g.1).foldl (fun u g =>
        u.setGran g.1 { u.gran g.1 with fill := some d, narrow := g.2, released := none }) s
      (((s.wrBit k 1 false).wrFld k 16 12 0).wrBit k 0 true).rotationEnd d

/-- Granules of a domain that await admission fill (R355). -/
def State.fillPending (s : State) (d : Nat) : Nat := (s.grans.filter fun g => g.2.fill == some d).length

/-- COPY_ACTIVE: the staged table takes the active one (R355). -/
def State.copyActive (s : State) (d : Nat) : State :=
  let t := s.regions d
  let s : State := { s with staged := (t.zipIdx).foldl (fun m p => mapSet {} m (d * 4096 + p.2) p.1) (s.staged.filter fun p => p.1 / 4096 != d) }
  s.wr (wreg d pgGLOB Off.GLOB_DOM_XLAT_COUNT) (BitVec.ofNat 32 t.length)

/-- Does QUIESCE of a stack hold accesses to these addresses (R356)? -/
def State.quiesceHolds (s : State) (pas : List Nat) : Bool :=
  pas.any fun a => decide (a < slowBase) && bit (s.rd (reg (pgHBM (s.stackOf a)) Off.HBM_CTRL)) 0

/-- Must an access to these addresses wait: for QUIESCE of a stack, or for the admission fill of a granule (R334, R354, R356)? -/
def State.accessWaits (s : State) (pas : List Nat) : Bool :=
  s.quiesceHolds pas || pas.any fun a => (s.gran (a / 2 ^ 21)).fill.isSome

/-- Are all populated stacks quiesced (R352)? -/
def State.allQuiesced (s : State) : Bool :=
  (List.range 16).all fun i => !s.pagePresent .hbm i || fld (s.rd (reg (pgHBM i) Off.HBM_STATE)) 0 3 == 4

end Sys2Proof.Machine
end

