-- ==== Sys2Proof/Machine/Time.lean ====
section
/-! DEFINITION. Fabric time: the counter, discipline, holdover, PPS and PTP, timeouts, and the dispatch of calendar entries (R303 to R325, R454). -/

namespace Sys2Proof.Machine

open Sys2Proof

/-- TIME registers. -/
def tReg (off : Nat) : Nat := reg pgTIME off
/-- TIME_STATE.STATE: 0 FREE, 1 ACQUIRING, 2 LOCKED, 3 HOLDOVER (R309). -/
def State.tState (s : State) : Nat := fld (s.rd (tReg Off.TIME_STATE)) 0 2
/-- Enter a discipline state. -/
def State.setTState (s : State) (v : Nat) : State := s.wrFld (tReg Off.TIME_STATE) 0 2 v
/-- TIME_CFG.SRC. -/
def State.tSrc (s : State) : Bool := bit (s.rd (tReg Off.TIME_CFG)) 0

/-- The largest |INC − 1 ns|: 200 ppm in units of 2^-40 ns (R303). -/
def maxAdj : Int := 219902325

/-- Set INC and TIME_FREQ_ADJ (R303, R323). -/
def State.setAdj (s : State) (a : Int) : State :=
  ({ s with time := { s.time with adj := a } } : State).wr (tReg Off.TIME_FREQ_ADJ) (BitVec.ofInt 32 (a / 256))

/-- One cycle of the counter: INC is added (R303). -/
def State.tickTime (s : State) : State :=
  let v : Int := (s.now.toNat * 2 ^ 40 + s.frac.toNat : Nat) + (2 ^ 40 + s.time.adj)
  { s with now := BitVec.ofInt 64 (v / 2 ^ 40), frac := BitVec.ofInt 40 (v % 2 ^ 40) }

/-- The block with no command waiting: one cycle of fabric time, while the PLL of clock domain 20 is locked (R303, R557; log entry 4, DESIGN CHOICE). -/
def State.idle (s : State) : State := if bit (s.rd (reg pgCLK Off.CLK_LOCK)) 19 then s.tickTime else s

/-- The step out of ACQUIRING sets the counter back by n: every running timeout, and a pulse of PPS_OUT, keeps its remaining duration (R304, R313, R315). -/
def State.stepBack (s : State) (n : Nat) : State :=
  { s with now := BitVec.ofNat 64 (s.now.toNat - n),
           timeouts := s.timeouts.map fun p => (p.1, { p.2 with due := p.2.due - n }),
           time := { s.time with setBack := s.time.setBack + n, ppsOutAt := s.time.ppsOutAt - n } }

/-- Start a timeout. -/
def State.startTimeout (s : State) (k due : Nat) : State := { s with timeouts := mapPut k { due := due } s.timeouts }
/-- Stop a timeout. -/
def State.stopTimeout (s : State) (k : Nat) : State := { s with timeouts := mapDel k s.timeouts }
/-- Has a timeout expired? -/
def State.timedOut (s : State) (k : Nat) : Bool := (mapGet {} s.timeouts k).fired
/-- A timeout expires at the first evaluation instant, a multiple of 64 ns, at or after its due time (R315). -/
def State.expire (s : State) (k : Nat) : State :=
  match s.timeouts.find? fun p => p.1 == k with
  | some p => if p.2.due ≤ s.now.toNat / 64 * 64 then { s with timeouts := mapPut k { p.2 with fired := true } s.timeouts } else s
  | none => s

/-! ## Calendar entries (R316 to R319) -/

/-- Key of a register of calendar entry e. -/
def calReg (e off : Nat) : Nat := wreg e pgCAL off
/-- ENABLE of an entry. -/
def State.calEnabled (s : State) (e : Nat) : Bool := bit (s.rd (calReg e Off.CAL_ENT_CTRL)) 0
/-- Instant of an entry. -/
def State.calInstant (s : State) (e : Nat) : Nat := (s.rd64 (calReg e Off.CAL_ENT_INSTANT_LO)).toNat
/-- Period of an entry. -/
def State.calPeriod (s : State) (e : Nat) : Nat := (s.rd (calReg e Off.CAL_ENT_PERIOD)).toNat
/-- ACTION of an entry. -/
def State.calAction (s : State) (e : Nat) : Nat := fld (s.rd (calReg e Off.CAL_ENT_ACTION)) 0 4
/-- TARGET of an entry. -/
def State.calTarget (s : State) (e : Nat) : Nat := fld (s.rd (calReg e Off.CAL_ENT_TARGET)) 0 20
/-- Owner of an entry: none for the operator (R316). -/
def State.calOwner (s : State) (e : Nat) : Option Nat :=
  let o := s.rd (calReg e Off.CAL_ENT_OWNER)
  if bit o 10 then none else some (fld o 0 10)

/-- Is an entry due (R318)? -/
def State.calDue (s : State) (e : Nat) : Bool := s.calEnabled e && decide (s.calInstant e ≤ s.now.toNat)

/-- Enabled entries: those whose control register is listed. -/
def State.calEntries (s : State) : List Nat :=
  s.regs.filterMap fun p =>
    if p.1 % 2 ^ 28 = reg pgCAL Off.CAL_ENT_CTRL && decide (2 ^ 28 ≤ p.1) && bit p.2 0 then some (p.1 / 2 ^ 28 - 1) else none

/-- Is an entry the next to dispatch: due, and no due entry before it in order of instant and index (R318)? -/
def State.calNext (s : State) (e : Nat) : Bool :=
  s.calDue e && s.calEntries.all fun f =>
    !s.calDue f || f == e || decide (s.calInstant e < s.calInstant f) || (s.calInstant e == s.calInstant f && decide (e < f))

/-- Is ACTION, PERIOD and TARGET of an entry valid (R317)? -/
def State.calValid (s : State) (e : Nat) : Bool :=
  let a := s.calAction e
  let t := s.calTarget e
  let p := s.calPeriod e
  decide (1 ≤ a) && decide (a ≤ 7) && (p == 0 || decide (1000 ≤ p)) &&
    (match a with
     | 1 => decide (t < 16384) | 2 => decide (t < 16) | 4 => decide (t < 16384) | 5 => decide (t < 256)
     | 6 => decide (t < 16384) | 7 => decide (t < 1024) | _ => true)

/-- Owning context of a ring; KIND in bit 8 of the ring number. -/
def State.ringCtx (s : State) (r : Nat) : Nat := fld (s.rd (wreg r pgMGMT Off.MGMT_RING_CFG)) 0 14

/-- Does the target of an action belong to a domain (R317)? -/
def State.calTargetOf (s : State) (a t d : Nat) : Bool :=
  match a with
  | 1 => s.ctxDom t == some d
  | 2 => true
  | 3 => (s.slotsOfGroup t).any fun g => s.ctxDom (fld (s.rd (wreg g pgCOLL Off.COLL_GRP_CTX)) 0 14) == some d
  | 4 => s.ctxDom t == some d
  | 5 => bit (s.rd (wreg (256 + t) pgMGMT Off.MGMT_RING_CFG)) 31 && s.ctxDom (s.ringCtx (256 + t)) == some d
  | 6 => s.ctxDom t == some d
  | _ => false

/-- Dispatch bookkeeping: last dispatch, count, late and missed counts, ENABLE or the next instant (R318, R319, R322). -/
def State.calAdvance (s : State) (e : Nat) : State :=
  let now := s.now.toNat
  let i := s.calInstant e
  let p := s.calPeriod e
  let s := (s.wr64 (calReg e Off.CAL_ENT_LAST_LO) s.now).inc (calReg e Off.CAL_ENT_FIRES)
  let s := if s.lateEnt.contains e then
      ({ s with lateEnt := s.lateEnt.filter (· != e) } : State).inc (reg pgCAL Off.CAL_LATE) |>.raise pgCAL 0
    else s
  if p = 0 then s.wrBit (calReg e Off.CAL_ENT_CTRL) 0 false
  else
    let k := (now - i) / p + 1
    let s := s.wr64 (calReg e Off.CAL_ENT_INSTANT_LO) (BitVec.ofNat 64 (i + k * p))
    if 1 < k then (s.inc (reg pgCAL Off.CAL_MISSED) (k - 1)).raise pgCAL 1 else s

/-- A dispatch with no effect (R317). -/
def State.calNoEffect (s : State) : State := (s.inc (reg pgCAL Off.CAL_NOEFFECT)).raise pgCAL 2

/-- Dispatch entry e of an action: the target is checked again, then the effect runs with the entry's instant (R317, R318). -/
def State.dispatchCal (s : State) (e action : Nat) (eff : State → Nat → Nat → Option Nat → Option State) : State :=
  if s.calNext e && s.calAction e == action then
    let t := s.calTarget e
    let own := s.calOwner e
    let i := s.calInstant e
    let ok := match own with | some d => s.calTargetOf action t d | none => true
    let s := s.calAdvance e
    if !ok then s.calNoEffect else (eff s t i own).getD s.calNoEffect
  else s

/-- A forward step: one-shot entries it crosses will count as late, and the pulse of a second it crosses is not emitted; one under way keeps its width (R313, R322). -/
def State.stepForward (s : State) (n : Nat) : State :=
  let old := s.now.toNat
  let crossed := s.calEntries.filter fun e => decide (old < s.calInstant e) && decide (s.calInstant e ≤ old + n) && s.calPeriod e == 0
  let sec := (old + n) / 1000000000 * 1000000000
  let skip := if old < sec ∧ sec < old + n then some sec else none
  { s with now := s.now + BitVec.ofNat 64 n, lateEnt := (s.lateEnt ++ crossed).eraseDups,
           time := { s.time with ppsSkip := skip, ppsOutAt := s.time.ppsOutAt + n } }

/-! ## Discipline (R309 to R312) -/

/-- A free INC within 200 ppm, the loop's choice; with the source behind the module it is no larger than before, so the counter slows (R303, R304; log entry 9, DESIGN CHOICE). -/
def State.drawAdj (s : State) (off : Int) : State :=
  let (w, t) := s.draw
  let top := if off < 0 then s.time.adj else maxAdj
  t.setAdj (w.toInt % (top + maxAdj + 1) - maxAdj)

/-- A usable measurement of the selected source: the offset, positive when the module is behind (R309). -/
def State.measure (s : State) (off : Int) : State :=
  let sat := max (-(2 ^ 31)) (min (2 ^ 31 - 1) off)
  let s := s.wr (tReg Off.TIME_OFFSET) (BitVec.ofInt 32 sat)
  let s := s.wrBit (tReg Off.TIME_STATE) 4 false
  let small := decide (off.natAbs ≤ 100)
  let good := if small then s.time.good + 1 else 0
  let lock (t : State) : State :=
    if 8 ≤ good then
      let t := (t.setTState 2).raise pgTIME 1
      let t := (t.wr (tReg Off.TIME_ERR_BOUND) 0).wrBit (tReg Off.TIME_STATE) 5 false
      { t with time := { t.time with good := 0, e0 := 0, back := false } }
    else { t with time := { t.time with good := good } }
  let large := decide (10000 < off.natAbs)
  match s.tState with
  | 0 =>
    let s := if 0 ≤ off then s.stepForward off.toNat
      else s.stepBack (-off).toNat
    ({ s with time := { s.time with good := 0 } } : State).setTState 1
  | 1 => (lock s).drawAdj off
  | st =>
    let s : State := { s with time := { s.time with back := true } }
    if large then
      if 0 < off && bit (s.rd (tReg Off.TIME_CFG)) 3 then
        let s := (s.stepForward off.toNat).inc (tReg Off.TIME_STEPS)
        ({ s with time := { s.time with good := 0 } } : State).pageErr pgTIME Err.TIME_STEPPED 0 0 0x8#32
      else
        let s := (s.setAdj (if 0 < off then maxAdj else -maxAdj)).wrBit (tReg Off.TIME_STATE) 4 true
        ({ s with time := { s.time with good := 0 } } : State).pageErr pgTIME Err.TIME_OFFSET_LARGE 0 0 0x10#32
    else (if st = 3 then lock s else s).drawAdj off

/-- E(t) in whole ns, rounded up (R312). -/
def holdBound (e0 dt : Nat) : Nat :=
  e0 + cdiv (20 * dt * 10 ^ 9 + dt * dt / 200) (10 ^ 18)

/-- Nanoseconds since holdover began. -/
def State.holdTime (s : State) : Nat := s.now.toNat - (s.rd64 (tReg Off.TIME_HOLDOVER_START_LO)).toNat

/-- The source is lost: HOLDOVER (R311, R312). -/
def State.sourceLost (s : State) : State :=
  match s.tState with
  | 0 => s
  | 3 =>
    if s.time.back then
      let e := holdBound s.time.e0 s.holdTime
      let t := ({ s with time := { s.time with e0 := e, back := false, good := 0 } } : State).wr64 (tReg Off.TIME_HOLDOVER_START_LO) s.now
      t.pageErr pgTIME Err.TIME_HOLDOVER 0 0 0x1#32
    else s
  | st =>
    let (w, s) := if st = 2 then (100#64, s) else s.draw
    let s : State := { s with time := { s.time with e0 := w.toNat, back := false, good := 0 } }
    let s := (s.wr64 (tReg Off.TIME_HOLDOVER_START_LO) s.now).setTState 3
    s.pageErr pgTIME Err.TIME_HOLDOVER 0 0 0x1#32

/-- Is the loss of the source due under R311? -/
def State.lossDue (s : State) : Bool :=
  if s.tSrc then s.time.ppsLost || decide (4 ≤ s.time.outliers)
  else
    let fo := bit (s.rd (tReg Off.TIME_CFG)) 2
    (s.time.linkLost && !fo) || (decide (s.time.syncAt + 2000000000 ≤ s.evaluated) && (!fo || s.time.failed))

/-- The millisecond update of the holdover bound (R312). -/
def State.updateBound (s : State) : State :=
  if s.tState = 3 then
    let e := holdBound s.time.e0 s.holdTime
    let s := s.wr (tReg Off.TIME_ERR_BOUND) (BitVec.ofNat 32 (min e (2 ^ 32 - 1)))
    if (s.rd (tReg Off.TIME_UNTRUST_NS)).toNat < e then
      (s.wrBit (tReg Off.TIME_STATE) 5 true).pageErr pgTIME Err.TIME_UNTRUSTED 0 0 0x20#32
    else s
  else s

/-- An accepted edge: measured unless it is an outlier or no time of day is set; TIME_TOD_NEXT increments (R310). -/
def State.acceptEdge (s : State) (now : Nat) (out : Bool) : State :=
  let tod := s.rd64 (tReg Off.TIME_TOD_NEXT_LO)
  let s : State := { s with time := { s.time with ppsLast := some now, ppsLost := false, outliers := if out then s.time.outliers + 1 else 0 } }
  let s := s.wr64 (tReg Off.TIME_TOD_NEXT_LO) (tod + 1)
  if out then s.inc (tReg Off.TIME_PPS_OUTLIERS)
  else if bit (s.rd (tReg Off.TIME_STATE)) 2 then
    let s := s.measure ((tod.toNat * 1000000000 : Nat) - (now : Int))
    -- a step of the counter carries the edge with it
    { s with time := { s.time with ppsLast := some s.now.toNat } }
  else s

/-- A rising edge of PPS_IN (R310). -/
def State.ppsEdge (s : State) : State :=
  if !s.tSrc then s
  else
    let now := s.now.toNat
    match s.time.ppsLast with
    | some t =>
      if now < t + 500000000 then s.inc (tReg Off.TIME_PPS_EARLY)
      else
        let dt : Int := (now : Int) - t
        let out := decide (1000000 < (dt - 1000000000).natAbs)
        s.acceptEdge now out
    | none => s.acceptEdge now false
/-! ## PTP (R308, R454) -/

/-- PTP registers. -/
def ptpReg (off : Nat) : Nat := reg pgPTP off

/-- Do a message's intervals lie in the ranges of R454? -/
def ptpInRange (m : PtpMsg) : Bool :=
  if m.kind = 0 ∨ m.kind = 8 then decide (-7 ≤ m.logInterval) && decide (m.logInterval ≤ 0)
  else if m.kind = 9 then decide (-7 ≤ m.logInterval) && decide (m.logInterval ≤ 4)
  else true

/-- Ingress-corrected receipt instant: the port's constant is in 1/16 ns (R314). -/
def State.rxStamp (s : State) (port : Bool) : Nat :=
  s.now.toNat - fld (s.rd (wreg (16 + b2n port) pgTIME Off.TIME_TS_CORR)) 16 16 / 16

/-- A measured Sync: receipt t2, origin t1, mean path delay. -/
def State.ptpMeasure (s : State) (t2 : Nat) (t1 : Int) : State :=
  let path := s.rd (ptpReg Off.PTP_MEAN_PATH)
  let before := s.now.toNat
  let s := s.measure (t1 + (path.toNat : Int) - (t2 : Int))
  -- a step of the counter carries the receipt of this Sync with it
  let moved : Int := (t2 : Int) + ((s.now.toNat : Int) - before)
  let s : State := { s with time := { s.time with syncAt := s.timer, failed := false, linkLost := false, sync2 := none, lastSync := some (moved.toNat, t1.toNat) } }
  -- a delay request leaves; its departure is the instant of this row, corrected for egress
  let egress := fld (s.rd (wreg (16 + fld (s.rd (tReg Off.TIME_STATE)) 3 1) pgTIME Off.TIME_TS_CORR)) 0 16 / 16
  let seq := match s.time.delayAt with | some p => p.1 + 1 | none => 0
  let s : State := { s with time := { s.time with delayAt := some (seq % 2 ^ 16, s.now.toNat + egress) } }
  s.emit (.frame (16 + fld (s.rd (tReg Off.TIME_STATE)) 3 1) (if bit (s.rd (ptpReg Off.PTP_CFG)) 10 then "PDELAY_REQ" else "DELAY_REQ") [seq % 2 ^ 16] [])

/-- The held master is given up (R308, R454). -/
def State.dropMaster (s : State) : State :=
  ({ s with time := { s.time with noMaster := some s.timer } } : State).wrBit (ptpReg Off.PTP_STATE) 0 false

/-- A received PTP message; every event message is stamped on receipt (R314, R454). -/
def State.ptpMessage (s : State) (m : PtpMsg) : State :=
  let inUse := bit (s.rd (tReg Off.TIME_STATE)) 3
  let p2p := bit (s.rd (ptpReg Off.PTP_CFG)) 10
  let selected := bit (s.rd (ptpReg Off.PTP_STATE)) 0
  let master := s.rd64 (ptpReg Off.PTP_MASTER_LO)
  if s.tSrc || m.port != inUse || m.domain != fld (s.rd (ptpReg Off.PTP_CFG)) 0 8 then s
  else if !ptpInRange m then
    let s := s.inc (ptpReg Off.PTP_REJECTED)
    if selected && m.source = master then s.dropMaster else s
  else match m.kind with
    | 0xB =>
      if !selected || m.source = master || m.rank < s.time.rank then
        let s := (s.wr64 (ptpReg Off.PTP_MASTER_LO) m.source).wr (ptpReg Off.PTP_STATE)
          (BitVec.ofNat 32 (1 + fld (s.rd (ptpReg Off.PTP_STATE)) 1 1 * 2 + m.clockClass % 256 * 4))
        { s with time := { s.time with rank := m.rank, noMaster := none } }
      else s
    | 0 =>
      if !selected || m.source != master then s
      else
        let t2 := s.rxStamp m.port
        let s := (s.inc (ptpReg Off.PTP_SYNC_RX)).wrBit (ptpReg Off.PTP_STATE) 1 m.twoStep
        if m.twoStep then { s with time := { s.time with sync2 := some (m.seq, t2) } }
        else s.ptpMeasure t2 (m.stamp + m.corr)
    | 8 =>
      match s.time.sync2 with
      | some (q, t2) => if selected && m.source = master && q == m.seq then s.ptpMeasure t2 (m.stamp + m.corr) else s
      | none => s
    | 9 =>
      match s.time.delayAt, s.time.lastSync with
      | some (q, t3), some (t2, t1) =>
        if selected && m.source = master && q == m.seq && !p2p then
          let d : Int := (((t2 : Int) - t1) + ((m.stamp : Int) - m.corr - t3)) / 2
          s.wr (ptpReg Off.PTP_MEAN_PATH) (BitVec.ofInt 32 (max 0 d))
        else s
      | _, _ => s
    | 3 =>
      match s.time.delayAt with
      | some (q, t1) =>
        if !p2p || q != m.seq then s
        else if m.twoStep then { s with time := { s.time with pdelay := some (q, s.rxStamp m.port, m.stamp, m.corr) } }
        else s.wr (ptpReg Off.PTP_MEAN_PATH) (BitVec.ofInt 32 (max 0 (((s.rxStamp m.port : Int) - t1 - m.stamp - m.corr) / 2)))
      | none => s
    | 0xA =>
      match s.time.delayAt, s.time.pdelay with
      | some (_, t1), some (q, t4, t2, c) =>
        if !p2p || q != m.seq then s
        else
          let d : Int := ((t4 : Int) - t1 - ((m.stamp : Int) - t2) - c - m.corr) / 2
          ({ s with time := { s.time with pdelay := none } } : State).wr (ptpReg Off.PTP_MEAN_PATH) (BitVec.ofInt 32 (max 0 d))
      | _, _ => s
    | _ => s

/-- PTP moves to the other host port (R308). -/
def State.ptpFailover (s : State) : State :=
  let k := tReg Off.TIME_STATE
  let s := s.wrBit k 3 (!bit (s.rd k) 3)
  let s := s.wrBit (ptpReg Off.PTP_STATE) 0 false
  { s with time := { s.time with failed := true, linkLost := false, sync2 := none, delayAt := none, lastSync := none, pdelay := none, noMaster := some s.timer } }

end Sys2Proof.Machine
end

