-- ==== Sys2Proof/Machine/Collective.lean ====
section
/-! DEFINITION. Collectives: tensor entries, sends, windows, aborts, votes, and the frames a member receives (R360 to R382, R533 to R536). -/

namespace Sys2Proof.Machine

open Sys2Proof

/-! ## Tensor entries (R362, R363) -/

/-- The entry in 64 bytes. -/
def tEntryOf (v : Nat) : TEntry :=
  let f (off n : Nat) : Nat := v / 256 ^ off % 256 ^ n
  let m := f 8 1
  { elems := f 0 8, kind := m % 4, op := m / 4 % 4, rmode := m / 16 % 4, destUpd := m / 64 % 2 == 1, fmt := f 9 1 % 16,
    chunk := f 0xA 1 % 4, sem := f 0xB 1, upd := f 0xC 2, salt := f 0xE 2, record := f 0x10 8, dest := f 0x18 8, cap := f 0x20 4,
    lenTab := f 0x28 8, rsv := m / 128 + f 9 1 / 16 + f 0xA 1 / 4 + f 0x24 4 + f 0x30 16 }

/-- Does an entry break R362, R363 or R35? -/
def TEntry.bad (e : TEntry) : Bool :=
  let w := fmtWidth e.fmt
  decide (e.rsv ≠ 0) || decide (e.kind = 3) || decide (16 ≤ e.fmt)
    || (e.kind != 2 && (decide (e.elems = 0) || decide (2 ^ 40 < e.elems)))
    || (e.kind != 2 && ((w == 6 && decide (e.elems % 4 ≠ 0)) || (w == 4 && decide (e.elems % 2 ≠ 0))))
    || (e.kind == 2 && (decide (e.cap % 8 ≠ 0) || decide (e.cap < 8) || decide (2 ^ 30 < e.cap)))
    || (e.kind == 0 && (decide (e.op = 3) || decide (2 ≤ e.rmode)
        || (if e.op = 0 then e.fmt != 0 && !isBfxFmt e.fmt else !isBfxFmt e.fmt)))
    || (e.kind != 0 && e.destUpd) || (isBfxFmt e.fmt != decide (e.record ≠ 0))

/-- Bytes of a full chunk. -/
def TEntry.ch (e : TEntry) : Nat := 1024 * 2 ^ e.chunk
/-- Bytes of the wire image (R364). -/
def TEntry.bytes (e : TEntry) : Nat := (e.elems * fmtWidth e.fmt + 7) / 8
/-- Chunks of an AG_VAR slot, or of the tensor (R364). -/
def TEntry.nc (e : TEntry) : Nat := if e.kind = 2 then cdiv e.cap e.ch else cdiv e.bytes e.ch
/-- First chunk of a rank's shard (R364). -/
def TEntry.first (e : TEntry) (n r : Nat) : Nat := if e.kind = 2 then r * e.nc else r * e.nc / n
/-- Bytes of chunk c (R364). -/
def TEntry.chunkLen (e : TEntry) (c : Nat) : Nat :=
  if e.kind = 2 then min e.ch (e.cap - c % e.nc * e.ch) else min e.ch (e.bytes - c * e.ch)

/-- Entry t of a group's tensor table, read in the owning domain (R362). -/
def State.tEntry (s : State) (g t : Nat) : Except Flt TEntry := do
  let c := s.grpCtx g
  if fld (s.rd (grpReg g Off.COLL_GRP_TT_COUNT)) 0 17 ≤ t then .error ⟨Err.TENSOR_ENTRY_INVALID, t, 0⟩
  else
    let v ← s.spReadSafe (s.domOf c) 0 0 0 ((s.rd64 (grpReg g Off.COLL_GRP_TT_BASE_LO)).toNat + 64 * t) 64
    let e := tEntryOf v
    if e.bad then .error ⟨Err.TENSOR_ENTRY_INVALID, t, 0⟩ else pure e

/-- The slot of a context that a command's group identifier names (R360). -/
def State.slotFor (s : State) (c id : Nat) : Option Nat := (s.slotsOfGroup id).find? fun g => s.grpCtx g == c

/-- An instance of a slot. -/
def State.inst (s : State) (g t : Nat) : Option Inst := (s.getGrp g).insts.find? fun i => i.tensor == t
/-- Put an instance into a list. -/
def putInst (l : List Inst) (i : Inst) : List Inst :=
  if l.any (fun x => x.tensor == i.tensor) then l.map (fun x => if x.tensor == i.tensor then i else x) else l ++ [i]

/-- Store an instance. -/
def State.setInst (s : State) (g : Nat) (i : Inst) : State := s.modGrp g fun r => { r with insts := putInst r.insts i }

/-- Timeout key of an instance: first or second deadline (R375). -/
def deadKey (second : Bool) (g t : Nat) : Nat := (if second then 2 else 1) * 2 ^ 32 + g * 2 ^ 16 + t

/-- Write SCALE_CUR and SAT_REDOS of a scale record (R57, R61). -/
def State.writeScale (s : State) (c record : Nat) (x : Int) (redos : Nat) : Except Flt State := do
  let t ← s.spWrite (s.domOf c) (record / 2 ^ 62 % 4) 0 0 (bytesAt (record % 2 ^ 52 + 0x0C) 2 (toTwos 16 x))
  t.spWrite (s.domOf c) (record / 2 ^ 62 % 4) 0 0 (bytesAt (record % 2 ^ 52 + 0x14) 1 redos)

/-- Add 1 to the semaphore of an entry (R373). -/
def State.signalInst (s : State) (g : Nat) (i : Inst) : State := s.signal (s.grpCtx g) i.e.sem 1

/-- The step's scale of every BFX entry of a group's tensor table is computed and written, and SAT_REDOS returns to 0 (R57, R61). An entry or record that is refused is left to its first use (R55, R363). -/
def State.wireScales (s : State) (g : Nat) : State :=
  let c := s.grpCtx g
  (List.range (fld (s.rd (grpReg g Off.COLL_GRP_TT_COUNT)) 0 17)).foldl (fun t k =>
    match t.tEntry g k with
    | .error _ => t
    | .ok e =>
      if !isBfxFmt e.fmt then t
      else match t.scaleRecord (t.domOf c) e.record e.fmt 0 0 (t.step' c).toNat with
        | .error _ => t
        | .ok r => match t.writeScale c e.record (stepScale r e.fmt (t.grpN g)) 0 with
          | .ok u => u
          | .error _ => t) s

/-- The instance of a tensor in the open window: read and checked at its first use; in an aborted step it completes at once (R57, R363, R379). -/
def State.openInst (s : State) (g t : Nat) : Except Flt (State × Inst) := do
  match s.inst g t with
  | some i => pure (s, i)
  | none =>
    let e ← s.tEntry g t
    let c := s.grpCtx g
    let n := s.grpN g
    let first := e.first n (s.grpRank g)
    let i : Inst := { tensor := t, e := e, next := if e.kind = 0 then 0 else first,
                      cursor := if e.kind = 0 then 0 else first * e.ch * 8 / fmtWidth e.fmt }
    if (s.getGrp g).aborted then
      let i := { i with done := true }
      pure ((s.setInst g i).signalInst g i, i)
    else if isBfxFmt e.fmt then
      let r ← s.scaleRecord (s.domOf c) e.record e.fmt 0 0 (s.step' c).toNat
      let i := { i with scale := sext (srec r 0x0C 2) 16 }
      pure (s.setInst g i, i)
    else pure (s.setInst g i, i)

/-- Start the deadline of an instance at its first send, from the opening of the window or the issue of the send, the later (R375). -/
def State.startDeadline (s : State) (g t start : Nat) : State :=
  let r := s.getGrp g
  if !r.winOpen || r.aborted || (s.inst g t).any Inst.done || s.timeouts.any (fun p => p.1 == deadKey false g t) then s
  else s.startTimeout (deadKey false g t) (max r.winAt start + s.grpTimeout g)

/-! ## Sending (R169, R371) -/

/-- Pad a payload to whole 8 bytes (R366). -/
def pad8 (bs : List Byte) : List Byte := bs ++ List.replicate ((8 - bs.length % 8) % 8) 0

/-- Is a chunk of wire bits all zero as R169 tests it? BFX zeros are zero bits; FP32 must be the +0 pattern. -/
def zeroChunk (e : TEntry) (v : Nat) : Bool := decide (v = 0) && e.kind == 0 && (e.fmt == 0 || isBfxFmt e.fmt)

/-- Send one chunk of an instance: `v` its bits, `len` the bytes it stands for (R169, R367, R371). -/
def State.sendChunk (s : State) (g : Nat) (i : Inst) (v len : Nat) (last : Bool) : State × Inst :=
  let e := i.e
  let ps := s.grpPorts g
  let zero := zeroChunk e v
  let f : Gw :=
    { kind := 0, op := if e.kind = 0 then e.op else 3, fmt := e.fmt, flags := b2n i.sat + 2 * b2n zero + 8 * b2n last,
      group := s.groupWord g, seq := i.tensor + i.redo * 2 ^ 16, chunk := i.next, step := (s.step' (s.grpCtx g)).toNat,
      scale := i.scale, src := s.grpRank g, amax := i.amax,
      digest := s.digest g e.fmt (if e.kind = 0 then e.op else 3) i.tensor i.redo (if e.kind = 2 then e.cap else e.elems) i.scale,
      len := len, data := if zero then List.replicate 8 0 else pad8 (toLe (if e.kind = 2 then e.chunkLen i.next else len) v) }
  let s := s.sendGw (ps.getD (i.next % ps.length) 0) f
  let s := s.inc64 (grpReg g Off.COLL_GRP_TX_LO)
  let s := if zero then s.inc (grpReg g Off.COLL_GRP_ZERO_TX) else s
  (s, { i with next := i.next + 1, sat := false })

/-- Send every chunk that the appended bits complete (R371). -/
def State.flushChunks (s : State) (g : Nat) (i : Inst) : Nat → State × Inst
  | 0 => (s, i)
  | fuel + 1 =>
    let e := i.e
    let len := e.chunkLen i.next
    let stop := if e.kind = 0 then e.nc else e.first (s.grpN g) (s.grpRank g + 1)
    if i.next < stop ∧ 0 < len ∧ 8 * len ≤ i.tailN + (if e.kind != 2 ∧ i.cursor = e.elems then 7 else 0) then
      let (s, j) := s.sendChunk g { i with tailV := i.tailV / 2 ^ (8 * len), tailN := i.tailN - 8 * len } (i.tailV % 2 ^ (8 * len)) len (decide (i.next + 1 = stop))
      s.flushChunks g j fuel
    else (s, i)

/-- Append one wire element to an instance. -/
def Inst.push (i : Inst) (pat : Nat) : Inst :=
  let w := fmtWidth i.e.fmt
  { i with tailV := i.tailV + pat % 2 ^ w * 2 ^ i.tailN, tailN := i.tailN + w, cursor := i.cursor + 1 }

/-- A BFX element as a member takes it: the code −2^p stands for −(2^p − 1), and is never sent (R39, R40). -/
def bfxTake (f p : Nat) : Nat := if isBfxFmt f && p == 2 ^ (fmtWidth f - 1) then p + 1 else p

/-- The bytes of a received chunk, each BFX element taken under R40. -/
def bfxBytes (f : Nat) (bs : List Byte) : List Byte :=
  if isBfxFmt f then
    let w := fmtWidth f
    let v := leOf bs
    let n := bs.length * 8 / w
    ((List.range n).flatMap fun k => toLe (w / 8) (bfxTake f (v / 2 ^ (w * k) % 2 ^ w))) ++ bs.drop (n * w / 8)
  else bs

/-- Wire pattern of a source element: converted for RS into BFX, else as stored; a BFX source's −2^p sets the saturated flag (R40, R48, R371). -/
def State.wireElem (s : State) (c : Nat) (i : Inst) (o : Opnd) (n : Nat) : Except Flt (Nat × Conv × Nat) := do
  let d := s.domOf c
  if i.e.kind = 0 && isBfxFmt i.e.fmt && o.fmt == 0 then
    let v ← s.readVal d o false 0 n
    let rnd : Rnd := if i.e.rmode = 1 then
        .sr (srDraw (s.rd64 (reg (pgCTX c) Off.CTX_SR_SEED_LO)) i.e.salt (s.step' c) (BitVec.ofNat 64 i.cursor))
      else .rne
    let k := convert i.e.fmt rnd false false i.scale v
    pure (k.bits, k, amaxOf [v])
  else
    match ← s.elemOff d o false n with
    | none => pure (0, { bits := 0 }, 0)
    | some x =>
      let (p, bad) ← s.readPat d o false x
      match bad with
      | some f => .error f
      | none => pure (bfxTake i.e.fmt p, { bits := bfxTake i.e.fmt p, wireSat := bfxTake i.e.fmt p != p }, if isFloatFmt o.fmt then amaxOf [decodeFmt o.fmt 0 p] else 0)

/-- Append a source's element sequence to an instance, from element number n on. The running amax starts again with a redo, so its frames carry the same fields; a copy's contributions carry one that is given (`fixed`). A NaN that a conversion into BFX meets is recorded with ENGINE and COORD 0, for R66 lists no engine of the endpoint; the send runs on (R61, R62, R273, R371; log entry 42, DESIGN CHOICE). -/
def State.appendSrc (s : State) (g : Nat) (off : Nat) (o : Opnd) (i : Inst) (fixed resend : Bool) : Nat → Nat → Except Flt (State × Inst)
  | _, 0 => pure (s, i)
  | n, left + 1 => do
    let c := s.grpCtx g
    let e := i.e
    let w := fmtWidth e.fmt
    let own := s.grpRank g
    let limit := if e.kind = 0 then e.elems
      else if e.kind = 1 then min e.elems (e.first (s.grpN g) (own + 1) * e.ch * 8 / w)
      else (e.first (s.grpN g) own * e.ch + e.cap) * 8 / w
    if limit ≤ i.cursor then
      if e.kind = 2 then
        -- bytes past CAP are dropped and counted
        let s := s.inc (grpReg g Off.COLL_GRP_AG_DROPPED) ((w + 7) / 8)
        s.appendSrc g off o i fixed resend (n + 1) left
      else .error ⟨Err.TENSOR_ENTRY_INVALID, i.tensor, 0⟩
    else
      let (p, k, a) ← s.wireElem c i o n
      let i := { i.push p with amax := if fixed then i.amax else max i.amax a, sat := i.sat || k.wireSat }
      let s := if k.flush && e.destUpd && !resend then s.modStep c fun r => { r with flushes := addTo r.flushes e.upd 1 } else s
      let s := if k.nan then s.nanEvent c off 0 0 else s
      let (s, i) := s.flushChunks g i 2
      s.appendSrc g off o i fixed resend (n + 1) left

/-- Records in use in the send log (R372). -/
def State.logUsed (s : State) : Nat :=
  s.grps.foldl (fun a p => a + (p.2.insts.filter fun i => !i.done).foldl (fun b i => b + i.log.length) 0) 0

/-- Replace a held send. -/
def State.setSend (s : State) (x y : SendRec) : State := { s with sends := s.sends.map fun z => if z == x then y else z }

/-- Close a short AG_VAR slot: the chunks left leave zero-padded, and the cursor stands at CAP (R371; log entry 18, DEDUCED). -/
def State.closeVar (s : State) (g : Nat) (i : Inst) : Nat → State × Inst
  | 0 => (s, i)
  | fuel + 1 =>
    let stop := i.e.first (s.grpN g) (s.grpRank g + 1)
    if i.next < stop then
      let len := min (i.e.chunkLen i.next) (i.tailN / 8)
      let (s, j) := s.sendChunk g { i with tailV := 0, tailN := 0 } i.tailV len (decide (i.next + 1 = stop))
      s.closeVar g j fuel
    else (s, { i with closed := true, cursor := (i.e.first (s.grpN g) (s.grpRank g) * i.e.ch + i.e.cap) * 8 / fmtWidth i.e.fmt })

/-- A send has been carried out: a command waits to retire, the update die's copy leaves the list. -/
def State.finishSend (s : State) (x : SendRec) : State :=
  if x.id.isNone then { s with sends := s.sends.erase x } else s.setSend x { x with done := true, waitLog := false }

/-- May a send be carried out: its current is granted, and its window is open, or closed by an abort of its step (R287, R374, R379)? -/
def State.sendReady (s : State) (x : SendRec) : Bool :=
  !x.done && !x.waitLog && !(x.id.any fun id => s.waitsCurrent x.ctx id none) && ((s.getGrp x.slot).winOpen || (s.getGrp x.slot).shut)

/-- Carry out a send that is ready: its elements are appended, its chunks leave (R371, R372, R379). -/
def State.runSend (s : State) (x : SendRec) : State :=
  let g := x.slot
  if !s.sendReady x then s
  else
    let res : Except Flt State := do
      let (s, i) ← s.openInst g x.tensor
      if (i.e.kind = 0) ≠ x.rs then .error ⟨Err.TENSOR_ENTRY_INVALID, x.tensor, 0⟩
      else if i.done then pure (s.finishSend x)
      else if !(x.rs && isBfxFmt i.e.fmt && x.o.fmt == 0) && x.o.fmt != i.e.fmt then .error ⟨Err.FORMAT_MISMATCH, 0, 0⟩
      else if x.rs && 65536 ≤ i.log.length then .error ⟨Err.SEND_LOG_FULL, 0, 0⟩
      else if x.rs && 65536 ≤ s.logUsed then pure (s.setSend x { x with waitLog := true })
      else
        let first := i.cursor
        let (s, i) ← s.appendSrc g x.off x.o (match x.amax with | some a => { i with amax := a } | none => i) x.amax.isSome false 0 x.o.elems
        let i := if x.rs then { i with log := i.log ++ [⟨x.o, first, x.off⟩] } else i
        let (s, i) := if i.e.kind = 2 && !i.closed then s.closeVar g i (i.e.nc + 1) else (s, i)
        pure ((s.setInst g i).finishSend x)
    match res with
    | .ok t => t
    | .error f =>
      let t : State := { s with sends := s.sends.erase x }
      ((match x.id with | some id => t.dropCmd x.ctx id | none => t)).ctxFault x.ctx f

/-- Run the held sends of a slot in order. -/
def State.runSends (s : State) (g : Nat) : State := (s.sends.filter fun x => x.slot == g).foldl State.runSend s

/-! ## Completion, windows and aborts (R373, R374, R378, R379) -/

/-- The largest amax of a step is staged for a scale record (R58, R59). -/
def State.stageRec (s : State) (c record a : Nat) : State :=
  match s.amax.find? fun x => x.1 == (c, record) with
  | some _ => { s with amax := s.amax.map fun x => if x.1 == (c, record) then (x.1, max x.2 a) else x }
  | none => { s with amax := s.amax ++ [((c, record), a)] }

/-- Chunks an instance lands at this member (R365). -/
def State.wantChunks (s : State) (g : Nat) (e : TEntry) : Nat :=
  let r := s.grpRank g
  let n := s.grpN g
  if e.kind = 0 then e.first n (r + 1) - e.first n r else if e.kind = 1 then e.nc else e.nc * n

/-- The scale record of the gradient whose copy an all-gather instance carries (R58, R409). -/
def State.copyRecord (s : State) (g t : Nat) : Option (Nat × Nat) :=
  match s.armRecs.find? fun a => a.handed && a.ctx == s.grpCtx g && a.v / 256 ^ 0x20 % 2 ^ 20 == s.grpId g && a.v / 256 ^ 0x24 % 2 ^ 16 == t with
  | some a =>
    match (s.openGrps a.ctx).findSome? fun h => (s.getGrp h).insts.find? fun i => i.e.kind == 0 && i.e.destUpd && i.e.upd == a.ent with
    | some i => if isBfxFmt i.e.fmt then some (a.ctx, i.e.record) else none
    | none => none
  | none => none

/-- Complete an instance if all has landed: semaphore, lengths, staged amax (R58, R373). -/
def State.tryComplete (s : State) (g : Nat) (i : Inst) : State :=
  let e := i.e
  if i.done || i.landed.length < s.wantChunks g e || (e.kind = 0 && !i.endClean) then s.setInst g i
  else
    let c := s.grpCtx g
    let i := { i with done := true, log := [] }
    let s := ((s.setInst g i).stopTimeout (deadKey false g i.tensor)).stopTimeout (deadKey true g i.tensor)
    let s := s.signalInst g i
    let s := if e.kind = 0 && !e.destUpd && isBfxFmt e.fmt then s.stageRec c e.record i.inAmax else s
    let s := match (if e.kind = 1 then s.copyRecord g i.tensor else none) with
      | some (k, r) => s.stageRec k r i.inAmax
      | none => s
    if e.kind = 2 then
      let bs := (List.range (s.grpN g)).flatMap fun r => bytesAt (e.lenTab + 4 * r) 4 (mapGet 0 i.lens r)
      match s.spWrite (s.domOf c) 0 0 0 bs with
      | .ok t => t
      | .error f => s.ctxFault c f
    else s

/-- Record an abort of a slot's step: code, rank or none, remote ERR; every open instance completes without traffic and update tensors abort (R379). -/
def State.abortGroup (s : State) (g : Nat) (code : Code) (rank : Option Nat) (info : Nat) : State :=
  let r := s.getGrp g
  if r.aborted then s
  else
    let c := s.grpCtx g
    let s := s.wr (grpReg g Off.COLL_GRP_ERR) (BitVec.ofNat 32 (code.toNat + rank.getD 0 * 2 ^ 16))
    let s := s.wr (grpReg g Off.COLL_GRP_ERR_INFO) (BitVec.ofNat 32 info)
    let opened := r.insts.filter fun i => !i.done
    let s := opened.foldl (fun t i => t.signalInst g i) s
    let s := opened.foldl (fun t i => (t.stopTimeout (deadKey false g i.tensor)).stopTimeout (deadKey true g i.tensor)) s
    let s := s.modGrp g fun x => { x with aborted := true, noRank := rank.isNone,
                                          insts := x.insts.map fun i => { i with done := true, log := [] } }
    let s : State := { s with
      sends := s.sends.map fun x => if x.slot == g then { x with waitLog := false } else x,
      armRecs := s.armRecs.map fun a => if a.ctx == c && !a.handed then { a with aborted := true } else a }
    ((s.stepErr c code).raise pgCOLL 0).runSends g

/-- A window opens: ATTEMPT, a clean record, the step's wire scales; held sends have their deadline from the opening and run (R57, R374, R375, R382). -/
def State.openWindow (s : State) (g at' : Nat) : State :=
  let c := s.grpCtx g
  let r := s.getGrp g
  let t := (s.step' c).toNat
  let a := if r.lastStep = some t then (s.grpAttempt g + 1) % 256 else 0
  let s := s.wr (grpReg g Off.COLL_GRP_ATTEMPT) (BitVec.ofNat 32 a)
  let s := (s.wr (grpReg g Off.COLL_GRP_ERR) 0).wr (grpReg g Off.COLL_GRP_ERR_INFO) 0
  let s := (s.setGrp g { winOpen := true, winAt := at', lastStep := some t }).wireScales g
  let s := (s.sends.filter fun x => x.slot == g && !x.done).foldl (fun t x => t.startDeadline g x.tensor 0) s
  s.runSends g

/-- A window closes; instances not complete are abandoned as COLLECTIVE_TIMEOUT with no rank (R374). -/
def State.closeWindow (s : State) (g : Nat) (abandon : Bool) : State :=
  let r := s.getGrp g
  let left := r.insts.any fun i => !i.done
  let s := r.insts.foldl (fun t i => (t.stopTimeout (deadKey false g i.tensor)).stopTimeout (deadKey true g i.tensor)) s
  let s := (s.stopTimeout (deadKey false g 0xFFFF)).stopTimeout (deadKey true g 0xFFFF)
  let s := if abandon && left then
      (s.wr (grpReg g Off.COLL_GRP_ERR) (Err.COLLECTIVE_TIMEOUT.setWidth 32)).modGrp g fun x => { x with noRank := true }
    else s
  s.modGrp g fun x => { x with winOpen := false, insts := x.insts.map fun i => { i with log := [] } }

/-! ## Receiving -/

/-- Codes that a switch raises itself; any other code is a member's local cause (R379, R381). -/
def switchCode (e : Nat) : Bool :=
  e == Err.DESCRIPTOR_MISMATCH.toNat || e == Err.COLLECTIVE_TIMEOUT.toNat || e == Err.CHUNK_CORRUPT.toNat || e == Err.SATURATION_LIMIT.toNat

/-- Common checks of a received frame of one kind: CRC, version, reserved fields, group, instance. The slot it acts on, if any (R366, R370, R378, R381, R382). -/
def State.receive (s : State) (f : Gw) (crc : DWord) (kinds : List Nat) : State × Option Nat :=
  let slots := s.slotsOfGroup (f.group % 2 ^ 20)
  let g := (slots.find? fun g => (s.getGrp g).winOpen && (s.step' (s.grpCtx g)).toNat == f.step && s.grpAttempt g == f.group / 2 ^ 20 % 256)
  if crc ≠ crc64 (f.header ++ f.data) then
    let s := s.inc (reg pgCOLL Off.COLL_CRC_FAIL)
    -- a corrupt RESULT or NOTICE aborts the step of the group it names
    match (if f.kind = 1 ∨ f.kind = 3 then slots.head? else none) with
    | none => (s, none)
    | some h =>
      let c := s.grpCtx h
      ((s.openGrps c).foldl (fun t k => t.sendAbort k Err.CHUNK_CORRUPT) (s.stepErr c Err.CHUNK_CORRUPT), none)
  else if f.version ≠ 1 || f.rsv ≠ 0 || slots = [] || !kinds.contains f.kind then (s.inc (reg pgCOLL Off.COLL_BAD_FRAMES), none)
  else match g with
    | none => (s.inc (reg pgCOLL Off.COLL_STALE_FRAMES), none)
    | some h => (s, some h)

/-- Land bytes of a collective in the owning domain; a refused write faults the context. -/
def State.landBytes (s : State) (g addr : Nat) (bs : List Byte) : State :=
  let c := s.grpCtx g
  match s.spWrite (s.domOf c) 0 0 0 ((bs.zipIdx).map fun p => (addr + p.2, p.1)) with
  | .ok t => t
  | .error f => s.ctxFault c f

/-! ### Update pipes (R391, R393) -/

/-- The reservation of an engaged pipe (R284, R393). -/
def State.pipeUnit (s : State) (p c : Nat) : LUnit := { acct := 9, ix := p, iclass := 7, dom := s.domOf c, prio := s.ctxClass c }

/-- Is a unit the reservation of pipe p? -/
def LUnit.isPipe (u : LUnit) (p : Nat) : Bool := u.acct == 9 && u.iclass == 7 && u.ix == p

/-- Does an engaged pipe still wait for its current? -/
def State.pipeWaits (s : State) (p : Nat) : Bool := s.lreqs.any fun q => q.units.any fun u => u.isPipe p

/-- The lowest pipe that runs no chunk. -/
def State.freePipe (s : State) : Option Nat := (List.range 16).find? fun p => !(s.landq.any fun l => l.pipe == some p)

/-- The first landed chunk without a pipe takes pipe p. -/
def takePipe (p : Nat) : List Landing → List Landing
  | [] => []
  | l :: r => if l.pipe.isNone then { l with pipe := some p } :: r else l :: takePipe p r

/-- Landed chunks take free pipes in landing order. -/
def State.engageRun : Nat → State → State
  | 0, s => s
  | n + 1, s =>
    match s.landq.find? fun l => l.pipe.isNone, s.freePipe with
    | some l, some p => State.engageRun n (({ s with landq := takePipe p s.landq } : State).askUnits [s.pipeUnit p (s.grpCtx l.slot)])
    | _, _ => s

/-- Landed chunks go to the lowest free pipes in landing order, and each engaged pipe asks for its current (R393). -/
def State.engage (s : State) : State := State.engageRun 16 s

/-- Landed chunks that a test picks leave their pipes. -/
def State.dropLandings (s : State) (p : Landing → Bool) : State :=
  let gone := s.landq.filter p
  let t := (gone.filterMap Landing.pipe).foldl (fun t x => t.releaseUnits (fun u => u.isPipe x) none) s
  ({ t with landq := t.landq.filter fun l => !p l } : State).engage

/-- A RESULT frame (R365, R380). -/
def State.resultFrame (s : State) (f : Gw) (crc : DWord) : State :=
  match s.receive f crc [1] with
  | (s, none) => s
  | (s, some g) =>
    let t := f.seq % 2 ^ 16
    if f.op = 4 then s.landBytes g ((s.rd64 (grpReg g Off.COLL_GRP_VOTE_BUF_LO)).toNat + 8192 * f.chunk) f.data
    else if t = 0xFFFE then
      -- the twin exchange (R535): the peer's digest
      let c := s.grpCtx g
      let s := s.inc (grpReg g Off.COLL_GRP_RX)
      if f.src = s.grpRank g then s else s.modStep c fun r => { r with twinPeer := some (leOf (f.data.take 8)) }
    else match s.openInst g t with
      | .error x => s.ctxFault (s.grpCtx g) x
      | .ok (s, i) =>
        let e := i.e
        let n := s.grpN g
        let r := s.grpRank g
        let mine := if e.kind = 0 then decide (e.first n r ≤ f.chunk) && decide (f.chunk < e.first n (r + 1))
          else if e.kind = 1 then decide (f.chunk < e.nc) else decide (f.chunk < e.nc * n)
        if f.seq / 2 ^ 16 % 256 ≠ i.redo then s.inc (reg pgCOLL Off.COLL_STALE_FRAMES)
        else if !mine then s.inc (reg pgCOLL Off.COLL_BAD_FRAMES)
        else if i.done then s
        else
          let s := s.inc (grpReg g Off.COLL_GRP_RX)
          let bytes := if f.flag 1 then List.replicate f.len 0 else bfxBytes e.fmt (f.data.take (if e.kind = 2 then e.chunkLen f.chunk else f.len))
          let i := { i with
            landed := if i.landed.contains f.chunk then i.landed else i.landed ++ [f.chunk],
            lens := if e.kind = 2 && !i.landed.contains f.chunk then addTo i.lens (f.chunk / e.nc) f.len else i.lens,
            inAmax := max i.inAmax f.amax }
          let s :=
            if e.kind = 0 && e.destUpd then
              ({ s with landq := s.landq ++ [({ slot := g, tensor := t, redo := i.redo, step := BitVec.ofNat 64 f.step, chunk := f.chunk,
                                                amax := f.amax, scale := f.scale, data := bytes } : Landing)] } : State).engage
            else
              let at' := if e.kind = 0 then e.dest + (f.chunk - e.first n r) * e.ch
                else if e.kind = 1 then e.dest + f.chunk * e.ch
                else e.dest + f.chunk / e.nc * e.cap + f.chunk % e.nc * e.ch
              s.landBytes g at' bytes
          s.tryComplete g i

/-- Send an instance again from its send log at its new scale (R377). -/
def State.resend (s : State) (g : Nat) (i : Inst) : State :=
  let res : Except Flt (State × Inst) := i.log.foldlM (fun acc x => acc.1.appendSrc g x.off x.o acc.2 false true 0 x.o.elems) (s, i)
  match res with
  | .ok (t, j) => t.setInst g j
  | .error f => s.ctxFault (s.grpCtx g) f

/-- An end notice (R61, R377). -/
def State.endNotice (s : State) (f : Gw) (crc : DWord) : State :=
  match s.receive f crc [3] with
  | (s, none) => s
  | (s, some g) =>
    if f.op = 4 then s
    else match s.inst g (f.seq % 2 ^ 16) with
    | none => s.inc (reg pgCOLL Off.COLL_STALE_FRAMES)
    | some i =>
      let c := s.grpCtx g
      if f.seq / 2 ^ 16 % 256 ≠ i.redo || i.e.kind ≠ 0 then s.inc (reg pgCOLL Off.COLL_STALE_FRAMES)
      else if i.done then s
      else if !f.flag 0 then s.tryComplete g { i with endClean := true, inAmax := f.amax }
      else
        let margin := match s.spReadSafe (s.domOf c) (i.e.record / 2 ^ 62 % 4) 0 0 (i.e.record % 2 ^ 52 + 0x13) 1 with
          | .ok v => v
          | .error _ => 0
        let x := i.scale + (margin : Int)
        if fld (s.rd (grpReg g Off.COLL_GRP_CFG)) 1 3 ≤ i.redo || 255 < x then
          s.abortGroup g Err.SATURATION_LIMIT none 0
        else
          let i := { i with landed := [], scale := x, redo := i.redo + 1, cursor := 0, next := 0, tailV := 0, tailN := 0, amax := 0, sat := false, inAmax := 0 }
          match s.writeScale c i.e.record x i.redo with
          | .error y => s.ctxFault c y
          | .ok s =>
            let s := s.dropLandings fun l => l.slot == g && l.tensor == i.tensor
            let s : State := { s with
              armRecs := s.armRecs.map fun a => if a.src == some (g, i.tensor) then { a with chunks := [], silent := true, frozen := 0, amax := 0 } else a,
              timeouts := mapPut (deadKey false g i.tensor) { due := s.now.toNat + s.grpTimeout g } s.timeouts }
            let s := (s.inc (grpReg g Off.COLL_GRP_REDOS)).raise pgCOLL 1
            (s.setInst g i).resend g i

/-- A received ABORT (R379). -/
def State.abortFrame (s : State) (f : Gw) (crc : DWord) : State :=
  match s.receive f crc [2] with
  | (s, none) => s
  | (s, some g) =>
    let rank := if f.flag 4 then none else some f.src
    let tensor := f.seq % 2 ^ 16 * 2 ^ 16
    if switchCode f.err || rank = some (s.grpRank g) then s.abortGroup g (BitVec.ofNat 16 f.err) rank tensor
    else s.abortGroup g Err.MEMBER_ABORT rank (f.err + tensor)

/-! ## Deadlines (R375, R380) -/

/-- The deadline of an instance or of the vote (R375, R380). -/
def State.deadline (s : State) (g t : Nat) : State :=
  if !s.timedOut (deadKey false g t) then s
  else
    let s := (s.stopTimeout (deadKey false g t)).startTimeout (deadKey true g t) (s.now.toNat + s.grpTimeout g)
    if t = 0xFFFF then
      s.sendGw ((s.grpPorts g).headD 0)
        { kind := 4, op := 4, group := s.groupWord g, seq := 0xFFFF, step := (s.step' (s.grpCtx g)).toNat, src := s.grpRank g }
    else s.sendAbort g Err.COLLECTIVE_TIMEOUT t

/-! ## Votes (R380, R414, R533 to R536) -/

/-- Are the updates of a context's step done (R412)? -/
def State.updDone (s : State) (c : Nat) : Bool :=
  (s.armRecs.filter fun a => a.ctx == c).all fun a =>
    a.aborted || a.handed || a.bad || (a.src.isNone && !(s.landq.any fun l => s.grpCtx l.slot == c))

/-- Is every instance of every open window of a context complete (R380)? -/
def State.instsDone (s : State) (c : Nat) : Bool :=
  (s.openGrps c).all fun g => (s.getGrp g).insts.all Inst.done && !(s.sends.any fun x => x.slot == g && !x.done)

/-- The step digest: the sum of every h modulo 2^64 (R534). -/
def State.stepDigest (s : State) (c : Nat) : Nat := ((s.getStep c).digests.foldl (fun a p => a + p.2) 0) % 2 ^ 64

/-- The vote word (R414). -/
def State.voteWord (s : State) (c : Nat) (abort silent frozen : Bool) : Nat :=
  let r := s.getStep c
  b2n abort + 2 * b2n r.nan + 4 * b2n r.skew + 8 * b2n r.incomplete + 16 * b2n silent + 32 * b2n frozen
    + (match r.firstErr with | some e => e.toNat * 2 ^ 16 | none => 0)

/-- The outcome of a step is in: with no COMMIT entry to wait for, its commit instant is now (R415). -/
def State.stepOutcome (s : State) (c : Nat) (commit : Bool) : State :=
  if !(s.getCtx c).stepPending then s
  else
    let mode1 := bit (s.rd (wreg c pgUPD Off.UPD_CTX_CFG)) 0
    let entry := s.calEntries.any fun e => s.calAction e == 4 && s.calTarget e == c
    let lone := !mode1 && !entry && !(s.getStep c).commit
    let s := if lone then s.raise pgUPD 6 else s
    s.modStep c fun x => { x with decision := some commit, commit := x.commit || mode1 || lone }

/-- VOTEs in flight of a context on a slot. -/
def State.votesOn (s : State) (c g : Nat) : List (Nat × Nat) := (s.getStep c).votes.filter fun v => v.2 == g

/-- The VOTEs of a slot retire. -/
def State.retireVotes (s : State) (c g : Nat) : State :=
  (s.votesOn c g).foldl (fun t v => match t.liveOf c v.1 with | some l => t.retireCmd c l | none => t)
    (s.modStep c fun x => { x with votes := x.votes.filter fun v => v.2 != g })

/-- The decision of a group leaves the vote (R29, R380, R415): its window closes and its VOTE retires. An abort is the step's outcome at once; a commit is when no other VOTE of the context is in flight (log entry 42, DEDUCED). -/
def State.decide' (s : State) (g : Nat) (commit : Bool) : State :=
  let c := s.grpCtx g
  let s := ((s.modGrp g fun x => { x with vote := if commit then 2 else 3, shut := !commit }).closeWindow g false).retireVotes c g
  if !commit then s.stepOutcome c false
  else if (s.getStep c).votes = [] then s.stepOutcome c ((s.getStep c).decision.getD true)
  else s

/-- A decision NOTICE (R380). -/
def State.decision (s : State) (f : Gw) (crc : DWord) : State :=
  match s.receive f crc [3] with
  | (s, none) => s
  | (s, some g) =>
    if f.op ≠ 4 then s
    else
      let r := s.getGrp g
      if r.unresolved then
        (if f.flag 2 then s else (s.modGrp g fun x => { x with late := true }).raise pgCOLL 3).closeWindow g false
      else
        let rank := if f.flag 4 then none else some f.src
        let s := if f.flag 2 then s.abortGroup g (BitVec.ofNat 16 f.err) rank (f.seq % 2 ^ 16 * 2 ^ 16) else s
        s.decide' g (!f.flag 2)

/-- The second deadline: the step is resolved as abort locally, whatever its commit instant, or the vote stays unresolved (R375, R380). -/
def State.secondDeadline (s : State) (g t : Nat) : State :=
  if !s.timedOut (deadKey true g t) then s
  else
    let c := s.grpCtx g
    let s := s.stopTimeout (deadKey true g t)
    if t = 0xFFFF then
      let s := s.wr (grpReg g Off.COLL_GRP_ERR) (Err.VOTE_UNRESOLVED.setWidth 32)
      let s := (s.modGrp g fun x => { x with unresolved := true, noRank := true }).pageErr pgCOLL Err.VOTE_UNRESOLVED g 0 0x4#32
      (s.modStep c fun x => { x with decision := some false, commit := true, unresolved := true }).retireVotes c g
    else (s.abortGroup g Err.COLLECTIVE_TIMEOUT none (t * 2 ^ 16)).modStep c fun x => { x with decision := some false, commit := true }

end Sys2Proof.Machine
end

