-- ==== Sys2Proof/Machine/Vector.lean ====
section
/-! DEFINITION. The cluster vector engine (R134 to R146). -/

namespace Sys2Proof.Machine

open Sys2Proof

/-- Settings of a vector command (R226). -/
structure VecCfg where
  rows : Nat
  n : Nat
  rmode : Nat
  satfin : Bool
  wrap : Bool
  blk : Nat
  blkEn : Bool
  zbOut : Bool
  epsPar : Nat
  ropePair : Bool
  posSrc : Bool
  posBase : Nat
  salt : Nat
deriving DecidableEq, Repr

/-- The operation word of a vector command. -/
def vecCfg (w : Cmd) : VecCfg :=
  ⟨w.op 0 16 + 1, w.op 16 16 + 1, w.op 32 2, w.opBit 34, w.opBit 35, w.op 36 2, w.opBit 38, w.opBit 39, w.op 40 6,
   w.opBit 46, w.opBit 47, w.op 48 22, w.op 80 16⟩

/-- Operands of a vector instance. -/
structure VecOps where
  a : Option Opnd
  b : Option Opnd
  c : Opnd
  d : Option Opnd
deriving DecidableEq, Repr

/-- An FP32 lane value of an exact value (R44, R136). -/
def lane (v : Val) : Nat := f32Round true v

/-- FP32 patterns of elements `lo … lo+n−1` of an operand. -/
def State.lanes (s : State) (c : Nat) (o : Opnd) (sc : Int) (lo n : Nat) : Except Flt (List Nat) :=
  (List.range n).mapM fun i => do pure (lane (← s.reachVal c o sc (lo + i)))

/-- Binary tree over 2^k positions: level j combines neighbours (R138). -/
def treeLevel (f : Nat → Nat → Nat) : List Nat → List Nat
  | a :: b :: l => f a b :: treeLevel f l
  | l => l

/-- Reduce a segment of 256 positions padded with the neutral element (R138). -/
def treeReduce (f : Nat → Nat → Nat) (neutral : Nat) (l : List Nat) : Nat :=
  let seg := l ++ List.replicate (256 - l.length) neutral
  ((List.range 8).foldl (fun x _ => treeLevel f x) seg).headD neutral

/-- Row reduction: segments of 256 in order, results combined one after another (R138). -/
def rowReduce (f : Nat → Nat → Nat) (neutral : Nat) (l : List Nat) : Nat :=
  let segs := (List.range (cdiv l.length 256)).map fun i => treeReduce f neutral ((l.drop (256 * i)).take 256)
  match segs with
  | [] => neutral
  | x :: xs => xs.foldl f x

/-- RSUM. -/
def rsum (l : List Nat) : Nat := rowReduce f32Add 0x80000000 l
/-- RSUMSQ. -/
def rsumsq (l : List Nat) : Nat := rowReduce f32Add 0x80000000 (l.map fun x => f32Mul x x)
/-- RAMAX: amax of the finite elements (R56). -/
def ramax (l : List Nat) : Nat :=
  rowReduce f32Max 0 (l.map fun x => if f32IsNaN x || f32IsInf x then 0 else f32Abs x)

/-- RMSNORM of a row (R140). -/
def rmsnorm (x g : List Nat) (eps : Nat) : List Nat :=
  let k := f32Recip x.length
  let r := f32Fn .rsqrt (f32Add (f32Mul (rsumsq x) k) eps)
  (x.zip g).map fun p => f32Mul (f32Mul p.1 r) p.2

/-- LAYERNORM of a row (R140). -/
def layernorm (x g : List Nat) (b : Option (List Nat)) (eps : Nat) : List Nat :=
  let k := f32Recip x.length
  let mu := f32Mul (rsum x) k
  let y := x.map fun v => f32Sub v mu
  let v := f32Mul (rsumsq y) k
  let r := f32Fn .rsqrt (f32Add v eps)
  let z := (y.zip g).map fun p => f32Mul (f32Mul p.1 r) p.2
  match b with
  | some bs => (z.zip bs).map fun p => f32Add p.1 p.2
  | none => z

/-- SMFIN of a row (R141). -/
def smfin (x : List Nat) (a b s : Nat) : List Nat :=
  let f := if a = 0xFF800000 then (if b = 0xFF800000 then 0x3F800000 else 0) else f32Fn .exp2 (f32Sub a b)
  let r := f32Fn .rcp s
  x.map fun v => f32Mul (f32Mul v f) r

/-- STMERGE of one column (R142, special values of R88). -/
def stmerge1 (m1 s1 m2 s2 : Nat) : Nat × Nat :=
  if f32IsNaN m1 || f32IsNaN m2 || f32IsNaN s1 || f32IsNaN s2 || m1 = 0x7F800000 || m2 = 0x7F800000 then (f32NaN, f32NaN)
  else
    let m := f32Max m1 m2
    let e (x : Nat) : Nat := if x = 0xFF800000 && m = 0xFF800000 then 0 else f32Fn .exp2 (f32Sub x m)
    (m, f32Add (f32Mul s1 (e m1)) (f32Mul s2 (e m2)))

/-- STMERGE of two records of eight FP32 (R87, R142). -/
def stmerge (a b : List Nat) : List Nat :=
  let cols := (List.range 4).map fun n => stmerge1 (a.getD n 0) (a.getD (4 + n) 0) (b.getD n 0) (b.getD (4 + n) 0)
  cols.map Prod.fst ++ cols.map Prod.snd

/-- Phase of ROPE in units of 2^−32 turns (R143). -/
def ropePhase (pos : Nat) (f : Nat) : Option Nat :=
  match f32Val true f with
  | .fin n m e =>
    let k : Int := roundInt .rne n (m * pos) (e + 32)
    -- the fractional part is taken exactly before the rounding: both agree modulo one turn
    some (k % (2 ^ 32 : Nat)).toNat
  | _ => none

/-- Rotate one pair (R143). -/
def ropePair (pos f x0 x1 : Nat) : Nat × Nat :=
  match ropePhase pos f with
  | none => (f32NaN, f32NaN)
  | some ph =>
    let c := ropeTrig true ph
    let s := ropeTrig false ph
    (f32Fma (f32Neg x1) s (f32Mul x0 c), f32Fma x1 c (f32Mul x0 s))

/-- Positions of element j and its partner in a row of n elements (R143). -/
def ropeIx (pairMode : Bool) (n j : Nat) : Nat × Nat × Bool × Nat :=
  if pairMode then (if j < n / 2 then (j, j + n / 2, true, j) else (j - n / 2, j, false, j - n / 2))
  else (j / 2 * 2, j / 2 * 2 + 1, j % 2 == 0, j / 2)

/-- Element-wise FP32 result of an opcode (R137, R139). -/
def vecLane (op a b d : Nat) : Nat :=
  match op with
  | 0x20 => f32Add a b | 0x21 => f32Sub a b | 0x22 => f32Mul a b | 0x23 => f32Fma a b d
  | 0x24 => f32Max a b | 0x25 => f32Min a b | 0x26 => f32Abs a | 0x27 => f32Neg a | 0x28 => f32CopySign a b
  | 0x33 => f32Fn .exp2 a | 0x34 => f32Fn .log2 a | 0x35 => f32Fn .rsqrt a | 0x36 => f32Fn .rcp a
  | 0x37 => f32Fn .tanh a | 0x38 => f32Fn .sigmoid a | 0x39 => f32Fn .gelu a | 0x3A => f32Fn .silu a
  | _ => a

/-- A comparison on FP32 lanes, into which integer elements are rounded; a NaN compares false (R136, R137; log entries 9 and 37, DESIGN CHOICE). -/
def vecCmp (op a b : Nat) : Bool :=
  let x := f32Val true a
  let y := f32Val true b
  match op with
  | 0x29 => x.numEq y
  | 0x2A => x.lt y
  | _ => !x.isNaN && !y.isNaN && !y.lt x

/-- Is a value zero? -/
def Val.isZero : Val → Bool
  | .fin _ m _ => m == 0
  | _ => false

/-- Exact integer of a value of an integer format. -/
def Val.toInt : Val → Int
  | .fin n m _ => if n then -(m : Int) else m
  | _ => 0

/-- Element-wise integer result, exact (R136). -/
def intLane (op : Nat) (a b d : Int) : Int :=
  match op with
  | 0x20 => a + b | 0x21 => a - b | 0x22 => a * b | 0x23 => a * b + d
  | 0x24 => max a b | 0x25 => min a b | 0x26 => (a.natAbs : Int) | 0x27 => -a
  | 0x28 => if b < 0 then -(a.natAbs : Int) else (a.natAbs : Int)
  | _ => a

/-- Formats whose element-wise operations compute exactly in 64 bits (R136). -/
def intLaneFmt (f : Nat) : Bool := f == 8 || f == 10 || f == 14 || f == 11

/-- What an operation produces from one row: values to convert, or mask bits. -/
inductive VecOut where
  | vals (vs : List Val)
  | bits (bs : List Bool)
deriving DecidableEq, Repr

/-- A pure conversion does not pass through FP32 when both formats have 16 bits or fewer, or both are integers (R45, R136; log entry 9, DESIGN CHOICE). -/
def cvtDirect (src dst : Nat) : Bool :=
  (decide (fmtWidth src ≤ 16) && decide (fmtWidth dst ≤ 16)) || (isIntFmt src && isIntFmt dst)

/-- Is an operand's element an integer code by itself, without a scale (R49, R57, R136)? -/
def Opnd.plainInt (o : Opnd) : Bool := intLaneFmt o.fmt && !o.scaled && !o.delayed

/-- Elements of a row of an operation's output (R137, R142). -/
def outLen (w : Cmd) : Nat :=
  if w.opcode = 0x3E then 8 else if 0x2E ≤ w.opcode ∧ w.opcode ≤ 0x32 then 1 else (vecCfg w).n

/-- Does an operation write mask bits? -/
def isCmp (w : Cmd) : Bool := decide (0x29 ≤ w.opcode) && decide (w.opcode ≤ 0x2B)

/-- What row i of a vector instance gives, with ε as the issue cycle found it (R136 to R143, R229). An element of an operand is named by its number, modulo the operand's counts (log entry 37, DESIGN CHOICE). -/
def State.vecRow (s : State) (c : Nat) (w : Cmd) (o : VecOps) (t : Nat) (eps : Nat) (i : Nat) : Except Flt (State × VecOut) := do
  let cfg := vecCfg w
  let op := w.opcode
  let dom := s.domOf c
  let n := cfg.n
  let sc (s : State) (x : Option Opnd) : Except Flt (State × Int) := match x with
    | some y => do
      let r ← s.opndScale dom y t
      pure (r.1, r.2.1)
    | none => pure (s, 0)
  let (s, sa) ← sc s o.a
  let (s, sb) ← sc s o.b
  let (s, sd) ← sc s o.d
  let val (x : Option Opnd) (k : Int) (j : Nat) : Except Flt Val := match x with
    | some y => s.reachVal c y k j
    | none => pure (.fin false 0 0)
  let lanesOf (x : Option Opnd) (k : Int) (lo n : Nat) : Except Flt (List Nat) := match x with
    | some y => s.lanes c y k lo n
    | none => pure (List.replicate n 0)
  let ofLanes (l : List Nat) : State × VecOut := (s, .vals (l.map (decodeFloat 0)))
  let els : List Nat := (List.range n).map (i * n + ·)
  if op ≤ 0x28 || (0x33 ≤ op && op ≤ 0x3A) then
    let ints := decide (op ≤ 0x28) && [o.a, o.b, o.d].all fun x => (x.map Opnd.plainInt).getD true
    let vs ← els.mapM fun j => do
      let x ← val o.a sa j
      let y ← val o.b sb j
      let z ← val o.d sd j
      pure (if ints then ofInt (intLane op x.toInt y.toInt z.toInt)
            else decodeFloat 0 (vecLane op (lane x) (lane y) (lane z)))
    pure (s, .vals vs)
  else if op ≤ 0x2B then
    let bs ← els.mapM fun j => do pure (vecCmp op (lane (← val o.a sa j)) (lane (← val o.b sb j)))
    pure (s, .bits bs)
  else if op = 0x2C then
    let ints := [o.a, o.b].all fun x => (x.map Opnd.plainInt).getD true
    let vs ← els.mapM fun j => do
      let m ← val o.d 0 j
      let x ← val o.a sa j
      let y ← val o.b sb j
      let v := if m.isZero then y else x
      pure (if ints then v else decodeFloat 0 (lane v))
    pure (s, .vals vs)
  else if op = 0x2D then
    let direct := cvtDirect ((o.a.map Opnd.fmt).getD 0) o.c.fmt
    let vs ← els.mapM fun j => do
      let x ← val o.a sa j
      pure (if direct then x else decodeFloat 0 (lane x))
    pure (s, .vals vs)
  else
    let x ← lanesOf o.a sa (i * (if op = 0x3E then 8 else n)) (if op = 0x3E then 8 else n)
    if op ≤ 0x32 then
      pure (ofLanes [match op with
        | 0x2E => rsum x | 0x2F => rsumsq x | 0x30 => rowReduce f32Max 0xFF800000 x
        | 0x31 => rowReduce f32Min 0x7F800000 x | _ => ramax x])
    else if op = 0x3B then
      let g ← lanesOf o.b sb 0 n
      pure (ofLanes (rmsnorm x g eps))
    else if op = 0x3C then
      let g ← lanesOf o.b sb 0 n
      let b ← match o.d with | some y => (s.lanes c y sd 0 n).map some | none => pure none
      pure (ofLanes (layernorm x g b eps))
    else if op = 0x3D then
      let k ← lanesOf o.b sb (3 * i) 3
      pure (ofLanes (smfin x (k.getD 0 0) (k.getD 1 0) (k.getD 2 0)))
    else if op = 0x3E then
      let y ← lanesOf o.b sb (8 * i) 8
      pure (ofLanes (stmerge x y))
    else
      let f ← lanesOf o.b sb 0 (n / 2)
      let pos : Int ← if cfg.posSrc then pure ((cfg.posBase + i : Nat) : Int) else do pure (← val o.d 0 i).toInt
      if pos < 0 ∨ 4194303 < pos then .error ⟨Err.ROPE_POSITION_RANGE, 0, 0⟩
      else pure (ofLanes ((List.range n).map fun j =>
        let (p0, p1, first, q) := ropeIx cfg.ropePair n j
        let r := ropePair pos.toNat (f.getD q 0) (x.getD p0 0) (x.getD p1 0)
        if first then r.1 else r.2))

/-- Zero-row bitmap bits of a written row: a granule's bit is set where every element stored in it is ±0 and no element of a block with scale 0xFF; a granule that earlier rows have written into keeps their verdict too (R167). -/
def State.rowBits (s : State) (dom : Nat) (o : Opnd) (prior : List Int) (els : List (Int × Bool)) : Except Flt (List (Int × Bool)) :=
  ((els.map fun p => o.zbPlace p.1).eraseDups).filterMapM fun pl =>
    let mine := els.filter fun p => o.zbPlace p.1 == pl
    match mine.head? with
    | none => pure none
    | some p0 => do
      let old ← if prior.any fun e => o.zbPlace e == pl then s.zbBit dom o false p0.1 else pure true
      pure (some (p0.1, old && mine.all Prod.snd))

/-- Write row i of one instance's results: conversion, block scales and padding, zero-row bitmap, staged amax; the lanes of its NaN results, none where the output is E8M0 (R41 to R53, R146, R167, R596). An amax, that of RAMAX too, goes to the record that OPC names, to none where only OPA names one (R137; log entry 37, DESIGN CHOICE). -/
def State.vecWrite (s : State) (c : Nat) (w : Cmd) (o : Opnd) (step : DWord) (i : Nat) (v : VecOut) : Except Flt (State × List Nat) := do
  let cfg := vecCfg w
  let dom := s.domOf c
  let len := outLen w
  let offs ← (List.range len).mapM fun j => s.reachOff c o (i * len + j)
  let off (j : Nat) : Int := (offs.getD j none).getD 0
  -- an output element behind a padding entry of a router index tensor has no place (R247)
  let there (j : Nat) : Bool := (offs.getD j none).isSome
  let prior ← if cfg.zbOut && o.zb then (List.range (i * len)).mapM fun j => do pure ((← s.elemOff dom o false j).getD 0) else pure []
  let bitmap (s : State) (els : List (Int × Bool)) : Except Flt State :=
    if cfg.zbOut && o.zb then do
      let bits ← s.rowBits dom o prior els
      s.writeZb dom o false bits
    else pure s
  match v with
  | .bits bs =>
    let els := (bs.zipIdx.filter fun p => there p.2).map fun (b, j) => (off j, b)
    let s ← s.writePats dom o false (els.map fun p => (p.1, b2n p.2))
    let s ← bitmap s (els.map fun p => (p.1, !p.2))
    pure (s, [])
  | .vals vs =>
    let (s, sc, stored) ← s.opndScale dom o step.toNat
    let rnd (j : Nat) : Rnd := s.rndOf c step cfg.rmode cfg.salt (off j)
    let nans := if o.fmt = 13 then [] else (vs.zipIdx.filter fun p => p.1.isNaN).map Prod.snd
    let s := s.stageAmax c o stored (amaxOf vs)
    let zero (p : Nat) : Bool := match decodeFmt o.fmt 0 p with | .fin _ m _ => m == 0 | _ => false
    if cfg.blkEn && blkFmt o.fmt then
      let bsz := blkSize cfg.blk
      let per := cdiv len bsz
      let blocks := (List.range per).map fun q =>
        let is := ((List.range bsz).map (q * bsz + ·)).filter fun j => decide (j < len)
        let r := blkWrite o.fmt cfg.satfin (is.map fun j => (vs.getD j .nan, rnd j))
        (i * per + q, r.1, is.zip r.2)
      let pats := blocks.flatMap fun b => (b.2.2.filter fun x => there x.1).map fun x => (off x.1, x.2, b.2.1 == 0xFF)
      let pads := o.padOffs 1 len bsz (fun _ => off (len - 1)) (o.stride.getD 0 1)
      let s ← s.writePats dom o false (pads.map (fun e => (e, 0)) ++ pats.map fun x => (x.1, x.2.1))
      let s ← s.writeScales dom o false (blocks.map fun b => (b.1, b.2.1))
      let s ← bitmap s (pats.map fun x => (x.1, !x.2.2 && zero x.2.1))
      pure (s, nans)
    else
      let cs := ((List.range vs.length).filter there).map fun j =>
        (off j, convert o.fmt (rnd j) cfg.satfin cfg.wrap (if isBfxFmt o.fmt then sc else 0) (o.toStored sc (vs.getD j .nan)))
      let s ← s.writePats dom o false (cs.map fun x => (x.1, x.2.bits))
      let s := s.inc (reg (pgCTX c) Off.CTX_SAT_COUNT) (cs.filter fun x => x.2.sat).length
      let s ← bitmap s (cs.map fun x => (x.1, zero x.2.bits))
      pure (s, nans)

/-- Engine field of the NaN trap for a vector event (R66). -/
def vecEngine (cl lane : Nat) : Nat := 2 ^ 30 + cl / 375 * 2 ^ 27 + cl % 375 * 2 ^ 18 + lane % 256 / 16 * 2 ^ 14

/-- NaN results of one row, reported by groups of 256 lanes in order (R62, R64). -/
def State.vecNaNs (s : State) (c off cl row : Nat) (nans : List Nat) : State :=
  ((nans.map (· / 256)).eraseDups).foldl (fun t g =>
    if (t.getCtx c).run = .faulted then t
    else t.nanEvents c off ((nans.filter fun p => p / 256 == g).map fun p => (vecEngine cl p, row * 2 ^ 16 + p % 256))) s

/-- The operands of a vector instance; none where it lacks its output. -/
def InstOps.vec (x : InstOps) : Option VecOps := (x.get 2).map fun o => ⟨x.get 0, x.get 1, o, x.get 3⟩

/-- One row of a vector instance: read, computed, written; a fault stops the context (R136, R263, R273). -/
def State.vecStep (s : State) (c cl : Nat) (l : Live) (o : VecOps) (i : Nat) : State :=
  if (s.getCtx c).run = .faulted then s
  else
    let res : Except Flt (State × List Nat) := do
      let (u, v) ← s.vecRow c l.w o l.step.toNat (l.par.toNat % 2 ^ 32) i
      u.vecWrite c l.w o.c l.step i v
    match res with
    | .error f => s.ctxFault c f
    | .ok (u, nans) => u.vecNaNs c l.off cl i nans

/-- The rows of an instance from where it stands up to a row, in order (R153; log entry 37, DESIGN CHOICE). -/
def State.vecRows (s : State) (c : Nat) (l : Live) (x : InstOps) (hi : Nat) : State :=
  match x.vec with
  | none => s
  | some o => ((List.range (hi - x.done)).map (x.done + ·)).foldl (fun t i => t.vecStep c x.cl l o i) s

/-- What is left of a vector command on its clusters (R136, R216). -/
def State.runVector (s : State) (c : Nat) (l : Live) : State :=
  l.insts.foldl (fun t x => t.vecRows c l x (vecCfg l.w).rows) s

end Sys2Proof.Machine
end

