-- ==== Sys2Proof/Machine/Update.lean ====
section
/-! DEFINITION. The update die: armed entries, Uaquel programs, shard updates, schedules, and the resolution of a step (R391 to R426, R59). -/

namespace Sys2Proof.Machine

open Sys2Proof

/-- Key of a context's window of the UPD page. -/
def updReg (c off : Nat) : Nat := wreg c pgUPD off
/-- A field of an update tensor entry (R394). -/
def uf (v off n : Nat) : Nat := v / 256 ^ off % 256 ^ n
/-- A signed 64-bit offset of an entry. -/
def uoff (v off : Nat) : Int := sext (uf v off 8) 64
/-- FLAGS bit i: 0 ROUND, 1 M1_EN, 2 M2_EN, 3 MOM_BF16, 4 FROZEN, 5 MASK_EN, 6 FROZEN_EVENT. -/
def uflag (v i : Nat) : Bool := uf v 8 4 / 2 ^ i % 2 == 1

/-- Record an update code of the step: the first stands (R410 to R412, R424). -/
def State.updErr (s : State) (c : Nat) (code : Code) (ent : Nat) : State :=
  let k := updReg c Off.UPD_CTX_ERR
  let s := if fld (s.rd k) 0 16 = 0 then s.wr k (BitVec.ofNat 32 (code.toNat + ent % 2 ^ 16 * 2 ^ 16)) else s
  let s := s.stepErr c code
  let s := s.modStep c fun r => { r with
    nan := r.nan || decide (code = Err.UPDATE_NAN), skew := r.skew || decide (code = Err.STEP_SKEW),
    incomplete := r.incomplete || decide (code = Err.UPD_INCOMPLETE) || decide (code = Err.UPD_NOT_ARMED) || decide (code = Err.UPD_ENTRY_INVALID) }
  s.pageErr pgUPD code c ent (if code = Err.STEP_SKEW then 0x4#32 else if code = Err.UPDATE_NAN then 0x8#32 else 0)

/-! ## Programs (R391, R392, R401 to R404) -/

/-- SIGN (R403). -/
def f32Sign (a : Nat) : Nat :=
  let x := f32Flush a
  if f32IsNaN x then f32NaN else if x % 2 ^ 31 = 0 then x else if 2 ^ 31 ≤ x then 0xBF800000 else 0x3F800000

/-- REL(a, b) (R402, R403). -/
def relHolds (rel a b : Nat) : Bool :=
  let x := f32Val true a
  let y := f32Val true b
  let nan := x.isNaN || y.isNaN
  match rel with
  | 0 => x.numEq y | 1 => nan || !x.numEq y | 2 => x.lt y | 3 => !nan && !y.lt x | 4 => y.lt x | _ => !nan && !x.lt y

/-- The value of an operand select (R402). -/
def selVal (regs scal : List Nat) (k : Nat) : Nat :=
  if k < 16 then regs.getD k 0 else if k < 24 then scal.getD (k - 16) 0 else if k = 25 then 0x3F800000 else 0

/-- One instruction (R402, R403). -/
def uaStep (scal : List Nat) (regs : List Nat) (w : Word) : List Nat :=
  let a0 := selVal regs scal (fld w 8 5)
  let a := f32Flush (if bit w 23 then f32Neg a0 else a0)
  let b := f32Flush (selVal regs scal (fld w 13 5))
  let c := f32Flush (selVal regs scal (fld w 18 5))
  let d := match fld w 0 4 with
    | 0 => f32Add a b | 1 => f32Sub a b | 2 => f32Mul a b | 3 => f32Fma a b c | 4 => f32Fn .rcp a | 5 => f32Fn .rsqrt a
    | 6 => f32Sqrt a | 7 => f32Max a b | 8 => f32Min a b | 9 => f32Abs a | 10 => f32Sign a | 11 => f32Min (f32Max a b) c
    | 12 => if relHolds (fld w 24 3) a b then 0x3F800000 else 0
    | _ => if a % 2 ^ 31 = 0 then c else b
  regs.set (fld w 4 4) d

/-- Does an instruction hold a reserved opcode, operand or relation (R401)? -/
def uaBad (w : Word) : Bool :=
  let op := fld w 0 4
  let sel (lo : Nat) : Bool := decide (26 ≤ fld w lo 5)
  decide (14 ≤ op) || sel 8 || sel 13 || sel 18 || (op == 12 && decide (6 ≤ fld w 24 3))

/-- The instructions of a program slot. -/
def State.program (s : State) (p : Nat) : List Word :=
  (List.range (fld (s.rd (wreg p pgUPD Off.UPD_PROG_CTRL)) 0 6)).map fun j => s.rd (wreg p pgUPD (Off.UPD_PROG_INSTRj + 4 * j))
/-- VALID of a program slot. -/
def State.programValid (s : State) (p : Nat) : Bool := bit (s.rd (wreg p pgUPD Off.UPD_PROG_CTRL)) 31

/-! ## Masters, remainders and moments (R397 to R400) -/

/-- BF16 step at m as a power of two (R397). -/
def bf16Step (m : Nat) : Int := let e : Nat := m / 2 ^ 7 % 256; if e = 0 then -133 else (e : Int) - 134

/-- The master pair as FP32 (R397). -/
def readMaster (m q : Nat) : Nat :=
  match decodeFloat 1 m with
  | .fin n x e => f32Round false ((Val.fin n x e).add ((ofInt (sext q 16)).scale (bf16Step m - 16)))
  | v => f32Round false v

/-- The master and remainder written for x (R398). -/
def writeMaster (x : Nat) : Nat × Nat :=
  match decodeFloat 0 x with
  | .nan => (0x7FC0, 0)
  | .inf n => (if n then 0xFF80 else 0x7F80, 0)
  | v =>
    let m := (convert 1 .rne false false 0 v).bits
    match decodeFloat 1 m with
    | .fin n y e =>
      match (v.add (Val.fin n y e).neg).scale (16 - bf16Step m) with
      | .fin dn dm de =>
        let k : Int := roundInt .rne dn dm de
        (m, toTwos 16 (max (-32768 : Int) (min (32767 : Int) k)))
      | _ => (m, 0)
    | _ => (m, 0)

/-! ## Arming (R394 to R396, R405) -/

/-- Is a format a compute copy format (R33)? -/
def copyFmt (f : Nat) : Bool := f == 1 || f == 2 || f == 3 || f == 4 || f == 5 || f == 6 || f == 7 || f == 8 || f == 9

/-- Does an entry break its own layout (R394, R395)? -/
def uEntryBad (v : Nat) : Bool :=
  let e := uf v 0 8
  let fm := uf v 0xC 1 % 16
  let x := uf v 0xD 1
  decide (e = 0) || decide (2 ^ 40 < e) || decide (uf v 8 4 / 2 ^ 7 ≠ 0) || decide (uf v 0xC 1 / 16 ≠ 0) || decide (uf v 0x14 2 / 2 ^ 12 ≠ 0)
    || decide (uf v 0x16 2 ≠ 0) || decide (uf v 0x20 4 / 2 ^ 20 ≠ 0) || decide (uf v 0x26 2 ≠ 0) || decide (uf v 0x60 32 ≠ 0)
    || !copyFmt fm || x == 128 || (decide (x ≠ 0) && !blkFmt fm)

/-- A scalar's source (R405). -/
def State.scalar (s : State) (c v : Nat) (sel : Nat) : Nat :=
  match sel / 64 with
  | 0 =>
    match (s.getStep c).sched.find? fun x => x.slot == uf v 0x11 1 with
    | some x => x.outs.getD (sel % 16) 0
    | none => 0
  | 1 => (s.par c (sel % 64)).toNat % 2 ^ 32
  | _ => if sel % 2 = 1 then 0x3F800000 else 0

/-- UPD_TENSOR at a stream offset (R395). -/
def State.armTensor (s : State) (c off ent : Nat) : Except Flt State := do
  let d := s.domOf c
  if fld (s.rd (updReg c Off.UPD_CTX_TT_COUNT)) 0 17 ≤ ent then .error ⟨Err.UPD_ENTRY_INVALID, ent, 0⟩
  else
    let v ← s.spReadSafe d 0 0 0 ((s.rd64 (updReg c Off.UPD_CTX_TT_BASE_LO)).toNat + 128 * ent) 128 false true
    let sched := uf v 0x11 1
    let sc := s.rd (wreg sched pgSCHD Off.SCHD_CTX)
    if uEntryBad v || (List.range 8).any fun i => let x := uf v (0x18 + i) 1
        x / 64 == 2 || (x / 64 == 0 && decide (x % 64 / 16 ≠ 0)) || (x / 64 == 3 && decide (x % 64 / 2 ≠ 0)) then
      .error ⟨Err.UPD_ENTRY_INVALID, ent, 0⟩
    else match s.slotFor c (uf v 0x20 3 % 2 ^ 20) with
      | none => .error ⟨Err.UPD_ENTRY_INVALID, ent, 0⟩
      | some g =>
        let e ← match s.tEntry g (uf v 0x24 2) with
          | .ok e => pure e
          | .error _ => .error ⟨Err.UPD_ENTRY_INVALID, ent, 0⟩
        if e.kind ≠ 1 || e.fmt ≠ uf v 0xC 1 % 16 || e.elems ≠ uf v 0 8 then .error ⟨Err.UPD_ENTRY_INVALID, ent, 0⟩
        else if s.armRecs.any (fun a => a.ctx == c && a.ent == ent) then .error ⟨Err.UPD_ENTRY_INVALID, ent, 0⟩
        else if !s.programValid (uf v 0x10 1) then .error ⟨Err.UPD_PROGRAM_INVALID, ent, 0⟩
        else if !bit sc 31 || fld sc 0 14 ≠ c || !((s.getStep c).sched.any fun x => x.slot == sched) then .error ⟨Err.SCHEDULE_INVALID, ent, 0⟩
        else if 65536 ≤ s.armRecs.length then .error ⟨Err.UPD_ARM_LIMIT, ent, 0⟩
        else
          let ar := uf v 0x14 2
          let cp := (s.areg c (ar / 256 % 16)).toNat
          let a : ArmRec := { ctx := c, ent := ent, off := off, v := v, cur := (s.areg c (ar % 16)).toNat, alt := (s.areg c (ar / 16 % 16)).toNat, copy := cp,
                              scalars := (List.range 8).map fun i => s.scalar c v (uf v (0x18 + i) 1) }
          let dest := ((cp : Int) + uoff v 0x48).toNat % 2 ^ 64
          let s ← s.spWrite d 0 0 0 (bytesAt ((s.rd64 (grpReg g Off.COLL_GRP_TT_BASE_LO)).toNat + 64 * uf v 0x24 2 + 0x18) 8 dest) false true
          -- in a step that an abort has resolved already nothing stays armed
          let s : State := if (s.getCtx c).stepPending then { s with armRecs := s.armRecs ++ [a] } else s
          pure (s.modCtx c fun r => { r with voted := true })

/-! ## Shards (R406 to R412) -/

/-- Replace an armed entry. -/
def State.setArm (s : State) (a : ArmRec) : State :=
  { s with armRecs := s.armRecs.map fun x => if x.ctx == a.ctx && x.ent == a.ent then a else x }

/-- Elements per chunk of an entry's wire image, when whole. -/
def TEntry.perChunk (e : TEntry) : Option Nat := if e.ch * 8 % fmtWidth e.fmt = 0 then some (e.ch * 8 / fmtWidth e.fmt) else none

/-- Do the RS entry and the copy's AG entry give every member the same shard (R396)? -/
def State.shardsAgree (s : State) (c g : Nat) (e : TEntry) (v : Nat) : Bool :=
  match s.slotFor c (uf v 0x20 3 % 2 ^ 20) with
  | none => false
  | some h =>
    match s.tEntry h (uf v 0x24 2) with
    | .error _ => false
    | .ok k => e.elems == k.elems && s.grpN g == s.grpN h && s.grpRank g == s.grpRank h
        && (s.grpN g == 1 || (e.perChunk.isSome && e.perChunk == k.perChunk))

/-- What the update of one element writes. -/
structure ElemOut where
  master : Nat
  rem : Nat
  m1 : Nat
  m2 : Nat
  copy : Nat
  frozen : Bool
  silent : Bool
  nan : Bool
  /-- the copy's conversion saturated (R47) -/
  sat : Bool
deriving DecidableEq, Repr

/-- Read a little-endian field of the epoch arrays in the update die (R330, R406). -/
def State.updRead (s : State) (d : Nat) (base : Int) (n : Nat) : Except Flt Nat :=
  s.spReadSafe d 0 0 0 (base % (2 ^ 64 : Nat)).toNat n false true

/-- Update element i, at place j of the shard, with gradient pattern g (R404, R406, R407). -/
def State.updElem (s : State) (a : ArmRec) (prog : List Word) (step : DWord) (i j g : Nat) : Except Flt ElemOut := do
  let d := s.domOf a.ctx
  let v := a.v
  let sto := uflag v 0
  let mb : Nat := if uflag v 3 then 2 else 4
  let m ← s.updRead d (a.cur + uoff v 0x28 + 2 * j) 2
  let q ← if sto then pure 0 else s.updRead d (a.cur + uoff v 0x30 + 2 * j) 2
  let p1 ← if uflag v 1 then s.updRead d (a.cur + uoff v 0x38 + mb * j) mb else pure 0
  let p2 ← if uflag v 2 then s.updRead d (a.cur + uoff v 0x40 + mb * j) mb else pure 0
  let maskB ← if uflag v 5 then s.updRead d ((uf v 0x50 8 : Nat) + (j / 8 : Nat)) 1 else pure 0
  let frozen := uflag v 4 || (uflag v 5 && maskB / 2 ^ (j % 8) % 2 == 1)
  let widen (x : Nat) : Nat := f32Flush (if uflag v 3 then x * 2 ^ 16 else x)
  let r1 := if sto then f32Flush (m * 2 ^ 16) else readMaster m q
  let regs := [g, r1, if uflag v 1 then widen p1 else 0, if uflag v 2 then widen p2 else 0] ++ List.replicate 12 0
  let out := if frozen then regs else prog.foldl (uaStep a.scalars) regs
  let x := out.getD 1 0
  let narrow (y : Nat) : Nat := if uflag v 3 then (convert 1 .rne false false 0 (decodeFloat 0 y)).bits else y
  let (wm, wq) := if frozen then (m, q)
    else if sto then
      ((convert 1 (.sr (srDraw (s.rd64 (reg (pgCTX a.ctx) Off.CTX_SR_SEED_LO)) (uf v 0x12 2) step (BitVec.ofNat 64 i))) false false 0 (decodeFloat 0 x)).bits, 0)
    else writeMaster x
  let w1 := if frozen then p1 else narrow (out.getD 2 0)
  let w2 := if frozen then p2 else narrow (out.getD 3 0)
  let fm := uf v 0xC 1 % 16
  let sh := sext (uf v 0xD 1) 8
  let y := (decodeFloat 0 x).scale ((if fm = 8 then 6 else 0) - sh)
  let conv := convert fm .rne true false 0 y
  let cp := conv.bits
  let isNaN (f p : Nat) : Bool := (decodeFmt f 0 p).isNaN
  let momF := if uflag v 3 then 1 else 0
  pure { master := wm, rem := wq, m1 := w1, m2 := w2, copy := cp, frozen := frozen, silent := frozen || (wm == m && wq == q),
         nan := isNaN 1 wm || (uflag v 1 && isNaN momF w1) || (uflag v 2 && isNaN momF w2) || isNaN fm cp,
         sat := conv.sat }

/-- Patterns of `w` bits as bytes from a base address, from element number `first` on; bytes shared with outside elements keep their bits. -/
def State.packRun (s : State) (d : Nat) (base : Int) (first w : Nat) (ps : List Nat) : List (Nat × Byte) :=
  let b : Nat := (base % (2 ^ 64 : Nat)).toNat
  let old (x : Nat) : Byte := match s.spRead d 0 0 0 x 1 false true with
    | .ok (y, _) => BitVec.ofNat 8 y
    | .error _ => 0
  packBits old w ((ps.zipIdx).map fun p => (b + (first + p.2) * w / 8, (first + p.2) * w % 8, p.1))

/-- NaN events of a chunk's results: those of 64 elements, the lanes of one pipe, fall in one cycle (R64, R66, R391, R411). -/
def State.chunkNans (s : State) (a : ArmRec) (pipe j0 : Nat) (outs : List ElemOut) : State :=
  let ev (k : Nat) : List (Nat × Nat) := (((outs.drop (64 * k)).take 64).zipIdx.filter fun p => p.1.nan).map fun p =>
    (2 ^ 31 + pipe * 2 ^ 14 + p.2 / 16 * 2 ^ 12, (j0 + 64 * k + p.2) % 2 ^ 32)
  (List.range (cdiv outs.length 64)).foldl (fun t k => t.nanEvents a.ctx a.off (ev k)) s

/-- Cycles in which a pipe was engaged: each instruction takes one for 64 elements; where other pipes run beside it the overlap, and for every chunk what its memory adds, is a free number (R391, R424; log entry 42, DESIGN CHOICE). -/
def State.countPipe (s : State) (prog n : Nat) : State :=
  let (v, t) := s.draw
  t.inc (reg pgUPD Off.UPD_BUSY_CYCLES) ((if (s.landq.filter fun l => l.pipe.isSome).length ≤ 1 then prog * cdiv n 64 else 0) + v.toNat % 2 ^ 32)

/-- Update every element of a landed chunk of an armed entry: the armed entry after it, and the state (R47, R406, R411, R417, R534). -/
def State.updChunk (s : State) (a : ArmRec) (e : TEntry) (l : Landing) : Except Flt State := do
  let d := s.domOf a.ctx
  let step := s.step' a.ctx
  let v := a.v
  let w := fmtWidth e.fmt
  let per := e.ch * 8 / w
  let i0 := l.chunk * per
  let e0 := e.first (s.grpN l.slot) (s.grpRank l.slot) * per
  let n := l.data.length * 8 / w
  let raw := leOf l.data
  let prog := s.program (uf v 0x10 1)
  let outs ← (List.range n).mapM fun t =>
    let p := raw / 2 ^ (w * t) % 2 ^ w
    s.updElem a prog step (i0 + t) (i0 + t - e0) (if isBfxFmt e.fmt then f32Round true (decodeFmt e.fmt l.scale p) else f32Flush p)
  let j0 := i0 - e0
  let sto := uflag v 0
  let mb : Nat := if uflag v 3 then 16 else 32
  let keep := decide (a.cur = a.alt)
  let run (off : Nat) (w' : Nat) (f : ElemOut → Nat) : List (Nat × Byte) :=
    -- unchanged values of frozen elements are not written when both bases are equal (R413)
    if keep && outs.all ElemOut.frozen then [] else s.packRun d (a.alt + uoff v off) j0 w' (outs.map f)
  let master := run 0x28 16 ElemOut.master
  let rem := if sto then [] else run 0x30 16 ElemOut.rem
  let m1 := if uflag v 1 then run 0x38 mb ElemOut.m1 else []
  let m2 := if uflag v 2 then run 0x40 mb ElemOut.m2 else []
  let copy := s.packRun d (a.copy + uoff v 0x48) i0 (fmtWidth (uf v 0xC 1 % 16)) (outs.map ElemOut.copy)
  let t ← [master, rem, m1, m2, copy].foldlM (fun t b => t.spWrite d 0 0 0 b false true) s
  let bytesOf (b : List (Nat × Byte)) : List Byte := b.map Prod.snd
  let le (w' : Nat) (f : ElemOut → Nat) : List Byte := outs.flatMap fun o => toLe (w' / 8) (f o)
  let msg := ("VT1 TWIN".toList.map fun ch => BitVec.ofNat 8 ch.toNat) ++ toLe 2 a.ent ++ List.replicate 6 0 ++ toLe 8 step.toNat ++ toLe 4 l.chunk
    ++ le 16 ElemOut.master ++ (if sto then [] else le 16 ElemOut.rem) ++ (if uflag v 1 then le mb ElemOut.m1 else [])
    ++ (if uflag v 2 then le mb ElemOut.m2 else []) ++ bytesOf copy
  let hits := (outs.filter ElemOut.frozen).length
  let a' : ArmRec := { a with chunks := if a.chunks.contains l.chunk then a.chunks else a.chunks ++ [l.chunk], amax := max a.amax l.amax, silent := a.silent && outs.all ElemOut.silent, frozen := a.frozen + hits }
  let t := (t.setArm a').modStep a.ctx fun r => { r with digests := mapPut (a.ent * 2 ^ 32 + l.chunk) (leOf (shake256 msg 8)) r.digests }
  let t := t.inc64 (reg pgUPD Off.UPD_ELEMS_LO) n
  let t := if 0 < hits && a.frozen = 0 && uflag v 6 then t.raise pgUPD 0 else t
  let t := (t.inc (reg (pgCTX a.ctx) Off.CTX_SAT_COUNT) (outs.filter ElemOut.sat).length).countPipe prog.length n
  let t := t.chunkNans a (l.pipe.getD 0) j0 outs
  pure (if outs.any ElemOut.nan then t.updErr a.ctx Err.UPDATE_NAN a.ent else t)

/-- A landed chunk is updated, or discarded under R379, R396, R410, R412 or R416. -/
def State.takeChunk (s : State) (l : Landing) : State :=
    match s.inst l.slot l.tensor with
    | none => s
    | some i =>
      let c := s.grpCtx l.slot
      let ent := i.e.upd
      if i.redo ≠ l.redo || (s.getGrp l.slot).aborted then s
      else if l.step ≠ s.step' c then
        let s := s.updErr c Err.STEP_SKEW ent
        let s := (s.wr (updReg c Off.UPD_CTX_SKEW_FRAME) (l.step.setWidth 32)).wr (updReg c Off.UPD_CTX_SKEW_CTX) ((s.step' c).setWidth 32)
        { s with armRecs := s.armRecs.map fun a => if a.ctx == c && a.ent == ent then { a with bad := true } else a }
      else match s.armRecs.find? fun a => a.ctx == c && a.ent == ent with
        | none => s.updErr c Err.UPD_NOT_ARMED ent
        | some a =>
          if a.aborted || a.bad then s
          else if a.src.isNone && !s.shardsAgree c l.slot i.e a.v then (s.updErr c Err.UPD_ENTRY_INVALID ent).setArm { a with bad := true }
          else if a.src.isSome && a.src ≠ some (l.slot, l.tensor) then (s.updErr c Err.UPD_ENTRY_INVALID ent).setArm { a with bad := true }
          else
            let a := { a with src := some (l.slot, l.tensor) }
            match s.updChunk a i.e l with
            | .ok t => t
            | .error f => (s.updErr c f.code ent).setArm { a with bad := true }

/-- The oldest landed chunk whose pipe has its current is carried out; the pipe is free for the next (R393). -/
def State.landChunk (s : State) : State :=
  match s.landq.find? fun l => l.pipe.any fun p => !s.pipeWaits p with
  | none => s
  | some l =>
    let t := s.takeChunk l
    ({ t.releaseUnits (fun u => l.pipe.any u.isPipe) none with landq := t.landq.erase l } : State).engage

/-- Hand over the copy of every tensor whose RS instance and shard are complete (R409). -/
def State.handCopies (s : State) : State :=
  s.armRecs.foldl (fun t a =>
    if a.handed || a.aborted || a.bad then t
    else
      let found := (t.openGrps a.ctx).findSome? fun g =>
        ((t.getGrp g).insts.find? fun i => i.e.kind == 0 && i.e.destUpd && i.e.upd == a.ent && i.done).map fun i => (g, i)
      match found, t.slotFor a.ctx (uf a.v 0x20 3 % 2 ^ 20) with
      | some (g, i), some h =>
        if a.chunks.length < t.wantChunks g i.e || t.landq.any (fun l => l.slot == g && l.tensor == i.tensor) then t
        else
          let per := i.e.ch * 8 / fmtWidth i.e.fmt
          let r := t.grpRank g
          let e0 := i.e.first (t.grpN g) r * per
          let e1 := min i.e.elems (i.e.first (t.grpN g) (r + 1) * per)
          let fm := uf a.v 0xC 1 % 16
          let o : Opnd := { space := 0, fmt := fm, base := ((a.copy : Int) + uoff a.v 0x48) % (2 ^ 64 : Nat), count := [e1 - e0, 1, 1, 1], stride := [1, 0, 0, 0],
                            offset := (e0 : Int), indDim := 0, indEn := false, indRouter := false, indToken := false, routerC := 0, zb := false,
                            isMeta := false, scaled := false, delayed := false, blk := 0, mask := false, auxMap := 0, auxIdx := 0, auxScale := 0, cl := 0, core := 0 }
          let t := t.setArm { a with handed := true }
          if e1 ≤ e0 then
            -- an empty shard sends nothing: the copy's instance is open all the same
            match t.openInst h (uf a.v 0x24 2) with
            | .ok u => u.1
            | .error f => t.ctxFault a.ctx f
          else
            let x : SendRec := { ctx := a.ctx, id := none, off := 0, slot := h, tensor := uf a.v 0x24 2, rs := false, o := o, amax := some a.amax }
            (({ t with sends := t.sends ++ [x] } : State).startDeadline h x.tensor t.now.toNat).runSend x
      | _, _ => t) s

/-! ## Schedules (R419 to R422) -/

/-- FP32 of an integer. -/
def f32OfNat (n : Nat) : Nat := f32Round true (ofInt n)

/-- COSPI (R420). -/
def cosPi (f : Nat) : Nat :=
  match ropePhase 1 (f32Mul f 0x3F000000) with
  | some ph => ropeTrig true ph
  | none => f32NaN

/-- The restart cycle: position in the period, period and cycle (R420). -/
def restart (mult : Nat) : Nat → Nat → Nat → Nat → Nat × Nat × Nat
  | 0, s, p, i => (s, p, i)
  | fuel + 1, s, p, i =>
    if mult = 1 then (s % p, p, s / p)
    else if p ≤ s then restart mult fuel (s - p) (p * mult) (i + 1) else (s, p, i)

/-- Evaluate a schedule slot at a step (R420, R422). -/
def State.evalSched (s : State) (slot : Nat) (step : Nat) : SchedStage :=
  let r (off : Nat) : Nat := (s.rd (wreg slot pgSCHD off)).toNat
  let cfg := r Off.SCHD_CFG
  let tau := step - (s.rd64 (wreg slot pgSCHD Off.SCHD_START_STEP_LO)).toNat
  let wu := r Off.SCHD_WARMUP
  let mn := r Off.SCHD_MIN
  let one := 0x3F800000
  let t := f32OfNat (tau + 1)
  let decay := cfg / 2 % 8
  let (lr, i, f) : Nat × Nat × Nat :=
    if tau < wu then
      let x := f32Mul t (f32Fn .rcp (f32OfNat wu))
      (if cfg % 2 = 0 then f32Mul (r Off.SCHD_PEAK) x
       else f32Mul (r Off.SCHD_PEAK) (f32Fn .exp2 (f32Mul (r Off.SCHD_WU_K) (f32Sub x one))), 0, 0)
    else
      let (sx, p, i) := if cfg / 16 % 2 = 1 then restart (r Off.SCHD_MULT) 70 (tau - wu) (max 1 (r Off.SCHD_PERIOD)) 0 else (tau - wu, r Off.SCHD_PERIOD, 0)
      let pk := f32Mul (r Off.SCHD_PEAK) (f32Fn .exp2 (f32Mul (f32OfNat i) (f32Fn .log2 (r Off.SCHD_PEAK_DECAY))))
      let f := f32Min (f32Mul (f32OfNat sx) (f32Fn .rcp (f32OfNat p))) one
      let lr := match decay with
        | 0 => f32Add mn (f32Mul (f32Sub pk mn) (f32Mul 0x3F000000 (f32Add one (cosPi f))))
        | 1 => f32Add mn (f32Mul (f32Sub pk mn) (f32Sub one f))
        | 2 => f32Max mn (f32Mul pk (f32Fn .rsqrt (f32Add one (f32Mul (f32OfNat sx) (f32Fn .rcp (f32OfNat (max wu 1)))))))
        | 3 => f32Max mn (f32Mul pk (f32Fn .exp2 (f32Mul (f32OfNat sx) (r Off.SCHD_LOG2_GAMMA))))
        | _ => f32Max mn (f32Mul pk (f32Fn .exp2 (f32Mul (f32OfNat (sx / max 1 (r Off.SCHD_INTERVAL))) (r Off.SCHD_LOG2_GAMMA))))
      (lr, i, f)
  let b1 := r Off.SCHD_BETA1
  let b2 := r Off.SCHD_BETA2
  let p1 := f32Mul (r Off.SCHD_P1) b1
  let p2 := f32Mul (r Off.SCHD_P2) b2
  let q1 := f32Fn .rcp (f32Sub one p1)
  let s2 := f32Sqrt (f32Sub one p2)
  { slot := slot, p1 := p1, p2 := p2,
    outs := [lr, f32Mul lr (r Off.SCHD_WD), b1, f32Sub one b1, b2, f32Sub one b2, f32Mul lr (f32Mul s2 q1), f32Mul (r Off.SCHD_EPS) s2,
             q1, f32Fn .rcp (f32Sub one p2), p1, p2, f32OfNat tau, f32OfNat i, f, 0] }

/-- UPD_SCHEDULE (R419). -/
def State.schedule (s : State) (c slot : Nat) : Except Flt State :=
  let k := s.rd (wreg slot pgSCHD Off.SCHD_CTX)
  let cfg := s.rd (wreg slot pgSCHD Off.SCHD_CFG)
  let t := (s.step' c).toNat
  let start := (s.rd64 (wreg slot pgSCHD Off.SCHD_START_STEP_LO)).toNat
  let last := (s.rd64 (wreg slot pgSCHD Off.SCHD_LAST_STEP_LO)).toNat
  if !bit k 31 || fld k 0 14 ≠ c || 5 ≤ fld cfg 1 3 || fld cfg 5 27 ≠ 0 then .error ⟨Err.SCHEDULE_INVALID, slot, 0⟩
  else if t < start || (t ≠ (last + 1) % 2 ^ 64 && !(last = 2 ^ 64 - 1 && t = start)) then .error ⟨Err.SCHEDULE_SKEW, slot, 0⟩
  else
    let x := s.evalSched slot t
    let s := (x.outs.zipIdx).foldl (fun u p => u.wr (wreg slot pgSCHD (Off.SCHD_OUTk + 4 * p.2)) (BitVec.ofNat 32 p.1)) s
    .ok (s.modStep c fun r => { r with sched := (r.sched.filter fun y => y.slot != slot) ++ [x] })

/-! ## Resolution (R59, R415, R417, R418, R421) -/

/-- Append a staged amax to the history of a scale record (R59). -/
def State.appendAmax (s : State) (c record a : Nat) (t : DWord) : State :=
  let d := s.domOf c
  match s.auxRead d record 0 128 0 0 with
  | .error _ => s
  | .ok v =>
    let head := (srec v 0x11 1 + 1) % 16
    let sp := record / 2 ^ 62 % 4
    let base := record % 2 ^ 52
    let bs := bytesAt base 8 t.toNat ++ bytesAt (base + 0x10) 1 (min 16 (srec v 0x10 1 + 1)) ++ bytesAt (base + 0x11) 1 head
      ++ bytesAt (base + 0x40 + 4 * head) 4 a
    match s.spWrite d sp 0 0 bs with
    | .ok u => u
    | .error _ => s

/-- SILENCE would reach the threshold if the step committed (R414, R418). -/
def State.wouldSilence (s : State) (a : ArmRec) : Bool :=
  match s.updRead (s.domOf a.ctx) ((uf a.v 0x58 8 : Nat) : Int) 32 with
  | .ok v =>
    let th := if uf a.v 0xE 2 = 0 then 1000 else uf a.v 0xE 2
    a.silent && min (2 ^ 32 - 1) (uf v 8 4 + 1) == th
  | .error _ => false

/-- Write a committed tensor's status record (R418). -/
def State.writeStatus (s : State) (a : ArmRec) (t : DWord) (fl : Nat) : State :=
  let d := s.domOf a.ctx
  let at' := uf a.v 0x58 8
  match s.updRead d (at' : Int) 32 with
  | .error _ => s
  | .ok v =>
    let th := if uf a.v 0xE 2 = 0 then 1000 else uf a.v 0xE 2
    let sil := if a.silent then min (2 ^ 32 - 1) (uf v 8 4 + 1) else 0
    let hit := a.silent && sil == th
    let flags := uf v 0xC 4 ||| b2n hit
    let bs := bytesAt at' 8 t.toNat ++ bytesAt (at' + 8) 4 sil ++ bytesAt (at' + 0xC) 4 flags
      ++ bytesAt (at' + 0x10) 8 (uf v 0x10 8 + fl) ++ bytesAt (at' + 0x18) 8 (uf v 0x18 8 + a.frozen)
    let s := match s.spWrite d 0 0 0 bs false true with
      | .ok u => u
      | .error _ => s
    if hit then
      let k := updReg a.ctx Off.UPD_CTX_ERR
      (s.wrFld k 16 16 (a.ent % 2 ^ 16)).pageErr pgUPD Err.TENSOR_SILENT a.ctx a.ent 0x2#32
    else s

/-- The step of a context ends: entries are disarmed, and what it staged is gone. The errors of the step, its twin exchange and its VOTEs in flight stay until the next replay starts, for a stream may reach its VOTE after an abort has resolved its step (R29, R380, R416). -/
def State.endStep (s : State) (c : Nat) : State :=
  let s : State := { s with armRecs := s.armRecs.filter fun a => a.ctx != c, amax := s.amax.filter fun x => x.1.1 != c, armed := s.armed.filter (· != c) }
  (s.modStep c fun r => { r with decision := none, commit := false, unresolved := false, digests := [], flushes := [] }).modCtx c fun r =>
    { r with stepPending := false, voted := false }

/-- A replay starts with a clean step record; a window closed by an abort counts for its own step only, and a VOTE that a released replay left in flight retires. -/
def State.newStep (s : State) (c : Nat) : State :=
  let s : State := { s with armRecs := s.armRecs.filter fun a => a.ctx != c, amax := s.amax.filter fun x => x.1.1 != c,
                            grps := s.grps.map fun p => if s.grpCtx p.1 == c then (p.1, { p.2 with shut := false }) else p }
  let s := (s.getStep c).votes.foldl (fun t v => t.retireVotes c v.2) s
  (s.wr (updReg c Off.UPD_CTX_ERR) 0).setStep c {}

/-- Do the writes of a resolution that no command issues fit under the ceiling of account 11: the status records of the committed tensors and the appended amaxes (R284, R287, R393)? -/
def State.burst (s : State) (c : Nat) : Bool := s.armRecs.any (fun a => a.ctx == c && !a.bad && !a.aborted) || s.amax.any fun x => x.1.1 == c

/-- The reservation UPD_BURST of a resolution (R393). -/
def State.burstUnit (s : State) (c : Nat) : LUnit := { acct := 11, ix := 512, iclass := 15, dom := s.domOf c, prio := s.ctxClass c }

/-- May the burst of a resolution be drawn now? -/
def State.burstFits (s : State) (c : Nat) : Bool :=
  !s.burst c || decide (s.workOf 11 (s.lresv ++ [s.burstUnit c]) ≤ s.ceil 11)

/-- The step resolves (R415). -/
def State.resolveStep (s : State) (c : Nat) : State :=
  let r := s.getStep c
  if !(s.getCtx c).stepPending || !r.commit then s
  else if r.decision == some true && !s.burstFits c then s
  else match r.decision with
    | none => s
    | some false => ((s.inc (updReg c Off.UPD_CTX_DISCARDS)).raise pgUPD 5).endStep c
    | some true =>
      let t := s.step' c
      let d := s.domOf c
      let s := if s.burst c then s.notePeak 11 (s.workOf 11 (s.lresv ++ [s.burstUnit c])) else s
      let s := s.fenceEntries fun e => e.dom == d
      let k := updReg c Off.UPD_CTX_EPOCH
      let s := s.wrBit k 0 (!bit (s.rd k) 0)
      let s := s.wr64 (reg (pgCTX c) Off.CTX_STEP_LO) (t + 1)
      let s := (s.amax.filter fun x => x.1.1 == c).foldl (fun u x => u.appendAmax c x.1.2 x.2 t) s
      let s := r.sched.foldl (fun u x =>
        ((u.wr (wreg x.slot pgSCHD Off.SCHD_P1) (BitVec.ofNat 32 x.p1)).wr (wreg x.slot pgSCHD Off.SCHD_P2) (BitVec.ofNat 32 x.p2)).wr64
          (wreg x.slot pgSCHD Off.SCHD_LAST_STEP_LO) t) s
      let mine := s.armRecs.filter fun a => a.ctx == c && !a.bad && !a.aborted
      let s := mine.foldl (fun u a => u.writeStatus a t (mapGet 0 r.flushes a.ent)) s
      let s := s.inc64 (updReg c Off.UPD_CTX_FROZEN_HITS_LO) (mine.foldl (fun n a => n + a.frozen) 0)
      let s := s.wr (wreg c pgTWIN Off.TWIN_CTX_REPEAT) 0
      ((s.inc (updReg c Off.UPD_CTX_COMMITS)).raise pgUPD 4).endStep c

/-! ## The vote (R380, R412, R535) -/

/-- The next VOTE of a context whose vote has still to leave: command and slot. -/
def State.voteNext (s : State) (c : Nat) : Option (Nat × Nat) := (s.getStep c).votes.find? fun v => !(s.getGrp v.2).voteSent || (s.getGrp v.2).shut

/-- Conditions of R380 for the next vote of a context, which has its current. -/
def State.voteReady (s : State) (c : Nat) : Bool :=
  match s.voteNext c with
  | some (id, g) => ((s.getGrp g).winOpen || (s.getGrp g).shut) && !s.waitsCurrent c id none && s.instsDone c && s.updDone c
      && s.landq.all fun l => s.grpCtx l.slot != c
  | none => false

/-- The member's vote leaves (R380, R412, R414). -/
def State.sendVote (s : State) (c g : Nat) : State :=
  let late := s.armRecs.filter fun a => a.ctx == c && a.src.isNone && !a.handed && !a.aborted && !a.bad
  let s := late.foldl (fun u a => u.updErr c Err.UPD_INCOMPLETE a.ent) s
  let mine := s.armRecs.filter fun a => a.ctx == c
  let abort := (s.getStep c).firstErr.isSome
  let word := s.voteWord c abort (mine.any s.wouldSilence) (mine.any fun a => decide (0 < a.frozen))
  let twin := if (s.getStep c).twin.isSome then s.stepDigest c % 2 ^ 32 else 0
  let err := match (s.getStep c).firstErr with | some e => e.toNat | none => 0
  let s := s.wr (updReg c Off.UPD_CTX_VOTE) (BitVec.ofNat 32 word)
  s.sendGw ((s.grpPorts g).headD 0)
    { kind := 0, op := 4, flags := if abort then 4 else 0, group := s.groupWord g, seq := 0xFFFF, step := (s.step' c).toNat,
      src := s.grpRank g, err := if abort then err else 0, len := 8, data := toLe 4 word ++ toLe 4 twin }

/-- Cast the vote of a group whose window is open: its deadline runs from here (R375, R380). -/
def State.castVote (s : State) (c g : Nat) : State :=
  let s := s.sendVote c g
  let s := s.modGrp g fun x => { x with voteSent := true, vote := 1 }
  s.startTimeout (deadKey false g 0xFFFF) (s.now.toNat + s.grpTimeout g)

/-- The twin exchange leaves, or its outcome is recorded (R535, R536). -/
def State.twinStep (s : State) (c g : Nat) : State :=
  let r := s.getStep c
  match r.twin with
  | none => s.castVote c g
  | some h =>
    if r.twinRun then s.castVote c g
    else if (s.getGrp h).aborted || (s.getGrp g).aborted then (s.modStep c fun x => { x with twinRun := true }).castVote c g
    else
      let d := s.stepDigest c
      if !r.twinSent then
        let rank := s.grpRank h
        let s := s.sendGw ((s.grpPorts h).getD (rank % (s.grpPorts h).length) 0)
          { kind := 0, op := 3, fmt := 11, flags := 8, group := s.groupWord h, seq := 0xFFFE, chunk := rank, step := (s.step' c).toNat, src := rank,
            digest := s.digest h 11 3 0xFFFE 0 8 0, len := 8, data := toLe 8 d }
        let s := s.inc64 (grpReg h Off.COLL_GRP_TX_LO)
        let s := s.startTimeout (deadKey false h 0xFFFE) (s.now.toNat + s.grpTimeout h)
        s.modStep c fun x => { x with twinSent := true }
      else match r.twinPeer with
        | none => s
        | some p =>
          let k (o : Nat) : Nat := wreg c pgTWIN o
          let s := s.stopTimeout (deadKey false h 0xFFFE)
          let s := (s.wr64 (k Off.TWIN_CTX_OWN_LO) (BitVec.ofNat 64 d)).wr64 (k Off.TWIN_CTX_PEER_LO) (BitVec.ofNat 64 p)
          let s := s.wrFld (k Off.TWIN_CTX_STATE) 1 2 (1 + 2 * b2n (p ≠ d))
          let s := s.modStep c fun x => { x with twinRun := true }
          if p = d then s.castVote c g
          else
            let s := (s.inc (k Off.TWIN_CTX_DIVERGED)).inc (k Off.TWIN_CTX_REPEAT)
            let s := s.pageErr pgTWIN Err.TWIN_DIVERGED c 0 0x1#32
            let s := if fld (s.rd (k Off.TWIN_CTX_CFG)) 0 3 ≤ (s.rd (k Off.TWIN_CTX_REPEAT)).toNat then s.raise pgTWIN 1 else s
            (s.stepErr c Err.TWIN_DIVERGED).castVote c g

end Sys2Proof.Machine
end

