-- ==== Sys2Proof/Machine/Exchange.lean ====
section
/-! DEFINITION. Ports, queue pairs and memory regions, exchange parcels, ingest and checkpoint rings (R383 to R387, R427 to R429, R444 to R454). -/

namespace Sys2Proof.Machine

open Sys2Proof

/-! ## Ports (R428, R453, R459) -/

/-- Key of a register of an ETH page given as received. -/
def State.linkUp (s : State) (p : Nat) : Bool := bit (s.rd (ethReg p Off.ETH_STATE)) 0

/-- A frame arrives: counted, and discarded where the port needs MACsec and lacks it; true when it goes on (R446, R453, R459). -/
def State.rxFrame (s : State) (rx : Rx) : State × Bool :=
  let p := rx.port.toNat
  if !(s.portPresent p && s.linkUp p) then (s, false)
  else
    let s := s.countFrame p false
    let s := if rx.ce then s.inc (ethReg p Off.ETH_ECN_CE) else s
    if bit (s.rd (ethReg p Off.ETH_MSEC_CFG)) 0 && !(rx.secured && bit (s.rd (ethReg p Off.ETH_STATE)) 3) then
      (s.inc (ethReg p Off.ETH_MSEC_DISCARDS), false)
    else (s, true)

/-- A received Gwetur frame goes to its handler when its port delivers it. -/
def State.rxGw (s : State) (rx : Rx) (f : Gw) (k : State → State) : State :=
  match s.rxFrame rx with
  | (t, false) => t
  | (t, true) => k (t.serdes (t.groupDom (f.group % 2 ^ 20)) f.bytes.length)

/-- A port links up (R427, R459). -/
def State.portUp (s : State) (p : Nat) : State :=
  if !s.portPresent p || s.linkUp p then s
  else
    let cfg := s.rd (ethReg p Off.ETH_CFG)
    let an := bit cfg 2 && decide (fld cfg 0 2 ≤ 1)
    let k := ethReg p Off.ETH_STATE
    let s := s.wr k (BitVec.ofNat 32 (1 + 2 * b2n an + 4 + 8 * b2n (bit (s.rd k) 3)))
    s.raise (pgETH p) 1

/-- The MACsec state of a port falls (R453). -/
def State.msecDown (s : State) (p : Nat) : State :=
  if !bit (s.rd (ethReg p Off.ETH_STATE)) 3 then s
  else
    let s := s.wrBit (ethReg p Off.ETH_STATE) 3 false
    let s := s.wrFld (ethReg p Off.ETH_MSEC_STATE) 0 2 0
    let s := s.wrBit (reg pgMSEC Off.MSEC_PORTS_SECURED) p false
    s.raise (pgETH p) 2

/-- A port loses its link (R459); a PTP port that loses it counts toward R311. -/
def State.portDown (s : State) (p : Nat) : State :=
  if !s.linkUp p then s
  else
    let s := s.msecDown p
    let s := s.wrFld (ethReg p Off.ETH_STATE) 0 3 0
    let s := s.raise (pgETH p) 0
    let inUse := bit (s.rd (tReg Off.TIME_STATE)) 3
    if p = 16 + b2n inUse then { s with time := { s.time with linkLost := true } } else s

/-- MKA installs an SAK under the link key of the present generation (R453, R465). -/
def State.sakInstalled (s : State) (p : Nat) : State :=
  if !(s.portPresent p && s.linkUp p) then s
  else
    let gen := fld (s.rd (wreg p pgKEY Off.KEY_PORT_LINK_GEN)) 0 6
    let was := bit (s.rd (ethReg p Off.ETH_STATE)) 3
    let s := s.wr (ethReg p Off.ETH_MSEC_STATE) (BitVec.ofNat 32 (3 + 4 * gen))
    let s := s.wrBit (ethReg p Off.ETH_STATE) 3 true
    let s := s.wrBit (reg pgMSEC Off.MSEC_PORTS_SECURED) p true
    let s := s.inc (reg pgMSEC Off.MSEC_SAK_CHANGES)
    if was then s else s.raise (pgETH p) 3

/-- One priority of a received PFC frame: the pause so far is counted, and a new one begins (R428, R459). -/
def State.pfcOne (s : State) (p prio quanta : Nat) : State :=
  let now := s.now.toNat
  let key := p * 8 + prio
  let r := mapGet {} s.pfc key
  let t := mapGet 0 s.pfcNs p + (min now r.until' - min r.from' now)
  let s : State := { s with pfcNs := mapSet 0 s.pfcNs p (t % 1000) }
  let s := s.inc (ethReg p Off.ETH_PFC_PAUSED) (t / 1000)
  -- a quantum is 512 bit times: 1.28 ns at 400 Gb/s, 0.64 ns at 800 Gb/s
  let ns := quanta * (if 16 ≤ p then 128 else 64) / 100
  { s with pfc := mapSet {} s.pfc key (if ns = 0 then {} else { from' := now, until' := now + ns }) }

/-- A PFC frame: priorities it names and PFC enables (R428). -/
def State.pfcFrame (s : State) (p mask : Nat) (quanta : List Nat) : State :=
  if !(s.portPresent p && s.linkUp p) then s
  else
    let en := fld (s.rd (ethReg p Off.ETH_CFG)) 3 8
    (List.range 8).foldl (fun t i => if mask / 2 ^ i % 2 = 1 ∧ en / 2 ^ i % 2 = 1 then t.pfcOne p i (quanta.getD i 0) else t) (s.countFrame p false)

/-! ## Queue pairs (R445, R446, R458) -/

/-- Key of a register of QP entry q. -/
def qpReg (q off : Nat) : Nat := wreg q pgMGMT off
/-- STATE of a QP: 0 RESET, 1 READY, 2 ERROR. -/
def State.qpState (s : State) (q : Nat) : Nat := fld (s.rd (qpReg q Off.MGMT_QP_STATE)) 0 2
/-- Port of a QP. -/
def State.qpPort (s : State) (q : Nat) : Nat := fld (s.rd (qpReg q Off.MGMT_QP_CFG)) 0 5
/-- Owning domain of a QP. -/
def State.qpOwner (s : State) (q : Nat) : Nat := fld (s.rd (qpReg q Off.MGMT_QP_CFG)) 10 10
/-- The record of a QP. -/
def State.getQp (s : State) (q : Nat) : QpRec := mapGet {} s.qps q
/-- Replace the record of a QP. -/
def State.setQp (s : State) (q : Nat) (r : QpRec) : State := { s with qps := mapSet {} s.qps q r }

/-- Send a request on a QP that is READY; the ACK timer runs from the first unacknowledged one (R445, R458). -/
def State.qpSend (s : State) (q : Nat) (kind : String) (fields : List Nat) (data : List Byte) : State :=
  let r := s.getQp q
  if s.qpState q ≠ 1 then s
  else
  let s := s.setQp q { r with outs := r.outs + 1, sentAt := if r.outs = 0 then s.timer else r.sentAt }
  s.sendFrame (s.qpPort q) (some (s.qpOwner q)) kind ((0x10000 + q) :: fields) data

/-- The oldest request of a QP is acknowledged. -/
def State.qpAck (s : State) (q : Nat) : State :=
  let r := s.getQp q
  s.setQp q { r with outs := r.outs - 1, sentAt := s.timer, retries := 0 }

/-- The ACK timeout of a QP in ns: 4.096 us × 2^t (R458). -/
def State.qpTimeout (s : State) (q : Nat) : Nat := 4096 * 2 ^ fld (s.rd (qpReg q Off.MGMT_QP_TIMER)) 0 5
/-- Retry limit of a QP. -/
def State.qpLimit (s : State) (q : Nat) : Nat := fld (s.rd (qpReg q Off.MGMT_QP_TIMER)) 5 3
/-- Has the ACK timer of a QP expired? -/
def State.qpLate (s : State) (q : Nat) : Bool :=
  s.qpState q == 1 && decide (0 < (s.getQp q).outs) && decide ((s.getQp q).sentAt + s.qpTimeout q ≤ s.evaluated)

/-- The timer expires with retries left: the QP sends again (R458). -/
def State.qpRetry (s : State) (q : Nat) : State :=
  if s.qpLate q && decide ((s.getQp q).retries < s.qpLimit q) then
    let r := s.getQp q
    (s.setQp q { r with retries := r.retries + 1, sentAt := s.timer }).sendFrame (s.qpPort q) (some (s.qpOwner q)) "RDMA RETRANSMIT" [0x10000 + q] []
  else s

/-- A CNP halves the rate (R446). -/
def State.qpCnp (s : State) (q : Nat) : State :=
  let r := s.getQp q
  s.setQp q { r with rate := r.rate / 2, rateAt := s.timer }

/-- 5 % of the rate returns every 55 us (R446). -/
def State.qpRecover (s : State) (q : Nat) : State :=
  let r := s.getQp q
  if r.rate < 1048576 ∧ r.rateAt + 55000 ≤ s.timer then
    s.setQp q { r with rate := min 1048576 (r.rate + 52429), rateAt := s.timer }
  else s

/-- Bytes of an element sequence in order, packed at the element width (R384, R450). -/
def State.seqBytes (s : State) (dom : Nat) (o : Opnd) (upd : Bool) : Except Flt (List Byte) := do
  let ps ← (List.range o.elems).mapM fun n => do
    match ← s.elemOff dom o false n with
    | none => pure 0
    | some e =>
      match ← s.readPat dom o false e upd with
      | (p, none) => pure p
      | (_, some f) => .error f
  let v := (ps.zipIdx).foldl (fun a p => a + p.1 * 2 ^ (o.width * p.2)) 0
  pure (toLe ((o.elems * o.width + 7) / 8) v)

/-! ## Parcels (R383 to R387) -/

/-- Key of a register of a parcel or landing entry. -/
def pclReg (p off : Nat) : Nat := wreg p pgCOLL off
/-- VALID of a parcel entry. -/
def State.pclValid (s : State) (p : Nat) : Bool := bit (s.rd (pclReg p Off.COLL_PCL_CFG)) 31
/-- Group slot of a parcel entry. -/
def State.pclSlot (s : State) (p : Nat) : Nat := fld (s.rd (pclReg p Off.COLL_PCL_CFG)) 0 12
/-- Landing index at the peer. -/
def State.pclLanding (s : State) (p : Nat) : Nat := fld (s.rd (pclReg p Off.COLL_PCL_PEER)) 16 16
/-- QP entry of a parcel entry: its QPN less 0x01_0000 (R445). -/
def State.pclQp (s : State) (p : Nat) : Nat := fld (s.rd (pclReg p Off.COLL_PCL_QP)) 0 24 - 0x10000

/-- Is a parcel entry one that PARCEL_SEND of a context may name (R384)? -/
def State.pclOf (s : State) (c p : Nat) : Bool := s.pclValid p && s.grpValid (s.pclSlot p) && s.grpCtx (s.pclSlot p) == c

/-- PARCEL_SEND asks the peer for a slot; an entry whose QP has failed sends nothing and retires (R384, R387). -/
def State.parcelSend (s : State) (c id p : Nat) (o : Opnd) : State :=
  let g := s.pclSlot p
  if bit (s.rd (pclReg p Off.COLL_PCL_STATE)) 2 || s.qpState (s.pclQp p) == 2 then
    match s.liveOf c id with | some l => s.retireCmd c l | none => s
  else
    let n := min ((o.elems * o.width + 7) / 8) (s.rd (pclReg p Off.COLL_PCL_CAP)).toNat
    let s : State := { s with parcels := s.parcels ++ [{ parcel := p, ctx := c, id := id, o := o }] }
    s.sendGw ((s.grpPorts g).headD 0)
      { kind := 5, group := s.groupWord g, seq := s.pclLanding p, chunk := n, step := (s.step' c).toNat, src := s.grpRank g }

/-- Common checks of PARCEL frames: CRC, version, reserved bits and group (R366, R370). -/
def State.parcelFrame (s : State) (f : Gw) (crc : DWord) (kind : Nat) : State × Option Nat :=
  if crc ≠ crc64 (f.header ++ f.data) then (s.inc (reg pgCOLL Off.COLL_CRC_FAIL), none)
  else
    match s.slotsOfGroup (f.group % 2 ^ 20) with
    | [] => (s.inc (reg pgCOLL Off.COLL_BAD_FRAMES), none)
    | g :: _ => if f.version ≠ 1 ∨ f.rsv ≠ 0 ∨ f.kind ≠ kind then (s.inc (reg pgCOLL Off.COLL_BAD_FRAMES), none) else (s, some g)

/-- The record of a landing entry. -/
def State.getLand (s : State) (l : Nat) : LandRec := mapGet {} s.lands l
/-- Replace the record of a landing entry. -/
def State.setLand (s : State) (l : Nat) (r : LandRec) : State := { s with lands := mapSet {} s.lands l r }
/-- Group slot of a landing entry. -/
def State.landSlot (s : State) (l : Nat) : Nat := fld (s.rd (pclReg l Off.COLL_LND_CFG)) 0 12
/-- VALID of a landing entry. -/
def State.landValid (s : State) (l : Nat) : Bool := bit (s.rd (pclReg l Off.COLL_LND_CFG)) 31

/-- Grant one waiting request under the tie rule, if a slot and a credit are free (R385). -/
def State.landGrant (s : State) : State :=
  let credits := fld (s.rd (reg pgCOLL Off.COLL_LAND_MAX)) 0 5
  let out := s.lands.foldl (fun a p => a + p.2.granted.length) 0
  let req := s.lands.filterMap fun p =>
    if 0 < p.2.pend ∧ p.2.granted.length + p.2.occ.length < 2 then some (p.1, s.ctxClass (s.grpCtx (s.landSlot p.1))) else none
  if credits ≤ out then s
  else match s.tieGrant 0x40000 4096 req with
    | (none, _) => s
    | (some l, t) =>
      let r := t.getLand l
      let slot := if r.granted.contains 0 || r.occ.contains 0 then 1 else 0
      let g := t.landSlot l
      let t := t.setLand l { r with pend := r.pend - 1, granted := r.granted ++ [slot] }
      t.sendGw ((t.grpPorts g).headD 0)
        { kind := 6, group := t.groupWord g, seq := l, chunk := slot, step := (t.step' (t.grpCtx g)).toNat, src := t.grpRank g }

/-- A PARCEL_REQ (R385). -/
def State.parcelReq (s : State) (f : Gw) (crc : DWord) : State :=
  match s.parcelFrame f crc 5 with
  | (s, none) => s
  | (s, some g) =>
    let l := f.seq % 2 ^ 16
    let okSlot := (s.slotsOfGroup (f.group % 2 ^ 20)).contains (s.landSlot l)
    if l < 4096 ∧ s.landValid l ∧ okSlot ∧ fld (s.rd (pclReg l Off.COLL_LND_SRC)) 0 16 = f.src then
      let r := s.getLand l
      (s.setLand l { r with pend := r.pend + 1 }).landGrant
    else
      (s.inc (reg pgCOLL Off.COLL_BAD_FRAMES)).sendGw ((s.grpPorts g).headD 0)
        { kind := 6, flags := 4, group := s.groupWord g, seq := f.seq, step := (s.step' (s.grpCtx g)).toNat, src := s.grpRank g, err := Err.PARCEL_INVALID.toNat }

/-- A PARCEL_GRANT: the granted slot is written, or the context faults (R384). -/
def State.parcelGrant (s : State) (f : Gw) (crc : DWord) : State :=
  match s.parcelFrame f crc 6 with
  | (s, none) => s
  | (s, some _) =>
    let slots := s.slotsOfGroup (f.group % 2 ^ 20)
    match s.parcels.find? fun x => x.granted.isNone && slots.contains (s.pclSlot x.parcel) && s.pclLanding x.parcel == f.seq % 2 ^ 16 with
    | none => s
    | some x =>
      let p := x.parcel
      let drop (t : State) : State := ({ t with parcels := t.parcels.erase x } : State).dropCmd x.ctx x.id
      if f.flag 2 then (drop s).ctxFault x.ctx ⟨Err.PARCEL_INVALID, p, s.pclLanding p⟩
      else
        match s.seqBytes (s.domOf x.ctx) x.o false with
        | .error e => (drop s).ctxFault x.ctx e
        | .ok bs =>
          let cap := (s.rd (pclReg p Off.COLL_PCL_CAP)).toNat
          let slot := f.chunk % 2
          let s := s.inc (pclReg p Off.COLL_PCL_DROPPED) (bs.length - cap)
          let s : State := { s with parcels := s.parcels.map fun y => if y == x then { y with granted := some slot } else y }
          let at' := ((s.rd64 (pclReg p Off.COLL_PCL_RADDR_LO)).toNat + slot * cap) % 2 ^ 64
          s.qpSend (s.pclQp p) "RDMA WRITE IMM" [(s.rd (pclReg p Off.COLL_PCL_RKEY)).toNat, at', s.pclLanding p + 2 ^ 16 * slot] (bs.take cap)

/-- The final write of the oldest granted parcel of an entry is acknowledged (R384). -/
def State.parcelAck (s : State) (p : Nat) : State :=
  match s.parcels.find? fun x => x.parcel == p && x.granted.isSome with
  | none => s
  | some x =>
    let s := ({ s with parcels := s.parcels.erase x } : State).qpAck (s.pclQp p)
    match s.liveOf x.ctx x.id with
    | some l => s.retireCmd x.ctx l
    | none => s

/-- The exchange engine takes 1 from the release semaphore and frees the oldest slot (R386). -/
def State.landRelease (s : State) (l : Nat) : State :=
  let c := s.grpCtx (s.landSlot l)
  let sem := fld (s.rd (pclReg l Off.COLL_LND_SEMS)) 8 8
  match (s.getLand l).occ with
  | [] => s
  | _ :: rest =>
    if !s.landValid l || s.sem c sem = 0 then s
    else (s.wr (semKey c sem) (s.sem c sem - 1)).setLand l { s.getLand l with occ := rest }

/-- A parcel's last write has landed (R386). -/
def State.parcelLanded (s : State) (imm : Word) : State :=
  let l := fld imm 0 16
  let slot := fld imm 16 1
  let r := s.getLand l
  if l < 4096 ∧ s.landValid l ∧ r.granted.contains slot then
    let s := s.setLand l { r with granted := r.granted.erase slot, occ := r.occ ++ [slot] }
    let s := s.inc (pclReg l Off.COLL_LND_LANDED)
    s.signal (s.grpCtx (s.landSlot l)) (fld (s.rd (pclReg l Off.COLL_LND_SEMS)) 0 8) 1
  else s

/-! ## RDMA as responder (R446) -/

/-- An incoming write of a QP: its region, bounds, permission and domain decide (R445, R446); congestion marks return a CNP. -/
def State.rdmaWrite (s : State) (rx : Rx) (q : Nat) (rkey : Word) (a : DWord) (data : List Byte) (imm : Option Word) : State :=
  match s.rxFrame rx with
  | (s, false) => s
  | (s, true) =>
    let d := s.qpOwner q
    let p := rx.port.toNat
    if s.qpState q ≠ 1 || s.qpPort q ≠ p then s
    else if s.scrub.contains d then s.inc (reg pgSEC Off.SEC_SCRUB_DISCARDS)
    else
      let s := s.serdes (some d) data.length
      let s :=
        if rx.ce && (match (s.getQp q).cnpTx with | some t => decide (t + 50000 ≤ s.timer) | none => true) then
          ((s.inc (ethReg p Off.ETH_CNP_TX)).setQp q { s.getQp q with cnpTx := some s.timer }).sendFrame p (some d) "CNP" [0x10000 + q] []
        else s
      let m := fld rkey 0 24
      let cfg := s.rd (wreg m pgMGMT Off.MGMT_MR_CFG)
      let base := (s.rd64 (wreg m pgMGMT Off.MGMT_MR_BASE_LO)).toNat
      let len := (s.rd64 (wreg m pgMGMT Off.MGMT_MR_LEN_LO)).toNat
      let ok := decide (m < 4096) && bit cfg 31 && fld cfg 16 8 == fld rkey 24 8 && bit cfg 10 && fld cfg 0 10 == d
        && decide (base ≤ a.toNat) && decide (a.toNat + data.length ≤ base + len)
      let nak (t : State) : State := (t.inc (ethReg p Off.ETH_RDMA_DENIED)).sendFrame p (some d) "RDMA NAK REMOTE ACCESS" [0x10000 + q] []
      if !ok then nak s
      else match s.tierWrite d ((data.zipIdx).map fun b => (a.toNat + b.2, b.1)) with
        | .error _ => nak s
        | .ok t =>
          let t := t.sendFrame p (some d) "RDMA ACK" [0x10000 + q] []
          match imm with
          | some v => t.parcelLanded v
          | none => t

/-! ## Rings (R447 to R452) -/

/-- Key of a register of a ring; checkpoint rings are 256 and above. -/
def ringReg (r off : Nat) : Nat := wreg r pgMGMT off
/-- The record of a ring. -/
def State.getRing (s : State) (r : Nat) : RingRec := mapGet {} s.rings r
/-- Replace the record of a ring. -/
def State.setRing (s : State) (r : Nat) (x : RingRec) : State := { s with rings := mapSet {} s.rings r x }
/-- QP entry of a ring. -/
def State.ringQp (s : State) (r : Nat) : Nat := fld (s.rd (ringReg r Off.MGMT_RING_CFG)) 16 12
/-- Does a ring run: VALID, ENABLE and not failed (R447, R449)? -/
def State.ringRuns (s : State) (r : Nat) : Bool :=
  bit (s.rd (ringReg r Off.MGMT_RING_CFG)) 31 && bit (s.rd (ringReg r Off.MGMT_RING_CTRL)) 0 && !(s.getRing r).failed
/-- N of an ingest ring. -/
def State.ringSlots (s : State) (r : Nat) : Nat := fld (s.rd (ringReg r Off.MGMT_RING_DEPTH)) 16 5
/-- M of an ingest ring. -/
def State.ringM (s : State) (r : Nat) : Nat := fld (s.rd (ringReg r Off.MGMT_RING_DEPTH)) 0 16 + 1

/-- The 64-byte completion record of a checkpoint (R450). -/
def State.ckptRecord (s : State) (r : Nat) (k : Ckpt) : List Byte :=
  toLe 8 k.n ++ toLe 8 k.step.toNat ++ toLe 2 (s.ringCtx r) ++ toLe 1 (b2n k.cur) ++ toLe 1 (if k.abandoned then 2 else 1)
    ++ toLe 4 k.segs ++ toLe 8 k.bytes ++ toLe 8 (k.crc ^^^ (2 ^ 64 - 1)) ++ List.replicate 24 0

/-- A CKPT_PUSH retires (R451). -/
def State.retirePush (s : State) (u : Option (Nat × Nat)) : State :=
  match u with
  | some (c, id) => (match s.liveOf c id with | some l => s.retireCmd c l | none => s)
  | none => s

/-- Write a checkpoint's completion record (R450, R452). -/
def State.ckptFinish (s : State) (r : Nat) (k : Ckpt) : State :=
  let at' := ((s.rd64 (ringReg r Off.MGMT_RING_RIDX_LO)).toNat + k.n % 2 * 64) % 2 ^ 64
  let q := s.ringQp r
  s.sendFrame (s.qpPort q) (some (s.qpOwner q)) "RDMA WRITE" [0x10000 + q, (s.rd (ringReg r Off.MGMT_RING_RKEY)).toNat, at'] (s.ckptRecord r k)

/-- Completion records leave, oldest first, once every data write before them has been acknowledged (R450). -/
def State.ckptFlush (s : State) (r : Nat) : List Ckpt → State
  | [] => s.setRing r { s.getRing r with closing := [] }
  | k :: ks => if k.unacked = [] then (s.ckptFinish r k).ckptFlush r ks else s.setRing r { s.getRing r with closing := k :: ks }

/-- The open checkpoint of a ring closes, or is abandoned with a code (R451, R452). -/
def State.ckptEnd (s : State) (r : Nat) (code : Option Code) : State :=
  let x := s.getRing r
  match x.ckpt with
  | none => s
  | some k =>
    let s := match code with
      | some c => s.wr (ringReg r Off.MGMT_RING_ERR) (c.setWidth 32)
      | none => s.inc64 (ringReg r Off.MGMT_RING_COUNT_LO)
    (s.setRing r { x with ckpt := none }).ckptFlush r (x.closing ++ [{ k with abandoned := code.isSome }])

/-- Abandon the open checkpoint of a ring with a code (R452). -/
def State.ckptAbandon (s : State) (r : Nat) (code : Code) : State := s.ckptEnd r (some code)

/-- A ring fails; a queue pair in ERROR acknowledges nothing more, so the pushes of its checkpoints retire and no record follows (R449, R452). -/
def State.ringFail (s : State) (r : Nat) (code : Code) : State :=
  let s := s.ckptAbandon r code
  let dead := s.qpState (s.ringQp r) == 2
  let s := if dead then (s.getRing r).closing.foldl (fun t k => k.unacked.foldl State.retirePush t) s else s
  let s := s.setRing r { s.getRing r with failed := true, polling := false, closing := if dead then [] else (s.getRing r).closing }
  (s.wr (ringReg r Off.MGMT_RING_ERR) (code.setWidth 32)).abortFlags (s.ringCtx r) code

/-- Ask for records in index order, at most two in flight, into free slots (R447). -/
def State.ringAsk (s : State) (r : Nat) : Nat → State
  | 0 => s
  | fuel + 1 =>
    let x := s.getRing r
    if x.asked < x.producer ∧ x.asked - x.landed < 2 ∧ x.asked - x.freed < s.ringSlots r then
      let at' := ((s.rd64 (ringReg r Off.MGMT_RING_RBASE_LO)).toNat + x.asked % s.ringM r * (s.rd (ringReg r Off.MGMT_RING_SIZE)).toNat) % 2 ^ 64
      let s := s.setRing r { x with asked := x.asked + 1 }
      (s.qpSend (s.ringQp r) "RDMA READ" [(s.rd (ringReg r Off.MGMT_RING_RKEY)).toNat, at', (s.rd (ringReg r Off.MGMT_RING_SIZE)).toNat] []).ringAsk r fuel
    else s

/-- Poll the producer index (R447). -/
def State.ringPoll (s : State) (r : Nat) : State :=
  let x := s.getRing r
  let due := match x.polledAt with
    | some t => decide (t + fld (s.rd (ringReg r Off.MGMT_RING_CTRL)) 16 10 * 1000 ≤ s.timer)
    | none => true
  if s.ringRuns r && !x.polling && decide (x.asked - x.freed < s.ringSlots r) && due && s.qpState (s.ringQp r) == 1 then
    let s := s.setRing r { x with polling := true, polledAt := some s.timer }
    s.qpSend (s.ringQp r) "RDMA READ" [(s.rd (ringReg r Off.MGMT_RING_RKEY)).toNat, (s.rd64 (ringReg r Off.MGMT_RING_RIDX_LO)).toNat, 8] []
  else s

/-- The producer index arrives (R447). -/
def State.ringIndex (s : State) (r : Nat) (ix : Nat) : State :=
  let x := s.getRing r
  if !x.polling then s
  else ((s.qpAck (s.ringQp r)).setRing r { x with polling := false, producer := max x.producer ix }).ringAsk r 2

/-- Does a write of n bytes of whole lines at a domain address meet poison: a bad tag unit, at either end, that it covers only in part (R339, R449)? -/
def State.meetsPoison (s : State) (d a n : Nat) : Bool :=
  [a, a + n - 1].any fun e => (decide (e / 512 * 512 < a) || decide (a + n < e / 512 * 512 + 512)) &&
    (match s.xlate d e true false with
    | .ok pa => !(s.gran (pa / 2 ^ 21)).narrow && s.unitBad d (pa / 512)
    | .error _ => false)

/-- A record lands (R447, R449). -/
def State.ringLand (s : State) (r : Nat) (data : List Byte) : State :=
  let x := s.getRing r
  let size := (s.rd (ringReg r Off.MGMT_RING_SIZE)).toNat
  if !s.ringRuns r || x.asked ≤ x.landed || data.length ≠ size then s
  else
    let c := s.ringCtx r
    let d := s.domOf c
    let k := x.landed
    let at' := (s.rd64 (ringReg r Off.MGMT_RING_LBASE_LO)).toNat + k % max 1 (s.ringSlots r) * size
    let s := (s.qpAck (s.ringQp r)).serdes (some d) size
    match s.tierWrite d ((data.zipIdx).map fun b => (at' + b.2, b.1)) with
    | .error e => s.ringFail r e
    | .ok t =>
      if s.meetsPoison d at' size then s.ringFail r Err.MEM_UE
      else
        let sems := t.rd (ringReg r Off.MGMT_RING_SEMS)
        let t := t.setRing r { t.getRing r with landed := k + 1 }
        let t := t.wr64 (ringReg r Off.MGMT_RING_COUNT_LO) (BitVec.ofNat 64 (k + 1))
        let t := (t.signal c (fld sems 0 8) 1).setPar c (fld sems 16 6) (BitVec.ofNat 64 (k + 1))
        let q := t.ringQp r
        let t := t.sendFrame (t.qpPort q) (some (t.qpOwner q)) "RDMA WRITE"
          [0x10000 + q, (t.rd (ringReg r Off.MGMT_RING_RKEY)).toNat, ((t.rd64 (ringReg r Off.MGMT_RING_RIDX_LO)).toNat + 8) % 2 ^ 64] (toLe 8 (k + 1))
        t.ringAsk r 2

/-- MODE 0: a unit of the release semaphore frees the oldest landed record (R448). -/
def State.ringRelease (s : State) (r : Nat) : State :=
  let x := s.getRing r
  let c := s.ringCtx r
  let sem := fld (s.rd (ringReg r Off.MGMT_RING_SEMS)) 8 8
  if !s.ringRuns r || bit (s.rd (ringReg r Off.MGMT_RING_CFG)) 14 || x.landed ≤ x.freed || s.sem c sem = 0 then s
  else ((s.wr (semKey c sem) (s.sem c sem - 1)).setRing r { x with freed := x.freed + 1 }).ringAsk r 2

/-- Rings of a context. -/
def State.ringsOf (s : State) (c : Nat) (ckpt : Bool) : List Nat :=
  (s.regs.filterMap fun p =>
    if p.1 % 2 ^ 28 = reg pgMGMT Off.MGMT_RING_CFG ∧ 2 ^ 28 ≤ p.1 then some (p.1 / 2 ^ 28 - 1) else none).filter fun r =>
      decide (256 ≤ r) == ckpt && s.ringCtx r == c && s.ringRuns r

/-- The rings at a commit of step t: MODE 1 records are released, and open checkpoints abandoned (R448, R452). -/
def State.ringsCommit (s : State) (c : Nat) (t : Nat) : State :=
  let s := (s.ringsOf c false).foldl (fun u r =>
    let start := (u.rd64 (ringReg r Off.MGMT_RING_START_LO)).toNat
    if bit (u.rd (ringReg r Off.MGMT_RING_CFG)) 14 && decide (start ≤ t) then
      (u.setRing r { u.getRing r with freed := max (u.getRing r).freed (t - start + 1) }).ringAsk r 2
    else u) s
  (s.ringsOf c true).foldl (fun u r => match (u.getRing r).ckpt with
    | some _ => u.ckptAbandon r Err.CKPT_OVERRUN
    | none => u) s

/-- Bytes of a checkpoint leave for its half: the next checkpoint state (R450). -/
def State.ckptWrite (s : State) (r : Nat) (k : Ckpt) (bs : List Byte) (push : Option (Nat × Nat)) : State × Ckpt :=
  let half := (s.rd (ringReg r Off.MGMT_RING_SIZE)).toNat * 4096
  let at' := ((s.rd64 (ringReg r Off.MGMT_RING_RBASE_LO)).toNat + k.n % 2 * half + k.bytes) % 2 ^ 64
  let s := s.qpSend (s.ringQp r) "RDMA WRITE" [(s.rd (ringReg r Off.MGMT_RING_RKEY)).toNat, at'] bs
  (s, { k with bytes := k.bytes + bs.length, unacked := k.unacked ++ [push],
               crc := bs.foldl (fun c b => (List.range 8).foldl (fun x _ => crcBit x) (c ^^^ b.toNat)) k.crc })

/-- Store the open checkpoint of a ring. -/
def State.setCkpt (s : State) (r : Nat) (k : Ckpt) : State := s.setRing r { s.getRing r with ckpt := some k }

/-- A checkpoint opens: step and epoch are latched, and the domain is fenced (R451). -/
def State.ckptOpen (s : State) (r : Nat) : State × Ckpt :=
  let c := s.ringCtx r
  let x := s.getRing r
  let k : Ckpt := { n := x.seq, step := s.step' c, cur := bit (s.rd (wreg c pgUPD Off.UPD_CTX_EPOCH)) 0 }
  let d := s.domOf c
  let s := s.fenceEntries fun e => e.dom == d
  (s.setRing r { x with seq := x.seq + 1, ckpt := some k }, k)

/-- Read a range of either tier for a checkpoint. -/
def State.rangeBytes (s : State) (d a n : Nat) : Except Flt (List Byte) :=
  match s.spReadSafe d 0 0 0 a n false true with
  | .ok v => .ok (toLe n v)
  | .error f => .error f

/-- Write the segments of a checkpoint's table from entry i on (R451). -/
def State.ckptSegments (s : State) (r : Nat) (k : Ckpt) (i : Nat) : Nat → State
  | 0 => (s.setCkpt r k).ckptEnd r none
  | left + 1 =>
    let d := s.domOf (s.ringCtx r)
    let tab := (s.rd64 (ringReg r Off.MGMT_RING_LBASE_LO)).toNat
    match s.spReadSafe d 0 0 0 (tab + 32 * i) 32 false true with
    | .error f => s.ringFail r f.code
    | .ok v =>
      let f (o : Nat) : Nat := v / 256 ^ o % 2 ^ 64
      let a := if f 24 % 2 = 1 || !k.cur then f 0 else f 8
      let n := f 16
      if (s.rd (ringReg r Off.MGMT_RING_SIZE)).toNat * 4096 < k.bytes + n then s.ckptAbandon r Err.CKPT_OVERFLOW
      else match s.rangeBytes d a n with
        | .error f => s.ringFail r f.code
        | .ok bs =>
          let (s, k) := s.ckptWrite r k bs none
          (s.setCkpt r { k with segs := k.segs + 1 }).ckptSegments r { k with segs := k.segs + 1 } (i + 1) left

/-- CHECKPOINT_START on a ring: none where one is open or the ring does not run (R451, R455). -/
def State.ckptStart (s : State) (r : Nat) : Option State :=
  if !s.ringRuns r || (s.getRing r).ckpt.isSome then none
  else
    let (s, k) := s.ckptOpen r
    some (s.ckptSegments r k 0 (fld (s.rd (ringReg r Off.MGMT_RING_DEPTH)) 0 13))

/-- CKPT_PUSH (R451, R452): its bytes join the open checkpoint, opened if need be; on a ring that does not run, or that would overflow, nothing is written and the command retires. -/
def State.ckptPush (s : State) (c id r : Nat) (o : Opnd) : Except Flt State := do
  let retire (t : State) : State := match t.liveOf c id with | some l => t.retireCmd c l | none => t
  if !s.ringRuns r || s.ringCtx r ≠ c then pure (retire s)
  else
    let bs ← s.seqBytes (s.domOf c) o false
    let (s, k) := match (s.getRing r).ckpt with
      | some k => (s, k)
      | none => s.ckptOpen r
    if (s.rd (ringReg r Off.MGMT_RING_SIZE)).toNat * 4096 < k.bytes + bs.length then pure (retire (s.ckptAbandon r Err.CKPT_OVERFLOW))
    else
      let (s, k) := s.ckptWrite r k bs (some (c, id))
      pure (s.setCkpt r { k with pushed := true })

/-- Pushed checkpoints of a context close at its STREAM_END (R451). -/
def State.ckptClose (s : State) (c : Nat) : State :=
  (s.ringsOf c true).foldl (fun u r => match (u.getRing r).ckpt with
    | some k => if k.pushed then u.ckptEnd r none else u
    | none => u) s

/-- The oldest unacknowledged write among checkpoints in order: the push it ends, and the checkpoints without it. -/
def ckptAcked : List Ckpt → Option (Option (Nat × Nat) × List Ckpt)
  | [] => none
  | k :: ks => match k.unacked with
    | u :: rest => some (u, { k with unacked := rest } :: ks)
    | [] => (ckptAcked ks).map fun p => (p.1, k :: p.2)

/-- The oldest data write of a ring's checkpoints is acknowledged: a push whose bytes it ends retires, and a checkpoint left with none is complete (R450, R451). -/
def State.ckptAck (s : State) (r : Nat) : State :=
  let x := s.getRing r
  match ckptAcked (x.closing ++ x.ckpt.toList) with
  | none => s
  | some (u, ks) =>
    let n := x.closing.length
    (((s.qpAck (s.ringQp r)).setRing r { x with ckpt := (ks.drop n).head?, closing := ks.take n }).retirePush u).ckptFlush r (ks.take n)

/-- ENABLE of a ring changes: it starts at record and checkpoint 0, or stops (R447; log entry 20, DEDUCED). -/
def State.ringEnable (s : State) (r : Nat) (on : Bool) : State :=
  let was := bit (s.rd (ringReg r Off.MGMT_RING_CTRL)) 0
  let s := s.wrBit (ringReg r Off.MGMT_RING_CTRL) 0 on
  if on && !was then
    ((s.setRing r {}).wr64 (ringReg r Off.MGMT_RING_COUNT_LO) 0).wr (ringReg r Off.MGMT_RING_ERR) 0
  else if !on && was then s.setRing r { s.getRing r with polling := false, asked := (s.getRing r).landed }
  else s

/-! ## A queue pair fails (R387, R449) -/

/-- Running rings on a QP. -/
def State.ringsOnQp (s : State) (q : Nat) : List Nat :=
  (s.regs.filterMap fun p =>
    if p.1 % 2 ^ 28 = reg pgMGMT Off.MGMT_RING_CFG ∧ 2 ^ 28 ≤ p.1 then some (p.1 / 2 ^ 28 - 1) else none).filter fun r =>
      s.ringQp r == q && s.ringRuns r

/-- Valid parcel entries on a QP. -/
def State.parcelsOnQp (s : State) (q : Nat) : List Nat :=
  (s.regs.filterMap fun p =>
    if p.1 % 2 ^ 28 = reg pgCOLL Off.COLL_PCL_CFG ∧ 2 ^ 28 ≤ p.1 ∧ bit p.2 31 then some (p.1 / 2 ^ 28 - 1) else none).filter fun p => s.pclQp p == q

/-- A QP enters ERROR: its parcels and rings fail (R387, R449). -/
def State.qpError (s : State) (q : Nat) : State :=
  let s := (s.wrFld (qpReg q Off.MGMT_QP_STATE) 0 2 2).setQp q {}
  let s := (s.parcelsOnQp q).foldl (fun t p =>
    let c := t.grpCtx (t.pclSlot p)
    let t := (t.wrBit (pclReg p Off.COLL_PCL_STATE) 2 true).pageErr pgCOLL Err.EXCHANGE_FAILED p 0 0x10#32
    let mine := t.parcels.filter fun x => x.parcel == p
    let t : State := { t with parcels := t.parcels.filter fun x => x.parcel != p }
    let t := mine.foldl (fun u x => match u.liveOf x.ctx x.id with | some l => u.retireCmd x.ctx l | none => u) t
    t.abortFlags c Err.EXCHANGE_FAILED) s
  (s.ringsOnQp q).foldl (fun t r => t.ringFail r Err.INGEST_FAILED) s

/-- VALID of a QP is written: READY, or RESET (R445). -/
def State.qpValid (s : State) (q : Nat) (on : Bool) : State :=
  let s := s.wrBit (qpReg q Off.MGMT_QP_CFG) 31 on
  let st := s.qpState q
  if on then (if st = 0 then (s.wrFld (qpReg q Off.MGMT_QP_STATE) 0 2 1).setQp q {} else s)
  else
    let s := (s.wrFld (qpReg q Off.MGMT_QP_STATE) 0 2 0).setQp q {}
    -- entries on the QP may run again once it is provisioned
    (s.parcelsOnQp q).foldl (fun t p => t.wrBit (pclReg p Off.COLL_PCL_STATE) 2 false) s

end Sys2Proof.Machine
end

