-- ==== Sys2Proof/Machine/Security.lean ====
section
/-! DEFINITION. Security: derived keys, memory generations, rotation, scrub, firmware, attestation and the access log (R462 to R485). -/

namespace Sys2Proof.Machine

open Sys2Proof

/-! ## Derived keys (R463, R464) -/

/-- ASCII bytes of a string. -/
def ascii (t : String) : List Byte := t.toList.map fun ch => BitVec.ofNat 8 ch.toNat

/-- The 52-byte derivation message (R464). -/
def keyMessage (root : List Byte) (label : String) (dom port gen : Nat) : List Byte :=
  root ++ (ascii label ++ List.replicate (16 - label.length) 0) ++ toLe 2 dom ++ toLe 1 port ++ toLe 1 (gen % 64)

/-- The command key of a domain, or of the operator role (1,024), for a host port at a generation (R464). -/
def cmdKey (dom port gen : Nat) : List Byte := shake256 (keyMessage Config.fleetRoot "VT1 CMD" dom port gen) 32

/-- The fleet identifier, 8 bytes (R463). -/
def fleetId : List Byte := shake256 (Config.fleetRoot ++ ascii "VT1 FLEET ID") 8

/-- Command generation of a domain or of the operator role (R465). -/
def State.cmdGen (s : State) (d : Nat) : Nat := fld (s.rd (keyReg d Off.KEY_DOM_CMD_GEN)) 0 6

/-! ## The access log (R483, R484) -/

/-- Is a session an operator session? -/
def isOp (se : Nat) : Bool := decide (4096 ≤ se)
/-- Domain of a tenant session, as MGMT_SESS_SEL numbers sessions: domain in [9:0], slot in [11:10] (R456). -/
def sessDomain (se : Nat) : Nat := se % 1024
/-- SOURCE of a session's entries: slot, and host port B (R484). -/
def State.logSource (s : State) (se : Nat) : Nat := se / 1024 % 4 + 8 * b2n (s.getSess se).port

/-- Append an access to a domain's log; accesses of one frame and kind merge (R484). -/
def State.logAccess (s : State) (d kind source len addr : Nat) : State :=
  let r := mapGet {} s.logs d
  match s.logOpen.find? fun p => p.1 == d * 16 + kind with
  | some p =>
    { s with logs := mapSet {} s.logs d { r with entries := r.entries.map fun e => if e.seq = p.2 then { e with count := min 65535 (e.count + 1) } else e } }
  | none =>
    let e : AccEntry := { seq := r.next, time := s.now.toNat, kind := kind, source := source, count := 1, length := len, addr := addr }
    let es := r.entries ++ [e]
    { s with logs := mapSet {} s.logs d { next := r.next + 1, entries := if 256 < es.length then es.drop 1 else es },
             logOpen := s.logOpen ++ [(d * 16 + kind, r.next)] }

/-- The 32 bytes of a log entry. -/
def AccEntry.bytes (e : AccEntry) : List Byte :=
  toLe 8 e.seq ++ toLe 8 e.time ++ toLe 1 e.kind ++ toLe 1 e.source ++ toLe 2 e.count ++ toLe 4 e.length ++ toLe 8 e.addr

/-- An operator access logged for a domain; tenants leave no entry (R483). -/
def State.logOp (s : State) (se d kind len addr : Nat) : State :=
  if isOp se then s.logAccess d kind (s.logSource se) len addr else s

/-! ## Scrub-engine current (R476) -/

/-- Does a granule of a tier await its admission fill? -/
def State.fillWork (s : State) (slow : Bool) : Bool := s.grans.any fun g => (decide (slowBase / 2 ^ 21 ≤ g.1) == slow) && g.2.fill.isSome
/-- Does a rotation have a granule of a tier to move? -/
def State.moveWork (s : State) (slow : Bool) : Bool :=
  s.regs.any fun p => p.1 % 2 ^ 28 == reg pgKEY Off.KEY_DOM_MEM_GEN && decide (2 ^ 28 ≤ p.1) && bit p.2 15 && !(s.toMove (p.1 / 2 ^ 28 - 1) slow).isEmpty
/-- Does any fill, rotation or scrub have work in the fast (or slow) tier? -/
def State.scrubWork (s : State) (slow : Bool) : Bool :=
  s.fillWork slow || s.moveWork slow
    || s.grans.any fun g => (decide (slowBase / 2 ^ 21 ≤ g.1) == slow) && (match g.2.released with | some d => s.scrub.contains d | none => false)

/-- Is a unit a reservation of the scrub engine: SCRUB on a stack, or UPD_BURST of the slow tier (R476)? -/
def LUnit.isScrub (u : LUnit) : Bool := (u.acct == 10 && u.iclass == 11) || (u.acct == 11 && u.iclass == 15 && u.ix == 0)

/-- Does the scrub engine of a tier run: its memory ONLINE, a failed stack apart, and its current granted (R476, R477)? -/
def State.scrubRuns (s : State) (slow : Bool) : Bool :=
  if slow then fld (s.rd (reg pgSLOW Off.SLOW_STATE)) 0 3 == 2 && s.lresv.any fun u => u.isScrub && u.acct == 11
  else (List.range 16).all fun i => !s.pagePresent .hbm i
    || [2, 5].contains (fld (s.rd (reg (pgHBM i) Off.HBM_STATE)) 0 3) && s.lresv.any fun u => u.isScrub && u.acct == 10 && u.ix == i

/-- Reserve and release SCRUB on account 10 per stack, and UPD_BURST on account 11 (R476). -/
def State.scrubUnits (s : State) : State :=
  let fast := s.scrubWork false
  let slow := s.scrubWork true
  let s := s.releaseUnits (fun u => u.isScrub && ((u.acct == 10 && !fast) || (u.acct == 11 && !slow))) none
  let has (a ix : Nat) : Bool := s.lresv.any (fun u => u.isScrub && u.acct == a && u.ix == ix) || s.lreqs.any fun r => r.units.any fun u => u.isScrub && u.acct == a && u.ix == ix
  let fastStacks := if fast then (List.range 16).filter fun i => s.pagePresent .hbm i && !has 10 i else []
  let s := if fastStacks = [] then s else s.askUnits (fastStacks.map fun i => { acct := 10, ix := i, iclass := 11 })
  if slow && !has 11 0 then s.askUnits [{ acct := 11, ix := 0, iclass := 15 }] else s

/-! ## Rotation (R466 to R469, R477) -/

/-- Granules of a domain that are not at W (R487). -/
def State.keyLeft (s : State) (d : Nat) : Nat :=
  let w := s.writeGen d
  ((s.mapped d).filter fun g => (s.gran g).fill.isNone && (s.gran g).gen != w).length

/-- ROTATE (R467, R469). -/
def State.rotate (s : State) (d : Nat) : State :=
  if s.rotating d then (s.invalidWrite pgKEY).pageErr pgKEY Err.ROTATION_BUSY d
  else
    let w := s.writeGen d
    ((s.setGens d (w + 1) w true true).rotationEnd d).scrubUnits

/-- The scrub engine moves one granule: a fence, and its lines (R467, R477). -/
def State.moveGranule (s : State) (d g : Nat) : State := (s.fenceEntries fun e => e.unit / 4096 == g).moveLines d g

/-- The next granule of a rotation moves, once no fill of its tier is left to the engine (R467, R476). -/
def State.rotationMove (s : State) (d : Nat) (slow : Bool) : State :=
  if !s.rotating d || !s.scrubRuns slow || s.fillWork slow then s
  else match s.toMove d slow with
    | [] => s
    | g :: _ => ((s.moveGranule d g).rotationEnd d).scrubUnits

/-- FORCE_RETIRE (R468, R469). -/
def State.forceRetire (s : State) (d : Nat) : State :=
  if s.rotating d then (s.setGens d (s.writeGen d) (s.oldGen d) false false).scrubUnits else s

/-- CMD_ROTATE of a domain or of the operator role (R465). -/
def State.cmdRotate (s : State) (d : Nat) : State :=
  s.wr (keyReg d Off.KEY_DOM_CMD_GEN) (BitVec.ofNat 32 ((s.cmdGen d + 1) % 64))

/-! ## Tenant scrub (R472 to R475) -/

/-- Released granules of a domain, in ascending order. -/
def State.releasedOf (s : State) (d : Nat) : List Nat :=
  s.grans.filterMap fun g => if g.2.released == some d then some g.1 else none

/-- Is a session of a domain open? -/
def State.domSession (s : State) (d : Nat) : Bool := (List.range 4).any fun k => (s.getSess (k * 1024 + d)).isOpen

/-- The last granule completes the scrub (R472). -/
def State.scrubEnd (s : State) (d : Nat) : State :=
  if s.scrub.contains d && (s.releasedOf d).isEmpty then
    (({ s with scrub := s.scrub.filter (· != d) } : State).logAccess d 10 0 0 0).raise pgSEC 0
  else s

/-- Queue pairs and memory regions of a domain go to RESET and VALID = 0 (R474). -/
def State.dropRdma (s : State) (d : Nat) : State :=
  let insts (off : Nat) : List Nat := s.regs.filterMap fun p =>
    if p.1 % 2 ^ 28 = reg pgMGMT off ∧ 2 ^ 28 ≤ p.1 ∧ bit p.2 31 then some (p.1 / 2 ^ 28 - 1) else none
  let s1 := ((insts Off.MGMT_QP_CFG).filter fun q => s.qpOwner q == d).foldl (fun t q => t.qpValid q false) s
  ((insts Off.MGMT_MR_CFG).filter fun m => fld (s.rd (wreg m pgMGMT Off.MGMT_MR_CFG)) 0 10 == d).foldl (fun t m => t.wrBit (wreg m pgMGMT Off.MGMT_MR_CFG) 31 false) s1

/-- A tenant scrub starts, unless a context, a session or a scrub of the domain stands (R473, R474). -/
def State.startScrub (s : State) (d : Nat) : Option State :=
  if (s.boundCtxs.any fun p => p.2 == d) || s.domSession d || s.scrub.contains d then none
  else
    let s : State := { s with scrub := s.scrub ++ [d] }
    some ((((s.logAccess d 10 0 0 0).dropRdma d).scrubEnd d).scrubUnits)

/-- The next released granule is written with zeros under generation W + 1, once no fill and no move of its tier is left to the engine (R472, R476, R477). -/
def State.scrubGranule (s : State) (d : Nat) (slow : Bool) : State :=
  if !s.scrub.contains d || !s.scrubRuns slow || s.fillWork slow || s.moveWork slow then s
  else match (s.releasedOf d).filter fun g => decide (slowBase / 2 ^ 21 ≤ g) == slow with
    | [] => s.scrubEnd d
    | g :: _ =>
      let s : State := { s with
        mem := s.mem.filter fun c => decide (c.1 / 2 ^ 21 ≠ g),
        marks := s.marks.filter fun m => decide (m.1 / 2 ^ 15 ≠ g) }
      ((s.setGran g { dom := some d, gen := (s.writeGen d + 1) % 64 }).scrubEnd d).scrubUnits

/-! ## Firmware (R478 to R481) -/

/-- Store key of flash offset 0; the staging area starts at offset 0x200_0000 (R478). -/
def flashBase : Nat := 2 ^ 56
/-- Store key of staging offset 0. -/
def stagingBase : Nat := flashBase + 0x2000000

/-- The fused minimum of a unit (R478). -/
def State.fusedMin (s : State) (u : Nat) : Nat := mapGet 0 s.svnMin u
/-- What a unit's slot holds. -/
def State.slotOf (s : State) (u : Nat) : FwSlot := mapGet {} s.slots u

/-- The staged image as the checks of R478 find it, for unit u. -/
def State.stagedImage (s : State) (u : Nat) : FwSlot :=
  let b (off n : Nat) : List Byte := (List.range n).map fun i => s.byte (stagingBase + off + i)
  let v (off n : Nat) : Nat := leOf (b off n)
  let zero (off n : Nat) : Bool := (b off n).all (· == 0)
  let len := v 0x10 4
  let keyId := if u = 6 then 1 else 0
  let fields := b 0 4 == ascii "VT1F" && v 4 1 == u && v 5 1 == keyId && zero 6 2 && decide (v 0x0C 4 ≤ 64) && decide (1 ≤ len)
    && decide (len ≤ 0x3FFF00) && zero 0x14 12 && zero 0x59 39 && zero 0xF2 14 && decide (u < 7)
  let pub := b 0x20 57
  let ok := fields && shake256 pub 32 == Config.fusedHash keyId && Config.ed448Verify pub (b 0 0x80 ++ b 256 len) (b 0x80 114)
  { ok := ok, svn := v 0x0C 4, meas := leOf (shake256 (b 0 (256 + len)) 32) }

/-- An activation has taken released granules over: a scrub left with none completes (R473). -/
def State.scrubsEnd (s : State) : State := s.scrub.foldl (fun t d => t.scrubEnd d) s

/-- Is an image valid for a unit (R478)? -/
def State.fwValid (s : State) (u : Nat) (x : FwSlot) : Bool := x.ok && decide (s.fusedMin u ≤ x.svn)

/-- SEC_FW_STATUS (R486). -/
def State.fwStatus (s : State) (busy done failed : Bool) (u : Nat) (code : Code) : State :=
  s.wr (reg pgSEC Off.SEC_FW_STATUS) (BitVec.ofNat 32 (b2n busy + 2 * b2n done + 4 * b2n failed + u % 8 * 256 + code.toNat * 2 ^ 16))

/-- INSTALL: the staged image is verified and its slot write starts; the slot is not valid until it ends (R481). -/
def State.install (s : State) (u : Nat) : State :=
  if s.fwBusy.isSome || s.nv.isSome then s.invalidWrite pgSEC
  else
    let x := s.stagedImage u
    if !s.fwValid u x then
      let code := if x.ok then Err.FW_ROLLBACK else Err.FW_VERIFY_FAIL
      (s.fwStatus false false true u code).pageErr pgSEC code u
    else
      let s : State := { s with fwBusy := some (u, x), slots := mapSet {} s.slots u { ok := false } }
      s.fwStatus true false false u 0

/-- The slot write completes (R481). -/
def State.fwDone (s : State) : State :=
  match s.fwBusy with
  | none => s
  | some (u, x) =>
    let s : State := { s with fwBusy := none, slots := mapSet {} s.slots u x }
    let s := (s.fwStatus false true false u 0).raise pgSEC 1
    -- in recovery the install restarts the cold start (R480)
    if bit (s.rd (reg pgSEC Off.SEC_STATE)) 1 then
      ((s.wrBit (reg pgSEC Off.SEC_STATE) 1 false).wr (reg pgRST Off.RST_STAGE) 1)
    else s

/-- COMMIT_SVN: the thermometer is burned up to the slot image's SVN, one pulse per bit (R481). -/
def State.commitSvn (s : State) (u : Nat) : State :=
  if s.fwBusy.isSome || s.nv.isSome then s.invalidWrite pgSEC
  else
    let n := (s.slotOf u).svn - s.fusedMin u
    if u = 7 || !(s.slotOf u).ok || n = 0 then s.fwStatus false true false u 0
    else
      let s := (s.fwStatus true false false u 0).wrBit (reg pgNVM Off.NVM_STATE) 1 true
      { s with nv := some { unit := u, bits := n } }

/-- An eFuse pulse ends: its bit is burned; a reset that waited in the non-volatile domain completes, and drops the bits not begun (R545). -/
def State.nvPulseEnd (s : State) (held : Nat) : State :=
  match s.nv with
  | none => s
  | some r =>
    let s : State := { s with svnMin := mapSet 0 s.svnMin r.unit (s.fusedMin r.unit + 1) }
    let s := s.inc (reg pgNVM Off.NVM_FUSE_BITS)
    if r.held then
      let s := ({ s with nv := none } : State).wrFld (reg pgNVM Off.NVM_STATE) 1 2 0
      let s := if s.warm.isSome || s.fatal.isSome then { s with deferred := true } else s.wrBit (reg pgRST Off.RST_CAUSE) 4 true
      let k := reg pgRST Off.RST_DEFER_MAX
      s.wr k (BitVec.ofNat 32 (max (s.rd k).toNat (held % 2 ^ 16)))
    else if r.bits ≤ 1 then
      (({ s with nv := none } : State).wrBit (reg pgNVM Off.NVM_STATE) 1 false).fwStatus false true false r.unit 0
    else { s with nv := some { r with bits := r.bits - 1 } }

/-- Boot units in the order of R479. -/
def State.bootUnits (s : State) : List Nat := if s.fuse.grade = 3 then [1, 0, 2, 3, 4, 5] else [1, 0, 2, 3, 4, 5, 6]

/-- Load each unit from its slot or from staging; the first unit that has neither ends the boot with its code (R479). -/
def State.bootLoad (s : State) : List Nat → State × Option (Nat × Code)
  | [] => (s, none)
  | u :: us =>
    let x := s.slotOf u
    if s.fwValid u x then ({ s with running := mapSet {} s.running u x } : State).bootLoad us
    else
      let y := s.stagedImage u
      if s.fwValid u y then ({ s with slots := mapSet {} s.slots u y, running := mapSet {} s.running u y } : State).bootLoad us
      else (s, some (u, if x.ok then Err.FW_ROLLBACK else Err.FW_VERIFY_FAIL))

/-! ## Attestation (R482) -/

/-- Measure of a domain: its partition, active table and class ceiling (R482). -/
def State.domMeasure (s : State) (d : Nat) : List Byte :=
  shake256 ((s.partition d).flatMap (toLe 2) ++ (s.regions d).flatMap (fun r => [r.e0, r.e1, r.e2, r.e3].flatMap fun w => toLe 4 w.toNat)
    ++ toLe 4 (s.rd (wreg d pgGLOB Off.GLOB_DOM_CLASS_MAX)).toNat) 32

/-- The 512 signed bytes of an attestation report. -/
def State.attBody (s : State) (nonce : List Byte) (dom : Option Nat) : List Byte :=
  let rec' (f : Nat → List Byte) : List Byte := match dom with | some d => f d | none => List.replicate 0x30 0
  ascii "VT1A" ++ toLe 2 1 ++ toLe 2 (b2n dom.isSome + 2 * b2n (bit (s.rd (reg pgSEC Off.SEC_STATE)) 1)) ++ nonce
    ++ toLe 8 s.now.toNat ++ toLe 4 (s.rd (tReg Off.TIME_STATE)).toNat ++ toLe 4 s.fuse.grade ++ toLe 8 s.fuse.serial.toNat
    ++ fleetId ++ shake256 (Config.ed448Public 0) 32
    ++ (List.range 8).flatMap (fun u => if u = 7 then List.replicate 40 0 else
        let x := mapGet {} s.running u
        toLe 4 x.svn ++ toLe 4 (s.fusedMin u) ++ toLe 32 x.meas)
    ++ toLe 8 (if s.fuse.grade = 3 then 0 else s.met.sealCtr)
    ++ rec' (fun d => toLe 2 d ++ toLe 1 (s.writeGen d) ++ toLe 1 (if bit (s.rd (keyReg d Off.KEY_DOM_MEM_GEN)) 14 then s.oldGen d else 0xFF)
        ++ toLe 1 (s.cmdGen d) ++ List.replicate 3 0 ++ s.domMeasure d ++ toLe 8 (mapGet {} s.logs d).next)
    ++ List.replicate 32 0

/-- GO: nonce and section are latched (R482). -/
def State.attGo (s : State) (se : Nat) (v : Word) : State :=
  let r := mapGet {} s.att se
  if !bit v 0 then s
  else if r.busy then s.invalidWrite pgATT
  else
    let nonce := (List.range 8).flatMap fun i => toLe 4 (s.srd se (reg pgATT (Off.ATT_NONCE + 4 * i))).toNat
    let dom := if isOp se then (if bit v 1 then some (fld (s.srd se (reg pgATT Off.ATT_DOM_SEL)) 0 10) else none) else some (sessDomain se)
    { s with att := mapSet {} s.att se { busy := true, done := false, nonce := nonce, dom := dom } }

/-- The report is signed and appears for its session (R482). -/
def State.attDone (s : State) (se : Nat) : State :=
  let r := mapGet {} s.att se
  if !r.busy then s
  else
    let body := s.attBody r.nonce r.dom
    { s with att := mapSet {} s.att se { r with busy := false, done := true, report := body ++ signature 0 body ++ List.replicate 14 0 } }

end Sys2Proof.Machine
end

