-- ==== Sys2Proof/Machine/Metrology.lean ====
section
/-! DEFINITION. The sealed energy metrology unit (17_metrology.md): samples, attribution, checkpoints, audit log and reports. -/

namespace Sys2Proof.Machine

open Sys2Proof

/-- Change the metrology record. -/
def State.modMet (s : State) (f : MetRec → MetRec) : State := { s with met := f s.met }

/-- µJ of an accumulator in 0.1 pJ (R492). -/
def microJ (acc : Nat) : Nat := acc / 10 ^ 7

/-- Write an audit entry: the ring keeps the newest 1,024 (R506). -/
def State.audit (s : State) (kind data : Nat) : State :=
  s.modMet fun m =>
    let l := m.log ++ [({ seq := m.logNext, time := m.tot.time, kind := kind, data := data } : AuditEntry)]
    { m with log := l.drop (l.length - 1024), logNext := m.logNext + 1 }

/-- The 32 bytes of an audit entry (R506). -/
def AuditEntry.bytes (e : AuditEntry) : List Byte :=
  toLe 8 e.seq ++ toLe 8 e.time ++ [BitVec.ofNat 8 e.kind] ++ List.replicate 7 0 ++ toLe 8 e.data

/-- Does the metrology unit sample: present, and its image running (R502, R511)? -/
def State.metRuns (s : State) : Bool := s.met.running && s.pagePresent .met 0

/-- Credits of one rail's energy among domains by charge: work, ballast, and what is left (R497, R498). -/
def shareOf (e den : Nat) (cs : List (Nat × Nat)) : List (Nat × Nat) :=
  if den = 0 then [] else cs.map fun c => (c.1, e * c.2 / den)

/-- Entries of one rail in a table keyed rail × 2048 + domain. -/
def railCharges (m : List (Nat × Nat)) (rail : Nat) : List (Nat × Nat) :=
  m.filterMap fun c => if c.1 / 2048 = rail then some (c.1 % 2048, c.2) else none

/-- Sum of amounts. -/
def amounts (l : List (Nat × Nat)) : Nat := l.foldl (fun n c => n + c.2) 0

/-- Add a list of credits to accounts. -/
def creditAll (m : List (Nat × Nat)) (l : List (Nat × Nat)) : List (Nat × Nat) := l.foldl (fun t c => addTo t c.1 c.2) m

/-- Credits of a rail's energy: (domain, work), (domain, ballast) and the operator's rest. Compute rails share by the ledger's charges (R497), the others by weights against the measured charge (R498). -/
def State.railCredit (s : State) (rail e i : Nat) : List (Nat × Nat) × List (Nat × Nat) × Nat :=
  let tenants (l : List (Nat × Nat)) := l.filter fun c => decide (c.1 < 1024)
  let work := railCharges s.met.charge rail
  let bal := if rail < 8 then railCharges s.ballastBill rail else []
  let den := if rail < 8 then amounts work + amounts bal else max (1000 * i) (amounts (tenants work))
  let w := shareOf e den (tenants work)
  let b := shareOf e den (tenants bal)
  (w, b, e - amounts w - amounts b)

/-- One rail's sample: energy V × I in 0.1 pJ, exact (R492, R497 to R499). -/
def State.metRail (s : State) (rail : Nat) (x : MetIn) : State :=
  let e := x.v.toNat * x.i.toNat
  let (w, b, op) := s.railCredit rail e x.i.toNat
  let s := s.modMet fun m => { m with tot := { m.tot with
    total := m.tot.total + e
    rails := addTo m.tot.rails rail e
    work := addTo (creditAll m.tot.work w) 1024 op
    ballast := creditAll m.tot.ballast b } }
  if !x.fault then s
  else
    let s := (s.inc (reg pgMET Off.MET_SAMPLE_FAULTS)).modMet fun m => { m with inClass := false }
    let s := if s.met.faultLogged then s else (s.audit 7 s.met.sealCtr).modMet fun m => { m with faultLogged := true }
    s.pageErr pgMET Err.MET_SAMPLE_FAULT rail 0 2#32

/-- Rails from number r on. -/
def State.metRails (s : State) (r : Nat) : List MetIn → State
  | [] => s
  | x :: xs => (s.metRail r x).metRails (r + 1) xs

/-- Is the power of a sample inside the class range, 470 W to 4,700 W (R493)? -/
def classPower (xs : List MetIn) : Bool :=
  let e := xs.foldl (fun n x => n + x.v.toNat * x.i.toNat) 0
  decide (470 * 10 ^ 7 ≤ e) && decide (e ≤ 4700 * 10 ^ 7)

/-- A sample of every rail, 1 µs after the last (R492 to R499); `inClass` says whether the conditions outside the samples hold. -/
def State.metSample (s : State) (xs : List MetIn) (inClass : Bool) : State :=
  if !s.metRuns || xs.length ≠ 13 then s
  else
    let s := s.metRails 0 xs
    let s := s.modMet fun m => { m with tot := { m.tot with time := m.tot.time + 1 }, charge := [], inClass := m.inClass && inClass && classPower xs }
    { s with ballastBill := [] }

/-! ## Reports (R507) -/

/-- The 256 signed bytes of a report: `dom` and its context and step for a DOMAIN report. -/
def State.metBody (s : State) (dom : Option (Nat × Nat × DWord)) : List Byte :=
  let m := s.met
  let t := m.tot
  let oldest := match m.log with | e :: _ => e.seq | [] => m.logNext
  let u64 (n : Nat) := toLe 8 n
  ascii "VT1M" ++ toLe 2 1 ++ toLe 2 (b2n dom.isSome) ++ u64 s.fuse.serial.toNat ++ u64 m.sealCtr ++ toLe 2 1
    ++ toLe 2 (b2n m.inClass + 2 * b2n (m.clockFault || m.faultEver) + 4 * b2n m.gap + 8 * b2n m.restoreFailed)
    ++ toLe 4 m.powerOns ++ u64 t.reportSeq ++ u64 t.time ++ u64 s.now.toNat ++ toLe 4 (s.rd (tReg Off.TIME_STATE)).toNat ++ toLe 4 0
    ++ u64 (microJ t.total) ++ (List.range 13).flatMap (fun r => u64 (microJ (mapGet 0 t.rails r)))
    ++ u64 m.logNext ++ u64 oldest
    ++ (match dom with | some (d, c, _) => toLe 2 d ++ toLe 2 c | none => toLe 2 0xFFFF ++ toLe 2 0xFFFF) ++ toLe 4 0
    ++ (match dom with
        | some (d, _, st) => u64 st.toNat ++ u64 (microJ (mapGet 0 t.work d)) ++ u64 (microJ (mapGet 0 t.ballast d))
        | none => List.replicate 24 0)
    ++ u64 (microJ (mapGet 0 t.work 1024)) ++ u64 (microJ (mapGet 0 t.ballast 1024)) ++ u64 m.calId ++ List.replicate 8 0

/-- A signed report frame of 384 bytes (R507). -/
def State.metReport (s : State) (dom : Option (Nat × Nat × DWord)) : List Byte :=
  let body := s.metBody dom
  body ++ signature 1 body ++ List.replicate 14 0

/-! ## Checkpoints and power-on (R504, R505, R508) -/

/-- The totals that MRAM holds: the valid copy with the higher sequence number (R505). -/
def MetRec.held (m : MetRec) : Option MetTotals :=
  match m.copyA, m.copyB with
  | some a, some b => some (if a.1 < b.1 then b.2 else a.2)
  | some a, none => some a.2
  | none, some b => some b.2
  | none, none => none

/-- Write a checkpoint to the older copy; a write that fails its read-back leaves the other copy (R504). -/
def State.checkpoint (s : State) (ok : Bool) : State :=
  let m := s.met
  let sa := match m.copyA with | some x => x.1 | none => 0
  let sb := match m.copyB with | some x => x.1 | none => 0
  let toA := m.copyA.isNone || (m.copyB.isSome && decide (sa < sb))
  let v := if ok then some (max sa sb + 1, m.tot) else none
  let s := s.modMet fun m => if toA then { m with copyA := v } else { m with copyB := v }
  if ok then s else (s.audit 8 s.met.sealCtr).pageErr pgMET Err.MET_CKPT_FAIL 0 0 8#32

/-- The checkpoint of a whole second, with its MODULE report; a new report interval starts (R504, R508). -/
def State.metCheckpoint (s : State) (ok : Bool) : State :=
  if !s.metRuns || s.met.tot.time % 1000000 ≠ 0 || s.met.tot.time = 0 then s
  else
    let s := s.modMet fun m => { m with tot := { m.tot with reportSeq := m.tot.reportSeq + 1 } }
    let s := s.checkpoint ok
    let r := s.metReport none
    s.modMet fun m => { m with report := r, inClass := !m.clockFault, faultEver := false, gap := false, faultLogged := false }

/-- The unit starts after power-on: the valid copy with the higher sequence is restored, or every register restarts at 0 (R505). -/
def State.metRestore (s : State) : State :=
  let best := s.met.held
  let s : State := { s with ballastBill := [] }
  let gap := best.isSome
  let tot : MetTotals := best.getD {}
  let s := s.modMet fun m => { m with running := true, powerOns := m.powerOns + 1, inClass := true, clockFault := false }
  let s := s.modMet fun m => { m with faultEver := false, faultLogged := false, charge := [], gap := gap, restoreFailed := !gap, tot := { tot with time := 0 } }
  let s := s.audit 1 (microJ s.met.tot.total)
  if best.isSome then s else (s.audit 9 s.met.sealCtr).pageErr pgMET Err.MET_RESTORE_FAIL

/-- The boot ROM has loaded unit 6 (R502): a stopped unit restores, a changed image takes over from a checkpoint and advances the seal. -/
def State.metImage (s : State) (x : FwSlot) : State :=
  let changed := match s.met.image with | some v => decide (v ≠ x.meas) | none => false
  let s := if s.met.running then (if changed then s.checkpoint true else s) else s.metRestore
  let s := if changed then (s.modMet fun m => { m with sealCtr := m.sealCtr + 1 }).raise pgMET 2 else s
  let s := if changed || s.met.firmwareDue then s.audit 2 (x.meas % 2 ^ 64) else s
  s.modMet fun m => { m with image := some x.meas, firmwareDue := false }

/-! ## The clock of the unit and calibration (R494, R503) -/

/-- MET_XTAL is missing or off limits: sampling goes on from the ring oscillator (R494). -/
def State.metClockFault (s : State) : State :=
  if !s.metRuns || s.met.clockFault then s
  else
    let s := (s.modMet fun m => { m with clockFault := true, faultEver := true, inClass := false }).audit 5 s.met.sealCtr
    s.pageErr pgMET Err.MET_CLOCK_FAULT 0 0 1#32

/-- The comparison of each second: above 200 ppm as a missing clock, above 50 ppm outside the class (R493, R494). -/
def State.metCompare (s : State) (ppm : Nat) : State :=
  if !s.metRuns then s
  else if 200 < ppm then s.metClockFault
  else if 50 < ppm then s.modMet fun m => { m with inClass := false }
  else s

/-- MET_XTAL has been within limits for 1 s (R494). -/
def State.metClockRestored (s : State) : State :=
  if !s.metRuns || !s.met.clockFault then s
  else (s.modMet fun m => { m with clockFault := false }).audit 6 s.met.sealCtr

/-- A calibration set offered in the calibration mode: bound to the serial and signed with the metrology key, or refused (R503). -/
def State.calibrate (s : State) (blob sig : List Byte) : State :=
  if !s.metRuns || !s.met.calMode then s
  else if Config.ed448Verify (Config.ed448Public 2) (toLe 8 s.fuse.serial.toNat ++ blob) sig then
    let s := s.modMet fun m => { m with calId := leOf (shake256 blob 8), sealCtr := m.sealCtr + 1 }
    (s.audit 3 s.met.calId).raise pgMET 2
  else (s.audit 4 s.met.calId).pageErr pgMET Err.MET_CAL_REFUSED

/-! ## Snapshots (R509) -/

/-- The head snapshot is signed and written to OPC, and its command retires (R509). -/
def State.snapshotDone (s : State) : State :=
  match s.met.snaps with
  | [] => s
  | x :: rest =>
    let d := s.domOf x.ctx
    let bs := s.metReport (some (d, x.ctx, x.step))
    if !s.metRuns then s
    else
      let s := s.modMet fun m => { m with snaps := rest }
      let a := (x.o.addr (x.o.plainOff 0)).1
      match s.spWrite d 0 0 0 ((List.range bs.length).map fun i => (a + i, bs.getD i 0)) with
      | .error f => s.ctxFault x.ctx f
      | .ok t => t.retireOne x.ctx x.id

end Sys2Proof.Machine
end

