-- ==== Sys2Proof/Machine/Reliability.lean ====
section
/-! DEFINITION. Errors and integrity (18_reliability.md): the 32-bit store code, damaged words, link retry, repair requests, fatal conditions and twin arming. -/

namespace Sys2Proof.Machine

open Sys2Proof

/-! ## The 32-bit store code (R516, R517) -/

/-- The 7-bit values with three bits set, ascending: columns of the data bits. -/
def storeColumns : List Nat :=
  (List.range 128).filter fun v => decide ((List.range 7).foldl (fun n i => n + v / 2 ^ i % 2) 0 = 3)

/-- Check bits of a 32-bit word: the XOR of the columns of its set bits (R516). -/
def storeCheck (d : Nat) : Nat :=
  (List.range 32).foldl (fun c k => if d / 2 ^ k % 2 = 1 then c ^^^ storeColumns.getD k 0 else c) 0

/-- The store poison marker. -/
def storeMarker : Nat := 0x7F

/-- What the decoder makes of a word: the data bits and check bits it flips (R517). -/
inductive StoreOut where
  | clean
  | marker
  /-- one corrected error: the bits flipped in data and in the check bits -/
  | fixed (data check : Nat)
  | fresh
deriving DecidableEq, Repr

/-- Decode by syndrome (R517). -/
def storeDecode (s : Nat) : StoreOut :=
  if s = 0 then .clean
  else if s = storeMarker then .marker
  else match (List.range 7).find? fun j => decide (s = 2 ^ j) with
    | some j => .fixed 0 (2 ^ j)
    | none => match (List.range 32).find? fun k => decide (storeColumns.getD k 0 = s) with
      | some k => .fixed (2 ^ k) 0
      | none => .fresh

/-- The outcome of reading a stored word with an error pattern: data bits [31:0], check bits above; the stored word carries the marker when it is poisoned (R516 to R518). -/
def storeRead32 (poisoned : Bool) (pat : Nat) : StoreOut :=
  storeDecode (storeCheck (pat % 2 ^ 32) ^^^ (pat / 2 ^ 32 % 128) ^^^ (if poisoned then storeMarker else 0))

/-- Outcome of a damaged word under the code of its store (R515): corrected, by the marker, or fresh. -/
inductive DamageOut where
  | clean | corrected | marker | fresh
deriving DecidableEq, Repr

/-- The 32-bit code's outcome. -/
def StoreOut.kind : StoreOut → DamageOut
  | .clean => .clean
  | .marker => .marker
  | .fixed _ _ => .corrected
  | .fresh => .fresh

/-- The outcome of the code of R336. -/
def damage64 (poisoned : Bool) (pat : Nat) : DamageOut :=
  let o := readWord poisoned pat
  if o.marker then .marker else if o.fresh then .fresh else if o.fixed then .corrected else .clean

/-- The 64-byte line of a damaged core-store or cluster-store word (R147, R99). -/
def damageLine (x : Damage) : Nat :=
  match x.kind with
  | .cluStore => (csBase x.unit.toNat + x.word.toNat % 2 ^ 18 * 8) / 64
  | _ => (coreBase x.unit.toNat x.core.toNat + x.word.toNat % 2 ^ 12 * 4) / 64

/-- The tile of a damaged accumulator word: 1,024 words to a tile (log entry 23, DESIGN CHOICE). -/
def damageTile (x : Damage) : Nat := x.word.toNat / 1024 % 4

/-! ## Fatal conditions (R525, R526) -/

/-- A fatal condition: recorded in MRAM, pushed as FATAL, aborts sent, accounts ramped down; a second one in the delay is only queued (R526, R538). -/
def State.fatalError (s : State) (code : Code) (info : Nat) : State :=
  let first := s.fatal.isNone
  let s := if first then
      let s := (s.wr (reg pgERR Off.ERR_FATAL_CODE) (code.setWidth 32)).wr (reg pgERR Off.ERR_FATAL_INFO) (BitVec.ofNat 32 info)
      s.wr64 (reg pgERR Off.ERR_FATAL_TIME_LO) s.now
    else s
  let ev := s.rd (reg pgERR Off.EVENT)
  let s := if bit ev evError then s
    else ((s.wr (reg pgERR Off.ERR_CODE) (code.setWidth 32)).wr (reg pgERR Off.ERR_INFO0) (BitVec.ofNat 32 info)).wr (reg pgERR Off.ERR_INFO1) 0
  let bits : Word := 4#32 ||| BitVec.ofNat 32 (2 ^ evError)
  let s := s.wr (reg pgERR Off.EVENT) (ev ||| bits)
  let s := s.pushAlert pgERR 2 (4#32 ||| (bits &&& ~~~ev &&& s.rd (reg pgERR Off.EVENT_EN)))
  if !first then s
  else
    let s := s.grps.foldl (fun t g => if g.2.winOpen then t.sendAbort g.1 code else t) s
    { s with fatal := some s.timer }

/-- Nanoseconds of ERR_CFG.FATAL_DELAY. -/
def State.fatalDelay (s : State) : Nat := fld (s.rd (reg pgERR Off.ERR_CFG)) 8 8 * 1000

/-- Is the escalation's reset due (R526)? -/
def State.fatalDue (s : State) : Bool :=
  match s.fatal with | some t => decide (t + s.fatalDelay ≤ s.evaluated) | none => false

/-! ## Damaged words (R515, R518, R520) -/

/-- A word of a core store or accumulator file met with damage: counts, poison and the fault of a consumer (R101, R518, R521). -/
def State.coreDamage (s : State) (x : Damage) : State × Option Flt :=
  let cl := x.unit.toNat
  let core := x.core.toNat
  let key := wreg core (pgCLU cl)
  let acc := decide (x.kind = .accFile)
  let ck := coreKey cl core
  let poisoned := if acc then ((s.getCore ck).tile (damageTile x)).poison else (s.mark (damageLine x)).poison
  match (storeRead32 poisoned x.pat).kind with
  | .clean => (s, none)
  | .corrected => (s.countCE (key (if acc then Off.CORE_ACC_CE else Off.CORE_STORE_CE)) 1, none)
  | .marker => (s, some (if acc then ⟨Err.TILE_POISONED, 3 + 4, x.word.toNat⟩ else ⟨Err.CORE_STORE_UE, 2 + 4, x.word.toNat % 2 ^ 12 * 4⟩))
  | .fresh =>
    let s := if acc then s.modCore ck fun r => r.poisonTiles [(damageTile x)] else s.poisonLine (damageLine x)
    let s := (s.incFld (key Off.CORE_UE) (if acc then 16 else 0) 16).noteUE 1 cl core
    (s, some (if acc then ⟨Err.ACC_UE, 3, x.word.toNat⟩ else ⟨Err.CORE_STORE_UE, 2, x.word.toNat % 2 ^ 12 * 4⟩))

/-- Damaged words that a pass of a core meets: the state, and the first fault. -/
def State.passDamage (s : State) (cl core : Nat) (errs : List Damage) : State × Option Flt :=
  errs.foldl (fun (a : State × Option Flt) x =>
    if (x.kind = .coreStore || x.kind = .accFile) && x.unit.toNat = cl && x.core.toNat = core then
      let (t, f) := a.1.coreDamage x
      (t, a.2.orElse fun _ => f)
    else a) (s, none)

/-- A word of a cluster store with damage (R148, R515, R518). -/
def State.cluDamage (s : State) (x : Damage) : State :=
  let cl := x.unit.toNat
  match damage64 (s.mark (damageLine x)).poison x.pat with
  | .corrected => s.countCE (reg (pgCLU cl) Off.CLU_CS_CE) 1
  | .fresh => ((s.poisonLine (damageLine x)).inc (reg (pgCLU cl) Off.CLU_CS_UE)).noteUE 2 cl 0
  | _ => s

/-- A word of a state array, of MRAM, or of a reserve, with damage: corrected and counted, or fatal (R515, R525). -/
def State.stateDamage (s : State) (x : Damage) : State :=
  match x.kind with
  | .reserve =>
    let st := x.unit.toNat
    let slow := decide (st ≥ 16)
    let page := if slow then pgSLOW else pgHBM st
    match damage64 false x.pat with
    | .corrected =>
      let s : State := { s with ceNew := s.ceNew + 1 }
      if slow then s.inc (wreg (x.word.toNat % 16) pgSLOW Off.SLOW_CE) else s.inc64 (reg page Off.HBM_CE_LO)
    | .fresh =>
      let s := s.wrFld (reg page (if slow then Off.SLOW_STATE else Off.HBM_STATE)) 0 3 5
      s.fatalError Err.STATE_UE (if slow then 0xE0 else 0xF0 + st)
    | _ => s
  | _ =>
    match (storeRead32 false x.pat).kind with
    | .corrected => s.countCE (reg pgERR Off.ERR_STATE_CE) 1
    | .fresh => s.fatalError Err.STATE_UE (x.unit.toNat % 256 + x.word.toNat % 2 ^ 24 * 256)
    | _ => s

/-- A word is read with damage outside any access that a row of its own names: it is corrected and counted, or its line, tile or array is lost. The write-back in an idle cycle leaves the stored word as the model holds it; without one the next read meets the damage again (R518). -/
def State.wordDamage (s : State) (x : Damage) : State :=
  match x.kind with
  | .coreStore | .accFile => (s.coreDamage x).1
  | .cluStore => s.cluDamage x
  | .stateArray | .reserve => s.stateDamage x

/-! ## Die-to-die links (R519) -/

/-- Contender number at a crossbar output: ten source ports, CD0 to CD7, I/O and update, of four channels each (R24, R261). -/
def xbarIndex (r : XbarReq) : Nat := r.port.val * 4 + r.chan.toNat

/-- A flit that leaves the I/O die has crossed the crossbar: of the contenders of that cycle the tie rule grants one. Is it this flit, and the state with the pointer of the output advanced (R24)? A flit from a replay buffer crosses again nothing (R519). -/
def State.crossbar (s : State) (out : Nat) (f : Flit) : Bool × State :=
  let (w, t) := s.tieGrant (0x50000 + out) 40 ((f.own :: f.others).map fun r => (xbarIndex r, r.cls.toNat))
  if w = some (xbarIndex f.own) then (true, t) else (false, s)

/-- Error patterns of the codewords that a flit has: two of the header and one to each 8 bytes of payload (R22). -/
def flitCodewords (f : Flit) : List Nat := (f.errs ++ List.replicate (2 + f.words.val) 0).take (2 + f.words.val)

/-- A flit arrives on link a → b with error patterns over its codewords: corrected and counted, or discarded with a request to resend. Every later flit of the link, on any channel, is discarded until it is resent (R519). A flit that the crossbar has not granted has not come (R24). -/
def State.flit (s : State) (a b : Nat) (resent : Bool) (f : Flit) : State :=
  let k := a * 16 + b
  let n := mapGet 0 s.linkRetry k
  let (go, s') := if a = 8 ∧ resent = false then s.crossbar b f else (true, s)
  if !go || 8 < n then s
  else if decide (0 < n) && !resent then s'
  else
    let s := s'
    let outs := (flitCodewords f).map (damage64 false)
    let s := s.countCE (reg pgERR Off.ERR_FLIT_CE) (outs.filter (· == .corrected)).length
    if outs.any fun o => o == .fresh || o == .marker then
      let s := if n < 8 then s.inc (reg pgERR Off.ERR_FLIT_RETRY) else s
      { s with linkRetry := mapSet 0 s.linkRetry k (n + 1) }
    else { s with linkRetry := mapSet 0 s.linkRetry k 0 }

/-- Has a flit of the link failed its eighth retry? -/
def State.linkFailed (s : State) (a b : Nat) : Bool := decide (8 < mapGet 0 s.linkRetry (a * 16 + b))

/-! ## Repair, storms, the pin and twins -/

/-- ERR_REPAIR_REQ: GO records the named unit; a reserved kind or a unit outside the module is refused (R523, R17). -/
def State.repairRequest (s : State) (v : Word) : State :=
  if !bit v 0 then s
  else if fld v 1 2 = 3 || 375 ≤ fld v 6 9 || 100 ≤ fld v 15 7 then s.invalidWrite pgERR
  else if 512 ≤ s.repairs.length then s
  else
    let r : Repair := { kind := fld v 1 2, clu := fld v 3 3 * 375 + fld v 6 9, core := fld v 15 7, row := fld v 22 4 }
    ({ s with repairs := s.repairs ++ [r] } : State).raise pgERR 3

/-- The sum of corrected errors of the second that has passed (R532). What the FEC of the ports corrected is a free part of it: no row carries it (log entry 9, DESIGN CHOICE). -/
def State.stormCheck (s : State) : State :=
  let (fec, s) := s.draw
  let n := min (s.ceNew + fec.toNat % 2 ^ 32) (2 ^ 32 - 1)
  let s : State := { s.wr (reg pgERR Off.ERR_CE_LAST) (BitVec.ofNat 32 n) with ceNew := 0 }
  if (s.rd (reg pgERR Off.ERR_CE_THRESH)).toNat < n then s.raise pgERR 0 else s

/-- ALERT_N is asserted (R530); a warm-class reset holds its level until READY (R549). -/
def State.alertN (s : State) : Bool :=
  let cfg := s.rd (reg pgERR Off.ERR_CFG)
  s.heldAlert.getD (bit cfg 2 && s.alerts.any fun e => decide (fld cfg 0 2 ≤ e.sev))

/-- Key of a register of a context's window of the TWIN page. -/
def twinReg (c off : Nat) : Nat := wreg c pgTWIN off

/-- TWIN_ARM of a context on a group identifier: once per replay, on a two-member group of the context (R533). -/
def State.twinArm (s : State) (c id : Nat) : Except Flt State :=
  if (s.getStep c).twin.isSome then .ok s
  else match s.slotFor c id with
    | none => .error ⟨Err.TWIN_GROUP_INVALID, 0, 0⟩
    | some g =>
      if s.grpN g ≠ 2 || 65534 < (s.rd (grpReg g Off.COLL_GRP_TT_COUNT)).toNat then .error ⟨Err.TWIN_GROUP_INVALID, 0, 0⟩
      else
        let s := (s.wr (twinReg c Off.TWIN_CTX_STATE) 1).wr (twinReg c Off.TWIN_CTX_GROUP) (BitVec.ofNat 32 (id % 2 ^ 20))
        .ok (s.modStep c fun r => { r with twin := some g })

end Sys2Proof.Machine
end

