-- ==== Sys2Proof/Machine/Reset.lean ====
section
/-! DEFINITION. Reset, start-up and clocks (19_reset_clocks.md): what each reset clears, the warm-class ramp, the stages of a start, and repair records. -/

namespace Sys2Proof.Machine

open Sys2Proof

/-- RST registers. -/
def rstReg (off : Nat) : Nat := reg pgRST off
/-- RST_STAGE (R560). -/
def State.stage (s : State) : Nat := fld (s.rd (rstReg Off.RST_STAGE)) 0 4
/-- Enter a stage. -/
def State.setStage (s : State) (n : Nat) : State := s.wr (rstReg Off.RST_STAGE) (BitVec.ofNat 32 n)
/-- Has every compute account reached 0 (R548)? -/
def State.accountsZero (s : State) : Bool := (List.range 8).all fun a => decide (s.account a = 0)

/-- STATUS[1:0] (R549, R577). -/
def State.statusPins (s : State) : Nat :=
  if s.stage = 9 || s.stage = 10 || s.fatal.isSome then 3
  else match s.heldStatus with
    | some v => v
    | none => if s.stage ≠ 8 then 0 else if s.scrub = [] then 1 else 2

/-! ## What each reset clears (R546) -/

/-- The kinds of reset of R546. -/
inductive RstKind where
  | powerOn | resetN | warm
deriving DecidableEq, Repr

/-- Is a page cleared by every reset: contexts, clusters, routers, COLL, UPD, SCHD, CAL, ATT, DBG and TWIN windows (R546)? -/
def alwaysCleared (page : Nat) : Bool :=
  decide (0x1000 ≤ page) || [pgCOLL, pgUPD, pgSCHD, pgCAL, pgATT, pgDBG, pgTWIN].contains page

/-- Does a register survive a reset of a kind (R546; log entry 24, DEDUCED)? The whole NVM page stays, its LOCK, EVENT and EVENT_EN too: R546 does not list the page (log entry 43, DESIGN CHOICE). -/
def regKept (kind : RstKind) (k : Nat) : Bool :=
  let win := decide (2 ^ 28 ≤ k)
  let page := k % 2 ^ 28 / 4096
  let off := k % 4096
  let reserve := win && page == pgGLOB && off == Off.GLOB_DOM_XLAT_COUNT
  match kind with
  | .warm =>
    if page == pgGLOB && win then reserve
    else if page == pgMGMT && win then false
    else if decide (0x1000 ≤ page) && decide (page < 0x2000) && off == Off.CORE_ROW_MAP then true
    else !alwaysCleared page
  | _ =>
    (page == pgRST && [Off.RST_CAUSE, Off.RST_COUNT_COLD, Off.RST_COUNT_WARM, Off.RST_DEFER_MAX].contains off)
    || page == pgNVM
    || (page == pgERR && [Off.ERR_FATAL_CODE, Off.ERR_FATAL_INFO, Off.ERR_FATAL_TIME_LO, Off.ERR_FATAL_TIME_HI, Off.ERR_REPAIR_COUNT].contains off)
    || (decide (pgDIE 0 ≤ page) && decide (page ≤ pgDIE 7) && off == Off.PAGE_ABSENT)
    || (decide (kind = .resetN) && (reserve || (page == pgMET && off == Off.MET_SAMPLE_FAULTS)
        || (page == pgKEY && win && [Off.KEY_DOM_MEM_GEN, Off.KEY_DOM_CMD_GEN, Off.KEY_PORT_LINK_GEN].contains off)))

/-- Is a byte address outside the on-die stores? -/
def offDie (a : Nat) : Bool := decide (a < 2 ^ 53) || decide (2 ^ 56 ≤ a)

/-- Blocks that every reset clears, sessions ended and the alert queue emptied (R546). -/
def State.clearBlocks (s : State) (kind : RstKind) : State :=
  let s : State := { s with regs := s.regs.filter fun p => regKept kind p.1, sregs := [], ctx := [], cores := [], sess := [], alerts := [] }
  let s : State := { s with mem := s.mem.filter fun c => offDie c.1, marks := s.marks.filter fun m => offDie (m.1 * 64) }
  let s : State := { s with ties := [], amax := [], moverRem := [], saves := [], lreqs := [], lresv := [], armed := [], timeouts := [] }
  let s : State := { s with lateEnt := [], grps := [], sends := [], parcels := [], lands := [], steps := [], armRecs := [], landq := [] }
  let s : State := { s with qps := [], rings := [], frame := none, jobs := [], logOpen := [], att := [], fwBusy := none }
  let s : State := { s with warm := none, fatal := none, stagedDies := [], linkRetry := [], wc := [], tags := [] }
  s.modMet fun m => { m with snaps := [] }

/-- What a cold reset clears beyond that (R546). -/
def State.clearCold (s : State) : State :=
  let s : State := { s with alertSeq := 0, now := 0, frac := 0, time := {}, rails := [], thr := {}, ballastPc := [], wcFence := [] }
  { s with slowRem := [], pfc := [], pfcNs := [], ethRem := [], ueSeen := [], ceNew := 0, pmbMiss := [], hold := false }

/-- What power-on loses beyond a cold reset: the tiers, the base-die reserve and the running metrology unit, whose totals stay as held in MRAM (R502, R505, R546). -/
def State.clearPower (s : State) : State :=
  let s : State := { s with mem := s.mem.filter fun c => decide (2 ^ 56 ≤ c.1), marks := [], grans := [], staged := [], active := [] }
  let s : State := { s with scrub := [], patrol := [], slowPasses := [], sparesUsed := [], logs := [], ballastBill := [], running := [] }
  s.modMet fun m => { m with running := false, tot := { m.held.getD {} with time := 0 }, charge := [], report := [], calMode := false, clockFault := false, faultEver := false, gap := false, restoreFailed := false }

/-- A pulse under way holds the reset of the non-volatile domain (R545). -/
def State.holdPulse (s : State) : State :=
  match s.nv with
  | none => s
  | some r => ({ s with nv := some { r with held := true } } : State).wrBit (reg pgNVM Off.NVM_STATE) 2 true

/-- Record the cause of a reset (R560). -/
def State.setCause (s : State) (n : Nat) : State := s.wr (rstReg Off.RST_CAUSE) (BitVec.ofNat 32 n)

/-- A cold reset is recognised: the load is released at once, everything that R546 clears is cleared, and the module waits in RESET (R542, R543, R546, R548). -/
def State.coldReset (s : State) (power : Bool) : State :=
  let s := s.holdPulse
  let s := (s.clearBlocks (if power then .powerOn else .resetN)).clearCold
  let s := if power then s.clearPower else s
  let s := (s.setCause (if power then 1 else 2)).inc (rstReg Off.RST_COUNT_COLD)
  { s.setStage 0 with warmStart := false, deferred := false, heldStatus := none, heldAlert := none }

/-! ## Warm-class resets (R542, R548, R556) -/

/-- Order of causes in RST_CAUSE: the first listed wins (R556). -/
def causeRank (n : Nat) : Nat := match n with | 1 => 0 | 2 => 1 | 6 => 2 | 5 => 3 | 4 => 4 | _ => 5

/-- The cause that two merged resets record. -/
def mergeCause (old : Option Nat) (n : Nat) : Nat :=
  match old with | none => n | some m => if causeRank m ≤ causeRank n then m else n

/-- A warm-class reset is recognised: a pulse under way is its last, LSTEP_N assert and the drogue ramp begins (R297, R545, R548, R555). -/
def State.beginWarm (s : State) (cause : Nat) : State :=
  let s := s.holdPulse
  let s := (List.range 8).foldl (fun t a => t.assertLstep a) s
  { s with warm := some (mergeCause s.warm cause) }

/-- Ports lose their links at the entry of a warm-class reset (R546, R549). -/
def State.dropLinks (s : State) : State :=
  let used := 16 + b2n (bit (s.rd (tReg Off.TIME_STATE)) 3)
  let lost := s.linkUp used
  let s := (List.range 18).foldl (fun t p => (t.wr (ethReg p Off.ETH_STATE) 0).wrFld (ethReg p Off.ETH_MSEC_STATE) 0 2 0) s
  let s := s.wr (reg pgMSEC Off.MSEC_PORTS_SECURED) 0
  if lost then { s with time := { s.time with linkLost := true } } else s

/-- Memory leaves service for a start: present stacks and the packages train again; a failed one stays failed (R547, R553). -/
def State.memState (s : State) (n : Nat) : State :=
  let put (t : State) (k : Nat) : State := if fld (t.rd k) 0 3 = 5 then t else t.wrFld k 0 3 n
  let s := (List.range 16).foldl (fun t i => if t.pagePresent .hbm i then put t (reg (pgHBM i) Off.HBM_STATE) else t) s
  put s (reg pgSLOW Off.SLOW_STATE)

/-- A repair that a reset finds on its way is abandoned, in a stack and in the firmware's slots (R352, R481). -/
def State.abandonRepairs (s : State) : State :=
  let s := (List.range 16).foldl (fun t i =>
    let k := reg (pgSTK_REPAIR i) Off.STK_REPAIR_STATUS
    if bit (t.rd k) 0 then t.wr k 0 else t) s
  s.wrBit (reg pgSEC Off.SEC_FW_STATUS) 0 false

/-- The warm-class reset takes effect, with the accounts at 0 and the buffers fenced: what R546 keeps is kept, and the pins of R549 hold their levels; THERMAL_HOLD, or the warm start (R548, R550, R555). -/
def State.warmEnter (s : State) (cause : Nat) : State :=
  let status := s.statusPins
  let alert := s.alertN
  let s := s.fenceEntries fun _ => true
  let s : State := { s with wc := [] }
  let ledgerTies := s.ties.filter fun t => decide (0x10000 ≤ t.1) && decide (t.1 < 0x20000)
  let caps := s.rails.filterMap fun r => if r.2.caps = [] then none else some (r.1, ({ caps := r.2.caps } : RailRec))
  let s := (s.clearBlocks .warm).dropLinks.abandonRepairs
  let s : State := { s with ties := ledgerTies, rails := caps }
  let s := (List.range 8).foldl (fun t a => (t.wr (railReg a Off.LEDG_RAIL_ACCOUNT) 0).wr (railReg a Off.LEDG_RAIL_ANCHOR) 0) s
  let s := s.wr (reg pgLEDG Off.LEDG_LSTEP_STATE) 0
  let s := ((s.memState 1).setCause (cause + 16 * b2n s.deferred)).inc (rstReg Off.RST_COUNT_WARM)
  let hold := s.hold || cause = 6
  { s.setStage (if hold then 10 else 3) with
    warmStart := true, hold := false, deferred := false, heldStatus := some status, heldAlert := some alert }

/-- A warm-class reset that is due is entered when no pulse holds it (R545, R555). -/
def State.enterWarm (s : State) (cause : Nat) : State :=
  if s.nv.isSome then s.holdPulse else s.warmEnter cause

/-- WARM_RESET_ENTER: due when a warm-class reset has ramped every account to 0 (R548). -/
def State.warmResetEnter (s : State) : State :=
  match s.warm with
  | some cause => if s.accountsZero then s.enterWarm cause else s
  | none => s

/-- The fatal delay has passed and the accounts are at 0 (R526, R548). -/
def State.fatalReset (s : State) : State :=
  if s.fatalDue && s.accountsZero then s.enterWarm (mergeCause s.warm 5) else s

/-- The watchdog expires; during the fatal delay the escalation proceeds (R542, R556). -/
def State.watchdog (s : State) : State :=
  if !bit (s.rd (rstReg Off.RST_WDT_CFG)) 0 || s.stage < 3 then s
  else
    let s := s.pageErr pgRST Err.WATCHDOG_EXPIRED 0 0 2#32
    if s.fatal.isSome || s.stage = 10 then s else s.beginWarm 4

/-- A PLL loses lock: counted, recorded, and fatal (R559). -/
def State.pllUnlock (s : State) (d : Nat) : State :=
  if !bit (s.rd (reg pgCLK Off.CLK_LOCK)) (d - 1) || 23 < d then s
  else
    let s := (s.wrBit (reg pgCLK Off.CLK_LOCK) (d - 1) false).inc (reg pgCLK Off.CLK_UNLOCKS)
    (s.pageErr pgCLK Err.PLL_UNLOCK d 0 1#32).fatalError Err.PLL_UNLOCK d

/-! ## Start-up (R551 to R555) -/

/-- The most frequent of the conversions, the lower code on a tie (R551). -/
def strapCode (conv : List (BitVec 4)) : Nat :=
  let count (v : Nat) : Nat := (conv.filter fun c => decide (c.toNat = v)).length
  (List.range 16).foldl (fun best v => if count best < count v then v else best) 0

/-- Step 1 of a cold start: STRAP_SEL is measured, and selects the port, the source and the slot (R551 to R553). -/
def State.startStrap (s : State) (conv : List (BitVec 4)) : State :=
  let code := strapCode conv
  let lo := conv.foldl (fun m c => min m c.toNat) 15
  let hi := conv.foldl (fun m c => max m c.toNat) 0
  let s := (s.setStage 1).wr (reg pgSTRP Off.STRP_VALUE) (BitVec.ofNat 32 (code + 16 * b2n (decide (lo ≠ hi)) + lo * 256 + hi * 4096))
  let s := s.wr (reg pgCLK Off.CLK_LOCK) 0x1800000#32
  let s := s.wrFld (tReg Off.TIME_CFG) 0 2 (code / 2 % 2 + code % 2 * 2)
  let s := s.wrBit (tReg Off.TIME_STATE) 3 (code % 2 = 1)
  if lo ≠ hi then s.pageErr pgSTRP Err.STRAP_UNSTABLE 0 0 1#32 else s

/-- PWROK returns high: the cold start begins once RESET_N is high too (R553). -/
def State.pwrokRise (s : State) (conv : List (BitVec 4)) : State :=
  if s.powered || conv.length ≠ 16 then s
  else
    let s : State := { s with powered := true }
    if s.rstLow then s else s.startStrap conv

/-- RESET_N is recognised low (R543). -/
def State.resetNAssert (s : State) : State :=
  if s.rstLow then s
  else if s.powered then { s.coldReset false with rstLow := true }
  else { s with rstLow := true }

/-- RESET_N is released: output instructions of the TAP stop driving, and the cold start begins (R543, R553, R581). -/
def State.resetNRelease (s : State) (conv : List (BitVec 4)) : State :=
  if !s.rstLow || conv.length ≠ 16 then s
  else
    let s : State := { s with rstLow := false, tap := { s.tap with driven := none, hiz := false, clamp := false, ir := if [0, 3, 4, 5, 6].contains s.tap.ir then 0xFF else s.tap.ir } }
    if s.powered then s.startStrap conv else s

/-- Fuse sense completes: the PLLs lock and fabric time starts at 0 in FREE (R307, R553). -/
def State.fuseSense (s : State) : State :=
  if s.stage ≠ 1 then s
  else
    let s := (s.wr (reg pgCLK Off.CLK_LOCK) 0x1FFFFFF#32).setStage 3
    let s : State := { s with now := 0, frac := 0 }
    (List.range 18).foldl (fun t p =>
      let m := (t.fuse.mac.toNat + p) % 2 ^ 48
      (t.wr (ethReg p Off.ETH_MAC_LO) (BitVec.ofNat 32 m)).wr (ethReg p Off.ETH_MAC_HI) (BitVec.ofNat 32 (m / 2 ^ 32))) s

/-- Units in training or staging, asked of the ledger (R284, R553). -/
def trainUnits (s : State) (stage : Nat) : List LUnit :=
  if stage = 5 then
    ((List.range 16).filter fun i => s.pagePresent .hbm i).map (fun i => { acct := 10, ix := 400 + i, iclass := 12 })
      ++ (List.range 16).map fun i => { acct := 11, ix := 400 + i, iclass := 12 }
  else if stage = 7 then ((List.range 18).filter s.portPresent).map fun p => { acct := 12, ix := 400 + p, iclass := 13 }
  else []

/-- Is a unit one of start-up? -/
def startUnit (u : LUnit) : Bool := u.iclass == 12 || u.iclass == 13 || u.iclass == 14

/-- Does a unit in training or staging, of any account or of one, still wait for its current, or stand frozen (R284, R597)? -/
def State.startWaits (s : State) (acct : Option Nat) : Bool :=
  (s.lreqs.any fun r => acct.all (· == r.acct) && r.units.any startUnit)
    || s.lresv.any fun u => startUnit u && acct.all (· == u.acct) && (s.rail u.acct).frozen.contains u.name

/-- Staging of a die ungates its clusters (R554). -/
def State.stageUnits (s : State) (die : Nat) : List LUnit :=
  ((List.range 375).filter fun n => decide (s.cluUse (die * 375 + n) ≠ .off)).map fun n => { acct := die, ix := n, iclass := 14 }

/-- Memory start-up begins (R553 step 5). -/
def State.beginMemory (s : State) : State :=
  let s := (s.setStage 5).memState 1
  s.askUnits (trainUnits s 5)

/-- The boot ROM: a cold start verifies every unit or enters recovery; a warm start reloads the verified images (R479, R502, R553, R555). Firmware then writes STATUS (R549). -/
def State.boot (s : State) : State :=
  let s : State := if s.stage = 3 then { s with heldStatus := none } else s
  if s.stage ≠ 3 then s
  else if s.warmStart then (s.wr (reg pgCLK Off.CLK_LOCK) 0x1FFFFFF#32).beginMemory
  else match s.bootLoad s.bootUnits with
    | (t, none) => ((if t.fuse.grade = 3 then t else t.metImage (mapGet {} t.running 6)).wrBit (reg pgSEC Off.SEC_STATE) 0 true).setStage 4
    | (t, some (u, code)) =>
      let t := (t.fwStatus false false true u code).pageErr pgSEC code u
      let t := if u = 6 then t.modMet fun m => { m with firmwareDue := true } else t
      (t.wrBit (reg pgSEC Off.SEC_STATE) 1 true).setStage 9

/-- Keys are derived (R464, R553). -/
def State.keysDone (s : State) : State :=
  if s.stage ≠ 4 then s else (s.wrBit (reg pgSEC Off.SEC_STATE) 2 true).beginMemory

/-- Does any sensor hold the trip comparator? -/
def State.tripLive (s : State) : Bool := s.trips ≠ []

/-- Memory is trained, with the current of every stack and package granted: stacks and packages ONLINE; fills, moves and scrubs go on; staging starts unless a sensor still trips (R547, R550, R553). -/
def State.memoryDone (s : State) : State :=
  if s.stage ≠ 5 || s.startWaits none then s
  else
    let s := s.releaseUnits startUnit none
    if s.tripLive then { (s.memState 1).setStage 10 with warmStart := true }
    else
      let s := (s.memState 2).scrubUnits
      let s : State := { s.setStage 6 with stagedDies := [] }
      let s := if s.warmStart then s else s.wr (reg pgERR Off.ERR_REPAIR_COUNT) 0
      s.askUnits (s.stageUnits 0)

/-! ## Repair records (R27, R523, R524) -/

/-- Physical spare core of a cluster: fitted, not mapped out and serving no logical core. -/
def State.spareCore (s : State) (cl : Nat) : Option Nat :=
  (List.range 100).find? fun p => (s.logCore cl p).isNone && !mapGet false s.fuse.coreOff (coreKey cl p)

/-- Count an outcome of repair in ERR_REPAIR_COUNT (R539). -/
def State.repairOutcome (s : State) (short : Bool) : State :=
  s.incFld (reg pgERR Off.ERR_REPAIR_COUNT) (if short then 20 else 10) 10

/-- Map out a cluster: a spare cluster of its die takes its place, or it is disabled and PAGE_ABSENT shows it (R27, R432, R524). -/
def State.repairClu (s : State) (cl : Nat) : State :=
  match s.cluUse cl with
  | .off => s
  | .spare => ({ s with fuse := { s.fuse with clu := mapPut cl .off s.fuse.clu } } : State).repairOutcome false
  | .enabled =>
    let die := cl / 375
    let off (t : State) : State := { t with fuse := { t.fuse with clu := mapPut cl .off t.fuse.clu } }
    match (List.range 375).find? fun n => decide (s.cluUse (die * 375 + n) = .spare) with
    | some n => (({ off s with fuse := { (off s).fuse with clu := mapPut (die * 375 + n) .enabled (off s).fuse.clu } } : State)).repairOutcome false
    | none =>
      let t := (off s).wrBit (reg (pgDIE die) Off.PAGE_ABSENT) (cl % 375 / 12) true
      (t.repairOutcome true).raise pgERR 4

/-- Map out a core: a spare core of its cluster serves its logical core, or the cluster is repaired (R27). -/
def State.repairCore (s : State) (cl p : Nat) : State :=
  if mapGet false s.fuse.coreOff (coreKey cl p) || s.cluUse cl = .off then s
  else
    let t : State := { s with fuse := { s.fuse with coreOff := mapSet false s.fuse.coreOff (coreKey cl p) true } }
    match s.logCore cl p with
    | none => t.repairOutcome false
    | some l => match t.spareCore cl with
      | some q => ({ t with fuse := { t.fuse with core := mapPut (coreKey cl l) q t.fuse.core } } : State).repairOutcome false
      | none => t.repairClu cl

/-- Apply a repair record: a spare row serves its own core only once; a unit already mapped out is discarded (R27, R523). -/
def State.applyRepair (s : State) (r : Repair) : State :=
  let k := coreKey r.clu r.core
  if r.kind = 2 then s.repairClu r.clu
  else if r.kind = 1 then s.repairCore r.clu r.core
  else if mapGet false s.fuse.coreOff k || s.cluUse r.clu = .off then s
  else match s.fuse.rows.find? fun x => x.1 == k with
    | some (_, row) => if row = r.row then s else s.repairCore r.clu r.core
    | none => ({ s with fuse := { s.fuse with rows := mapPut k r.row s.fuse.rows } } : State).repairOutcome false

/-- CORE_ROW_MAP of the cores of a die under the applied row records (R103, R523). -/
def State.loadRowMaps (s : State) (die : Nat) : State :=
  s.fuse.rows.foldl (fun t x =>
    if x.1 / 128 / 375 = die then t.wr (wreg (x.1 % 128) (pgCLU (x.1 / 128)) Off.CORE_ROW_MAP) (BitVec.ofNat 32 (x.2 % 16 + 16)) else t) s

/-- A die is staged, with the current of its clusters granted: its pending records are applied on a cold start, units that fail the self-test become records, and after the eighth die links train (R553, R554). -/
def State.dieStaged (s : State) (die : Nat) (bad : List (BitVec 2 × BitVec 9 × CoreIx × BitVec 4)) : State :=
  if s.stage ≠ 6 || s.stagedDies.length ≠ die || s.startWaits (some die) then s
  else
    let mine := s.repairs.filter fun r => decide (r.clu / 375 = die)
    let s := if s.warmStart then s
      else
        let t : State := { s with repairs := s.repairs.filter fun r => decide (r.clu / 375 ≠ die) }
        (mine.foldl State.applyRepair t).loadRowMaps die
    let new := bad.map fun b => ({ kind := b.1.toNat, clu := die * 375 + b.2.1.toNat, core := b.2.2.1.toNat, row := b.2.2.2.toNat } : Repair)
    let s := if new = [] then s
      else ({ s with repairs := s.repairs ++ new.take (512 - s.repairs.length) } : State).raise pgERR 3
    let s := s.releaseUnits (fun u => startUnit u && u.acct == die) none
    let s : State := { s with stagedDies := s.stagedDies ++ [die] }
    if die = 7 then
      let s := s.setStage 7
      s.askUnits (trainUnits s 7)
    else s.askUnits (s.stageUnits (die + 1))

/-- Link training completes, with the current of every port granted: READY (R553). -/
def State.linksDone (s : State) : State :=
  if s.stage ≠ 7 || s.startWaits none then s else { (s.releaseUnits startUnit none).setStage 8 with heldAlert := none }

end Sys2Proof.Machine
end

