-- ==== Sys2Proof/Machine/Electrical.lean ====
section
/-! DEFINITION. Sensors, regulators and test access (20_electrical.md): thermal limits, PMBus, AVSBus and the module TAP. -/

namespace Sys2Proof.Machine

open Sys2Proof

/-! ## Temperatures (R578, R579, R550) -/

/-- TEMP registers. -/
def tempReg (off : Nat) : Nat := reg pgTEMP off
/-- Last reading of a sensor, in 1/16 °C. -/
def State.temp (s : State) (x : Nat) : Int := (mapGet 0 s.temps x).toInt

/-- Is a sensor fitted: 0 to 135 on dies, 136 to 151 on present stacks (R578)? -/
def State.sensorPresent (s : State) (x : Nat) : Bool := decide (x < 136) || (decide (x < 152) && s.pagePresent .hbm (x - 136))

/-- Record a reading, with the peak; the sensor of an absent stack reads 0 (R578, R585). -/
def State.setTemp (s : State) (x : Nat) (t : BitVec 16) : State :=
  if !s.sensorPresent x then s
  else
    let s : State := { s with temps := mapSet 0 s.temps x t }
    let pk := fld (s.rd (tempReg Off.TEMP_PEAK)) 0 16
    if sext pk 16 < t.toInt then s.wr (tempReg Off.TEMP_PEAK) (t.setWidth 32) else s

/-- TEMP_CFG.THROTTLE in 1/16 °C. -/
def State.throttleAt (s : State) : Int := (fld (s.rd (tempReg Off.TEMP_CFG)) 0 8 : Int) * 16
/-- TEMP_CFG.HYST in 1/16 °C. -/
def State.hystOf (s : State) : Int := (fld (s.rd (tempReg Off.TEMP_CFG)) 8 8 : Int) * 16

/-- Compute accounts that a die sensor caps (R579). -/
def cappedBy (x : Nat) : List Nat := if x < 128 then [x / 16] else if x < 136 then List.range 8 else []

/-- A die sensor reaches THROTTLE: its accounts are capped; each capping is counted and raised (R579). -/
def State.thermalThrottle (s : State) (x : Nat) (t : BitVec 16) : State :=
  let s := s.setTemp x t
  if t.toInt < s.throttleAt || 136 ≤ x then s
  else (cappedBy x).foldl (fun u a =>
    let caps := (u.rail a).caps
    if caps.contains x then u
    else
      let v := u.modRail a fun r => { r with caps := r.caps ++ [x] }
      if caps = [] then (v.inc (tempReg Off.TEMP_THROTTLES)).raise pgTEMP 0 else v) s

/-- The sensors that cap an account have read below THROTTLE − HYST for 1 ms: the cap is lifted (R579). -/
def State.thermalRelease (s : State) (a : Nat) (ts : List (BitVec 8 × BitVec 16)) : State :=
  let s := ts.foldl (fun u p => u.setTemp p.1.toNat p.2) s
  let caps := (s.rail a).caps
  if caps = [] || caps.any (fun x => decide (s.throttleAt - s.hystOf ≤ s.temp x)) then s
  else (s.modRail a fun r => { r with caps := [] }).raise pgTEMP 1

/-- A stack's hottest DRAM die reaches 85 °C, or falls back below it; the base die's refresh follows the reading (R578). -/
def State.stackTemp (s : State) (st : Nat) (t : BitVec 16) (hot : Bool) : State :=
  let x := 136 + st
  if !s.sensorPresent x then s
  else
    let was := decide (85 * 16 ≤ s.temp x)
    let s := s.setTemp x t
    if hot && !was && decide (85 * 16 ≤ t.toInt) then s.raise pgTEMP 2 else s

/-- Trip and release points of a sensor in 1/16 °C (R578). -/
def tripAt (x : Nat) : Int := if x < 136 then 115 * 16 else 105 * 16
/-- THERM_TRIP_N is released below this. -/
def tripClear (x : Nat) : Int := if x < 136 then 110 * 16 else 100 * 16

/-- A sensor at or above trip: THERM_TRIP_N asserts, and the warm-class reset into THERMAL_HOLD begins; a warm start under way stops where it is (R542, R550, R556, R578). -/
def State.thermalTrip (s : State) (x : Nat) (t : BitVec 16) : State :=
  let s := s.setTemp x t
  if !s.sensorPresent x || t.toInt < tripAt x then s
  else
    let s : State := { s with trips := (s.trips.filter fun y => y != x) ++ [x] }
    let st := s.stage
    if st < 3 || st = 10 then s
    else
      let s := s.pageErr pgRST Err.THERMAL_TRIP x 0 1#32
      if s.warmStart && st ≠ 8 then { (s.memState 1).setStage 10 with lresv := s.lresv.filter fun u => !startUnit u, lreqs := s.lreqs.filter fun r => !r.units.any startUnit }
      else if st < 6 then s
      else if st = 9 then s
      else { s.beginWarm 6 with hold := true }

/-- A sensor falls below its release point: the comparator lets go (R578). -/
def State.tripRelease (s : State) (x : Nat) (t : BitVec 16) : State :=
  let s := s.setTemp x t
  if t.toInt < tripClear x then { s with trips := s.trips.filter fun y => y != x } else s

/-- Every sensor below RST_THERM_CLEAR for 1 s ends THERMAL_HOLD with a warm start (R550). -/
def State.holdExit (s : State) : State :=
  let limit : Int := (fld (s.rd (rstReg Off.RST_THERM_CLEAR)) 0 8 : Int) * 16
  if s.stage ≠ 10 || s.temps.any (fun p => decide (limit ≤ p.2.toInt)) then s
  else { s.setStage 3 with warmStart := true }

/-! ## Regulators (R570, R571) -/

/-- Key of a rail's window of the PMB page. -/
def pmbReg (r off : Nat) : Nat := wreg r pgPMB off

/-- A STATUS_WORD of a rail: any set bit is a fault (R571; log entry 25, DESIGN CHOICE). -/
def State.pmbStatus (s : State) (r : Nat) (v : BitVec 16) : State :=
  let s := s.wr (pmbReg r Off.PMB_STATUS) (v.setWidth 32)
  if v = 0 then s else (s.inc (reg pgPMB Off.PMB_FAULTS)).pageErr pgPMB Err.REG_FAULT r 0 1#32

/-- One regulator's answer to a poll (R571). -/
def State.pmbAnswer (s : State) (r : Nat) (x : Option PmbAns) : State :=
  match x with
  | some a =>
    let s : State := { s with pmbMiss := mapSet 0 s.pmbMiss r 0 }
    let s := ((s.wr (pmbReg r Off.PMB_VOUT) (a.vout.setWidth 32)).wr (pmbReg r Off.PMB_IOUT) a.iout).wr (pmbReg r Off.PMB_TEMP) (a.temp.setWidth 32)
    s.pmbStatus r a.status
  | none =>
    let n := mapGet 0 s.pmbMiss r + 1
    let s : State := { s with pmbMiss := mapSet 0 s.pmbMiss r n }
    if n = 3 then (s.wrBit (pmbReg r Off.PMB_STATUS) 16 true).pageErr pgPMB Err.PMBUS_NO_RESPONSE r 0 4#32 else s

/-- A poll of the thirteen regulators; in reset there are no transactions (R549, R571). -/
def State.pmbPoll (s : State) (ans : List (Option PmbAns)) : State :=
  if !bit (s.rd (reg pgPMB Off.PMB_CFG)) 0 || s.stage < 3 || ans.length ≠ 13 then s
  else (List.range 13).foldl (fun t r => t.pmbAnswer r (ans.getD r none)) s

/-- PMB_ALERT_N falls: every rail's status is read (R571). -/
def State.pmbAlert (s : State) (ans : List (Option (BitVec 16))) : State :=
  if s.stage < 3 || ans.length ≠ 13 then s
  else (List.range 13).foldl (fun t r => match ans.getD r none with | some v => t.pmbStatus r v | none => t) s

/-- AVS limits of a rail: minimum and maximum mV (R584). -/
def State.avsLimits (s : State) (r : Nat) : Nat × Nat :=
  let v := s.rd (pmbReg r Off.PMB_AVS_LIMITS)
  (fld v 0 16, fld v 16 16)

/-- Have the AVSBus rails been taken up: a compute rail when its die has been staged, VDD_IOD and VDD_UPD with the first staging (R570)? -/
def State.avsOpen (s : State) (r : Nat) : Bool := decide (6 ≤ s.stage) && (decide (8 ≤ r) || s.stage ≠ 6 || s.stagedDies.contains r)

/-- An AVSBus write of a rail's target: inside the limits, at most 5 mV from the last, at least 100 µs after it; three failed attempts leave it (R570). -/
def State.avsWrite (s : State) (r mv fails : Nat) : State :=
  let k := pmbReg r Off.PMB_AVS_TARGET
  let old := (s.rd k).toNat
  let old := if old = 0 then (if r < 8 then 700 else 750) else old
  let (lo, hi) := s.avsLimits r
  let soon := match s.avsAt.find? fun p => p.1 == r with | some p => decide (s.timer < p.2 + 100000) | none => false
  if 10 ≤ r || mv < lo || hi < mv || old + 5 < mv || mv + 5 < old || soon || !s.avsOpen r then s
  else
    let s : State := { s with avsAt := mapPut r s.timer s.avsAt }
    if fails = 3 then s.pageErr pgPMB Err.AVS_NO_RESPONSE r 0 2#32
    else s.wr k (BitVec.ofNat 32 mv)

/-! ## The module TAP (R581, R582) -/

/-- Are all TAP instructions with a code acting now: those that drive pins need RESET_N low, debug needs JTAG_EN, wrappers need quiesced memory, production test an open fuse (R581)? -/
def State.tapActs (s : State) (code : Nat) : Bool :=
  if [0, 3, 4, 5, 6].contains code then s.rstLow
  else if code = 0x20 then bit (s.rd (reg pgDBG Off.DBG_CTRL)) 0
  else if code = 0x40 then s.rstLow || s.allQuiesced
  else if 0x80 ≤ code && code ≤ 0xFE then !s.fuse.prodClosed
  else true

/-- Codes that the table of R581 lists beside BYPASS. -/
def tapListed (code : Nat) : Bool := [0, 1, 2, 3, 4, 5, 6, 0x10, 0x20, 0x30, 0x40].contains code || (decide (0x80 ≤ code) && decide (code ≤ 0xFE))

/-- Load an instruction: pins driven by the last one are released. One that does not act behaves as BYPASS and is counted (R581). -/
def State.tapLoad (s : State) (code : Nat) (eff : State → State) : State :=
  let s : State := { s with tap := { s.tap with ir := code, driven := none, hiz := false, clamp := false } }
  if s.tapActs code then eff s
  else ({ s with tap := { s.tap with shift := [false] } } : State).inc (reg pgJTAG Off.JTAG_REFUSED)

/-- JTAG_IDCODE with the revision of the fuses (R581). -/
def State.idcode (s : State) : Nat := 0x0A7100E3 + s.fuse.rev.toNat * 2 ^ 28

/-- The TAP reset state selects IDCODE and leaves every test mode (R581). -/
def State.tapReset (s : State) : State :=
  ({ s with tap := { ir := 1 } } : State).modMet fun m => { m with calMode := false }

/-- Boundary cells drive the pins. -/
def State.tapDrive (s : State) (code : Nat) (cells : List Bool) : State :=
  s.tapLoad code fun t => { t with tap := { t.tap with cells := cells, driven := some cells } }

/-- A shift through the wrapper of the selected stack; what comes back is the stack's (R581). -/
def State.stk1500 (s : State) (bits : List Bool) : State :=
  s.tapLoad 0x40 fun t =>
    if 10 ≤ t.tap.seg then t.emit (.note "wrapper" ((t.tap.seg - 10) :: bits.map b2n)) else t

/-- BYPASS: one bit between TDI and TDO; a listed code arrives here only when it does not act (R581). -/
def State.tapBypass (s : State) (code : Nat) : State :=
  if tapListed code && s.tapActs code then s
  else s.tapLoad code fun t => { t with tap := { t.tap with shift := [false] } }

end Sys2Proof.Machine
end

