-- ==== Sys2Proof/Machine/Mover.lean ====
section
/-! DEFINITION. The address movers: moves, zero fills and mask walks (R150 to R153, R167, R182, R189 to R200). -/

namespace Sys2Proof.Machine

open Sys2Proof

/-! ## Moves (R150 to R152, R182) -/

/-- An element that a move carries: its destination offset, its pattern, its poison, and the source offset (none for padding). -/
structure MoveItem where
  dst : Int
  pat : Nat
  bad : Bool
  src : Option Int
deriving DecidableEq, Repr

/-- Iteration n of a move; none where its destination is a padding entry (R150 to R152, R182). -/
def State.moveItem (s : State) (c : Nat) (a : Option Opnd) (o : Opnd) (n : Nat) : Except Flt (Option MoveItem) := do
  match ← s.reachOff c o n with
  | none => pure none
  | some e =>
    match a with
    | none => pure (some ⟨e, 0, false, none⟩)
    | some x =>
      match ← s.reachOff c x n with
      | none => pure (some ⟨e, 0, false, none⟩)
      | some f =>
        let (p, bad) ← s.readPat (s.domOf c) x false f
        pure (some ⟨e, p, bad.isSome, some f⟩)

/-- Iterations of a move in order, up to the first that faults: what they carry, and that fault (R151, R153). -/
def State.moveItems (s : State) (c : Nat) (a : Option Opnd) (o : Opnd) : List Nat → List MoveItem × Option Flt
  | [] => ([], none)
  | n :: l =>
    match s.moveItem c a o n with
    | .error f => ([], some f)
    | .ok x =>
      let r := s.moveItems c a o l
      (x.toList ++ r.1, r.2)

/-- Mark the stored lines that n bytes of a destination lie in poisoned (R152, R339). -/
def State.poisonDst (s : State) (d : Nat) (o : Opnd) (addr n : Nat) : State :=
  if o.space = 0 then
    ((List.range ((addr + n - 1) / 256 - addr / 256 + 1)).map (addr / 256 + ·)).foldl (fun t u =>
      match t.xlate d (u * 256) true false with
      | .ok pa => ((List.range 4).map fun i => pa / 256 * 4 + i).foldl State.poisonLine t
      | .error _ => t) s
  else match s.storeRuns o.space o.cl o.core addr n false with
    | some runs => runs.foldl (fun t r =>
        ((List.range ((r.2.1 + r.2.2 - 1) / 64 - r.2.1 / 64 + 1)).map (r.2.1 / 64 + ·)).foldl State.poisonLine t) s
    | none => s

/-- The bitmap bits a move writes: padding rows set and other rows cleared under a router index tensor, else the source bits under COPY_MAP (R167). -/
def State.moveBits (s : State) (c : Nat) (copy : Bool) (a : Option Opnd) (o : Opnd) (items : List MoveItem) : Except Flt (List (Int × Bool)) :=
  match a with
  | none => pure []
  | some x =>
    if !o.zb then pure []
    else if x.indRouter then pure (items.map fun i => (i.dst, i.src.isNone))
    else if copy && x.zb then items.filterMapM fun i => match i.src with
      | some f => do pure (some (i.dst, ← s.zbBit (s.domOf c) x false f))
      | none => pure none
    else pure []

/-- The elements of a move reach their destination with their poison and bitmap bits, the later of two on one byte standing (R152, R153, R167). -/
def State.moveWrite (s : State) (c : Nat) (copy : Bool) (a : Option Opnd) (o : Opnd) (items : List MoveItem) : Except Flt State := do
  let d := s.domOf c
  let bits ← s.moveBits c copy a o items
  let t ← s.writePats d o false (items.map fun i => (i.dst, i.pat))
  let t := ((items.filter MoveItem.bad).map fun i => o.addr i.dst).foldl (fun u p => u.poisonDst d o p.1 ((p.2 + o.width + 7) / 8)) t
  if bits = [] then pure t else t.writeZb d o false bits

/-- Iterations lo to hi − 1 of one instance of a MOVE, or of a ZERO when it has no source: an iteration that faults leaves those before it written (R150 to R153, R226). -/
def State.moveInst (s : State) (c : Nat) (copy : Bool) (a : Option Opnd) (o : Opnd) (lo hi : Nat) : State × Option Flt :=
  let (items, bad) := s.moveItems c a o ((List.range (hi - lo)).map (lo + ·))
  match s.moveWrite c copy a o items with
  | .error f => (s, some f)
  | .ok t => (t, bad)

/-- Count mover traffic in units of 256 bytes (R154). -/
def State.moverTraffic (s : State) (cl mv bytes : Nat) : State :=
  let k := cl * 4 + mv
  let total := mapGet 0 s.moverRem k + bytes
  ({ s with moverRem := mapSet 0 s.moverRem k (total % 256) } : State).inc (reg (pgCLU cl) (Off.CLU_MOVER_BYTES0 + 4 * mv)) (total / 256)

/-- The FAULTED bit of a mover (R154). -/
def State.moverFault (s : State) (cl mv : Nat) (b : Bool) : State := s.wrBit (reg (pgCLU cl) Off.CLU_MOVER_STATE) (4 + mv) b

/-- Iterations of one instance of a MOVE or ZERO on its mover, up to `hi` (R153, R154, R226). -/
def State.moveStep (s : State) (c : Nat) (l : Live) (x : InstOps) (hi : Nat) : State :=
  let mv := l.w.op 0 2
  match x.get 2 with
  | none => s
  | some o =>
    if (s.getCtx c).run = .faulted then s
    else
      let s := s.moverFault x.cl mv false
      match s.moveInst c (l.w.opBit 2) (x.get 0) o x.done hi with
      | (t, some f) => (t.moverFault x.cl mv true).ctxFault c f
      | (t, none) => t.moverTraffic x.cl mv (((hi - x.done) * o.width + 7) / 8)

/-- What is left of a MOVE or ZERO on its clusters (R153, R226). -/
def State.runMove (s : State) (c : Nat) (l : Live) : State :=
  l.insts.foldl (fun t x => t.moveStep c l x (((x.get 2).map Opnd.elems).getD 0)) s

/-! ## Mask walks (R190 to R200) -/

/-- A mask descriptor (R190). -/
structure MaskDesc where
  lk : Nat
  q0 : Nat
  nq : Nat
  flags : Nat
  w : Nat
  g : Nat
  st : Nat
  runIndex : Nat
  runData : Nat
  /-- reserved bytes, all zero in a valid descriptor -/
  rsv : Nat
deriving DecidableEq, Repr

/-- The mask descriptor in 64 bytes. -/
def maskDescOfNat (v : Nat) : MaskDesc :=
  let f (off n : Nat) : Nat := v / 256 ^ off % 256 ^ n
  ⟨f 0 4, f 4 4, f 8 4, f 0xC 4, f 0x10 2, f 0x12 2, f 0x14 2, f 0x18 8, f 0x20 8, f 0x16 2 + f 0x28 24⟩

/-- FLAGS bit i. -/
def MaskDesc.flag (d : MaskDesc) (i : Nat) : Bool := d.flags / 2 ^ i % 2 == 1
/-- CAUSAL. -/
def MaskDesc.causal (d : MaskDesc) : Bool := d.flag 0
/-- BITMAP. -/
def MaskDesc.bitmap (d : MaskDesc) : Bool := d.flag 4

/-- Ranges of R190 that make a descriptor invalid (R193). -/
def MaskDesc.bad (d : MaskDesc) : Bool :=
  decide (d.lk < 1) || decide (4194304 < d.lk) || decide (2 ^ 22 ≤ d.q0) || decide (d.nq < 1) || decide (4194304 < d.q0 + d.nq)
    || decide (64 ≤ d.flags) || (d.flag 1 && d.w == 0) || (d.flag 2 && d.g == 0) || (d.flag 3 && decide (d.st < 2))
    || (d.bitmap && (auxBad d.runIndex || auxBad d.runData || decide (d.runIndex % 64 ≠ 0) || decide (d.runData % 64 ≠ 0))) || decide (d.rsv ≠ 0)

/-- The operation word of a mask walk (R226). -/
structure WalkCfg where
  i : Nat
  j0 : Nat
  j1 : Nat
  start : Bool
  cap : Nat
  parInt : Nat
  parEdge : Nat
  mover : Nat
deriving DecidableEq, Repr

/-- The settings of a walk; under I_PAR, i comes from the parameter register that the issue cycle read (R229). -/
def walkCfg (w : Cmd) (par : DWord) : WalkCfg :=
  ⟨if w.opBit 16 then par.toNat % 2 ^ 16 else w.op 0 16, w.op 17 17, w.op 34 17, w.opBit 51,
   w.op 52 16 + 1, w.op 68 6, w.op 74 6, w.op 80 2⟩

/-- Do the runs of a row keep their order and bounds (R192)? -/
def runsOk : List Nat → Bool
  | [] => true
  | [r] => decide (r % 2 ^ 16 + r / 2 ^ 16 ≤ 65535)
  | r :: q :: l => decide (r % 2 ^ 16 + r / 2 ^ 16 < q % 2 ^ 16) && runsOk (q :: l)

/-- Row i of the runs (R192); a broken row is MASK_INVALID (R193). -/
def State.maskRuns (s : State) (d : Nat) (m : MaskDesc) (i cl : Nat) : Except Flt (List Nat) := do
  if !m.bitmap then pure []
  else
    let a ← s.auxRead d m.runIndex (4 * i) 4 cl 0
    let b ← s.auxRead d m.runIndex (4 * i + 4) 4 cl 0
    if b < a ∨ a + 65536 < b then .error ⟨Err.MASK_INVALID, 0, 0⟩
    else
      let rs ← (List.range (b - a)).mapM fun n => s.auxRead d m.runData (4 * ((a + n : Nat) : Int)) 4 cl 0
      if runsOk rs then pure rs else .error ⟨Err.MASK_INVALID, 0, 0⟩

/-- Is key block j visited by query block i (R191)? -/
def MaskDesc.visited (m : MaskDesc) (runs : List Nat) (i j : Nat) : Bool :=
  let first := m.q0 + 64 * i
  let last := min (first + 63) (m.q0 + m.nq - 1)
  let a := last / 64
  if m.lk ≤ 64 * j then false
  else if m.causal && decide (last < 64 * j) then false
  else if m.flags / 2 % 16 = 0 then true
  else
    (m.flag 1 && decide (((a : Int) - j).natAbs < m.w))
      || (m.flag 2 && (decide (j < m.g) || decide (first / 64 < m.g)))
      || (m.flag 3 && decide (((a : Int) - j) % (m.st : Int) = 0))
      || (m.bitmap && runs.any fun r => decide (r % 2 ^ 16 ≤ j) && decide (j ≤ r % 2 ^ 16 + r / 2 ^ 16))

/-- Is a visited block an edge block (R195)? -/
def MaskDesc.edge (m : MaskDesc) (i j : Nat) (lowest : Bool) : Bool :=
  lowest || (m.causal && decide (m.q0 + 64 * i < 64 * j + 63)) || decide (m.lk ≤ 64 * j + 63)

/-- What a walk finds (R195 to R198). -/
structure Walk where
  interior : List Nat
  edges : List Nat
  nextJ : Nat
  more : Bool
  empty : Bool
deriving DecidableEq, Repr

/-- The walk of a key block range (R195 to R198). -/
def MaskDesc.walk (m : MaskDesc) (runs : List Nat) (k : WalkCfg) : Walk :=
  let js := ((List.range (k.j1 - k.j0)).map fun x => k.j0 + x).filter fun j => m.visited runs k.i j
  let isEdge (j : Nat) : Bool := m.edge k.i j (k.start && js.head? == some j)
  let ints := js.filter fun j => !isEdge j
  let edges := js.filter isEdge
  if js = [] then ⟨[], [], k.j1, false, true⟩
  else if k.cap < ints.length then
    let listed := ints.take k.cap
    let nj := listed.getLastD 0 + 1
    ⟨listed, (edges.filter fun j => decide (j < nj)).take 4, nj, true, false⟩
  else ⟨ints, edges.take 4, k.j1, false, false⟩

/-- Edge mask of a block: 64 rows of 64 bits (R196). -/
def MaskDesc.edgeMask (m : MaskDesc) (i j : Nat) : Nat :=
  (List.range 64).foldl (fun acc q => (List.range 64).foldl (fun a k =>
    if 64 * j + k < m.lk ∧ (m.causal = false ∨ 64 * j + k ≤ m.q0 + 64 * i + q) then a + 2 ^ (64 * q + k) else a) acc) 0

/-- Where an operand of a walk lies: the address of its first element (R194, R247). -/
def State.walkAddr (s : State) (c : Nat) (o : Opnd) : Except Flt Nat := do pure (o.addr ((← s.reachOff c o 0).getD 0)).1

/-- Read the mask descriptor of an instance and check it (R193). -/
def State.maskDesc (s : State) (c : Nat) (o : Opnd) : Except Flt MaskDesc := do
  let a ← s.walkAddr c o
  let v ← s.spReadSafe (s.domOf c) o.space o.cl o.core a 64
  let m := maskDescOfNat v
  if m.bad || decide (a % 64 ≠ 0) then .error ⟨Err.MASK_INVALID, 0, 0⟩ else pure m

/-- One instance of a mask walk: its outputs written, and what it found (R196, R198). -/
def State.walkInst (s : State) (c : Nat) (k : WalkCfg) (m : MaskDesc) (outs : List Opnd) : Except Flt (State × Walk) := do
  let d := s.domOf c
  let cl := (outs.head?.map Opnd.cl).getD 0
  let runs ← s.maskRuns d m k.i cl
  let w := m.walk runs k
  let put (t : State) (n : Nat) (len v : Nat) : Except Flt State := match outs[n]? with
    | some o => do
      let a ← t.walkAddr c o
      t.spWrite d o.space o.cl o.core (bytesAt a len v)
    | none => pure t
  let words (l : List Nat) : Nat := (l.zipIdx).foldl (fun a x => a + x.1 * 2 ^ (32 * x.2)) 0
  let t ← put s 0 (4 * w.interior.length) (words w.interior)
  let t ← put t 1 16 (words w.edges)
  let t ← put t 2 (512 * w.edges.length) ((w.edges.zipIdx).foldl (fun a x => a + m.edgeMask k.i x.1 * 2 ^ (4096 * x.2)) 0)
  let t ← put t 3 16 (words [w.interior.length, w.edges.length, w.nextJ, b2n w.more + 2 * b2n w.empty])
  pure (t, w)

/-- One instance of a mask walk on its mover: the counts for the two parameter registers, where it ends without a fault (R194 to R199). -/
def State.walkStep (s : State) (c : Nat) (l : Live) (x : InstOps) : State × List (Nat × DWord) :=
  let k := walkCfg l.w l.par
  match x.get 0 with
  | none => (s, [])
  | some o =>
    let s := s.moverFault x.cl k.mover false
    let res : Except Flt (State × Walk × MaskDesc) := do
      let m ← s.maskDesc c o
      let (u, y) ← s.walkInst c k m (x.all 1)
      pure (u, y, m)
    match res with
    | .error f => ((s.moverFault x.cl k.mover true).ctxFault c f, [])
    | .ok (u, y, m) =>
      if y.empty && k.start && !m.flag 5 then ((u.moverFault x.cl k.mover true).ctxFault c ⟨Err.MASK_EMPTY, 0, 0⟩, [])
      else (u, [(k.parInt, BitVec.ofNat 64 y.interior.length), (k.parEdge, BitVec.ofNat 64 y.edges.length)])

/-- A mask walk on its clusters; the parameter registers take the last instance's counts (R194 to R198). -/
def State.runWalk (s : State) (c : Nat) (l : Live) : State × List (Nat × DWord) :=
  l.insts.foldl (fun acc x => if (acc.1.getCtx c).run = .faulted then acc else acc.1.walkStep c l x) (s, [])

end Sys2Proof.Machine
end

