-- ==== Sys2Proof/Machine/Router.lean ====
section
/-! DEFINITION. The router unit of a cluster (R171 to R181, R187). -/

namespace Sys2Proof.Machine

open Sys2Proof

/-- Settings of a router operation (R171, R226). -/
structure RouteCfg where
  t : Nat
  e : Nat
  k : Nat
  scoreOrder : Bool
  c : Nat
  gateFn : Nat
  gateBf16 : Bool
  scale : Nat
  layer : Nat
deriving DecidableEq, Repr

/-- The operation word of a ROUTE. -/
def routeCfg (w : Cmd) : RouteCfg :=
  ⟨w.op 0 16 + 1, w.op 16 12 + 1, w.op 28 3 + 1, w.opBit 31, w.op 32 16 + 1, w.op 48 2, w.opBit 50, w.op 64 32, w.op 96 32⟩

/-- Order key of an FP32 score: +0 and −0 equal (R172). -/
def scoreKey (x : Nat) : Int := if 2 ^ 31 ≤ x then -((x - 2 ^ 31 : Nat) : Int) else (x : Int)

/-- The positions of the k largest keys, largest first, lower position first among equals (R172). -/
def topK (k : Nat) (keys : List Int) : List Nat :=
  let pos := keys.zipIdx
  let rank (p : Int × Nat) : Nat := (pos.filter fun q => decide (p.1 < q.1) || (q.1 == p.1 && decide (q.2 < p.2))).length
  let rs := pos.map fun p => (rank p, p.2)
  (List.range k).filterMap fun r => (rs.find? fun x => x.1 == r).map Prod.snd

/-- FP32 0x3FB8_AA3B. -/
def log2e : Nat := 0x3FB8AA3B

/-- Softmax gates of the selected logits; m and S run over `among`, summed by `sum` (R173). -/
def softGates (sel among : List Nat) (sum : List Nat → Nat) : List Nat :=
  let m := among.foldl f32Max 0xFF800000
  let ex (l : Nat) : Nat := f32Fn .exp2 (f32Mul (f32Sub l m) log2e)
  if m = 0xFF800000 then sel.map fun _ => 0
  else
    let r := f32Fn .rcp (sum (among.map ex))
    sel.map fun l => f32Mul (ex l) r

/-- Gates of a token before GATE_SCALE (R173). -/
def gatesOf (fn : Nat) (all sel : List Nat) : List Nat :=
  let chain (l : List Nat) : Nat := match l with | [] => 0 | x :: xs => xs.foldl f32Add x
  match fn with
  | 0 => softGates sel sel chain
  | 1 => softGates sel all rsum
  | 2 => sel.map (f32Fn .sigmoid)
  | _ =>
    let g := sel.map (f32Fn .sigmoid)
    let r := f32Fn .rcp (chain g)
    g.map fun x => f32Mul x r

/-- One choice of a token (R174): token, rank, expert and gate before GATE_SCALE. -/
structure Choice where
  t : Nat
  r : Nat
  e : Nat
  gate : Nat
deriving DecidableEq, Repr

/-- The assignments of expert e that are admitted (R174). -/
def admitted (cfg : RouteCfg) (l : List Choice) : List Choice :=
  if cfg.scoreOrder then
    l.filter fun x => decide ((l.filter fun y => decide (scoreKey x.gate < scoreKey y.gate)
      || (scoreKey y.gate == scoreKey x.gate && (decide (y.t < x.t) || (y.t == x.t && decide (y.r < x.r))))).length < cfg.c)
  else l.take cfg.c

/-- What an operation decides: choices by token, bad tokens, admitted choices by expert in slot order, demand by expert. -/
structure Routing where
  choices : List Choice
  bad : List Nat
  slots : List (List Choice)
  demand : List Nat
deriving DecidableEq, Repr

/-- Read the logits and decide (R172 to R175). -/
def State.routing (s : State) (c : Nat) (cfg : RouteCfg) (lg : Opnd) (bias : Option Opnd) : Except Flt Routing := do
  let bs ← match bias with
    | some o => (s.lanes c o 0 0 cfg.e).map some
    | none => pure none
  let rows ← (List.range cfg.t).mapM fun t => s.lanes c lg 0 (t * cfg.e) cfg.e
  let isBad (row : List Nat) : Bool := row.any fun x => f32IsNaN x || x == 0x7F800000
  let choices := (rows.zipIdx).flatMap fun (row, t) =>
    if isBad row then []
    else
      let score (i : Nat) : Nat := match bs with | some b => f32Add (row.getD i 0) (b.getD i 0) | none => row.getD i 0
      let key (i : Nat) : Int := if f32IsNaN (score i) then (Config.freeWord (s.fresh + t * cfg.e + i)).toInt else scoreKey (score i)
      let sel := topK cfg.k ((List.range cfg.e).map key)
      let gs := gatesOf cfg.gateFn row (sel.map fun i => row.getD i 0)
      (sel.zipIdx).map fun (e, r) => ({ t := t, r := r, e := e, gate := gs.getD r 0 } : Choice)
  let ofE := (List.range cfg.e).map fun e => choices.filter fun x => x.e == e
  pure { choices := choices, bad := ((rows.zipIdx).filter fun p => isBad p.1).map Prod.snd,
         slots := ofE.map (admitted cfg), demand := ofE.map List.length }

/-- Stored gate: scaled and converted to the gate format (R173). -/
def RouteCfg.gate (cfg : RouteCfg) (g : Nat) : Nat :=
  (convert (if cfg.gateBf16 then 1 else 0) .rne false false 0 (decodeFloat 0 (f32Mul g cfg.scale))).bits

/-- The drop table (R177) as a little-endian number of 64 + 4E bytes. -/
def dropTable (cfg : RouteCfg) (r : Routing) : Nat :=
  let sum (l : List Nat) : Nat := l.foldl (· + ·) 0
  let adm := sum (r.slots.map List.length)
  let mx := r.demand.foldl max 0
  let drops := (r.demand.zip r.slots).map fun p => p.1 - p.2.length
  let put (off v : Nat) : Nat := v * 256 ^ off
  put 0 cfg.t + put 4 (cfg.e % 65536) + put 6 cfg.k + put 7 (b2n cfg.scoreOrder + 2 * b2n (r.bad ≠ [])) + put 8 cfg.c
    + put 0xC (cfg.k * (cfg.t - r.bad.length)) + put 0x10 adm + put 0x14 (sum drops) + put 0x18 r.bad.length + put 0x1C mx
    + put 0x20 (r.demand.findIdx (· == mx)) + put 0x24 cfg.layer
    + (drops.zipIdx).foldl (fun a p => a + put (0x40 + 4 * p.2) p.1) 0

/-- Write the six outputs (R176). -/
def State.routeWrite (s : State) (c : Nat) (cfg : RouteCfg) (r : Routing) (outs : List Opnd) : Except Flt State := do
  let d := s.domOf c
  let put (t : State) (i : Nat) (vs : List Nat) : Except Flt State := match outs[i]? with
    | some o => do
      let offs ← (List.range vs.length).mapM fun n => t.reachOff c o n
      t.writePats d o false ((offs.zip vs).filterMap fun p => p.1.map fun e => (e, p.2))
    | none => pure t
  let slot (e i : Nat) : Option Choice := (r.slots.getD e [])[i]?
  let slotOf (x : Choice) : Option Nat := let l := r.slots.getD x.e []; let i := l.findIdx (· == x); if i < l.length then some i else none
  let grid := (List.range cfg.e).flatMap fun e => (List.range cfg.c).map fun i => slot e i
  let toks := (List.range cfg.t).flatMap fun t => (List.range cfg.k).map fun j => (t, r.choices.find? fun x => x.t == t && x.r == j)
  let s ← put s 0 (grid.map fun x => match x with | some y => y.t + y.r * 2 ^ 16 + 2 ^ 31 | none => 0)
  let s ← put s 1 (grid.map fun x => match x with | some y => cfg.gate y.gate | none => 0)
  let s ← put s 2 (toks.map fun x => match x.2 with
    | some y => (match slotOf y with | some i => y.e + i * 2 ^ 12 + 2 ^ 31 | none => y.e)
    | none => 0x20000000)
  let s ← put s 3 (toks.map fun x => match x.2 with
    | some y => if (slotOf y).isSome then cfg.gate y.gate else 0
    | none => 0)
  let s ← put s 4 (r.slots.map List.length)
  match outs[5]? with
  | some o => do
    let e ← s.reachOff c o 0
    s.spWrite d o.space o.cl o.core (bytesAt (o.addr (e.getD 0)).1 (64 + 4 * cfg.e) (dropTable cfg r))
  | none => pure s

/-- Cycles an operation takes without late reads: its phases and 40 of overhead (R179). -/
def routeCycles (cfg : RouteCfg) (r : Routing) : Nat :=
  let sel := cfg.t * cdiv cfg.e 16
  let excess := r.demand.filter fun d => decide (cfg.c < d)
  let gw := if cfg.gateBf16 then 2 else 4
  let bytes := (cfg.e * cfg.c + cfg.t * cfg.k) * (4 + gw) + 4 * cfg.e + 64 + 4 * cfg.e
  40 + sel + (if cfg.gateFn = 1 then sel else 0) + cfg.t * cfg.k
    + (if cfg.scoreOrder then 4 * excess.foldl (· + ·) 0 + 1024 * excess.length else 0) + cdiv bytes 64

/-- Add an operation's counts to the RTE page (R177, R178, R187). -/
def State.routeCount (s : State) (cl : Nat) (cfg : RouteCfg) (r : Routing) : State :=
  let p := pgRTE cl
  let adm := (r.slots.map List.length).foldl (· + ·) 0
  let dem := r.demand.foldl (· + ·) 0
  let mx := r.demand.foldl max 0
  let s := s.inc64 (reg p Off.RTE_TOKENS_LO) cfg.t
  let s := s.inc64 (reg p Off.RTE_ADMITTED_LO) adm
  let s := s.inc64 (reg p Off.RTE_DROPPED_LO) (dem - adm)
  let s := s.inc (reg p Off.RTE_BAD_TOKENS) r.bad.length
  let s := s.inc64 (reg p Off.RTE_BUSY_LO) (routeCycles cfg r)
  let s := s.wr (reg p Off.RTE_MAX_LOAD) (BitVec.ofNat 32 (mx + r.demand.findIdx (· == mx) * 2 ^ 20))
  let s := s.wr (reg p Off.RTE_LAST_DROPPED) (BitVec.ofNat 32 (dem - adm))
  if r.bad = [] then s else s.raise p 0

/-- A router operation on one cluster: it decides, writes its outputs and counts (R171 to R181). -/
def State.routeStep (s : State) (c : Nat) (w : Cmd) (x : InstOps) : State :=
  let cfg := routeCfg w
  match x.get 0 with
  | none => s
  | some lg =>
    let res : Except Flt (State × Routing) := do
      let r ← s.routing c cfg lg (x.get 1)
      let u ← s.routeWrite c cfg r (x.all 2)
      pure ({ u with fresh := u.fresh + cfg.t * cfg.e }, r)
    match res with
    | .error f => s.ctxFault c f
    | .ok (u, r) => u.routeCount x.cl cfg r

/-- A router operation on its clusters (R171 to R181). -/
def State.runRoute (s : State) (c : Nat) (l : Live) : State :=
  l.insts.foldl (fun t x => if (t.getCtx c).run = .faulted then t else t.routeStep c l.w x) s

end Sys2Proof.Machine
end

