-- ==== Sys2Proof/Machine/Admission.lean ====
section
/-! DEFINITION. Admission of stream commands (R215 to R227, R246 to R249, R263, R598). -/

namespace Sys2Proof.Machine

open Sys2Proof

/-! ## The opcode table (R219 to R222) -/

/-- Engine class and current class of a listed opcode; a pass has its class by format (R221). -/
def opInfo (op : Nat) : Option (Nat × Nat) :=
  if op ≤ 0x0A then some (0, 0)
  else if 0x20 ≤ op ∧ op ≤ 0x3F then some (2, 2)
  else match op with
    | 0x10 => some (1, 5) | 0x11 => some (1, 9)
    | 0x40 => some (3, 1) | 0x41 => some (3, 1) | 0x42 => some (3, 1)
    | 0x50 => some (4, 3)
    | 0x60 => some (5, 7) | 0x61 => some (5, 7)
    | 0x70 => some (6, 8) | 0x71 => some (6, 8) | 0x72 => some (6, 8)
    | 0x78 => some (7, 8) | 0x80 => some (8, 0) | 0x90 => some (9, 0) | 0xA0 => some (10, 0) | 0xB0 => some (11, 8)
    | _ => none

/-- Current class of a pass by its format; none where the format is no array operand (R222). -/
def passClass (fmt : Nat) : Option Nat :=
  if fmt = 1 || fmt = 2 then some 4 else if fmt = 7 || fmt = 9 then some 6 else if 3 ≤ fmt ∧ fmt ≤ 10 then some 5 else none

/-- Is a command of a cluster engine class (R216)? -/
def isClusterClass (ec : Nat) : Bool := decide (1 ≤ ec) && decide (ec ≤ 4)

/-! ## Images -/

/-- Read a structure of a context's image (R213). -/
def State.imgRead (s : State) (c a n : Nat) : Except Flt Nat := s.spReadSafe (s.domOf c) 0 0 0 a n

/-- CTX_STREAM_LEN. -/
def State.streamLen (s : State) (c : Nat) : Nat := (s.rd (reg (pgCTX c) Off.CTX_STREAM_LEN)).toNat

/-- The command at an offset of a context's stream, as memory holds it (R213, R217). -/
def State.streamCmd (s : State) (c off : Nat) : Except Flt Cmd := do
  let v ← s.imgRead c ((s.rd64 (reg (pgCTX c) Off.CTX_STREAM_BASE_LO)).toNat + off) 32
  pure (cmdOfNat v)

/-- A unit set entry (R215). -/
structure UnitSet where
  clF : Nat := 0
  clN : Nat := 1
  coF : Nat := 0
  coN : Nat := 1
deriving DecidableEq, Repr

/-- Check 5: the unit set entry of a command (R216, R263). -/
def State.unitSet (s : State) (c u : Nat) : Except Flt UnitSet := do
  let v ← s.imgRead c ((s.rd64 (reg (pgCTX c) Off.CTX_UNITSET_BASE_LO)).toNat + 16 * u) 16
  let x : UnitSet := ⟨v % 2 ^ 16, v / 2 ^ 16 % 2 ^ 16, v / 2 ^ 32 % 2 ^ 8, v / 2 ^ 40 % 2 ^ 8⟩
  let k := s.claim c
  if v / 2 ^ 48 ≠ 0 || x.clN == 0 || decide (2880 < x.clN) || x.coN == 0 || decide ((s.partition (s.domOf c)).length < x.clF + x.clN) || decide (96 < x.coF + x.coN)
      || decide (x.clF < k.cl) || decide (k.cl + k.cln < x.clF + x.clN) || decide (x.coF < k.core) || decide (k.core + k.coren < x.coF + x.coN)
  then .error ⟨Err.UNITSET_INVALID, 0, 0⟩
  else pure x

/-! ## Descriptors (check 6) -/

/-- What an opcode asks of an operand slot (R221 and the vector operand roles). -/
inductive Need where
  | no | must | may
deriving DecidableEq, Repr

/-- Needs of OPA, OPB, OPC and OPD, with the number of consecutive descriptors (R221). -/
def slotNeeds (w : Cmd) : List (Need × Nat) :=
  let op := w.opcode
  let l (a b c d : Need) : List (Need × Nat) := [(a, 1), (b, 1), (c, 1), (d, 1)]
  if op = 0x10 then (if w.op 26 2 = 2 then l .must .must .must .may else l .must .must .no .no)
  else if op = 0x11 then l .no .no .must .may
  else if op = 0x23 ∨ op = 0x2C then l .must .must .must .must
  else if op = 0x3C then l .must .must .must .may
  else if op = 0x3F then l .must .must .must (if w.opBit 47 then .no else .must)
  else if op = 0x26 ∨ op = 0x27 ∨ (0x2D ≤ op ∧ op ≤ 0x3A) then l .must .no .must .no
  else if 0x20 ≤ op ∧ op ≤ 0x3E then l .must .must .must .no
  else match op with
    | 0x40 => l .must .no .must .no
    | 0x41 => l .no .no .must .no
    | 0x42 => [(.must, 1), (.must, 4), (.no, 1), (.no, 1)]
    | 0x50 => [(.must, 1), (.may, 1), (.must, 6), (.no, 1)]
    | 0x70 => l .must .no .no .no
    | 0x71 => l .must .no .no .no
    | 0x78 => l .must .no .no .no
    | 0x80 => l .no .no .must .no
    | 0xB0 => l .must .no .no .no
    | _ => l .no .no .no .no

/-- A descriptor that a command names: its slot, its place there, its index. -/
structure SlotDesc where
  slot : Nat
  sub : Nat
  ix : Nat
  d : Desc
deriving DecidableEq, Repr

/-- The fault of a descriptor that breaks R247: index and slot in ERR_INFO0. -/
def descFault (code : Code) (ix slot : Nat) : Flt := ⟨code, ix + slot * 2 ^ 16, 0⟩

/-- The descriptors of a command, each valid by itself (R247). -/
def State.fetchDescs (s : State) (c : Nat) (w : Cmd) : Except Flt (List SlotDesc) := do
  let base := (s.rd64 (reg (pgCTX c) Off.CTX_DESC_BASE_LO)).toNat
  let cnt := fld (s.rd (reg (pgCTX c) Off.CTX_DESC_COUNT)) 0 16
  let ls ← ((slotNeeds w).zipIdx).mapM fun ((need, n), i) => do
    let ix := w.slot i
    if ix = 0xFFFF then
      if need = .must then .error (descFault Err.DESCRIPTOR_INVALID ix i) else pure []
    else if need = .no then .error (descFault Err.DESCRIPTOR_INVALID ix i)
    else (List.range n).mapM fun j => do
      if cnt ≤ ix + j then .error (descFault Err.DESCRIPTOR_INVALID (ix + j) i)
      else
        let v ← s.imgRead c (base + 128 * (ix + j)) 128
        let d := descOfNat v
        if d.bad then .error (descFault Err.DESCRIPTOR_INVALID (ix + j) i) else pure ⟨i, j, ix + j, d⟩
  pure ls.flatten

/-- The first descriptor of a slot. -/
def slotDesc (ds : List SlotDesc) (i : Nat) : Option Desc := (ds.find? fun x => x.slot == i && x.sub == 0).map SlotDesc.d

/-- The terms that move the first element of a dimension-0 run over instances, with their counts; and the first offset (R247). -/
def Desc.runTerms (d : Desc) (loops : List Nat) (cn kn : Nat) : Int × List (Int × Nat) :=
  ((d.lstride.zip (loops ++ [0, 0, 0, 0])).foldl (fun (a : Int) (p : Int × Nat) => a + p.1 * (p.2 : Int)) 0,
   ([(d.str 1, d.cnt 1), (d.str 2, d.cnt 2), (d.str 3, d.cnt 3), (d.icl, cn), (d.icore, kn)]).filter fun p => decide (1 < p.2))

/-- Lowest and highest offset E over every iteration and instance, without indirection. -/
def Desc.offsets (d : Desc) (loops : List Nat) (cn kn : Nat) : Int × Int :=
  let (e0, ts) := d.runTerms loops cn kn
  ((d.str 0, d.cnt 0) :: ts).foldl (fun (r : Int × Int) (p : Int × Nat) =>
    let x := p.1 * ((p.2 : Int) - 1)
    if x < 0 then (r.1 + x, r.2) else (r.1, r.2 + x)) (e0, e0)

/-- Does a dimension-0 run start off a byte boundary, or off a 4-element group in FP6 (R35, R247)? -/
def Desc.offByte (d : Desc) (loops : List Nat) (cn kn : Nat) : Bool :=
  if d.mask || decide (8 ≤ d.width) then false
  else
    let g : Int := if d.width = 6 then 4 else 2
    if bit d.ctrl 13 then
      -- the indexed dimension steps by any row number
      (List.range 4).any fun i => decide (1 ≤ i) && decide (i ≤ fld d.ctrl 11 2)
        && (decide (1 < d.cnt i) || i == fld d.ctrl 11 2) && decide (d.str i % g ≠ 0)
    else
      let (e0, ts) := d.runTerms loops cn kn
      decide (e0 % g ≠ 0) || ts.any fun p => decide (p.1 % g ≠ 0)

/-- May element number n fall off a multiple of 16 within its bitmap row: over the instances, and over every row number an index tensor may give (R598)? -/
def Desc.offGranule (d : Desc) (loops : List Nat) (cn kn n : Nat) : Bool :=
  let o := d.resolve 0 loops 0 0 0 0
  let k := (d.str 1).toNat
  let off (e : Int) : Bool := decide (e % (k : Int) % 16 ≠ 0)
  if bit d.ctrl 13 then
    let inner := (List.range (fld d.ctrl 11 2)).foldl (fun (a : Int) i => a + d.str i * (o.ix n i : Int)) 0
    (List.range k).any fun (r : Nat) => off (inner + d.str (fld d.ctrl 11 2) * (r : Int))
  else
    (List.range (cn * kn)).any fun (i : Nat) => off (o.plainOff n + d.icl * ((i / kn : Nat) : Int) + d.icore * ((i % kn : Nat) : Int))

/-- Elements of a streamed row of a pass (R70). -/
def passWidth (w : Cmd) (fmt : Nat) : Nat := rowWidth fmt (w.op 24 2)

/-- Does a descriptor describe rows of a width: its innermost dimensions make up one row each (R247)? -/
def Desc.rowsOf (d : Desc) (width : Nat) : Bool := (List.range 4).any fun i => (d.count.take (i + 1)).foldl (· * ·) 1 == width

/-- Do a pass's own shapes break R70, R86 or R247? The slot at fault. -/
def passShape (w : Cmd) (ds : List SlotDesc) : Option Nat :=
  match slotDesc ds 0, slotDesc ds 1 with
  | some a, some b =>
    let width := passWidth w a.fmt
    if a.space ≠ 2 || a.cnt 0 ≠ slotsOf a.fmt || a.elems ≠ 4 * slotsOf a.fmt then some 0
    else if b.space ≠ 2 || (decide (w.op 24 2 ≠ 3) && (!b.rowsOf width || (decide (w.op 0 24 ≠ 0) && decide (b.elems ≠ w.op 0 24 * width)))) then some 1
    else none
  | _, _ => none

/-- Do the output rows or the bias of a drain break R86? The slot at fault. -/
def drainShape (rows : Nat) (ds : List SlotDesc) : Option Nat :=
  let c := slotDesc ds 2
  let d := slotDesc ds 3
  if decide (rows ≠ 0) && c.any (fun x => decide (x.elems ≠ 4 * rows)) then some 2
  else if c.any (fun x => x.space == 0) then some 2
  else if d.any (fun x => decide (x.elems ≠ 4) || decide (x.fmt ≠ 0)) then some 3
  else none

/-- The slot of a move whose rows break the granules of the zero-row bitmaps that COPY_MAP copies: the first element of each written row, in the source and in the destination (R167, R598). -/
def copyMapFault (a b : Desc) (loops : List Nat) (cn kn : Nat) : Option Nat :=
  if bit a.ctrl 16 && bit b.ctrl 16 && !bit a.ctrl 14 then
    let starts := (List.range (b.elems / b.cnt 0)).map (b.cnt 0 * ·)
    if starts.any (a.offGranule loops cn kn) then some 0
    else if starts.any (b.offGranule loops cn kn) then some 2 else none
  else none

/-- Does a whole-command condition on operand shapes fail (R134, R226, R247, R509, R598)? The descriptor at fault: its index and slot. -/
def shapeFault (w : Cmd) (ds : List SlotDesc) (loops : List Nat) (cn kn : Nat) : Option (Nat × Nat) :=
  let op := w.opcode
  let first (p : SlotDesc → Bool) : Option (Nat × Nat) := (ds.find? p).map fun x => (x.ix, x.slot)
  let slot (i : Option Nat) : Option (Nat × Nat) := i.map fun k => (w.slot k, k)
  let own : Option (Nat × Nat) :=
    if op = 0x10 then slot ((passShape w ds).orElse fun _ =>
      if w.op 26 2 = 2 then drainShape (w.op 0 24) ds else none)
    else if op = 0x11 then slot (drainShape (w.op 0 9) ds)
    else if w.eclass = 2 then first fun x => x.d.space != 1
    else if op = 0x50 then first fun x => x.d.space == 2
    else if op = 0x70 ∨ op = 0x71 ∨ op = 0x78 ∨ op = 0xB0 then first fun x => x.d.space != 0
    else if op = 0x80 then first fun x => x.d.space != 0 || x.d.fmt != 10 || x.d.elems != 384 || x.d.cnt 0 != 384 || x.d.str 0 != 1
    else if op = 0x40 then
      match slotDesc ds 0, slotDesc ds 2 with
      | some a, some b =>
        if a.elems ≠ b.elems then slot (some 2)
        else if w.opBit 2 then slot (copyMapFault a b loops cn kn)
        else none
      | _, _ => none
    else none
  (own.orElse fun _ => first fun x => x.d.offByte loops cn kn).orElse fun _ =>
    match (if op = 0x10 then slotDesc ds 1 else none) with
    | some b =>
      if bit b.ctrl 16 && decide (w.op 24 2 ≠ 3)
          && (List.range (w.op 0 24)).any (fun m => b.offGranule loops cn kn (m * passWidth w b.fmt)) then slot (some 1) else none
    | none => none

/-- Can E of a descriptor with a zero-row bitmap be negative: over its iterations and instances, and over every row number an index tensor may give (R598)? -/
def Desc.negOff (d : Desc) (loops : List Nat) (cn kn : Nat) : Bool :=
  if bit d.ctrl 13 then
    let k := fld d.ctrl 11 2
    (List.range 4).any fun i => if i < k then decide (d.str i < 0) && decide (1 < d.cnt i) else i == k && decide (d.str k < 0)
  else decide ((d.offsets loops cn kn).1 < 0)

/-- Check 6: descriptors, shapes, store bounds and the claim (R247, R263, R598). -/
def State.checkDescs (s : State) (c : Nat) (w : Cmd) (u : UnitSet) : Except Flt (List SlotDesc) := do
  let ds ← s.fetchDescs c w
  let loops := (s.getCtx c).loopIx
  let array := decide (w.eclass = 1)
  let kn := if array then u.coN else 1
  match shapeFault w ds loops u.clN kn with
  | some (i, k) => .error (descFault Err.DESCRIPTOR_INVALID i k)
  | none =>
    let k := s.claim c
    let mv := decide (w.opcode = 0x40) || decide (w.opcode = 0x41)
    ds.foldlM (fun (_ : Unit) x =>
      let d := x.d
      if bit d.ctrl 16 && d.negOff loops u.clN kn then .error (descFault Err.DESCRIPTOR_INVALID x.ix x.slot)
      else if bit d.ctrl 13 then .ok ()
      else
        let (lo, hi) := d.offsets loops u.clN kn
        let wd := (d.width : Int)
        let b : Int := ((d.base + (if bit d.ctrl 10 then (s.areg c (fld d.ctrl 6 4)).toNat else 0)) % 2 ^ 64 : Nat)
        -- addresses are modulo 2^64 (R247)
        let b0 := (b + lo * wd / 8) % (2 ^ 64 : Nat)
        let b1 := b0 + ((hi * wd + wd + 7) / 8 - lo * wd / 8)
        if d.space = 0 then .ok ()
        else
          let inside := (if d.space = 1 then decide (b1 ≤ 2 ^ 21) else if array then decide (b1 ≤ 2 ^ 14) else decide (b1 ≤ 96 * 2 ^ 14))
          let ok := if d.space = 1 then decide ((k.cs : Int) ≤ b0 / 2 ^ 16) && decide ((b1 - 1) / 2 ^ 16 < (k.cs + k.csn : Nat))
            else array || (decide ((k.core : Int) ≤ b0 / 2 ^ 14) && decide ((b1 - 1) / 2 ^ 14 < (k.core + k.coren : Nat)))
          if !inside && mv then .error (descFault Err.MOVER_RANGE x.ix x.slot)
          else if !inside || !ok then .error (descFault Err.DESCRIPTOR_INVALID x.ix x.slot)
          else .ok ()) ()
    pure ds

/-! ## Presence (check 4) -/

/-- The first absent port of a group slot. -/
def State.absentIn (s : State) (g : Nat) : Option Nat := (s.grpPorts g).find? fun p => !s.portPresent p

/-- The absent port that a command reaches through a table entry it names (R248). -/
def State.absentPort (s : State) (c : Nat) (w : Cmd) : Option Nat :=
  let viaGroup (id : Nat) : Option Nat := (s.slotFor c id).bind s.absentIn
  match w.opcode with
  | 0x70 => viaGroup (w.op 0 20)
  | 0x71 => viaGroup (w.op 0 20)
  | 0x72 => viaGroup (w.op 0 20)
  | 0x90 => viaGroup (w.op 0 20)
  | 0x60 =>
    if fld (s.rd (updReg c Off.UPD_CTX_TT_COUNT)) 0 17 ≤ w.op 0 16 then none
    else match s.spReadSafe (s.domOf c) 0 0 0 ((s.rd64 (updReg c Off.UPD_CTX_TT_BASE_LO)).toNat + 128 * w.op 0 16) 128 false true with
      | .ok v => if uEntryBad v then none else viaGroup (uf v 0x20 3 % 2 ^ 20)
      | .error _ => none
  | 0x78 =>
    let p := w.op 0 12
    if !s.pclValid p then none
    else ((if s.grpValid (s.pclSlot p) then s.absentIn (s.pclSlot p) else none)).orElse fun _ =>
      let port := s.qpPort (s.pclQp p)
      if bit (s.rd (qpReg (s.pclQp p) Off.MGMT_QP_CFG)) 31 && !s.portPresent port then some port else none
  | 0xB0 =>
    let r := 256 + w.op 0 8
    if !bit (s.rd (ringReg r Off.MGMT_RING_CFG)) 31 then none
    else if s.portPresent (s.qpPort (s.ringQp r)) then none else some (s.qpPort (s.ringQp r))
  | _ => none

/-! ## Operation checks (check 8) -/

/-- Does an innermost dimension break R35? -/
def Desc.oddInner (d : Desc) : Bool :=
  !d.mask && (((d.fmt == 5 || d.fmt == 6) && decide (d.cnt 0 % 4 ≠ 0)) || ((d.fmt == 7 || d.fmt == 9) && decide (d.cnt 0 % 2 ≠ 0)))

/-- A chain member: the fields that all members share (R120). -/
def chainKey (w : Cmd) (fmt : Nat) : List Nat := [fmt, w.op 0 24, w.op 31 1, w.op 32 10]

/-- M exceeds the tiles that the destination writes (R73). -/
def tooManyRows (w : Cmd) : Bool := decide (w.dest ≤ 1) && decide ((if w.op 28 3 = 4 then 256 else 64) < w.op 0 24)

/-- Operation checks of one pass (R33 to R35, R41, R73, R91, R110, R157, R161). -/
def passCheck (w : Cmd) (ds : List SlotDesc) : Option Code :=
  match slotDesc ds 0, slotDesc ds 1 with
  | some a, some b =>
    let drain := w.dest == 2
    let win := w.op 32 10
    if a.fmt ≠ b.fmt then some Err.FORMAT_MISMATCH
    else if a.fmt < 1 || 10 < a.fmt || (drain && (slotDesc ds 2).any fun x => x.fmt == 13 || x.fmt == 14 || bit x.ctrl 18) || ds.any fun x => x.d.oddInner then
      some Err.FORMAT_NOT_PERMITTED
    else if drain && decide (1 < w.op 42 2) then some Err.ROUND_MODE_INVALID
    else if tooManyRows w then some Err.TILE_ROWS_EXCEEDED
    else if w.opBit 31 && decide (177 ≤ win) && decide (win ≤ 511) then some Err.WINDOW_INVALID
    else if w.op 24 2 = 3 || (decide (w.op 24 2 ≠ 0) && (!bit a.ctrl 17 || decide (a.auxMap % 64 ≠ 0))) then some Err.SPARSITY_INVALID
    else none
  | _, _ => none

/-- Operation checks of a tile drain (R33, R35, R41, R91, R225). -/
def drainCheck (w : Cmd) (ds : List SlotDesc) : Option Code :=
  let rows := w.op 0 9
  let join := w.op 9 3 == 4
  let blkBad := match slotDesc ds 2 with
    | some x => (!w.opBit 21 && bit x.ctrl 18) || w.opBit 21 && (!blkFmt x.fmt || x.cnt 0 != 4 || (decide (1 < x.cnt 1) && x.str 1 != 1) || (w.op 19 2 == 3 && !join))
    | none => false
  if (slotDesc ds 2).any (fun x => x.fmt == 13 || x.fmt == 14) || ds.any (fun x => x.d.oddInner) || blkBad then some Err.FORMAT_NOT_PERMITTED
  else if 1 < w.op 12 2 then some Err.ROUND_MODE_INVALID
  else if rows < 1 || (if join then 256 else 64) < rows then some Err.TILE_ROWS_EXCEEDED
  else none

/-- Operation checks of a vector command (R34, R35, R41). A CMP_* output or a SELECT mask whose MASK bit is 0 is taken as whole elements (R137; log entry 37, DESIGN CHOICE). -/
def vectorCheck (w : Cmd) (ds : List SlotDesc) : Option Code :=
  let op := w.opcode
  let f (i : Nat) : Option Nat := (slotDesc ds i).map Desc.fmt
  let two := op = 0x20 ∨ op = 0x21 ∨ op = 0x22 ∨ op = 0x23 ∨ op = 0x24 ∨ op = 0x25 ∨ (0x28 ≤ op ∧ op ≤ 0x2C) ∨ op = 0x3E
  if (decide two && f 0 != f 1) || (op == 0x23 && f 0 != f 3) then some Err.FORMAT_MISMATCH
  else if ds.any fun x => x.d.oddInner then some Err.FORMAT_NOT_PERMITTED
  else if 1 < w.op 32 2 then some Err.ROUND_MODE_INVALID
  else none

/-- Do two byte ranges of one space overlap? -/
def spansMeet (x y : Opnd) : Bool :=
  x.space == y.space && decide (x.byteSpan.1 < y.byteSpan.2) && decide (y.byteSpan.1 < x.byteSpan.2)

/-- Operands of an instance, resolved with the context's registers and loop indices (R229, R247). -/
def State.opnds (s : State) (c : Nat) (ds : List SlotDesc) (i k cl core : Nat) : List (Nat × Nat × Opnd) :=
  ds.map fun x => (x.slot, x.sub, x.d.resolve (s.areg c (fld x.d.ctrl 6 4)).toNat (s.getCtx c).loopIx i k cl core)

/-- Does an output of a router operation overlap an input or another output (R171)? -/
def routeOverlap (os : List (Nat × Nat × Opnd)) : Bool :=
  let outs := os.filter fun o => o.1 == 2
  os.any fun x => outs.any fun y => (x.1, x.2.1) != (y.1, y.2.1) && spansMeet x.2.2 y.2.2

/-- Does an operand of a router operation have another shape or element than R171 and R176 give it: logits [T, E] and gates in FP32 or BF16, bias [E] in FP32, index words of 32 bits, a drop table of 64 + 4E bytes (log entry 38, DEDUCED)? -/
def routeShapeBad (w : Cmd) (ds : List SlotDesc) : Bool :=
  let g := routeCfg w
  let gateFmt := if g.gateBf16 then 1 else 0
  let word (d : Desc) (n : Nat) : Bool := d.width != 32 || d.elems != n
  ds.any fun x =>
    let d := x.d
    if x.slot = 0 then d.mask || decide (1 < d.fmt) || d.elems != g.t * g.e
    else if x.slot = 1 then d.mask || d.fmt != 0 || d.elems != g.e
    else match x.sub with
      | 0 => word d (g.e * g.c)
      | 1 => d.mask || d.fmt != gateFmt || d.elems != g.e * g.c
      | 2 => word d (g.t * g.k)
      | 3 => d.mask || d.fmt != gateFmt || d.elems != g.t * g.k
      | 4 => word d g.e
      | _ => d.elems * d.width != 8 * (64 + 4 * g.e) || (List.range 4).any fun i =>
          decide (1 < d.cnt i) && d.str i != (((d.count.take i).foldl (· * ·) 1 : Nat) : Int)

/-- Does a chain run end its range inside itself: the command at the end is a member (R244)? -/
def State.insideChain (s : State) (c off : Nat) : Except Flt Bool := do
  if s.streamLen c ≤ off then pure false
  else
    let w ← s.streamCmd c off
    pure (w.opcode == 0x10 && w.seeded)

/-- Nesting of a SKIP: its range ends inside the innermost body, holds whole bodies and whole chains (R244). -/
def State.skipCheck (s : State) (c off n : Nat) : Except Flt (Option Code) := do
  let stop := off + 32 * (n + 1)
  let inner := match (s.getCtx c).stack with | l :: _ => decide (l.stop < stop) | [] => false
  if inner then pure (some Err.LOOP_NEST_INVALID)
  else
    let broken ← (List.range n).anyM fun j => do
      let o := off + 32 * (j + 1)
      if s.streamLen c ≤ o then pure false
      else
        let w ← s.streamCmd c o
        pure (w.opcode == 7 && decide (stop < o + 32 * (w.op 0 16 + 1)))
    if broken then pure (some Err.LOOP_NEST_INVALID)
    else if ← s.insideChain c stop then pure (some Err.SPOOL_CHAIN_INVALID)
    else pure none

/-- Check 8: operation checks of a command (R248). Chains are checked at their head. -/
def State.opCheck (s : State) (c off : Nat) (w : Cmd) (ds : List SlotDesc) (u : UnitSet) : Except Flt (Option Code) :=
  let op := w.opcode
  if op = 0x10 then pure (passCheck w ds)
  else if op = 0x11 then pure (drainCheck w ds)
  else if w.eclass = 2 then pure (vectorCheck w ds)
  else if op = 0x40 then
    pure (match slotDesc ds 0, slotDesc ds 2 with
      | some a, some b =>
        if a.fmt ≠ b.fmt then some Err.FORMAT_MISMATCH
        else if a.oddInner || b.oddInner then some Err.FORMAT_NOT_PERMITTED else none
      | _, _ => none)
  else if ds.any fun x => x.d.oddInner then pure (some Err.FORMAT_NOT_PERMITTED)
  else if op = 0x42 then do
    -- the mask descriptor of each instance (R193)
    let _ ← (List.range u.clN).mapM fun i =>
      match (s.opnds c ds i 0 (s.physClu c (u.clF + i)) 0).find? fun o => o.1 == 0 with
      | some o => (s.maskDesc c o.2.2).map some
      | none => pure none
    pure none
  else if op = 0x50 then
    pure (if w.op 16 12 < w.op 28 3 || routeShapeBad w ds then some Err.ROUTER_SHAPE_INVALID
      else if (List.range u.clN).any fun i => routeOverlap (s.opnds c ds i 0 (s.physClu c (u.clF + i)) 0) then some Err.ROUTER_OVERLAP
      else none)
  else if op = 7 then
    let st := (s.getCtx c).stack
    let stop := off + 32 * (w.op 0 16 + 1)
    let inner := match st with | l :: _ => decide (l.stop < stop) | [] => false
    pure (if st.length = 4 || decide (s.streamLen c < stop) || inner then some Err.LOOP_NEST_INVALID else none)
  else if op = 8 then s.skipCheck c off (w.op 0 16)
  else pure none

/-! ## Reserved bits (check 9) -/

/-- Reserved fields of an operation word: first bit and length (R223 to R227). -/
def rsvFields (op : Nat) : List (Nat × Nat) :=
  if 0x20 ≤ op ∧ op ≤ 0x3F then [(70, 10), (96, 32)]
  else match op with
    | 0x01 => [(8, 24), (64, 64)] | 0x02 => [(8, 24), (64, 64)]
    | 0x03 => [(7, 57)] | 0x04 => [(26, 38)] | 0x05 => [(5, 27), (64, 64)]
    | 0x06 => [(24, 40), (96, 32)] | 0x07 => [(23, 1), (48, 80)] | 0x08 => [(16, 112)] | 0x09 => [(4, 124)]
    | 0x10 => [(58, 6)] | 0x11 => [(22, 10), (73, 7), (96, 32)]
    | 0x40 => [(3, 125)] | 0x41 => [(2, 126)] | 0x42 => [(82, 46)] | 0x50 => [(51, 13)]
    | 0x60 => [(16, 112)] | 0x61 => [(8, 120)] | 0x70 => [(36, 92)] | 0x71 => [(36, 92)]
    | 0x72 => [(20, 108)] | 0x90 => [(20, 108)] | 0x78 => [(12, 116)] | 0xA0 => [(19, 109)] | 0xB0 => [(8, 120)]
    | _ => [(0, 128)]

/-- Indices that a comparator's source kind has (R228). -/
def srcCount (kind : Nat) : Nat := match kind with | 0 => 8 | 1 => 256 | 2 => 64 | 3 => 4 | _ => 0

/-- Reserved encodings that have no code of their own (R87, R194, R223, R225, R227, R228). -/
def rsvEncoding (w : Cmd) : Bool :=
  match w.opcode with
  | 0x03 => decide (80 ≤ w.op 0 7)
  | 0x04 => decide (80 ≤ w.op 0 7) || decide (80 ≤ w.op 7 7) || (!w.opBit 21 && decide (80 ≤ w.op 14 7)) || decide (10 ≤ w.op 22 4)
  | 0x05 => w.op 3 2 == 3
  | 0x06 => decide (srcCount (w.op 3 3) ≤ w.op 6 8) || decide (6 ≤ w.op 14 3)
  | 0x07 => w.op 0 16 == 0
  | 0x08 => w.op 0 16 == 0
  | 0x10 => decide (4 < w.op 28 3) || (w.dest == 2 && w.op 46 2 == 3) || (!w.opBit 31 && w.opBit 41)
  | 0x11 => decide (4 < w.op 9 3) || w.op 16 2 == 3
  | 0x42 => decide (w.op 34 17 < w.op 17 17) || decide (65536 < w.op 34 17)
  | _ => false

/-! ## Admission (R248) -/

/-- What admission finds of a command: its unit set and descriptors. -/
structure Admitted where
  u : UnitSet
  ds : List SlotDesc
deriving DecidableEq, Repr

/-- Checks 1 to 8 of one command, a chain's run apart (R248). -/
def State.admitFirst (s : State) (c off : Nat) (w : Cmd) : Except Flt Admitted := do
  let fail (e : Code) (i0 : Nat) : Except Flt Admitted := .error ⟨e, i0, 0⟩
  match opInfo w.opcode with
  | none => fail Err.OPCODE_INVALID 0
  | some (ec, ic) =>
    if fld w.hdr 53 3 ≠ 0 || fld w.hdr 57 7 ≠ 0 || (!isClusterClass ec && w.unitset != 0) then fail Err.COMMAND_RESERVED 0
    else if w.eclass ≠ ec then fail Err.ENGINE_CLASS_MISMATCH 0
    else if !s.enginePresent ec then fail Err.ENGINE_ABSENT (ec * 2 ^ 28)
    else match s.absentPort c w with
      | some p => fail Err.ENGINE_ABSENT (ec * 2 ^ 28 + p)
      | none =>
        let u ← if isClusterClass ec then s.unitSet c w.unitset else pure {}
        let ds ← s.checkDescs c w u
        -- a pass whose format is no array operand has no current class to match (R222)
        let want := if w.opcode = 0x10 then passClass ((slotDesc ds 0).map Desc.fmt |>.getD 0) else some ic
        if want.any (· != w.iclass) then fail Err.CURRENT_CLASS_MISMATCH 0
        else
          match ← s.opCheck c off w ds u with
          | some e => fail e 0
          | none => pure ⟨u, ds⟩

/-- Check 9: reserved operation-word bits and encodings (R248). -/
def rsvWord (w : Cmd) : Bool := (rsvFields w.opcode).any (fun f => decide (w.op f.1 f.2 ≠ 0)) || rsvEncoding w

/-- Check 9 of a command that has passed the others (R248). -/
def admitLast (w : Cmd) (a : Admitted) : Except Flt Admitted :=
  if rsvWord w then .error ⟨Err.COMMAND_RESERVED, 0, 0⟩ else .ok a

/-- Checks 1 to 9 of one command, a chain's run apart (R248). -/
def State.admitOne (s : State) (c off : Nat) (w : Cmd) : Except Flt Admitted := do
  let a ← s.admitFirst c off w
  admitLast w a

/-- The run of a chain behind its head, read from the stream: at most 16 further members up to the tail (R224). -/
def State.chainRun (s : State) (c off : Nat) : Nat → Except Flt (List Cmd)
  | 0 => pure []
  | fuel + 1 => do
    if s.streamLen c ≤ off then .error ⟨Err.SPOOL_CHAIN_INVALID, 0, 0⟩
    else
      let w ← s.streamCmd c off
      if !w.isMember then .error ⟨Err.SPOOL_CHAIN_INVALID, 0, 0⟩
      else if w.dest ≠ 3 then pure [w]
      else do
        let l ← s.chainRun c (off + 32) fuel
        pure (w :: l)

/-- Does one member follow the one before as a chain asks: fields, clusters and cores (R119, R120, R224)? -/
def linkOk (w0 : Cmd) (a0 : Admitted) (w1 : Cmd) (a1 : Admitted) : Bool :=
  let f (a : Admitted) : Nat := ((slotDesc a.ds 0).map Desc.fmt).getD 0
  let k : Int := w0.spoolNext
  chainKey w0 (f a0) == chainKey w1 (f a1) && a0.u.clF == a1.u.clF && a0.u.clN == a1.u.clN && a0.u.coN == a1.u.coN
    && decide ((a1.u.coF : Int) = (a0.u.coF : Int) + k) && decide (0 ≤ (a0.u.coF : Int) + k) && decide ((a0.u.coF : Int) + k + (a0.u.coN : Int) ≤ 96)

/-- Do all links of a run hold? -/
def linksOk : List (Cmd × Admitted) → Bool
  | x :: y :: l => linkOk x.1 x.2 y.1 y.2 && linksOk (y :: l)
  | _ => true

/-- Check 8 of a chain's head: its run behind it, and each member's own checks; check 9 of the members follows that of the head (R120, R224, R248). -/
def State.admitChain (s : State) (c off : Nat) (w : Cmd) (a : Admitted) : Except Flt (List Cmd) := do
  let run ← s.chainRun c (off + 32) 16
  let inner := match (s.getCtx c).stack with | l :: _ => decide (l.stop < off + 32 * (run.length + 1)) | [] => false
  let tailRows := match run.getLast? with | some t => tooManyRows t | none => false
  if 15 < run.length || inner || tailRows || (run.getLast?).any (fun t => t.dest == 3) then .error ⟨Err.SPOOL_CHAIN_INVALID, 0, 0⟩
  else
    let ms ← (run.zipIdx).mapM fun (m, i) => do
      let x ← s.admitFirst c (off + 32 * (i + 1)) m
      pure (m, x)
    if linksOk ((w, a) :: ms) then pure run else .error ⟨Err.SPOOL_CHAIN_INVALID, 0, 0⟩

/-- Admission of a command at the front end: what it found, and the members of the chain it heads (R248). -/
def State.admission (s : State) (c off : Nat) (w : Cmd) : Except Flt (Admitted × Nat) := do
  let a ← s.admitFirst c off w
  let run ← if w.isHead then s.admitChain c off w a
    else if w.opcode == 0x10 && w.seeded then .error ⟨Err.SPOOL_CHAIN_INVALID, 0, 0⟩ else pure []
  let a ← admitLast w a
  let _ ← run.mapM fun m => admitLast m a
  pure (a, run.length)

end Sys2Proof.Machine
end

