-- ==== Sys2Proof/Machine/Stream.lean ====
section
/-! DEFINITION. The stream front end: conditions, waits, issue, loops and the end of a stream (R216, R224, R227 to R245, R371, R374). -/

namespace Sys2Proof.Machine

open Sys2Proof

/-! ## Advance through loops (R242) -/

/-- close_loops: the next offset and the loop stack. -/
def closeLoops (pc : Nat) : List Loop → Nat × List Loop
  | [] => (pc, [])
  | l :: r =>
    if pc = l.stop then
      if l.index + 1 < l.count then (l.start, { l with index := l.index + 1 } :: r) else closeLoops pc r
    else (pc, l :: r)

/-- Set the next offset and close the loops that end there (R242). -/
def State.moveTo (s : State) (c pc : Nat) : State :=
  let r := closeLoops pc (s.getCtx c).stack
  (s.modCtx c fun x => { x with stack := r.2 }).setPc c (BitVec.ofNat 64 r.1)

/-- A stream that has reached its length without a STREAM_END faults, also with the last member of a chain behind a pre-emption (R236, R239). -/
def State.overrun (s : State) (c : Nat) : State :=
  let r := (s.getCtx c).run
  if (r == .running || r == .stopping) && decide (s.streamLen c ≤ (s.pc c).toNat) then s.ctxFault c ⟨Err.STREAM_OVERRUN, 0, 0⟩ else s

/-- The signal of a command that retires at issue (R231). -/
def State.signalCmd (s : State) (c : Nat) (w : Cmd) : State :=
  if w.sigInc = 0 then s else s.signal c w.sigSem w.sigInc

/-! ## Skipping (R233, R241, R242) -/

/-- Commands that leave with a skipped one: the whole run of a chain under its head (R224). -/
def State.skipCount (s : State) (c off : Nat) (w : Cmd) : Nat :=
  if w.isHead then
    match s.chainRun c (off + 32) 16 with
    | .ok l => l.length + 1
    | .error _ => 1
  else 1

/-- A command skipped by its condition: it counts and the stream goes on (R233, R242). -/
def State.skipCmd (s : State) (c off : Nat) (w : Cmd) : State :=
  let n := s.skipCount c off w
  let s := s.inc (reg (pgCTX c) Off.CTX_SKIPPED) n
  let next := if w.opcode = 7 then off + 32 * (w.op 0 16 + 1) else off + 32 * n
  (s.moveTo c next).overrun c

/-! ## Control commands (R227, R241 to R244) -/

/-- Value of a register target (R227). -/
def State.target (s : State) (c t : Nat) : DWord := if t < 64 then s.par c t else s.areg c (t - 64)
/-- Write a register target (R227). -/
def State.setTarget (s : State) (c t : Nat) (v : DWord) : State := if t < 64 then s.setPar c t v else s.setAreg c (t - 64) v

/-- REG_ALU modulo 2^64 (R227). -/
def aluOp (op : Nat) (a b : DWord) : DWord :=
  match op with
  | 0 => a + b | 1 => a - b | 2 => a &&& b | 3 => a ||| b | 4 => a ^^^ b
  | 5 => a <<< (b.toNat % 64) | 6 => a >>> (b.toNat % 64)
  | 7 => if a ≤ b then a else b
  | 8 => if a ≤ b then b else a
  | _ => a * b

/-- SEM_SET (R227). -/
def State.semSet (s : State) (c : Nat) (w : Cmd) : State := s.wr (semKey c (w.op 0 8)) (BitVec.ofNat 32 (w.op 32 32))
/-- SEM_ADD (R227, R231). -/
def State.semAdd (s : State) (c : Nat) (w : Cmd) : State := s.signal c (w.op 0 8) (w.op 32 32)
/-- REG_SET (R227). -/
def State.regSet (s : State) (c : Nat) (w : Cmd) : State := s.setTarget c (w.op 0 7) w.op1
/-- REG_ALU (R227). -/
def State.regAlu (s : State) (c : Nat) (w : Cmd) : State :=
  let b := if w.opBit 21 then w.op1 else s.target c (w.op 14 7)
  s.setTarget c (w.op 0 7) (aluOp (w.op 22 4) (s.target c (w.op 7 7)) b)
/-- CNT_OP (R227). -/
def State.cntOp (s : State) (c : Nat) (w : Cmd) : State :=
  let k := cntKey c (w.op 0 3)
  let v := BitVec.ofNat 32 (w.op 32 32)
  s.wr k (match w.op 3 2 with | 0 => v | 1 => s.rd k + v | _ => s.rd k - v)
/-- CMP_SET (R227, R228). -/
def State.cmpSet (s : State) (c : Nat) (w : Cmd) : State :=
  let k := reg (pgCTX c) (Off.CTX_CMPn_CTRL + 8 * w.op 0 3)
  (s.wr k (BitVec.ofNat 32 (w.op 3 21))).wr (k + 4) (BitVec.ofNat 32 (w.op 64 32))

/-- LOOP_BEGIN past admission: the count is latched, the loop opens or its body is skipped (R241, R242). -/
def State.loopBegin (s : State) (c off : Nat) (w : Cmd) : State :=
  let v := s.par c (w.op 17 6)
  let n : Nat := if w.opBit 16 then v.toNat else w.op 24 24
  if n = 0 then s.moveTo c (off + 32 * (w.op 0 16 + 1))
  else
    let l : Loop := { start := off + 32, stop := off + 32 * (w.op 0 16 + 1), count := n, index := 0,
                      reg := if w.opBit 16 then some (w.op 17 6) else none }
    (s.modCtx c fun r => { r with stack := l :: r.stack }).setPc c (BitVec.ofNat 64 (off + 32))

/-- A taken SKIP (R242, R244). -/
def State.skipRange (s : State) (c off : Nat) (w : Cmd) : State :=
  (s.inc (reg (pgCTX c) Off.CTX_SKIPPED) (w.op 0 16)).moveTo c (off + 32 * (w.op 0 16 + 1))

/-- A command of engine class 0 that retires at issue and moves on by one (R227). -/
def State.control (s : State) (c : Nat) (w : Cmd) : State :=
  match w.opcode with
  | 1 => s.semSet c w
  | 2 => s.semAdd c w
  | 3 => s.regSet c w
  | 4 => s.regAlu c w
  | 5 => s.cntOp c w
  | 6 => s.cmpSet c w
  | _ => s

/-! ## Calendar entries written by streams (R319, R321) -/

/-- ENABLE of an entry set or cleared: an invalid entry stays disabled, a past instant counts late (R317, R319). -/
def State.calEnable (s : State) (e : Nat) (on : Bool) : State :=
  let k := calReg e Off.CAL_ENT_CTRL
  if !on then { s.wrBit k 0 false with lateEnt := s.lateEnt.filter (· != e) }
  else if !s.calValid e then (s.wrBit k 0 false).pageErr pgCAL Err.CAL_ENTRY_INVALID e 0 8
  else
    let s := s.wrBit k 0 true
    if s.calInstant e < s.now.toNat then { s with lateEnt := (s.lateEnt ++ [e]).eraseDups } else s

/-- CAL_SET (R321). -/
def State.calSet (s : State) (c : Nat) (w : Cmd) : Except Flt State :=
  let e := w.op 0 12
  if 1 ≤ s.calAction e && s.calValid e && s.calOwner e == s.ctxDom c then
    .ok ((s.wr64 (calReg e Off.CAL_ENT_INSTANT_LO) (s.par c (w.op 12 6))).calEnable e (w.opBit 18))
  else .error ⟨Err.CAL_ENTRY_DENIED, e, 0⟩

/-! ## Issue of engine commands -/

/-- The instances of a command (R216). -/
def State.instances (s : State) (c : Nat) (w : Cmd) (a : Admitted) : List InstOps :=
  if w.eclass = 1 then
    (List.range a.u.clN).flatMap fun i =>
      let cl := s.physClu c (a.u.clF + i)
      (List.range a.u.coN).map fun k =>
        let core := s.physCore cl (a.u.coF + k)
        ⟨cl, core, k, s.opnds c a.ds i k cl core, 0⟩
  else if isClusterClass w.eclass then
    (List.range a.u.clN).map fun i =>
      let cl := s.physClu c (a.u.clF + i)
      ⟨cl, 0, 0, s.opnds c a.ds i 0 cl 0, 0⟩
  else [⟨0, 0, 0, s.opnds c a.ds 0 0 0 0, 0⟩]

/-- A command in flight joins its context's list: its id. -/
def State.addLive (s : State) (c off : Nat) (w : Cmd) (left : Nat) (clus : List Nat) (insts : List InstOps := []) (par : DWord := 0)
    (waits : Bool := false) : State × Nat :=
  let id := (s.getCtx c).nextId
  let l : Live := { id := id, off := off, w := w, left := left, clus := clus, insts := insts, step := s.step' c, par := par, waits := waits }
  (s.modCtx c fun r => { r with nextId := id + 1, live := r.live ++ [l] }, id)

/-- The reservation of a unit on a cluster of the context (R284, R285). -/
def State.cluUnit (s : State) (c id cl : Nat) (core : Option Nat) (sub : Nat) (w : Cmd) : LUnit :=
  { acct := cl / 375, ix := cl % 375, owner := some (c, id), core := core, sub := sub, iclass := w.iclass, dom := s.domOf c, prio := s.ctxClass c }

/-- The reservation of a fabric command (R284). -/
def State.fabricUnit (s : State) (c id : Nat) (w : Cmd) : LUnit :=
  { acct := 8, ix := c, owner := some (c, id), iclass := w.iclass, dom := s.domOf c, prio := s.ctxClass c }

/-- Place of a pass in its chain: chain number, position, tail. -/
structure ChainAt where
  id : Nat
  pos : Nat
  tail : Bool
deriving DecidableEq, Repr

/-- The array's record of one instance of a PASS or TILE_DRAIN. -/
def State.mkPass (s : State) (c id off : Nat) (w : Cmd) (a : Admitted) (x : InstOps) (ch : Option ChainAt) : Pass :=
  { ctx := c, id := id, isPass := w.opcode == 0x10, off := off, w := w, step := s.step' c,
    a := x.get 0, b := x.get 1, c := x.get 2, d := x.get 3,
    next := s.physCore x.cl ((a.u.coF : Int) + (x.k : Int) + w.spoolNext).toNat,
    chain := ch.map fun h => h.id * 128 + x.k, pos := (ch.map ChainAt.pos).getD 0, tail := (ch.map ChainAt.tail).getD true,
    granted := false, phase := .wait, loaded := false, wts := [], win := 0, replays := 0, stat := 0, ovf := none, nans := [],
    smax := [], ssum := [], refs := [], stall := 0 }

/-- The records that a PASS or TILE_DRAIN puts in the queues of its cores; a pass whose every row is skipped needs no current (R216, R285). -/
def State.arrayPasses (s : State) (c id off : Nat) (w : Cmd) (a : Admitted) (insts : List InstOps) (ch : Option ChainAt) : List (InstOps × Pass) :=
  insts.map fun x =>
    let p := s.mkPass c id off w a x ch
    (x, { p with granted := p.isPass && s.allSkipped p })

/-- A PASS or TILE_DRAIN is queued on each core of its unit set and asks for its current (R93, R216, R285). -/
def State.issueArray (s : State) (c off : Nat) (w : Cmd) (a : Admitted) (insts : List InstOps) (ch : Option ChainAt) : State :=
  if w.opcode = 0x10 ∧ w.op 0 24 = 0 then
    (if w.opBit 111 then s.setPar c (w.op 105 6) 0 else s).signalCmd c w
  else
    let (s, id) := s.addLive c off w insts.length (insts.map InstOps.cl).eraseDups
    let ps := s.arrayPasses c id off w a insts ch
    let s := ps.foldl (fun t q => t.modCore (coreKey q.1.cl q.1.core) fun r => r.enqueue q.2) s
    s.askUnits ((ps.filter fun q => !q.2.granted).map fun q => s.cluUnit c id q.1.cl (some q.1.core) 0 w)

/-- The parameter register that a cluster command reads in its issue cycle: I_PAR of a mask walk, EPS_PAR of a normalisation (R140, R226, R229). -/
def State.parRead (s : State) (c : Nat) (w : Cmd) : DWord :=
  if w.opcode = 0x42 then s.par c (w.op 0 6) else s.par c (w.op 40 6)

/-- The mover that a command names (R226). -/
def moverOf (w : Cmd) : Nat := if w.opcode = 0x42 then w.op 80 2 else if w.eclass = 3 then w.op 0 2 else 0

/-- Router units start an operation: no phase of it has been read (R187). -/
def State.routerStart (s : State) (clus : List Nat) : State := s.clearRegs (clus.map fun cl => reg (pgRTE cl) Off.RTE_STATE)

/-- A vector, mover or router command joins the commands in flight and asks for the current of its instances; they start with the grant (R285). -/
def State.issueCluster (s : State) (c off : Nat) (w : Cmd) (insts : List InstOps) : State :=
  let (s, id) := s.addLive c off w 1 (insts.map InstOps.cl).eraseDups insts (s.parRead c w)
  let s := if w.eclass = 4 then s.routerStart (insts.map InstOps.cl) else s
  s.askUnits (insts.map fun x => s.cluUnit c id x.cl none (moverOf w) w)

/-- A command of engine classes 6 to 11 joins the commands in flight with its operand; a fabric command asks for its current, and waits with its effect until it has it (R284, R287): the state and its id. -/
def State.flyOther (s : State) (c off : Nat) (w : Cmd) (o : Option Opnd) : State × Nat :=
  let (t, id) := s.addLive c off w 1 [] [⟨0, 0, 0, (o.map fun x => (0, 0, x)).toList, 0⟩] 0 (w.iclass == 8)
  (if w.iclass = 8 then t.askUnits [t.fabricUnit c id w] else t, id)

/-- The operand of a fabric command in flight. -/
def Live.operand (l : Live) : Option Opnd := l.insts.head?.bind fun x => x.os.head?.map fun o => o.2.2

/-- A fabric command that has its current goes to its endpoint: a send runs when its window is open, a parcel asks for its slot, a checkpoint's bytes leave; a VOTE waits for the conditions of R380 (R371, R384, R451). -/
def State.startFabric (s : State) (c : Nat) (l : Live) : State :=
  let s := s.modCtx c fun r => { r with live := r.live.map fun x => if x.id == l.id then { x with waits := false } else x }
  let send (t : State) : State := match t.sends.reverse.find? fun x => x.ctx == c && x.id == some l.id with
    | some x => t.runSend x
    | none => t
  match l.w.opcode, l.operand with
  | 0x70, _ => send s
  | 0x71, _ => send s
  | 0x78, some o => s.parcelSend c l.id (l.w.op 0 12) o
  | 0xB0, some o => (match s.ckptPush c l.id (256 + l.w.op 0 8) o with | .ok t => t | .error f => (s.dropCmd c l.id).ctxFault c f)
  | _, _ => s

/-- Fabric commands of a context whose current has been granted start, in stream order (R287). -/
def State.startFabrics (s : State) (c : Nat) : State :=
  ((s.getCtx c).live.filter fun l => l.w.iclass == 8 && l.waits).foldl (fun t l => if t.waitsCurrent c l.id none then t else t.startFabric c l) s

/-- Fabric commands that waited for a grant start (R287). -/
def State.fabricsGo (s : State) : State := (s.ctx.map Prod.fst).foldl State.startFabrics s

/-- Commands of engine classes 5 to 11 (R371, R380, R384, R395, R419, R451, R509, R533, R321). -/
def State.issueOther (s : State) (c off : Nat) (w : Cmd) (o : Option Opnd) : State :=
  let atIssue (r : Except Flt State) : State := match r with
    | .ok t => t.signalCmd c w
    | .error f => s.ctxFault c f
  let fly : State × Nat := s.flyOther c off w o
  let bad (code : Code) : State := s.ctxFault c ⟨code, 0, 0⟩
  match w.opcode with
  | 0x60 => atIssue (s.armTensor c off (w.op 0 16))
  | 0x61 => atIssue (s.schedule c (w.op 0 8))
  | 0x90 => atIssue (s.twinArm c (w.op 0 20))
  | 0xA0 => atIssue (s.calSet c w)
  | 0x72 => match s.slotFor c (w.op 0 20) with
    | none => bad Err.GROUP_INVALID
    | some g => ((fly.1.modStep c fun r => { r with votes := r.votes ++ [(fly.2, g)] }).modCtx c fun r => { r with voted := true }).startFabrics c
  | 0x78 => if s.pclOf c (w.op 0 12) then fly.1.startFabrics c else s.ctxFault c ⟨Err.PARCEL_INVALID, w.op 0 12, 0⟩
  | 0x80 => match o with
    | some x => { fly.1 with met := { fly.1.met with snaps := fly.1.met.snaps ++ [⟨c, fly.2, x, s.step' c⟩] } }
    | none => s
  | 0xB0 => fly.1.startFabrics c
  | _ => match s.slotFor c (w.op 0 20), o with
    | some g, some x =>
      let r : SendRec := { ctx := c, id := some fly.2, off := off, slot := g, tensor := w.op 20 16, rs := w.opcode == 0x70, o := x }
      (({ fly.1 with sends := fly.1.sends ++ [r] } : State).startDeadline g r.tensor s.now.toNat).startFabrics c
    | none, _ => bad Err.GROUP_INVALID
    | _, none => s

/-- The end of a replay's step with no vote and no armed tensor, and what STREAM_END closes (R238, R239, R374, R451). -/
def State.endStream (s : State) (c : Nat) : State :=
  let s := s.ckptClose c
  let s := ((s.openGrps c).filter fun g => (s.getGrp g).vote == 0).foldl (fun t g => t.closeWindow g true) s
  let s := if (s.getCtx c).voted then s else s.endStep c
  (s.freeClaim c).modCtx c fun r => { r with run := .idle, saveValid := false, byPreempt := false }

/-! ## The front end (R233) -/

/-- Does an engine of a context still work: it runs, or it has yet to stop (R269)? -/
def State.engineRuns (s : State) (c : Nat) (e : Engine) : Bool :=
  let r := s.getCtx c
  r.run == .running || (r.run == .stopping && r.engines.contains e)

/-- Does a router operation have its units: none that waits for them after a resume, none of a context whose router has stopped (R180)? -/
def State.routerHolds (s : State) (c : Nat) (l : Live) : Bool := l.w.eclass == 4 && !l.waits && s.engineRuns c .router

/-- Are router units of clusters taken by another operation (R180)? -/
def State.routerBusy (s : State) (clus : List Nat) : Bool :=
  s.ctx.any fun p => p.2.live.any fun l => s.routerHolds p.1 l && l.clus.any clus.contains

/-- What an admitted command still waits for at issue (R136, R180, R239, R245, R509). -/
def State.issueWait (s : State) (c : Nat) (w : Cmd) (a : Admitted) : Option WaitKind :=
  let r := s.getCtx c
  if w.opcode = 9 then (if s.cond c (w.op 0 3) != w.opBit 3 then none else some .cond)
  else if w.opcode = 0x0A then (if r.live = [] then none else some .streamEnd)
  else if w.eclass = 2 then (if r.live.any fun l => l.w.eclass == 2 then some .engine else none)
  else if w.eclass = 4 then
    (if s.routerBusy ((List.range a.u.clN).map fun i => s.physClu c (a.u.clF + i)) then some .engine else none)
  else if w.opcode = 0x80 then (if 16 ≤ s.met.snaps.length then some .engine else none)
  else none

/-- The issue cycle: the semaphore falls, the command counts (R231, R252). -/
def State.beginIssue (s : State) (c : Nat) (w : Cmd) : State :=
  let s := if w.waitDec = 0 then s else s.wr (semKey c w.waitSem) (s.sem c w.waitSem - BitVec.ofNat 32 w.waitDec)
  s.inc64 (reg (pgCTX c) Off.CTX_ISSUED_LO)

/-- Issue an admitted command (R227, R233, R235, R242). -/
def State.issue (s : State) (c off : Nat) (w : Cmd) (a : Admitted) (ch : Option ChainAt) : State :=
  let insts := s.instances c w a
  let s := s.beginIssue c w
  if w.opcode = 7 then (((s.signalCmd c w).loopBegin c off w)).overrun c
  else if w.opcode = 8 then ((s.signalCmd c w).skipRange c off w).overrun c
  else if w.opcode = 0x0A then ((s.signalCmd c w).moveTo c (off + 32)).endStream c
  else
    let s := s.moveTo c (off + 32)
    (match w.eclass with
     | 0 => (s.control c w).signalCmd c w
     | 1 => s.issueArray c off w a insts ch
     | 2 => s.issueCluster c off w insts
     | 3 => s.issueCluster c off w insts
     | 4 => s.issueCluster c off w insts
     | _ => s.issueOther c off w ((insts.head?.bind fun x => x.get 0).orElse fun _ => insts.head?.bind fun x => x.get 2)).overrun c

/-- A command is held at issue. -/
def State.holdAt (s : State) (c : Nat) (w : Cmd) (k : WaitKind) : State := s.modCtx c fun r => { r with held := some (w, k) }

/-- A member of the chain whose head has issued (R224). -/
def State.issueMember (s : State) (c off : Nat) (w : Cmd) : State :=
  let r := s.getCtx c
  if !w.isMember then s.refuse c ⟨Err.SPOOL_CHAIN_INVALID, 0, 0⟩
  else match s.admitOne c off w with
    | .error f => s.refuse c f
    | .ok a =>
      let s := s.modCtx c fun x => { x with chainLeft := r.chainLeft - 1, chainPos := r.chainPos + 1 }
      s.issue c off w a (some ⟨r.chainId, r.chainPos, r.chainLeft == 1⟩)

/-- Steps 2 to 5 of R233: waits, admission, issue. -/
def State.tryIssue (s : State) (c : Nat) (w : Cmd) : State :=
  let r := s.getCtx c
  let off := (s.pc c).toNat
  if 0 < r.chainLeft then s.issueMember c off w
  else if w.waitDec ≠ 0 && decide ((s.sem c w.waitSem).toNat < w.waitDec) then s.holdAt c w .sem
  else if w.fence && decide (r.live ≠ []) then s.holdAt c w .fence
  else match s.admission c off w with
    | .error f => s.refuse c f
    | .ok (a, n) =>
      if w.opcode = 7 ∧ w.opBit 16 = true ∧ 2 ^ 32 ≤ (s.par c (w.op 17 6)).toNat then s.refuse c ⟨Err.LOOP_COUNT_RANGE, 0, 0⟩
      else match s.issueWait c w a with
        | some k => s.holdAt c w k
        | none =>
          if n = 0 then s.issue c off w a none
          else
            let id := r.nextId
            let s := s.modCtx c fun x => { x with chainLeft := n, chainId := id, chainPos := 1 }
            s.issue c off w a (some ⟨id, 0, false⟩)

/-- A held command looks again when what it waits for has come. -/
def State.resumeHeld (s : State) (c : Nat) (k : WaitKind) : State :=
  let r := s.getCtx c
  match r.held with
  | some (w, q) => if q = k ∧ r.run = .running then (s.setCtx c { r with held := none }).tryIssue c w else s
  | none => s

/-- A semaphore wait ends (R231). -/
def State.semWaitEnd (s : State) (c : Nat) : State :=
  match (s.getCtx c).held with
  | some (w, .sem) => if w.waitDec ≤ (s.sem c w.waitSem).toNat then s.resumeHeld c .sem else s
  | _ => s

/-- A FENCE or a STREAM_END finds every earlier command retired (R217, R239). -/
def State.fenceWaitEnd (s : State) (c : Nat) : State :=
  if (s.getCtx c).live = [] then
    match (s.getCtx c).held with
    | some (_, .fence) => s.resumeHeld c .fence
    | some (_, .streamEnd) => s.resumeHeld c .streamEnd
    | _ => s
  else s

/-- A WAIT_COND finds its condition true (R245). -/
def State.condWaitEnd (s : State) (c : Nat) : State :=
  match (s.getCtx c).held with
  | some (w, .cond) => if s.cond c (w.op 0 3) != w.opBit 3 then s.resumeHeld c .cond else s
  | _ => s

/-- Contexts that wait for router units which are free: at issue, or to start again after a resume: (context, class) (R180). -/
def State.routerWaiters (s : State) : List (Nat × Nat) :=
  s.ctx.filterMap fun p =>
    let again := s.engineRuns p.1 .router && p.2.live.any fun l => l.w.eclass == 4 && l.waits && !s.routerBusy l.clus
    let held := match p.2.held with
      | some (w, .engine) =>
        w.eclass == 4 && p.2.run == .running && (match s.unitSet p.1 w.unitset with
          | .ok u => !s.routerBusy ((List.range u.clN).map fun i => s.physClu p.1 (u.clF + i))
          | .error _ => true)
      | _ => false
    if again || held then some (p.1, s.ctxClass p.1) else none

/-- One router operation that waits takes its units: a stopped one starts again, a held one issues (R180). -/
def State.routerTake (s : State) (c : Nat) : State :=
  match (s.getCtx c).live.find? fun l => l.w.eclass == 4 && l.waits && !s.routerBusy l.clus with
  | some l => (s.routerStart l.clus).modCtx c fun r => { r with live := r.live.map fun x => if x.id == l.id then { x with waits := false } else x }
  | none => s.resumeHeld c .engine

/-- Under the tie rule the waiting router operations whose units are free start, one after another (R180, R260). -/
def State.routerRound : Nat → State → State
  | 0, s => s
  | n + 1, s => match s.tieGrant 0x30000 16384 s.routerWaiters with
    | (some c, t) => State.routerRound n (t.routerTake c)
    | (none, t) => t

/-- Router units are free again (R180). -/
def State.routerNext (s : State) : State := State.routerRound s.routerWaiters.length s

/-- The front end takes the next command of a running context (R233). One that is held for router units looks again, under the tie rule. -/
def State.frontEnd (s : State) (c : Nat) (w : Cmd) : State :=
  let r := s.getCtx c
  -- a chain issues as one unit, also past a pre-emption (R236)
  let goes := r.run == .running || (r.run == .stopping && r.engines.contains .frontEnd && decide (0 < r.chainLeft))
  if r.held == some (w, .engine) && w.eclass == 4 then s.routerNext
  else if !goes || r.held.isSome then s
  else if r.chainLeft = 0 && w.condEn && s.cond c w.condSel == w.condNeg then s.skipCmd c (s.pc c).toNat w
  else s.tryIssue c w

/-- A context held for a place in the snapshot queue goes on, the lowest first (R509). -/
def State.snapNext (s : State) : State :=
  match s.ctx.find? fun p => match p.2.held with | some (w, .engine) => w.opcode == 0x80 && p.2.run == .running | _ => false with
  | some p => s.resumeHeld p.1 .engine
  | none => s

/-- The oldest command in flight of a context that a test picks. -/
def State.oldest (s : State) (c : Nat) (p : Live → Bool) : Option Live := (s.getCtx c).live.find? p

/-- The engine that carries out a cluster command (R269). -/
def engineFor (w : Cmd) : Engine :=
  match w.eclass with
  | 1 => if w.opcode = 0x10 then .array else .tileDrain
  | 2 => .vector
  | 3 => if w.opcode = 0x42 then .maskWalk else .mover
  | _ => .router

/-- Is an instance of a cluster command frozen under the ledger cause (R597)? -/
def State.frozenCmd (s : State) (l : Live) : Bool := l.clus.any fun cl => s.unitFrozen cl l.w.iclass (moverOf l.w)

/-- The oldest command of an engine whose current has been granted and of whose instances none is frozen (R285, R597). -/
def State.oldestGranted (s : State) (c : Nat) (p : Live → Bool) : Option Live :=
  match s.oldest c p with
  | some l => if s.waitsCurrent c l.id none || s.frozenCmd l then none else some l
  | none => none

/-- A command whose results stand retires, unless a fault has stopped it (R231, R273). -/
def State.retireDone (s : State) (c : Nat) (l : Live) : State := if (s.getCtx c).run = .faulted then s else s.retireCmd c l

/-- Cycles in which at least one lane was active: one for each group of 256 elements, and a free number for what an operation's own passes add (R154; log entry 37, DESIGN CHOICE). -/
def State.countVector (s : State) (l : Live) : State :=
  let cfg := vecCfg l.w
  l.clus.foldl (fun t cl =>
    let (v, u) := t.draw
    (u.inc64 (reg (pgCLU cl) Off.CLU_VEC_OPS_LO)).inc (reg (pgCLU cl) Off.CLU_VEC_BUSY) (cfg.rows * cdiv cfg.n 256 + v.toNat % 2 ^ 32)) s

/-- A vector operation computes its remaining rows and retires; the next of its context may issue (R136, R154). -/
def State.vectorRetire (s : State) (c : Nat) : State :=
  match s.oldestGranted c fun l => l.w.eclass == 2 with
  | none => s
  | some l =>
    let s := s.runVector c l
    if (s.getCtx c).run = .faulted then s
    else
      let s := (s.countVector l).retireCmd c l
      match (s.getCtx c).held with
      | some (w, .engine) => if w.eclass = 2 then s.resumeHeld c .engine else s
      | _ => s

/-- A move or zero of a mover carries its remaining iterations and retires (R150, R153). -/
def State.moveRetire (s : State) (c mv : Nat) : State :=
  match s.oldestGranted c fun l => (l.w.opcode == 0x40 || l.w.opcode == 0x41) && l.w.op 0 2 == mv with
  | none => s
  | some l => (s.runMove c l).retireDone c l

/-- A mask walk of a mover writes its outputs and retires with its parameter registers (R196). -/
def State.walkRetire (s : State) (c mv : Nat) : State :=
  match s.oldestGranted c fun l => l.w.opcode == 0x42 && l.w.op 80 2 == mv with
  | none => s
  | some l =>
    let (t, ps) := s.runWalk c l
    if (t.getCtx c).run = .faulted then t else (ps.foldl (fun u p => u.setPar c p.1 p.2) t).retireCmd c l

/-- A router operation that has its units writes its outputs and retires; the units are free (R176, R180, R187). -/
def State.routeRetire (s : State) (c : Nat) : State :=
  match s.oldestGranted c fun l => s.routerHolds c l with
  | none => s
  | some l =>
    let s := s.runRoute c l
    if (s.getCtx c).run = .faulted then s.routerNext
    else ((l.clus.foldl (fun t cl => t.inc64 (reg (pgRTE cl) Off.RTE_OPS_LO)) s).retireCmd c l).routerNext

/-- The oldest send of a context that has been carried out retires (R371). -/
def State.sendRetire (s : State) (c : Nat) : State :=
  match s.sends.find? fun x => x.ctx == c && x.done && x.id.isSome with
  | none => s
  | some x => ({ s with sends := s.sends.erase x } : State).retireOne c (x.id.getD 0)

/-- Sends that wait for log records look again when records are free (R372). -/
def State.sendLogWake (s : State) (c : Nat) : State :=
  if s.logUsed < 65536 then
    match s.sends.find? fun x => x.ctx == c && x.waitLog with
    | none => s
    | some x => ({ s with sends := s.sends.map fun y => if y == x then { x with waitLog := false } else y } : State).runSend { x with waitLog := false }
  else s

end Sys2Proof.Machine
end

