-- ==== Sys2Proof/Machine/RunControl.lean ====
section
/-! DEFINITION. Replay starts, the calendar's actions, pre-emption, save and restore, run control, binding and partitions (R237, R240, R254 to R276, R317, R320). -/

namespace Sys2Proof.Machine

open Sys2Proof

/-! ## Replay start (R237, R240) -/

/-- The value a patch entry writes, from its 32 bytes (R240); none for a reserved OP or target. -/
def State.patchValue (s : State) (c e : Nat) : Option DWord :=
  let tgt := e % 2 ^ 7
  let a : DWord := BitVec.ofNat 64 (e / 2 ^ 64)
  let b : DWord := BitVec.ofNat 64 (e / 2 ^ 128)
  let cur := bit (s.rd (updReg c Off.UPD_CTX_EPOCH)) 0
  if 80 ≤ tgt then none
  else match e / 2 ^ 8 % 16 with
    | 0 => some a
    | 1 => some (s.target c tgt + a)
    | 2 => some (if cur then b else a)
    | 3 => some (if cur then a else b)
    | 4 => some (s.par c (fld a 0 6))
    | 5 => some (s.step' c)
    | 6 => some s.now
    | _ => none

/-- Apply patch entries in order; the index of the first reserved one, if any (R237). -/
def State.applyPatches (s : State) (c : Nat) : Nat → List Nat → State × Option Nat
  | _, [] => (s, none)
  | i, e :: es =>
    match s.patchValue c e with
    | none => (s, some i)
    | some v => (s.setTarget c (e % 2 ^ 7) v).applyPatches c (i + 1) es

/-- May a replay start now (R237)? -/
def State.mayReplay (s : State) (c : Nat) : Bool := (s.getCtx c).run == .idle && !(s.getCtx c).stepPending

/-- Valid group slots of a context whose window opens at the replay start (R374). -/
def State.replayGrps (s : State) (c : Nat) : List Nat :=
  s.regs.filterMap fun p =>
    let g := p.1 / 2 ^ 28 - 1
    if p.1 % 2 ^ 28 = reg pgCOLL Off.COLL_GRP_ID && decide (2 ^ 28 ≤ p.1) && bit p.2 31 && s.grpCtx g == c
        && !bit (s.rd (grpReg g Off.COLL_GRP_CFG)) 0
    then some g else none

/-- Steps 2 to 5 of R237, the claim (R266) and the windows of OPEN_MODE 0 (R374). -/
def State.beginReplay (s : State) (c : Nat) : State :=
  let n := fld (s.rd (reg (pgCTX c) Off.CTX_PATCH_COUNT)) 0 7
  let s := (s.modCtx c fun r => { r with stepPending := true, voted := false }).newStep c
  let bytes : Except Flt Nat := if n = 0 then .ok 0
    else s.spReadSafe (s.domOf c) 0 0 0 (s.rd64 (reg (pgCTX c) Off.CTX_PATCH_BASE_LO)).toNat (32 * n)
  match bytes with
  | .error f => s.ctxFault c f
  | .ok v =>
    let (s, bad) := s.applyPatches c 0 ((List.range n).map fun i => v / 2 ^ (256 * i) % 2 ^ 256)
    match bad with
    | some i => s.ctxFault c ⟨Err.PATCH_INVALID, i, 0⟩
    | none =>
      let s := (s.modCtx c fun r => { r with stack := [], held := none, chainLeft := 0, run := .ready, starting := true }).setPc c 0
      let s := s.inc (reg (pgCTX c) Off.CTX_REPLAYS)
      let s := (s.replayGrps c).foldl (fun t g => t.openWindow g t.now.toNat) s
      s.requestClaim c

/-- What a control-plane start is answered (R237, R266). -/
def State.replayAnswer (s : State) (c : Nat) : Code :=
  if (s.getCtx c).run = .unbound then Err.CONTEXT_UNBOUND else if s.mayReplay c then 0 else Err.REPLAY_BUSY

/-- The floor of an entry with FLOOR_ARM is armed (R290, R317). -/
def State.armFloor (s : State) (c e : Nat) : State :=
  if bit (s.rd (calReg e Off.CAL_ENT_ACTION)) 4 then { s with armed := (s.armed ++ [c]).eraseDups } else s

/-! ## Calendar actions (R317) -/

/-- STEP_START (R317, R320). -/
def State.calStepStart (s : State) (e c : Nat) : Option State :=
  let r := s.getCtx c
  if r.run = .unbound then none
  else if s.mayReplay c && r.heldStart.isNone then some ((s.beginReplay c).armFloor c e)
  else if r.heldStart.isSome then some ((s.inc (reg pgCAL Off.CAL_MISSED)).raise pgCAL 1)
  else some (s.setCtx c { r with heldStart := some (e, s.now.toNat) })

/-- A held start begins (R31, R320). -/
def State.heldStep (s : State) (c : Nat) : State :=
  match (s.getCtx c).heldStart with
  | none => s
  | some (e, _) =>
    if s.mayReplay c then
      let s := s.modCtx c fun r => { r with heldStart := none }
      let s := (s.inc (reg pgCAL Off.CAL_LATE)).raise pgCAL 0
      (s.beginReplay c).armFloor c e
    else s

/-- WINDOW_OPEN: every valid slot of the identifier with OPEN_MODE 1 and an owning context of the entry's owner (R317, R374). -/
def State.calWindowOpen (s : State) (id inst : Nat) (own : Option Nat) : Option State :=
  let gs := (s.slotsOfGroup id).filter fun g => bit (s.rd (grpReg g Off.COLL_GRP_CFG)) 0 &&
    (match own with | some d => s.ctxDom (s.grpCtx g) == some d | none => true)
  if gs = [] then none else some (gs.foldl (fun t g => t.openWindow g inst) s)

/-- COMMIT: the context's commit instant under COMMIT_MODE 0 (R415). -/
def State.calCommit (s : State) (c : Nat) : Option State :=
  if (s.getCtx c).stepPending && !(s.getStep c).commit && !bit (s.rd (updReg c Off.UPD_CTX_CFG)) 0
  then some (s.modStep c fun r => { r with commit := true }) else none

/-- RESUME (R268, R274); none in a state other than SAVED after PREEMPT. -/
def State.resumeCtx (s : State) (c : Nat) : Option State :=
  let r := s.getCtx c
  if r.run = .saved ∧ r.byPreempt = true then
    some ((s.setCtx c { r with run := .ready, byPreempt := false }).requestClaim c)
  else none

/-- RAMP_PROFILE: its lead counts from the entry's instant i (R292, R317, R318). -/
def State.calProfile (s : State) (p i : Nat) (own : Option Nat) : Option State := some (s.startProfile p (own.getD 1024) ((s.now.toNat - i) / 2))

/-- CHECKPOINT_START (R317, R451). -/
def State.calCkpt (s : State) (t : Nat) : Option State := s.ckptStart (256 + t)

/-! ## Pre-emption, save and restore (R266 to R276) -/

/-- The engine with a number. -/
def engineOf : Nat → Option Engine
  | 0 => some .frontEnd | 1 => some .array | 2 => some .tileDrain | 3 => some .vector
  | 4 => some .mover | 5 => some .router | 6 => some .maskWalk | _ => none

/-- Passes of a context in its arrays, by core key. -/
def State.airOf (s : State) (c : Nat) (pass : Bool) : List (Nat × Pass) :=
  s.cores.flatMap fun p => (p.2.air.filter fun x => x.ctx == c && x.isPass == pass).map fun x => (p.1, x)

/-- The members of a group hold every row below row v: a member that has not issued, or not come so far, takes the rows of the one before it (R124). -/
def State.fillGroup (s : State) (cl : Nat) (g : List (Nat × Pass)) (v : Nat) : Except MemberFault State := do
  let (t, _) ← g.foldlM (fun (a : State × List RowRes) x => (do
    let p := x.2
    if readsPoison (a.1.getCore (coreKey cl x.1)) p (a.1.domOf p.ctx) then .error ⟨Err.TILE_POISONED, 3 + 4, 0⟩
    else
      let q ← if p.begun then pure p else a.1.startStats cl x.1 p
      let (ws, ix) ← if p.loaded || a.1.allSkipped p then pure (p.wts, p.idx) else a.1.latchWeights p
      let seeds := ((a.2.drop p.rows.length).take (v - p.entered)).map RowRes.els
      let (t, q) ← a.1.fillRows cl x.1 { q with wts := ws, idx := ix, begun := true } seeds
      pure (t.modCore (coreKey cl x.1) fun r => r.setPass q, q.rows) : Except Flt (State × List RowRes)).mapError fun f => (x.1, x.2, f)) (s, [])
  pure t

/-- The resume row of a pass that stops (R97, R103). -/
def State.noteResume (s : State) (cl core row : Nat) : State :=
  s.wr (wreg core (pgCLU cl) Off.CORE_RESUME_ROW) (BitVec.ofNat 32 (row % 2 ^ 24 + 2 ^ 31))

/-- A group stops at row v with every row before it complete: an overflow there raises the window and goes back to row 0; a group with no row left retires; any other writes its rows and resumes at v (R97, R98, R117, R124). -/
def State.stopGroup (s : State) (cl core : Nat) (p : Pass) (v : Nat) : State :=
  match s.fillGroup cl (s.groupOf cl core p) v with
  | .error (k, q, f) => s.passFault cl k q f
  | .ok s =>
    let g := s.groupOf cl core p
    match groupOvf g v with
    | some (r, e) => g.foldl (fun t x => t.noteResume cl x.1 0) (s.raiseGroup cl g v r e)
    | none => g.foldl (fun t x =>
        if (t.getCtx p.ctx).run = .faulted then t
        else match t.commitRows cl x.1 x.2 v with
          | .error f => t.passFault cl x.1 x.2 f
          | .ok (u, q) =>
            if p.m ≤ v then u.retirePass cl x.1 q
            else (u.modCore (coreKey cl x.1) fun r => r.setPass { q with start := v, rows := [], sent := 0, ovf := none }).noteResume cl x.1 v) s

/-- The row at which a pass or chain stops: the rows that have entered when the request is taken are a free number, at least one; a pass behind which another has entered has none left (R97, R124; log entry 9, DESIGN CHOICE). -/
def State.stopRow (s : State) (cl core : Nat) (p : Pass) : Nat × State :=
  let later := (s.groupOf cl core p).any fun x =>
    (((s.getCore (coreKey cl x.1)).air.dropWhile fun y => !y.same x.2).drop 1).any fun y => y.isPass && !y.linked p
  let (v, t) := s.draw
  (if later || p.entered ≤ p.start then p.m else p.start + 1 + v.toNat % (p.entered - p.start), t)

/-- Passes of a context leave the arrays and stand at the front of their queues, to load their weights again (R97). -/
def State.requeue (s : State) (c : Nat) : State :=
  { s with cores := s.cores.map fun x =>
      let mine (p : Pass) : Bool := p.ctx == c && p.isPass
      (x.1, { x.2 with queue := (x.2.air.filter mine).map (fun p => { p with loaded := false, wts := [], idx := [], phase := .wait }) ++ x.2.queue,
                       air := x.2.air.filter (fun p => !mine p), seeds := x.2.seeds.filter fun y => y.1 % 2 ^ 14 ≠ c }) }

/-- The array of a pre-empted context stops: each group in flight, the oldest first, reaches its boundary (R97, R98, R117, R124, R269). -/
def State.stopArray (s : State) (c : Nat) : State :=
  ((s.airOf c true).foldl (fun t x =>
    let cl := x.1 / 128
    let core := x.1 % 128
    match (t.getCore x.1).air.find? x.2.same with
    | none => t
    | some p =>
      if (t.getCtx c).run = .faulted || !((t.groupOf cl core p).head?).any fun y => y.2.same p then t
      else
        let (v, u) := t.stopRow cl core p
        u.stopGroup cl core p v) s).requeue c

/-- May an engine stop now (R225, R236, R269)? A frozen unit reaches no boundary (R81, R597). -/
def State.mayStop (s : State) (c : Nat) (e : Engine) : Bool :=
  match e with
  | .frontEnd => (s.getCtx c).chainLeft == 0
  | .tileDrain => (s.airOf c false).isEmpty
  | .array => !(s.airOf c true).any fun x => s.coreFrozen (x.1 / 128) (x.1 % 128)
  | .router => true
  | e => !(s.getCtx c).live.any fun l => s.frozenCmd l && engineFor l.w == e

/-- How far an instance of a command in flight has come (R153, R269). -/
def State.setDone (s : State) (c id cl n : Nat) : State :=
  s.modCtx c fun r => { r with live := r.live.map fun l =>
    if l.id == id then { l with insts := l.insts.map fun x => if x.cl == cl then { x with done := n } else x } else l }

/-- The commands of an engine stop where each instance stands: one that has its current goes on to a free row or iteration, which is carried out before it and recorded; `total` is where it would end (R153, R269; log entry 9). -/
def State.stopAt (s : State) (c : Nat) (pick : Live → Bool) (total : Live → InstOps → Nat) (run : State → Live → InstOps → Nat → State) : State :=
  ((s.getCtx c).live.filter pick).foldl (fun t l => l.insts.foldl (fun t x =>
    if (t.getCtx c).run = .faulted || t.waitsCurrent c l.id (some x.cl) then t
    else
      let (v, u) := t.draw
      let hi := x.done + v.toNat % (total l x - x.done + 1)
      (run u l x hi).setDone c l.id x.cl hi) t) s

/-- A vector operation stops at the end of a row (R269). -/
def State.stopVector (s : State) (c : Nat) : State :=
  s.stopAt c (fun l => l.w.eclass == 2) (fun l _ => (vecCfg l.w).rows) fun t l x hi => t.vecRows c l x hi

/-- The movers complete the lines in flight and record the next iteration (R153, R269). -/
def State.stopMover (s : State) (c : Nat) : State :=
  s.stopAt c (fun l => l.w.opcode == 0x40 || l.w.opcode == 0x41) (fun _ x => ((x.get 2).map Opnd.elems).getD 0) fun t l x hi => t.moveStep c l x hi

/-- A router operation stops at once, starts again on resume and leaves its units to another (R180). -/
def State.stopRouter (s : State) (c : Nat) : State :=
  s.modCtx c fun r => { r with live := r.live.map fun l => if l.w.eclass == 4 then { l with waits := true } else l }

/-- Every engine has stopped: the movers save, drawing MOVE current (R269, R270). -/
def State.beginSave (s : State) (c : Nat) : State :=
  let s := s.releaseUnits (fun u => match u.owner with
    | some o => o.1 == c && !((s.getCtx c).live.any fun l => l.id == o.2 && l.runsOn) | none => false) none
  (s.askSave c).modCtx c fun r => { r with run := .saving }

/-- What an engine does at its boundary (R269). -/
def State.stopEngine (s : State) (c : Nat) : Engine → State
  | .array => s.stopArray c
  | .vector => s.stopVector c
  | .mover => s.stopMover c
  | .router => s.stopRouter c
  | _ => s

/-- An engine of a stopping context reaches its boundary (R269). -/
def State.engineStopped (s : State) (c : Nat) (e : Engine) : State :=
  let r := s.getCtx c
  if r.run = .stopping ∧ r.engines.contains e = true ∧ s.mayStop c e = true then
    let s := s.stopEngine c e
    if (s.getCtx c).run ≠ .stopping then s
    else
      let left := (s.getCtx c).engines.erase e
      let s := s.modCtx c fun x => { x with engines := left, held := if e = .frontEnd then none else x.held }
      let s := if left = [] then s.beginSave c else s
      if e = .router then s.routerNext else s
  else s

/-- A save or a restore fails: the saved state is lost and the claim freed (R275). -/
def State.saveLost (s : State) (c : Nat) (code : Code) : State :=
  let s := (s.releaseCmd c (2 ^ 64)).ctxFault c ⟨code, 0, 0⟩
  let s : State := { s with saves := mapDel c s.saves }
  (s.freeClaim c).modCtx c fun r => { r with saveValid := false, savingFault := false, releaseOnly := true }

/-- CTX_LAST_SAVE_NS (R277). -/
def State.noteSave (s : State) (c : Nat) : State :=
  s.wr (reg (pgCTX c) Off.CTX_LAST_SAVE_NS) (BitVec.ofNat 32 (min (2 ^ 32 - 1) (s.now.toNat - (s.getCtx c).preemptAt)))

/-- Is a mover of the save frozen under the ledger cause (R597)? -/
def State.saveFrozen (s : State) (c : Nat) : Bool :=
  s.lresv.any fun u => u.owner == some (c, 2 ^ 64) && (s.rail u.acct).frozen.contains u.name

/-- The last save line is written, by movers that have their current (R267, R270, R275, R276). -/
def State.saveDone (s : State) (c : Nat) : State :=
  let r := s.getCtx c
  let dead := r.run == .faulted && r.resident && r.savingFault
  if (r.run == .saving || dead) && !s.waitsCurrent c (2 ^ 64) none && !s.saveFrozen c then
    if s.saveAreaFault c true then s.saveLost c Err.SAVE_FAULT
    else if s.storePoison c then s.saveLost c Err.RESTORE_POISONED
    else
      let sv := s.takeSave c
      let s := (s.writeSave c).releaseCmd c (2 ^ 64)
      let s : State := { s with saves := mapPut c sv s.saves }
      let s := s.noteSave c
      let mine (x : Pass) : Bool := x.ctx == c
      let s : State := { s with cores := s.cores.filterMap fun p =>
        let had := p.2.queue.any mine || p.2.air.any mine
        let q : CoreRec := { p.2 with queue := p.2.queue.filter (fun x => !mine x), air := p.2.air.filter (fun x => !mine x),
                                      seeds := if had then [] else p.2.seeds }
        if q = {} then none else some (p.1, q) }
      (s.freeClaim c).modCtx c fun x => { x with saveValid := true, savingFault := false, run := if dead then .faulted else .saved }
  else s

/-- Units of a context's cluster work in flight, asked for again after a restore (R269, R285). -/
def State.liveUnits (s : State) (c : Nat) : List LUnit :=
  let arr := s.cores.flatMap fun p => ((p.2.queue ++ p.2.air).filter fun x => x.ctx == c && !(x.isPass && s.allSkipped x)).map fun x =>
    s.cluUnit c x.id (p.1 / 128) (some (p.1 % 128)) 0 x.w
  let others := (s.getCtx c).live.filter fun l => decide (2 ≤ l.w.eclass) && decide (l.w.eclass ≤ 4)
  arr ++ others.flatMap fun l => l.clus.map fun cl =>
    s.cluUnit c l.id cl none (moverOf l.w) l.w

/-- Queued passes and tile drains of a context wait for their current again (R93, R285). -/
def State.ungrant (s : State) (c : Nat) : State :=
  let f (x : Pass) : Pass := if x.ctx == c then { x with granted := x.isPass && s.allSkipped x, loaded := false } else x
  { s with cores := s.cores.map fun p => (p.1, { p.2 with queue := p.2.queue.map f }) }

/-- Clusters of commands in flight follow the claim now granted (R271). -/
def State.moveLive (s : State) (c : Nat) (old new : List Nat) : State :=
  let at' (x : Nat) : Nat := new.getD (old.idxOf x) x
  s.modCtx c fun r => { r with live := r.live.map fun l =>
    if l.runsOn then l
    else { l with clus := l.clus.map at', insts := l.insts.map fun x => { x with cl := at' x.cl, os := x.os.map fun o => (o.1, o.2.1, { o.2.2 with cl := at' o.2.2.cl }) } } }

/-- The restore has read the save area (R271, R275, R276). -/
def State.restoreDone (s : State) (c : Nat) : State :=
  let r := s.getCtx c
  if r.run ≠ .restoring then s
  else if s.saveAreaFault c false then s.saveLost c Err.SAVE_FAULT
  else if s.saveAreaPoison c then s.saveLost c Err.RESTORE_POISONED
  else
    let v := mapGet {} s.saves c
    let s := ((s.putSave c v).moveLive c v.clus ((s.claimClusters c).map Prod.snd)).ungrant c
    let s : State := { s with saves := mapDel c s.saves }
    let s := s.modCtx c fun x => { x with saveValid := false, run := .running, preemptAfter := false }
    let s := (s.askUnits (s.liveUnits c)).routerNext
    if r.preemptAfter then (s.preempt c r.byPreempt).modCtx c fun x => { x with preemptAt := r.preemptAt } else s

/-! ## Run control (R268, R274) -/

/-- PREEMPT; none where it is not accepted. -/
def State.preemptWrite (s : State) (c : Nat) : Option State :=
  let r := s.getCtx c
  if r.run = .running ∨ r.run = .restoring then some (s.preempt c true) else none

/-- CTX_RESTART_PC is a multiple of 32 below CTX_STREAM_LEN (R274). -/
def State.restartPcOk (s : State) (c : Nat) : Bool :=
  let v := (s.rd64 (reg (pgCTX c) Off.CTX_RESTART_PC_LO)).toNat
  v % 32 == 0 && decide (v < s.streamLen c)

/-- Clear the error record of a page and ERROR (R431). -/
def State.clearErr (s : State) (page : Nat) : State :=
  (s.clearRegs [reg page Off.ERR_CODE, reg page Off.ERR_INFO0, reg page Off.ERR_INFO1]).wrBit (reg page Off.EVENT) evError false

/-- RESTART (R274); none where it is not accepted. -/
def State.restartCtx (s : State) (c : Nat) : Option State :=
  let r := s.getCtx c
  if r.run = .faulted ∧ r.releaseOnly = false ∧ s.restartPcOk c = true then
    let s := (s.clearErr (pgCTX c)).freeClaim c
    let s := s.modCtx c fun x => { x with stack := [], held := none, chainLeft := 0, savingFault := false, byPreempt := false, run := .ready }
    some ((s.setPc c (s.rd64 (reg (pgCTX c) Off.CTX_RESTART_PC_LO))).requestClaim c)
  else none

/-- RELEASE (R238, R274); none in UNBOUND and IDLE. -/
def State.releaseRun (s : State) (c : Nat) : Option State :=
  let r := s.getCtx c
  if r.run = .unbound ∨ r.run = .idle then none
  else
    let s := if r.run = .faulted then s else s.ctxFault c ⟨Err.CONTEXT_KILLED, 0, 0⟩
    let s := (s.releaseCmd c (2 ^ 64)).freeClaim c
    let s : State := { s with saves := mapDel c s.saves }
    let s := if (s.getCtx c).stepPending then ((s.inc (updReg c Off.UPD_CTX_DISCARDS)).raise pgUPD 5).endStep c else s
    let s := s.modCtx c fun x => { x with run := .idle, saveValid := false, savingFault := false, releaseOnly := false, byPreempt := false,
                                          stack := [], chainLeft := 0, engines := [], preemptAfter := false, starting := false }
    some s.routerNext

/-- A write of CTX_RUN_CTRL (R274). -/
def State.runCtrl (s : State) (c : Nat) (v : Word) : State :=
  let bad := s.invalidWrite (pgCTX c)
  match fld v 0 4 with
  | 0 => s
  | 1 => (s.preemptWrite c).getD bad
  | 2 => (s.resumeCtx c).getD bad
  | 4 => (s.restartCtx c).getD bad
  | 8 => (s.releaseRun c).getD bad
  | _ => bad

/-- A waiting context is granted when the tie rule picks it (R266). -/
def State.claimGranted (s : State) (c : Nat) : State :=
  match s.tieGrant 0x20000 16384 s.waiting with
  | (some x, t) => if x = c then t.grantClaim c else s
  | (none, _) => s

/-! ## Binding, classes and partitions (R254 to R258) -/

/-- CTX_BIND (R254). -/
def State.bindCtx (s : State) (c : Nat) (v : Word) : State :=
  let r := s.getCtx c
  if r.run = .unbound ∨ r.run = .idle then
    (s.wr (reg (pgCTX c) Off.CTX_BIND) (v &&& 0x800003FF#32)).setCtx c { r with run := if bit v 31 then .idle else .unbound }
  else s.invalidWrite (pgCTX c)

/-- GLOB_DOM_CLASS_MAX of a domain (R258, R279). -/
def State.classMax (s : State) (d : Nat) : Nat := fld (s.rd (wreg d pgGLOB Off.GLOB_DOM_CLASS_MAX)) 0 2

/-- CTX_PRIO (R258). -/
def State.setPrio (s : State) (c : Nat) (v : Word) : State :=
  if s.classMax (s.domOf c) < fld v 0 2 then s.invalidWrite (pgCTX c)
  else s.wr (reg (pgCTX c) Off.CTX_PRIO) (BitVec.ofNat 32 (fld v 0 2))

/-- GLOB_DOM_CLASS_MAX: contexts above the new maximum take it (R258). -/
def State.setClassMax (s : State) (d : Nat) (v : Word) : State :=
  let m := fld v 0 2
  let s := s.wr (wreg d pgGLOB Off.GLOB_DOM_CLASS_MAX) (BitVec.ofNat 32 m)
  (s.boundCtxs.filter fun p => p.2 == d).foldl (fun t p =>
    if m < t.ctxClass p.1 then t.wr (reg (pgCTX p.1) Off.CTX_PRIO) (BitVec.ofNat 32 m) else t) s

/-- Is a context of a domain in a state that keeps its partition fixed (R256)? -/
def State.holdsPartition (s : State) (d : Nat) : Bool :=
  s.ctx.any fun p => s.ctxDom p.1 == some d &&
    (match p.2.run with | .unbound => false | .idle => false | .faulted => p.2.saveValid | _ => true)

/-- CLU_PART (R256): a cluster that is not enabled cannot be assigned. -/
def State.setPart (s : State) (cl : Nat) (v : Word) : State :=
  let k := reg (pgCLU cl) Off.CLU_PART
  let old := s.rd k
  let domains := (if bit old 10 then [fld old 0 10] else []) ++ (if bit v 10 then [fld v 0 10] else [])
  if domains.any s.holdsPartition || (bit v 10 && !s.cluEnabled cl) then s.invalidWrite (pgCLU cl)
  else s.wr k (v &&& 0x7FF#32)

/-- Does a core hold no pass (R93, R103)? -/
def State.coreIdle (s : State) (cl core : Nat) : Bool :=
  let r := s.getCore (coreKey cl core)
  r.queue.isEmpty && r.air.isEmpty

/-- CORE_ROW_MAP, while LOCK is 0 (R103). -/
def State.setRowMap (s : State) (cl core : Nat) (v : Word) : State :=
  if bit (s.rd (reg (pgCLU cl) Off.LOCK)) 0 then s
  else if !s.coreIdle cl core then s.invalidWrite (pgCLU cl)
  else s.wr (wreg core (pgCLU cl) Off.CORE_ROW_MAP) (v &&& 0x1F#32)

end Sys2Proof.Machine
end

