-- ==== Sys2Proof/Machine/RegRead.lean ====
section
/-! DEFINITION. Register reads: selections, windows and every register whose value follows from other state (R10, R12 to R17, R430 to R433 and the register tables). -/

namespace Sys2Proof.Machine

open Sys2Proof

/-- A number as a register. -/
def w32 (n : Nat) : Word := BitVec.ofNat 32 n
/-- The low or high half of a 64-bit quantity (R13). -/
def half (hi : Bool) (n : Nat) : Word := w32 (if hi then n / 2 ^ 32 else n)
/-- Four bytes of a list at a byte offset, least significant first; 0 past its end. -/
def wordAt (l : List Byte) (o : Nat) : Word := w32 (leOf ((l.drop o).take 4))
/-- Does an offset lie in a range? -/
def inOff (a o b : Nat) : Bool := decide (a ≤ o) && decide (o ≤ b)

/-! ## Selections and windows (R433) -/

/-- Is a register one of a session's own selections or per-session registers (R433, R488, R531)? -/
def isSel (k : PageKind) (o : Nat) : Bool :=
  match k with
  | .glob => o == Off.GLOB_DOM_SEL
  | .ledg => o == Off.LEDG_DOM_SEL
  | .time => o == Off.TIME_TS_SEL
  | .cal => o == Off.CAL_SEL
  | .upd => o == Off.UPD_PROG_SEL || o == Off.UPD_CTX_SEL
  | .schd => o == Off.SCHD_SEL
  | .coll => o == Off.COLL_GRP_SEL || o == Off.COLL_PCL_SEL || o == Off.COLL_LND_SEL
  | .mgmt => o == Off.MGMT_SESS_SEL || o == Off.MGMT_RING_SEL || o == Off.MGMT_QP_SEL || o == Off.MGMT_MR_SEL
  | .sec => o == Off.SEC_SCRUB_SEL || o == Off.SEC_FW_UNIT_SEL
  | .key => o == Off.KEY_DOM_SEL || o == Off.KEY_PORT_SEL
  | .att => o == Off.ATT_DOM_SEL || inOff Off.ATT_NONCE o (Off.ATT_NONCE + 28)
  | .dbg => o == Off.DBG_LOG_SEL
  | .met => o == Off.MET_DOM_SEL || o == Off.MET_LOG_SEL
  | .err => o == Off.ERR_Q_SEL || o == Off.ERR_ALERT_CFG || o == Off.ERR_ALERT_SENT
  | .twin => o == Off.TWIN_CTX_SEL
  | .pmb => o == Off.PMB_SEL
  | .temp => o == Off.TEMP_SEL
  | .slow => o == Off.SLOW_SEL
  | .clk => o == Off.CLK_MEAS_SEL
  | .clu => o == Off.CLU_CORE_SEL
  | _ => false

/-- The selection register that windows an offset, if one does. -/
def windowSel (k : PageKind) (o : Nat) : Option Nat :=
  match k with
  | .glob => if inOff 0x104 o 0x134 then some Off.GLOB_DOM_SEL else none
  | .ledg => if inOff 0x068 o 0x06C then some Off.LEDG_DOM_SEL else none
  | .time => if o = Off.TIME_TS_CORR then some Off.TIME_TS_SEL else none
  | .cal => if inOff 0x044 o 0x068 then some Off.CAL_SEL else none
  | .upd => if inOff 0x104 o 0x1FC then some Off.UPD_PROG_SEL else if inOff 0x204 o 0x238 then some Off.UPD_CTX_SEL else none
  | .schd => if inOff 0x044 o 0x0FC then some Off.SCHD_SEL else none
  | .coll => if inOff 0x104 o 0x168 then some Off.COLL_GRP_SEL else if inOff 0x204 o 0x224 then some Off.COLL_PCL_SEL
      else if inOff 0x284 o 0x2A0 then some Off.COLL_LND_SEL else none
  | .mgmt => if inOff 0x064 o 0x074 then some Off.MGMT_SESS_SEL else if inOff 0x104 o 0x148 then some Off.MGMT_RING_SEL
      else if inOff 0x204 o 0x228 then some Off.MGMT_QP_SEL else if inOff 0x284 o 0x294 then some Off.MGMT_MR_SEL else none
  | .sec => if inOff 0x058 o 0x060 then some Off.SEC_SCRUB_SEL else if inOff 0x074 o 0x094 then some Off.SEC_FW_UNIT_SEL else none
  | .key => if inOff 0x044 o 0x050 then some Off.KEY_DOM_SEL
      else if o = Off.KEY_PORT_LINK_GEN then some Off.KEY_PORT_SEL else none
  | .twin => if inOff 0x044 o 0x064 then some Off.TWIN_CTX_SEL else none
  | .pmb => if inOff 0x07C o 0x090 then some Off.PMB_SEL else none
  | .slow => if inOff 0x048 o 0x06C then some Off.SLOW_SEL else none
  | .clu => if inOff 0x800 o 0x8FF then some Off.CLU_CORE_SEL else none
  | _ => none

/-- A selection of a session. -/
def State.sel (s : State) (se page o : Nat) : Nat := (s.srd se (reg page o)).toNat

/-- The entry that a session's selection presents at an offset; the operator role of KEY_DOM_SEL is entry 1,024. -/
def State.window (s : State) (se : Nat) (k : PageKind) (page o : Nat) : Nat :=
  match windowSel k o with
  | some q => let x := s.sel se page q
              if k = .key && q == Off.KEY_DOM_SEL then (if 1024 ≤ x then 1024 else x) else x
  | none => 0

/-- The key of a register as a session sees it. -/
def State.locate (s : State) (se : Nat) (k : PageKind) (page o : Nat) : Nat :=
  match windowSel k o with
  | some _ => wreg (s.window se k page o) page o
  | none => reg page o

/-! ## Values that follow from other state -/

/-- Enabled clusters of a die (R251). -/
def State.dieClusters (s : State) (d : Nat) : Nat := ((List.range 375).filter fun n => s.cluEnabled (d * 375 + n)).length
/-- Enabled clusters of the module (R250). -/
def State.allClusters (s : State) : Nat := (List.range 8).foldl (fun a d => a + s.dieClusters d) 0
/-- A bit mask from a test over bit numbers. -/
def maskOf (n : Nat) (p : Nat → Bool) : Nat := (List.range n).foldl (fun a i => if p i then a + 2 ^ i else a) 0

/-- GLOB page (R8, R250, R279, R355). -/
def State.viewGlob (s : State) (d x o : Nat) : Option Word :=
  let g := s.fuse.grade
  let ent (f : Region → Word) : Option Word := some (f (mapGet {} s.staged (d * 4096 + x)))
  match o with
  | 0x040 => some (w32 g)
  | 0x044 => some (w32 (maskOf 12 s.enginePresent))
  | 0x048 => some (w32 s.allClusters)
  | 0x04C => some (w32 (96 * s.allClusters))
  | 0x050 => some (w32 (maskOf 16 fun i => s.pagePresent .hbm i))
  | 0x054 => some (w32 (maskOf 18 s.portPresent))
  | 0x058 => some (w32 ((if g = 2 then 552 else 736) + 800 * 2 ^ 16))
  | 0x05C => some (w32 (16384 + 1024 * 2 ^ 16))
  | 0x060 => some (w32 (1 + 4 * 2 ^ 8 + 64 * 2 ^ 12))
  | 0x064 => some (w32 (4096 + 4096 * 2 ^ 16))
  | 0x104 => some (w32 (s.partition d).length)
  | 0x108 => some (w32 (s.boundCtxs.filter fun p => p.2 == d).length)
  | 0x10C => some (w32 (maskOf 4 fun k => (s.getSess (k * 1024 + d)).isOpen))
  | 0x118 => ent Region.e0
  | 0x11C => ent Region.e1
  | 0x120 => ent Region.e2
  | 0x124 => ent Region.e3
  | 0x134 => some (w32 (s.fillPending d))
  | 0x138 => some (w32 (s.narrowUsed 1024 []))
  | _ => none

/-- FUSE page (R592). -/
def State.viewFuse (s : State) (o : Nat) : Option Word :=
  match o with
  | 0x040 => some (half false s.fuse.serial.toNat)
  | 0x044 => some (half true s.fuse.serial.toNat)
  | 0x048 => some (w32 s.fuse.rev.toNat)
  | 0x04C => some (half false s.fuse.mac.toNat)
  | 0x050 => some (half true s.fuse.mac.toNat)
  | 0x054 => some (w32 (b2n s.fuse.prodClosed + 2 * b2n (decide (s.fuse.grade = 3))))
  | _ => none

/-- Nominal frequency of a clock domain in kHz (R557). -/
def domainKHz (d : Nat) : Nat :=
  match d with
  | 9 => 2000000 | 10 => 1250000 | 11 => 1100000 | 12 => 1600000 | 13 => 1333000 | 14 => 1562500 | 15 => 781250 | 16 => 156250
  | 17 => 800000 | 18 => 1000000 | 19 => 25000 | 20 => 1000000 | 21 => 500000 | 22 => 50000 | 23 => 1000 | 24 => 25000 | 25 => 50000
  | _ => 1100000

/-- CLK and NVM pages (R561): a locked domain reads its nominal frequency (log entry 24, DEDUCED). -/
def State.viewClk (s : State) (d : Nat) : Word :=
  if d = 0 then 0 else if bit (s.rd (reg pgCLK Off.CLK_LOCK)) (d - 1) then w32 (domainKHz d) else 0

/-- NVM_STATE (R545, R561): when the pulses of MRAM writes run is not modelled, and MRAM_BUSY reads a free value (log entry 9, DESIGN CHOICE). -/
def State.viewNvm (s : State) : Word :=
  w32 (b2n (Config.freeBool s.fresh) + 2 * b2n s.nv.isSome + 4 * b2n (match s.nv with | some n => n.held | none => false))

/-- LEDG page (R299, R300). -/
def State.viewLedg (s : State) (o : Nat) : Option Word :=
  if o = Off.LEDG_THR_STATUS then
    some (w32 (b2n s.thr.throttled + 2 * b2n (decide (0 < s.thr.low)) + 4 * b2n s.thr.held + 8 * b2n (s.thr.throttled && decide (0 < s.thr.high))))
  else if inOff 0x100 o 0x43F then
    let a := (o - 0x100) / 0x40
    match (o - 0x100) % 0x40 with
    | 0x0C => if a < 8 then none else some (w32 (s.work a))
    | 0x10 => some (w32 (s.work a))
    | 0x14 => if a < 8 then some (w32 (s.account a - s.modelledWork a)) else some 0
    | 0x20 => if a < 8 then some (s.railState a) else some 0
    | _ => none
  else none

/-- TIME page: the low part of fabric time; a read of it latches the whole value, for every session, in TIME_NOW_HI and TIME_NOW_FRAC (R306). -/
def State.viewTime (s : State) (o : Nat) : Option Word :=
  match o with
  | 0x048 => some (half false s.now.toNat)
  | _ => none

/-- Is a step-start of an entry held (R320)? -/
def State.calHeld (s : State) (e : Nat) : Bool := s.ctx.any fun p => match p.2.heldStart with | some x => x.1 == e | none => false

/-- CAL page: DUE and HELD (R324). -/
def State.viewCal (s : State) (e o : Nat) : Option Word :=
  if o = Off.CAL_ENT_CTRL then some (w32 (b2n (s.calEnabled e) + 2 * b2n (s.calDue e) + 4 * b2n (s.calHeld e))) else none

/-- UPD page (R424). -/
def State.viewUpd (s : State) (x o : Nat) : Option Word :=
  match o with
  | 0x040 => some (w32 (((List.range 16).filter fun p => (s.landq.any fun l => l.pipe == some p) && !s.pipeWaits p).foldl (fun a p => a + 2 ^ p) 0
      + 65536 * b2n (!s.landq.isEmpty)))
  | 0x044 => some (w32 s.armRecs.length)
  | 0x108 => some (w32 (s.armRecs.filter fun a => uf a.v 0x10 1 == x).length)
  | 0x218 =>
    let mine := s.armRecs.filter fun a => a.ctx == x
    let left := (mine.filter fun a => !(a.aborted || a.handed || a.bad)).length
    some (w32 (b2n (!mine.isEmpty) + 2 * b2n (s.updDone x) + 4 * b2n (mine.any ArmRec.aborted) + 65536 * min left 65535))
  | _ => none

/-- COLL page (R388, R389). -/
def State.viewColl (s : State) (x o : Nat) : Option Word :=
  match o with
  | 0x054 => some (w32 s.logUsed)
  | 0x148 =>
    let r := s.getGrp x
    some (w32 (b2n r.winOpen + 2 * b2n r.aborted + 4 * (r.vote % 4) + 16 * b2n r.unresolved + 32 * b2n r.late + 64 * b2n r.noRank
      + 65536 * min 65535 (r.insts.filter fun i => !i.done).length))
  | 0x224 =>
    let mine := s.parcels.filter fun p => p.parcel == x
    some (w32 (b2n (mine.any fun p => p.granted.isNone) + 2 * b2n (mine.any fun p => p.granted.isSome)
      + 4 * b2n (bit (s.rd (pclReg x Off.COLL_PCL_STATE)) 2)))
  | 0x29C =>
    let r := s.getLand x
    some (w32 (r.occ.length % 4 + 4 * b2n (decide (0 < r.pend)) + 8 * b2n (!r.granted.isEmpty)
      + 16 * b2n (bit (s.rd (pclReg x Off.COLL_LND_STATE)) 4)))
  | _ => none

/-- Seconds until a session closes for idleness (R436). -/
def State.idleLeft (s : State) (x : Nat) : Nat :=
  let r := s.getSess x
  if !r.isOpen then 0
  else fld (s.rd (reg pgMGMT Off.MGMT_SESSION_IDLE)) 0 12 - (s.timer - r.lastAt) / 10 ^ 9

/-- MGMT page (R456, R457). -/
def State.viewMgmt (s : State) (x o : Nat) : Option Word :=
  match o with
  | 0x064 => some (w32 (b2n (s.getSess x).isOpen + 2 * b2n (s.getSess x).port))
  | 0x068 => some (half false (s.getSess x).counter.toNat)
  | 0x06C => some (half true (s.getSess x).counter.toNat)
  | 0x070 => some (w32 (s.idleLeft x))
  | 0x13C =>
    let r := s.getRing x
    some (w32 (b2n (s.ringRuns x) + 2 * b2n r.failed + 4 * b2n r.ckpt.isSome + 8 * ((r.landed - r.freed) % 32)))
  | _ => none

/-- SEC page (R486). -/
def State.viewSec (s : State) (x o : Nat) : Option Word :=
  match o with
  | 0x044 => some (wordAt fleetId 0)
  | 0x048 => some (wordAt fleetId 4)
  | 0x05C => some (w32 (b2n (s.scrub.contains x) + 2 * b2n (!s.scrub.isEmpty)))
  | 0x060 => some (w32 (s.releasedOf x).length)
  | 0x074 => some (w32 ((s.slotOf x).svn % 65536 + 65536 * (s.fusedMin x % 256)))
  | _ => if inOff 0x078 o 0x094 then some (w32 ((mapGet {} s.running x).meas / 2 ^ (8 * (o - 0x078)))) else none

/-- KEY page (R487). -/
def State.viewKey (s : State) (x o : Nat) : Option Word :=
  if o = Off.KEY_DOM_LEFT then some (w32 (if x < 1024 then s.keyLeft x else 0)) else none

/-- ATT page (R488). -/
def State.viewAtt (s : State) (se o : Nat) : Option Word :=
  let r := mapGet {} s.att se
  if o = Off.ATT_STATE then some (w32 (b2n r.busy + 2 * b2n r.done))
  else if inOff 0x070 o 0x0AC then some (wordAt (((Config.ed448Public 0).take 57) ++ List.replicate 7 0) (o - 0x070))
  else if inOff 0x400 o 0x67C then some (wordAt r.report (o - 0x400))
  else none

/-- DBG page: the selected log and entry (R484, R489). -/
def State.viewDbg (s : State) (d : Nat) (o : Nat) : Option Word :=
  let l := mapGet {} s.logs d
  match o with
  | 0x04C => some (half false l.next)
  | 0x050 => some (half true l.next)
  | _ => if inOff 0x054 o 0x070 then
      some (match l.entries.find? (fun e => e.seq % 256 == (s.rd (reg pgDBG Off.DBG_LOG_IDX)).toNat) with
        | some e => wordAt e.bytes (o - 0x054)
        | none => 0)
    else none

/-- The 64-bit quantity of a MET register pair by the offset of its _LO, for the session's selections (R510, R513). -/
def State.metPair (s : State) (d o : Nat) : Option Nat :=
  let t := s.met.tot
  match o with
  | 0x048 => some s.met.sealCtr
  | 0x050 => some t.time
  | 0x060 => some (microJ t.total)
  | 0x0D0 => some (microJ (mapGet 0 t.work 1024))
  | 0x0D8 => some (microJ (mapGet 0 t.ballast 1024))
  | 0x0E8 => some (microJ (mapGet 0 t.work d))
  | 0x0F0 => some (microJ (mapGet 0 t.ballast d))
  | 0x0F8 => some s.met.logNext
  | _ => if inOff 0x068 o 0x0CC && o % 8 == 0 then some (microJ (mapGet 0 t.rails ((o - 0x068) / 8))) else none

/-- MET page (R510, R513): a _HI half reads what its _LO latched. -/
def State.viewMet (s : State) (se : Nat) (o : Nat) : Option Word :=
  let d := s.sel se pgMET Off.MET_DOM_SEL
  match s.metPair d o with
  | some v => some (half false v)
  | none =>
    if o ≥ 4 && (s.metPair d (o - 4)).isSome then some (s.srd se (reg pgMET o))
    else match o with
    | 0x040 => some (w32 (b2n s.metRuns + 2 * b2n s.met.inClass + 4 * b2n s.met.clockFault + 8 * b2n s.met.restoreFailed + 16 * b2n s.met.calMode))
    | 0x044 => some 1
    | 0x058 => some (w32 s.met.powerOns)
    | 0x124 => some (half false s.met.calId)
    | 0x128 => some (half true s.met.calId)
    | _ =>
      if inOff 0x104 o 0x120 then
        some (match s.met.log.find? (fun e => e.seq % 1024 == s.sel se pgMET Off.MET_LOG_SEL) with
          | some e => wordAt e.bytes (o - 0x104)
          | none => 0)
      else if inOff 0x130 o 0x16C then some (wordAt (((Config.ed448Public 1).take 57) ++ List.replicate 7 0) (o - 0x130))
      else if inOff 0x200 o 0x37C then some (wordAt s.met.report (o - 0x200))
      else none

/-- The 32 bytes of a queue entry (R529). -/
def Alert.fields (e : Alert) : List (Nat × Nat) :=
  [(8, e.seq), (8, e.time), (2, e.page), (1, e.sev), (1, e.slot), (4, e.event.toNat), (2, e.code.toNat), (2, 0), (4, e.info0.toNat)]

/-- ERR page (R529, R539). -/
def State.viewErr (s : State) (se o : Nat) : Option Word :=
  let head := match s.alerts with | e :: _ => e.seq | [] => s.alertSeq
  match o with
  | 0x044 => some (w32 (s.alerts.length + 512 * b2n (bit (s.rd (reg pgERR Off.EVENT)) 1)))
  | 0x048 => some (half false head)
  | 0x04C => some (half true head)
  | 0x0A0 => some (setFld (s.rd (reg pgERR Off.ERR_REPAIR_COUNT)) 0 10 s.repairs.length)
  | _ => if inOff 0x05C o 0x078 then
      some (match s.alerts[s.sel se pgERR Off.ERR_Q_SEL]? with
        | some e => wordAt (e.fields.flatMap fun f => toLe f.1 f.2) (o - 0x05C)
        | none => 0)
    else none

/-- TWIN_CTX_STATE.ARMED and the group (R540). -/
def State.viewTwin (s : State) (c o : Nat) : Option Word :=
  if o = Off.TWIN_CTX_STATE then
    some (setBit (s.rd (wreg c pgTWIN o)) 0 (s.getStep c).twin.isSome)
  else none

/-- TEMP page (R585). -/
def State.viewTemp (s : State) (x o : Nat) : Option Word :=
  let tops := (List.range 152).map fun i => (toTwos 16 (if s.sensorPresent i then s.temp i else 0), i)
  let best := tops.foldl (fun b t => if sext b.1 16 < sext t.1 16 then t else b) (tops.headD (0, 0))
  let caps := (List.range 8).flatMap fun a => (s.rail a).caps
  match o with
  | 0x048 => some (w32 (if s.sensorPresent x then toTwos 16 (s.temp x) else 0))
  | 0x04C => some (w32 (best.1 + 65536 * best.2))
  | 0x050 => some (w32 (maskOf 8 (fun a => !(s.rail a).caps.isEmpty) + 256 * b2n (caps.any fun i => inOff 128 i 131)
      + 512 * b2n (caps.any fun i => inOff 132 i 135) + 1024 * b2n s.tripLive
      + 2048 * maskOf 16 fun i => s.sensorPresent (136 + i) && decide (85 * 16 ≤ s.temp (136 + i))))
  | _ => none

/-- JTAG page (R586): the TAP controller's own state is not modelled and reads a free value (log entry 9, DESIGN CHOICE). -/
def State.viewJtag (s : State) (o : Nat) : Option Word :=
  match o with
  | 0x040 => some (w32 ((Config.freeWord s.fresh).toNat % 16 + 16 * (s.tap.ir % 256) + 4096 * (s.tap.seg % 32) + 131072 * b2n s.met.calMode))
  | 0x044 => some (w32 s.idcode)
  | 0x04C => some (w32 (b2n s.fuse.prodClosed))
  | _ => none

/-- DIE page (R251). -/
def State.viewDie (s : State) (d o : Nat) : Option Word :=
  if o = Off.DIE_FEAT_CLUSTERS then some (w32 (s.dieClusters d))
  else if inOff 0x044 o 0x070 then
    some (w32 (maskOf 32 fun b => decide ((o - 0x044) * 8 + b < 375) && s.cluEnabled (d * 375 + (o - 0x044) * 8 + b)))
  else none

/-- Code of the state of a pass in its core's array, or at the head of its queue (R93). Once every row is in the model, when the last one enters is a free value (log entry 9, DESIGN CHOICE). -/
def State.passState (s : State) (p : Pass) (inAir : Bool) : Nat :=
  let r := s.getCtx p.ctx
  if !inAir then (if p.stall ≠ 0 || p.phase = .wait then 1 else if p.granted then 3 else 2)
  else if r.run == .stopping && r.engines.contains .array then 7
  else match p.phase with
    | .replay => 6
    | .flush => if Config.freeBool s.fresh then 4 else 5
    | _ => 4

/-- Core window (R103, R131). -/
def State.viewCore (s : State) (cl p o : Nat) : Option Word :=
  let r := s.getCore (coreKey cl p)
  let all := (r.air.map fun x => (x, true)) ++ (r.queue.take 1).map fun x => (x, false)
  let all := all.filter fun x => x.1.isPass
  let st (x : Option (Pass × Bool)) : Nat := (x.map fun y => s.passState y.1 y.2).getD 0
  let lg := s.logCore cl p
  let en := lg.isSome && s.cluEnabled cl
  let win (a b : Nat) : Word := w32 (toTwos 10 (r.tile a).w + 65536 * toTwos 10 (r.tile b).w)
  if o = Off.CORE_ID then
    some (w32 (p + 128 * (if en then lg.getD 0x7F else 0x7F) + 16384 * b2n en + 32768 * b2n (en && lg ≠ some p)))
  else if !en then some 0
  else match o with
  | 0x808 => some (w32 (20 + b2n (bit (s.rd (wreg p (pgCLU cl) Off.CORE_ROW_MAP)) 4)))
  | 0x80C => some (w32 (st all.head? + 16 * st all.getLast?
      + 256 * min 4 (r.air.filter fun x => x.isPass && !x.handed).length + 4096 * maskOf 4 (fun t => r.air.any fun x => x.tiles.contains t)
      + 65536 * maskOf 4 fun t => (r.tile t).poison))
  | 0x810 => some (match all.getLast? with | some x => w32 (x.1.ctx % 16384 + 32768) | none => 0)
  | 0x880 => some (win 0 1)
  | 0x884 => some (win 2 3)
  | _ => if inOff 0x860 o 0x87C then some (half (o / 4 % 2 == 1) (r.tile ((o - 0x860) / 8)).origin.toNat) else none

/-- Commands that run on a cluster: in flight, with their current, on an engine that has not stopped (R269, R285). -/
def State.liveOn (s : State) (cl : Nat) : List (Nat × Live) :=
  s.ctx.flatMap fun p => (p.2.live.filter fun l =>
    l.clus.contains cl && s.engineRuns p.1 (engineFor l.w) && !l.waits && !s.waitsCurrent p.1 l.id (some cl)).map fun l => (p.1, l)

/-- CLU page (R154, R278). -/
def State.viewClu (s : State) (cl core o : Nat) : Option Word :=
  if inOff 0x800 o 0x8FF then s.viewCore cl core o
  else match o with
  | 0x05C =>
    let busy (mv : Nat) : Bool := (s.liveOn cl).any fun x => x.2.w.eclass == 3 && moverOf x.2.w == mv
    some (setFld (s.rd (reg (pgCLU cl) o)) 0 4 (maskOf 4 busy))
  | 0x080 =>
    let v := s.rd (reg (pgCLU cl) o)
    some (if bit v 10 then setFld v 16 12 ((s.partition (fld v 0 10)).idxOf cl % 4096) else v)
  | _ => none

/-- The phases of a router operation in order: the sum only under GATE_FN 1, the cut only in score order (R179, R187). -/
def routePhases (g : RouteCfg) : List Nat :=
  [1] ++ (if g.gateFn = 1 then [2] else []) ++ [3] ++ (if g.scoreOrder then [4] else []) ++ [5]

/-- The phase that a read of RTE_STATE finds: a free one of the operation's phases, none before the phase last read (R187; log entry 9, DESIGN CHOICE). -/
def State.routePhase (s : State) (cl : Nat) (l : Live) : Nat :=
  let seen := fld (s.rd (reg (pgRTE cl) Off.RTE_STATE)) 1 3
  let left := (routePhases (routeCfg l.w)).filter fun p => decide (seen ≤ p)
  left.getD ((Config.freeWord s.fresh).toNat % left.length) 5

/-- The router operation that runs on a cluster. -/
def State.routeOn (s : State) (cl : Nat) : Option (Nat × Live) := (s.liveOn cl).find? fun x => x.2.w.eclass == 4

/-- RTE page (R187). -/
def State.viewRte (s : State) (cl o : Nat) : Option Word :=
  if o = Off.RTE_STATE then
    some (match s.routeOn cl with
      | some x => w32 (1 + 2 * s.routePhase cl x.2 + 256 * (x.1 % 16384) + 2 ^ 31)
      | none => 0)
  else none

/-- CTX_RUN_STATE code (R265). -/
def RunState.code : RunState → Nat
  | .unbound => 0 | .idle => 1 | .ready => 2 | .running => 3 | .stopping => 4 | .saving => 5 | .saved => 6 | .restoring => 7 | .faulted => 8

/-- STREAM_STATE of a run state (R265). -/
def RunState.stream (r : RunState) : Nat := if r.active then 1 else if r = .faulted then 2 else 0

/-- CTX page (R252, R277). -/
def State.viewCtx (s : State) (c o : Nat) : Option Word :=
  let r := s.getCtx c
  match o with
  | 0x070 =>
    let (ws, n) : Bool × Nat := match r.held with | some (w, .sem) => (true, w.waitSem) | _ => (false, 0)
    some (w32 (r.run.stream + 4 * r.stack.length + 32 * b2n ws
      + 64 * b2n (match r.held with | some (_, .cond) => true | _ => false)
      + 128 * b2n (match r.held with | some (_, .fence) => true | _ => false) + 256 * n + 65536 * b2n r.stepPending))
  | 0x0C0 => some (w32 (maskOf 8 fun n => s.cond c n))
  | 0x10C => some (w32 (r.run.code + 16 * b2n r.resident + 32 * b2n r.saveValid))
  | 0x120 => some (half false (s.saveSize c))
  | 0x124 => some (half true (s.saveSize c))
  | _ => if inOff 0x0A0 o 0x0BC then
      let l := r.loopAt ((o - 0x0A0) / 8)
      some (w32 ((l.map fun x => if (o - 0x0A0) / 4 % 2 = 0 then x.count else x.index).getD 0))
    else none

/-- Registers that count or report what no row carries: words written to MRAM, the cycles of cluster arbiters, frames that a port's FEC corrects or drops, and what a stack reports of its spares. Each read finds a free value (log entry 9, DESIGN CHOICE). -/
def openReg (k : PageKind) (o : Nat) : Bool :=
  match k with
  | .nvm => o == Off.NVM_MRAM_WRITES
  | .clu => o == Off.CLU_ARB_WAIT_MAX || o == Off.CLU_ARB_URGENT
  | .eth => o == Off.ETH_FEC_CE || o == Off.ETH_FEC_UE || o == Off.ETH_FCS_ERR
  | .stkRepair => o == Off.STK_REPAIR_SPARES || o == Off.STK_REPAIR_TSV
  | _ => false

/-- The value of a register that follows from other state, for the entry `x` that the session's selection presents. -/
def State.view (s : State) (se : Nat) (k : PageKind) (i page o x : Nat) : Option Word :=
  match k with
  | .glob => s.viewGlob x (s.rd (wreg x pgGLOB Off.GLOB_DOM_XLAT_IDX)).toNat o
  | .fuse => s.viewFuse o
  | .clk => if o = Off.CLK_MEAS_KHZ then some (s.viewClk (s.sel se page Off.CLK_MEAS_SEL)) else none
  | .nvm => if o = Off.NVM_STATE then some s.viewNvm else none
  | .ledg => s.viewLedg o
  | .time => s.viewTime o
  | .cal => s.viewCal x o
  | .upd => s.viewUpd x o
  | .coll => s.viewColl x o
  | .mgmt => s.viewMgmt x o
  | .sec => s.viewSec x o
  | .key => s.viewKey x o
  | .att => s.viewAtt se o
  | .dbg => s.viewDbg (s.sel se page Off.DBG_LOG_SEL) o
  | .met => s.viewMet se o
  | .err => s.viewErr se o
  | .twin => s.viewTwin x o
  | .temp => s.viewTemp (s.sel se page Off.TEMP_SEL) o
  | .jtag => s.viewJtag o
  | .die => s.viewDie i o
  | .hbm => if o = Off.HBM_RETIRED then some (w32 (s.retired i)) else none
  | .stkRepair => if o = Off.STK_REPAIR_STATUS then some (setBit (s.rd (reg page o)) 3 (bit (s.rd (reg page o)) 0 && Config.freeBool s.fresh)) else none
  | .slow => if o = Off.SLOW_RETIRED then some (w32 (s.retired (16 + x))) else none
  | .clu => s.viewClu i x o
  | .rte => s.viewRte i o
  | .ctx => s.viewCtx i o
  | _ => none

/-- Common header: PAGE_ID is the instance and the mnemonic code, PAGE_REV revision 1.0 (R430, R588, R591). -/
def State.header (s : State) (k : PageKind) (i page o : Nat) : Word :=
  if o = Off.PAGE_ID then w32 (i + 65536 * pageCode k) else if o = Off.PAGE_REV then 0x100#32 else s.rd (reg page o)

/-- Accounts 8 to 12 read zero in fields marked "compute only" (R300). -/
def ledgComputeOnly (o : Nat) : Bool :=
  inOff 0x300 o 0x43F && [0x04, 0x08].contains ((o - 0x100) % 0x40)

/-- The value that a session reads at a control address (R10, R14, R17, R589). -/
def State.regValue (s : State) (se a : Nat) : Word :=
  let page := a / 4096
  let o := a % 4096
  match pageOf page with
  | none => 0
  | some (k, i) =>
    if !s.pagePresent k i then (if o = Off.PAGE_ABSENT then BitVec.allOnes 32 else 0)
    else match regRow k o with
      | none => 0
      | some r =>
        if r.acc = .wo then 0
        else if o < 0x40 then s.header k i page o
        else if isSel k o then s.srd se (reg page o)
        else if k = .ledg && ledgComputeOnly o then 0
        else
          let x := s.window se k page o
          if openReg k o then (Config.freeWord s.fresh).setWidth 32 &&& w32 r.mask
          else (s.view se k i page o x).getD (s.rd (s.locate se k page o) &&& w32 r.mask)

/-- A read may latch the rest of a wider value for the session (R306, R510), and a free value that was read is used up. -/
def State.readEffect (s : State) (se a : Nat) : State :=
  let page := a / 4096
  let o := a % 4096
  if a = reg pgTIME Off.TIME_NOW_LO then
    (s.wr (reg pgTIME Off.TIME_NOW_HI) (half true s.now.toNat)).wr (reg pgTIME Off.TIME_NOW_FRAC) (w32 (s.frac.toNat / 2 ^ 24))
  else if page = pgMET && s.pagePresent .met 0 then
    match s.metPair (s.sel se pgMET Off.MET_DOM_SEL) o with
    | some v => s.swr se (reg pgMET (o + 4)) (half true v)
    | none => s
  else if page / 4096 = 2 && o == Off.RTE_STATE then
    match s.routeOn (page % 4096) with
    | some x => { (s.wr a (w32 (2 * s.routePhase (page % 4096) x.2))) with fresh := s.fresh + 1 }
    | none => s
  else if a = reg pgJTAG Off.JTAG_STATE || a = reg pgUPD Off.UPD_STATE || a = reg pgNVM Off.NVM_STATE || page / 4096 = 2
      || (match pageOf page with | some (k, _) => openReg k o || (k = .stkRepair && o == Off.STK_REPAIR_STATUS) | none => false) then { s with fresh := s.fresh + 1 }
  else s

end Sys2Proof.Machine
end

