-- ==== Sys2Proof/Machine/RegWrite.lean ====
section
/-! DEFINITION. Register writes: which session may reach which register, the fields' ranges and reserved encodings, and every write with an effect of its own (R14 to R17, R431, R434 and the register tables). -/

namespace Sys2Proof.Machine

open Sys2Proof

/-! ## Reserved encodings of fields (R17) -/

/-- A field and the values it takes: lowest bit, width, test. -/
abbrev FieldRule := Nat × Nat × (Nat → Bool)

/-- A field that takes values from a to b. -/
def ranged (lo len a b : Nat) : FieldRule := (lo, len, fun x => inOff a x b)

/-- A write keeps each field whose new value is a reserved encoding, and says whether one was refused (R17). -/
def applyRules (old new : Word) : List FieldRule → Word × Bool
  | [] => (new, false)
  | (lo, len, ok) :: rs =>
    let r := applyRules old new rs
    if ok (fld new lo len) then r else (setFld r.1 lo len (fld old lo len), true)

/-- A multiple of 64 from 64 to 2^30 (R389, R457). -/
def capOk (x : Nat) : Bool := x % 64 == 0 && inOff 64 x (2 ^ 30)

/-- Largest ceiling of an account (R281). -/
def ceilMax (a : Nat) : Nat :=
  match a with | 8 => 200000 | 9 => 160000 | 10 => 1000000 | 11 => 60000 | 12 => 120000 | _ => 600000

/-- Field ranges of the LEDG page (R281, R283, R299 to R301). -/
def ledgRules (o : Nat) : List FieldRule :=
  if o = Off.LEDG_THR_FLOOR then [ranged 0 7 20 100]
  else if o = Off.LEDG_LSTEP_LEAD then [ranged 0 5 2 20]
  else if inOff 0x100 o 0x43F then
    let a := (o - 0x100) / 0x40
    match (o - 0x100) % 0x40 with
    | 0x00 => [ranged 0 20 (if a < 8 then 120000 else 0) (ceilMax a)]
    | 0x04 => [(0, 13, fun x => x % 50 == 0 && inOff 50 x 6000)]
    | 0x08 => [ranged 20 2 0 2]
    | 0x34 => [ranged 0 12 870 1200]
    | _ => []
  else if inOff 0x800 o 0xBFF then
    let q := (o - 0x800) % 0x40
    if q = 0 then [ranged 8 5 2 20, ranged 13 3 0 6]
    else if q % 8 = 4 then [ranged 0 13 1 8191] else []
  else []

/-- Field ranges of a register, for the entry x that its window presents and the word being written. -/
def State.fieldRules (s : State) (k : PageKind) (o x : Nat) (old v : Word) : List FieldRule :=
  match k with
  | .glob => if o = Off.GLOB_DOM_XLAT_COUNT then [ranged 0 13 0 4096] else []
  | .rst => if o = Off.RST_WDT_CFG then [ranged 1 14 10 10000] else if o = Off.RST_THERM_CLEAR then [ranged 0 8 85 104] else []
  | .clk => if o = Off.CLK_MEAS_SEL then [ranged 0 5 1 25] else []
  | .ledg => ledgRules o
  | .time => if o = Off.TIME_PPS_OUT_CFG then [ranged 1 10 1 999] else if o = Off.TIME_TS_SEL then [ranged 0 5 0 17] else []
  | .upd =>
    if o = Off.UPD_CTX_TT_COUNT then [ranged 0 17 1 65536]
    else if o = Off.UPD_PROG_CTRL then
      [(31, 1, fun b => b == 0 || (inOff 1 (fld v 0 6) 32 && (List.range (fld v 0 6)).all fun j => !uaBad (s.rd (wreg x pgUPD (Off.UPD_PROG_INSTRj + 4 * j)))))]
    else []
  | .schd =>
    if o = Off.SCHD_CFG then [ranged 1 3 0 4]
    else if o = Off.SCHD_PERIOD || o = Off.SCHD_INTERVAL then [ranged 0 32 1 (2 ^ 32)]
    else if o = Off.SCHD_MULT then [ranged 0 4 1 15] else []
  | .coll =>
    if o = Off.COLL_LAND_MAX then [ranged 0 5 1 16]
    else if o = Off.COLL_GRP_ID then [(31, 1, fun b => b == 0 || (!(s.grpPorts x).isEmpty && (s.grpPorts x).all s.portPresent))]
    else if o = Off.COLL_GRP_SIZE then [ranged 0 17 1 65536]
    else if o = Off.COLL_GRP_TIMEOUT then [ranged 0 24 100 16000000]
    else if o = Off.COLL_GRP_CFG then [ranged 1 3 1 7]
    else if o = Off.COLL_GRP_TT_COUNT then [ranged 0 17 1 65536]
    else if o = Off.COLL_PCL_CAP || o = Off.COLL_LND_CAP then [(0, 32, capOk)] else []
  | .msec => if o = Off.MSEC_REKEY_PN then [ranged 0 6 32 62] else if o = Off.MSEC_MKA_HELLO then [ranged 0 12 500 2000] else []
  | .ptp => if o = Off.PTP_CFG then [ranged 8 2 0 2] else []
  | .mgmt =>
    if o = Off.MGMT_SESSION_IDLE then [ranged 0 12 1 3600]
    else if o = Off.MGMT_RING_SIZE then (if x < 256 then [(0, 32, capOk)] else [])
    else if o = Off.MGMT_RING_DEPTH then (if x < 256 then [(16, 5, fun n => [1, 2, 4, 8, 16].contains n)] else [ranged 0 13 0 4096])
    else if o = Off.MGMT_RING_CTRL then [ranged 16 10 1 1000]
    else if o = Off.MGMT_QP_CFG then [ranged 0 5 0 17, ranged 5 2 0 2] else []
  | .eth => if o = Off.ETH_CFG then [ranged 0 2 0 2] else []
  | .sec => if o = Off.SEC_FW_UNIT_SEL then [ranged 0 3 0 6] else if o = Off.SEC_SCRUB_RATE then [ranged 0 14 100 16000] else if o = Off.SEC_SCRUB_SLOW_RATE then [ranged 0 11 100 1360] else []
  | .key => if o = Off.KEY_PORT_SEL then [ranged 0 5 0 17] else []
  | .err => if o = Off.ERR_CFG then [ranged 0 2 0 2, ranged 8 8 10 255] else if o = Off.ERR_ALERT_CFG then [ranged 1 2 0 2] else []
  | .twin => if o = Off.TWIN_CTX_CFG then [ranged 0 3 1 7] else []
  | .pmb => if o = Off.PMB_CFG then [ranged 8 7 1 100] else if o = Off.PMB_SEL then [ranged 0 4 0 12] else []
  | .temp => if o = Off.TEMP_CFG then [ranged 0 8 95 110, ranged 8 8 2 10] else if o = Off.TEMP_SEL then [ranged 0 8 0 151] else []
  | .hbm => if o = Off.HBM_PATROL_CFG then [ranged 0 10 1 720] else []
  | .slow => if o = Off.SLOW_PATROL_CFG then [ranged 0 10 1 720] else []
  | .stkRepair => if o = Off.STK_REPAIR_CTRL then [ranged 8 13 1 4096] else []
  | .clu => if o = Off.CLU_CORE_SEL then [ranged 0 7 0 99] else []
  | .ctx =>
    if o = Off.CTX_STREAM_LEN then [(0, 32, fun n => n % 32 == 0)]
    else if o = Off.CTX_PATCH_COUNT then [ranged 0 7 0 64]
    else if o = Off.CTX_CLAIM_CL then [ranged 16 12 0 2880]
    else if o = Off.CTX_CLAIM_CORE then [ranged 24 6 0 32]
    else if inOff Off.CTX_CMPn_CTRL o (Off.CTX_CMPn_CTRL + 63) && o % 8 == 0 then
      let kind := if fld v 0 3 < 4 then fld v 0 3 else fld old 0 3
      [ranged 0 3 0 3, (3, 8, fun n => decide (n < srcCount kind)), ranged 11 3 0 5]
    else []
  | _ => []

/-- Bits of a field that the spec names zero: they are masked like reserved bits. -/
def zeroBits (k : PageKind) (o : Nat) : Nat :=
  match k with
  | .upd => if o = Off.UPD_CTX_TT_BASE_LO then 0x7F else 0
  | .coll => if o = Off.COLL_GRP_TT_BASE_LO || o = Off.COLL_GRP_VOTE_BUF_LO || o = Off.COLL_LND_BASE_LO then 0x3F else 0
  | .mgmt => if o = Off.MGMT_RING_LBASE_LO || o = Off.MGMT_MR_BASE_LO then 0x3F else 0
  | .ctx => if o = Off.CTX_SAVE_BASE_LO then 0xFFF else 0
  | _ => 0

/-- Implemented bits of a register that a write reaches. -/
def maskAt (k : PageKind) (o : Nat) : Word :=
  match regRow k o with
  | some r => w32 r.mask &&& ~~~ w32 (zeroBits k o)
  | none => 0

/-- A plain write: reserved bits read zero, reserved encodings keep their field and set INVALID_WRITE (R14, R17). -/
def State.plainWrite (s : State) (k : PageKind) (page o x key : Nat) (v : Word) : State :=
  let old := s.rd key
  let new := v &&& maskAt k o
  let r := applyRules old new (s.fieldRules k o x old new)
  let t := s.wr key r.1
  if r.2 then t.invalidWrite page else t

/-- A write of a session's own selection or register (R433). -/
def State.selWrite (s : State) (se : Nat) (k : PageKind) (page o : Nat) (v : Word) : State :=
  let old := s.srd se (reg page o)
  let new := v &&& maskAt k o
  let r := applyRules old new (s.fieldRules k o 0 old new)
  let t := s.swr se (reg page o) r.1
  if r.2 then t.invalidWrite page else t

/-- Is the LOCK of a page set (R16)? -/
def State.locked (s : State) (page : Nat) : Bool := bit (s.rd (reg page Off.LOCK)) 0

/-- Clear registers of every window of a page: they return to their reset value. -/
def State.clearWin (s : State) (page : Nat) (offs : Nat → Bool) : State :=
  { s with regs := s.regs.filter fun p => !(decide (2 ^ 28 ≤ p.1) && p.1 / 4096 % 65536 == page && offs (p.1 % 4096)) }

/-! ## Writes with an effect, by page -/

/-- The common header (R16, R430, R431). EVENT_FORCE and EVENT_EN reach every bit of [29:0], those to which the owning chapter assigns no event too (log entry 43, DESIGN CHOICE). -/
def State.headerWrite (s : State) (page o : Nat) (v : Word) : State :=
  if o = Off.EVENT then
    let s := s.wr (reg page o) (s.rd (reg page o) &&& ~~~ v)
    if bit v evError then s.clearErr page else s
  else if o = Off.EVENT_EN then s.wr (reg page o) v
  else if o = Off.EVENT_FORCE then s.raiseBits page v
  else if o = Off.LOCK then (if bit v 0 then s.wr (reg page o) 1 else s)
  else s

/-- GLOB page (R258, R332, R355). -/
def State.writeGlob (s : State) (x o : Nat) (v : Word) : State :=
  let i := x * 4096 + (s.rd (wreg x pgGLOB Off.GLOB_DOM_XLAT_IDX)).toNat
  let e := mapGet {} s.staged i
  let put (r : Region) : State := { s with staged := mapSet {} s.staged i r }
  if o = Off.GLOB_DOM_CLASS_MAX then s.setClassMax x v
  else if o = Off.GLOB_DOM_XLAT_E0 then put { e with e0 := v }
  else if o = Off.GLOB_DOM_XLAT_E1 then put { e with e1 := v }
  else if o = Off.GLOB_DOM_XLAT_E2 then put { e with e2 := v }
  else if o = Off.GLOB_DOM_XLAT_E3 then put { e with e3 := v }
  else if o = Off.GLOB_DOM_XLAT_CTRL then
    let s := if bit v 0 then (s.activate x).scrubsEnd.scrubUnits else s
    if bit v 1 then s.copyActive x else s
  else s.plainWrite .glob pgGLOB o x (wreg x pgGLOB o) v

/-- LEDG_CNT_CLEAR (R299, R300). -/
def State.ledgClear (s : State) : State :=
  s.clearRegs (offRange pgLEDG 0x04C 0x054 ++ (List.range 13).flatMap fun a =>
    [Off.LEDG_RAIL_PEAK, Off.LEDG_RAIL_WAIT, Off.LEDG_RAIL_BALLAST_NC_LO, Off.LEDG_RAIL_BALLAST_NC_HI, Off.LEDG_RAIL_FREEZE_TICKS].map fun o =>
      reg pgLEDG (o + 0x40 * a))

/-- LEDG page (R297, R299 to R301). -/
def State.writeLedg (s : State) (o : Nat) (v : Word) : State :=
  if o = Off.LEDG_CNT_CLEAR then (if bit v 0 then s.ledgClear else s)
  else if ledgComputeOnly o then s
  else if inOff 0x800 o 0xBFF && s.profActive ((o - 0x800) / 0x40) then s.invalidWrite pgLEDG
  else
    let t := s.plainWrite .ledg pgLEDG o 0 (reg pgLEDG o) v
    let a := (o - 0x100) / 0x40
    if inOff 0x100 o 0x2FF && o % 0x40 == 0 && decide (t.ceil a < t.account a) then
      t.pageErr pgLEDG Err.CEILING_BELOW_ACCOUNT a 0 0x40#32
    else t

/-- TIME page (R308, R310, R323): a change of PTP_PORT moves PTP to that port. -/
def State.writeTime (s : State) (x o : Nat) (v : Word) : State :=
  if o = Off.TIME_CNT_CLEAR then (if bit v 0 then s.clearRegs (offRange pgTIME 0x074 0x07C) else s)
  else if o = Off.TIME_TOD_NEXT_LO then (s.wr (tReg o) v).wrBit (tReg Off.TIME_STATE) 2 true
  else if o = Off.TIME_TS_CORR then s.wr (wreg x pgTIME o) v
  else
    let t := s.plainWrite .time pgTIME o x (reg pgTIME o) v
    if o = Off.TIME_CFG && bit v 1 != bit (s.rd (tReg Off.TIME_CFG)) 1 then t.wrBit (tReg Off.TIME_STATE) 3 (bit v 1) else t

/-- CAL page (R316, R317, R319, R324). -/
def State.writeCal (s : State) (se x o : Nat) (v : Word) : State :=
  if o = Off.CAL_CNT_CLEAR then
    (if bit v 0 then (s.clearRegs (offRange pgCAL 0x06C 0x074)).clearWin pgCAL (· == Off.CAL_ENT_FIRES) else s)
  else if o = Off.CAL_ENT_CTRL then s.calEnable x (bit v 0)
  else
    let t := s.plainWrite .cal pgCAL o x (calReg x o) v
    let t := if o = Off.CAL_ENT_ACTION then
        t.wr (calReg x Off.CAL_ENT_OWNER) (w32 (if isOp se then 1024 else sessDomain se)) else t
    if t.calEnabled x && !t.calValid x then
      ({ t.wrBit (calReg x Off.CAL_ENT_CTRL) 0 false with lateEnt := t.lateEnt.filter (· != x) } : State).pageErr pgCAL Err.CAL_ENTRY_INVALID x 0 8
    else t

/-- UPD page (R401, R413, R424). -/
def State.writeUpd (s : State) (x o : Nat) (v : Word) : State :=
  if o = Off.UPD_CNT_CLEAR then
    (if bit v 0 then (s.clearRegs (offRange pgUPD 0x048 0x050)).clearWin pgUPD (fun q => inOff 0x22C q 0x238) else s)
  else if inOff 0x104 o 0x1FC then
    if s.armRecs.any fun a => uf a.v 0x10 1 == x then s.invalidWrite pgUPD
    else s.plainWrite .upd pgUPD o x (wreg x pgUPD o) v
  else if o = Off.UPD_CTX_EPOCH && (s.getCtx x).run != .idle then s.invalidWrite pgUPD
  else s.plainWrite .upd pgUPD o x (wreg x pgUPD o) v

/-- SCHD page (R419, R425). -/
def State.writeSchd (s : State) (x o : Nat) (v : Word) : State :=
  let own := s.rd (wreg x pgSCHD Off.SCHD_CTX)
  if bit own 31 && (s.getCtx (fld own 0 14)).run.active then s.invalidWrite pgSCHD
  else s.plainWrite .schd pgSCHD o x (wreg x pgSCHD o) v

/-- COLL_CNT_CLEAR (R388, R389). -/
def State.collClear (s : State) : State :=
  (s.clearRegs (offRange pgCOLL 0x048 0x050)).clearWin pgCOLL fun q => inOff 0x154 q 0x168 || q == Off.COLL_PCL_DROPPED || q == Off.COLL_LND_LANDED

/-- A parcel or landing register: written while VALID is 0, or while its group's window is closed (R361, R389). -/
def State.writeEntry (s : State) (cfg x o : Nat) (v : Word) : State :=
  let c := s.rd (pclReg x cfg)
  let closed := !(s.getGrp (fld c 0 12)).winOpen
  if !bit c 31 || closed then s.plainWrite .coll pgCOLL o x (pclReg x o) v
  else s.invalidWrite pgCOLL

/-- COLL page (R361, R388, R389). -/
def State.writeColl (s : State) (se x o : Nat) (v : Word) : State :=
  if o = Off.COLL_CNT_CLEAR then (if bit v 0 then s.collClear else s)
  else if inOff 0x104 o 0x144 then
    if (s.getGrp x).winOpen || (!isOp se && o == Off.COLL_GRP_CTX && s.ctxDom (fld v 0 14) != some (sessDomain se)) then s.invalidWrite pgCOLL
    else s.plainWrite .coll pgCOLL o x (grpReg x o) v
  else if inOff 0x204 o 0x224 then s.writeEntry Off.COLL_PCL_CFG x o v
  else if inOff 0x284 o 0x2A0 then s.writeEntry Off.COLL_LND_CFG x o v
  else s.plainWrite .coll pgCOLL o x (reg pgCOLL o) v

/-- A session ends (R436); its selections stand until a frame in progress has completed. -/
def State.closeSess (s : State) (x : Nat) : State := s.modSess x fun r => { r with isOpen := false }

/-- Ring window (R447, R457). -/
def State.writeRing (s : State) (x o : Nat) (v : Word) : State :=
  let on := bit (s.rd (ringReg x Off.MGMT_RING_CTRL)) 0
  if o = Off.MGMT_RING_CTRL then
    if on then s.ringEnable x (bit v 0)
    else (s.plainWrite .mgmt pgMGMT o x (ringReg x o) (setBit v 0 false)).ringEnable x (bit v 0)
  else if on then s.invalidWrite pgMGMT
  else
    let drop : Word := if x < 256 then 0 else if o = Off.MGMT_RING_CFG then 0x4000#32 else if o = Off.MGMT_RING_DEPTH then 0x1FE000#32 else 0
    s.plainWrite .mgmt pgMGMT o x (ringReg x o) (v &&& ~~~ drop)

/-- Queue pair window (R445, R458): the owning domain is read-only to tenants. -/
def State.writeQp (s : State) (se x o : Nat) (v : Word) : State :=
  let c := s.rd (qpReg x Off.MGMT_QP_CFG)
  if o = Off.MGMT_QP_CFG then
    if bit c 31 then s.qpValid x (bit v 31)
    else
      let v' := if isOp se then v else setFld v 10 10 (fld c 10 10)
      (s.plainWrite .mgmt pgMGMT o x (qpReg x o) (setBit v' 31 false)).qpValid x (bit v 31)
  else if bit c 31 then s else s.plainWrite .mgmt pgMGMT o x (qpReg x o) v

/-- Memory region window (R445, R458). -/
def State.writeMr (s : State) (x o : Nat) (v : Word) : State :=
  let k := wreg x pgMGMT Off.MGMT_MR_CFG
  if bit (s.rd k) 31 then (if o = Off.MGMT_MR_CFG then s.wrBit k 31 (bit v 31) else s)
  else s.plainWrite .mgmt pgMGMT o x (wreg x pgMGMT o) v

/-- MGMT page (R436, R456 to R458). -/
def State.writeMgmt (s : State) (se x o : Nat) (v : Word) : State :=
  if o = Off.MGMT_CNT_CLEAR then (if bit v 0 then s.clearRegs (offRange pgMGMT 0x048 0x058) else s)
  else if o = Off.MGMT_SESS_CTRL then (if bit v 0 then s.closeSess x else s)
  else if inOff 0x104 o 0x148 then s.writeRing x o v
  else if inOff 0x204 o 0x228 then s.writeQp se x o v
  else if inOff 0x284 o 0x294 then s.writeMr x o v
  else s.plainWrite .mgmt pgMGMT o x (reg pgMGMT o) v

/-- SEC page (R473, R481, R486). -/
def State.writeSec (s : State) (x o : Nat) (v : Word) : State :=
  if o = Off.SEC_SCRUB_CTRL then (if bit v 0 then (s.startScrub x).getD (s.invalidWrite pgSEC) else s)
  else if o = Off.SEC_FW_CTRL then
    if fld v 0 3 = 7 then s.invalidWrite pgSEC else
    let s := if bit v 8 then s.install (fld v 0 3) else s
    if bit v 9 then s.commitSvn (fld v 0 3) else s
  else s.plainWrite .sec pgSEC o x (reg pgSEC o) v

/-- KEY page (R465 to R468, R487): the operator role has only CMD_ROTATE. -/
def State.writeKey (s : State) (x o : Nat) (v : Word) : State :=
  if o = Off.KEY_DOM_CTRL then
    let s := if bit v 0 && decide (x < 1024) then s.rotate x else s
    let s := if bit v 1 && decide (x < 1024) then s.forceRetire x else s
    if bit v 2 then s.cmdRotate x else s
  else if o = Off.KEY_PORT_LINK_GEN then s.wr (wreg x pgKEY o) (v &&& 0x3F#32)
  else s

/-- Entries of the queue up to SEQ are removed (R529). -/
def State.ackAlerts (s : State) (seq : Nat) : State := { s with alerts := s.alerts.filter fun e => decide (seq < e.seq) }

/-- ERR page (R523, R529, R539). -/
def State.writeErr (s : State) (se o : Nat) (v : Word) : State :=
  if o = Off.ERR_Q_ACK_LO then s.swr se (reg pgERR o) v
  else if o = Off.ERR_Q_ACK_HI then s.ackAlerts ((s.srd se (reg pgERR Off.ERR_Q_ACK_LO)).toNat + v.toNat * 2 ^ 32)
  else if o = Off.ERR_REPAIR_REQ then s.repairRequest v
  else s.plainWrite .err pgERR o 0 (reg pgERR o) v

/-- HBM page (R352, R356). -/
def State.writeHbm (s : State) (st o : Nat) (v : Word) : State :=
  let page := pgHBM st
  if o = Off.HBM_CNT_CLEAR then
    (if bit v 0 then { s.clearRegs (offRange page 0x048 0x058 ++ offRange page 0x070 0x08C) with wcFence := mapDel st s.wcFence } else s)
  else if o = Off.HBM_CTRL then
    let s := s.wr (reg page o) (v &&& 1#32)
    let state := fld (s.rd (reg page Off.HBM_STATE)) 0 3
    if bit v 0 then
      (if state = 2 then (s.fenceEntries fun e => s.stackOf (e.unit * 512) == st).wrFld (reg page Off.HBM_STATE) 0 3 3 else s)
    else if state = 3 ∨ state = 4 then s.wrFld (reg page Off.HBM_STATE) 0 3 2 else s
  else s.plainWrite .hbm page o 0 (reg page o) v

/-- STK_REPAIR page (R352, R357): a GO while a shift is BUSY has no effect. -/
def State.writeStk (s : State) (st o : Nat) (v : Word) : State :=
  let page := pgSTK_REPAIR st
  let k := reg page Off.STK_REPAIR_STATUS
  let s := s.plainWrite .stkRepair page o 0 (reg page o) (if o = Off.STK_REPAIR_CTRL then setBit v 31 false else v)
  if o = Off.STK_REPAIR_CTRL && bit v 31 && !bit (s.rd k) 0 then
    if s.allQuiesced then s.wr k 1
    else (s.wr k 4).pageErr page Err.REPAIR_REFUSED st
  else s

/-- SLOW page (R358): the counters of a package and its unfinished units. -/
def State.writeSlow (s : State) (x o : Nat) (v : Word) : State :=
  if o = Off.SLOW_CNT_CLEAR then
    (if bit v 0 then
      { s.clearRegs ([0x048, 0x04C, 0x050, 0x064, 0x068].map (wreg x pgSLOW)) with slowRem := mapDel (2 * x) (mapDel (2 * x + 1) s.slowRem) }
     else s)
  else s.plainWrite .slow pgSLOW o x (wreg x pgSLOW o) v

/-- Is a physical core in use, so that its window shows its registers (R103)? -/
def State.coreEnabled (s : State) (cl p : Nat) : Bool := s.cluEnabled cl && (s.logCore cl p).isSome

/-- CLU page and the window of the selected core (R103, R131, R154, R256). -/
def State.writeClu (s : State) (cl x o : Nat) (v : Word) : State :=
  let page := pgCLU cl
  if o = Off.CLU_PART then s.setPart cl v
  else if o = Off.CLU_CNT_CLEAR then
    (if bit v 0 then
      { (s.clearRegs (offRange page 0x040 0x06C)) with moverRem := s.moverRem.filter fun p => p.1 / 4 != cl }
     else s)
  else if inOff 0x800 o 0x8FF then
    if !s.coreEnabled cl x then s
    else if o = Off.CORE_ROW_MAP then s.setRowMap cl x v
    else if o = Off.CORE_CNT_CLEAR then (if bit v 0 then s.clearRegs ((List.range 14).map fun i => wreg x page (0x818 + 4 * i)) else s)
    else if o = Off.CORE_ACC_REPLAYS then (if bit v 0 then s.wr (wreg x page o) 0 else s)
    else s
  else s

/-- Image, claim and save-area registers of a context, fixed while its stream is ACTIVE (R214, R252, R277). -/
def ctxFixed (o : Nat) : Bool := inOff 0x040 o 0x068 || o == Off.CTX_CLAIM_CL || o == Off.CTX_CLAIM_CORE || inOff 0x118 o 0x11C

/-- CTX_NAN_STATUS: clearing FIRED re-arms the trap and zeroes the count (R63, R66). -/
def State.clearNan (s : State) (c : Nat) (v : Word) : State :=
  let k := reg (pgCTX c) Off.CTX_NAN_STATUS
  let s := s.wr k (s.rd k &&& ~~~ v)
  if bit v 0 then s.wr (reg (pgCTX c) Off.CTX_NAN_COUNT) 0 else s

/-- CTX page (R63, R132, R214, R237, R243, R252, R254, R258, R268, R277): the code that refuses a start, and the state. -/
def State.writeCtx (s : State) (se c o : Nat) (v : Word) : Code × State :=
  let page := pgCTX c
  let act := (s.getCtx c).run.active
  let k := reg page o
  if o = Off.CTX_CTRL then
    if bit v 0 then
      let a := s.replayAnswer c
      if a = 0 then (0, s.beginReplay c) else (a, s)
    else (0, s)
  else (0,
    if o = Off.CTX_BIND then (if isOp se then s.bindCtx c v else s)
    else if o = Off.CTX_PRIO then s.setPrio c v
    else if o = Off.CTX_RUN_CTRL then s.runCtrl c v
    else if ctxFixed o && act then s.invalidWrite page
    else if (o = Off.CTX_STEP_LO || o = Off.CTX_STEP_HI) && act then s
    else if o = Off.CTX_NAN_STATUS then s.clearNan c v
    else if o = Off.CTX_SAT_COUNT || o = Off.CTX_ACC_REPLAY_COUNT then (if bit v 0 then s.wr k 0 else s)
    else if o = Off.CTX_ACC_SUMMARY || o = Off.CTX_STREAM_STATUS then s.wr k (s.rd k &&& ~~~ v)
    else if inOff 0x400 o 0x5FF then (s.notePar c ((o - 0x400) / 8)).wr k v
    else s.plainWrite .ctx page o 0 k v)

/-- Counter clears of the remaining pages (R187, R459, R460, R585). -/
def State.writeCounters (s : State) (k : PageKind) (page : Nat) : State :=
  match k with
  | .rte => s.clearRegs (offRange page 0x044 0x074)
  | .eth => { s.clearRegs (offRange page 0x060 0x080 ++ [reg page 0x08C]) with
      ethRem := s.ethRem.filter fun p => p.1 / 2 + pgETH 0 != page, pfcNs := s.pfcNs.filter fun p => p.1 / 8 + pgETH 0 != page }
  | .ptp => s.clearRegs (offRange page 0x054 0x058)
  | .temp => s.clearRegs (offRange page 0x054 0x058)
  | _ => s

/-- Is a register the counter clear of its page? -/
def isCntClear (k : PageKind) (o : Nat) : Bool :=
  match k with
  | .rte => o == Off.RTE_CNT_CLEAR | .eth => o == Off.ETH_CNT_CLEAR | .ptp => o == Off.PTP_CNT_CLEAR | .temp => o == Off.TEMP_CNT_CLEAR
  | _ => false

/-- MET registers that a write reaches: the reporting path and the session's selections (R510). -/
def metWritable (o : Nat) : Bool :=
  o == Off.EVENT || o == Off.EVENT_EN || o == Off.EVENT_FORCE || o == Off.LOCK || o == Off.MET_DOM_SEL || o == Off.MET_LOG_SEL

/-- The effect of a write that the session may make: the code of a refused start, and the state (R10, R14, R16, R17, R431, R589). -/
def State.regWrite (s : State) (se a : Nat) (v : Word) : Code × State :=
  let page := a / 4096
  let o := a % 4096
  match pageOf page with
  | none => (0, s)
  | some (k, i) =>
    if !s.pagePresent k i then (0, s)
    else if k = .met && !metWritable o then (0, s.invalidWrite page)
    else match regRow k o with
      | none => (0, s)
      | some r =>
        let x := s.window se k page o
        if r.acc = .ro then (0, s)
        else if r.acc = .rwl && s.locked page then (0, s)
        else if o < 0x40 then (0, s.headerWrite page o v)
        else if isSel k o then (0, s.selWrite se k page o v)
        else if isCntClear k o then (0, if bit v 0 then s.writeCounters k page else s)
        else match k with
          | .glob => (0, s.writeGlob x o v)
          | .ledg => (0, s.writeLedg o v)
          | .time => (0, s.writeTime x o v)
          | .cal => (0, s.writeCal se x o v)
          | .upd => (0, s.writeUpd x o v)
          | .schd => (0, s.writeSchd x o v)
          | .coll => (0, s.writeColl se x o v)
          | .mgmt => (0, s.writeMgmt se x o v)
          | .sec => (0, s.writeSec x o v)
          | .key => (0, s.writeKey x o v)
          | .att => (0, s.attGo se v)
          | .err => (0, s.writeErr se o v)
          | .hbm => (0, s.writeHbm i o v)
          | .stkRepair => (0, s.writeStk i o v)
          | .slow => (0, s.writeSlow x o v)
          | .clu => (0, s.writeClu i x o v)
          | .ctx => s.writeCtx se i o v
          | _ => (0, s.plainWrite k page o x (s.locate se k page o) v)

/-! ## Which session reaches which register (R257, R317, R361, R434, R445, R487 to R489, R510, R539) -/

/-- The domain that owns the entry a window presents, if one does (R257, R317, R361, R419, R445, R483). -/
def State.entryOwner (s : State) (k : PageKind) (i page o x : Nat) : Option Nat :=
  match k with
  | .ctx => s.ctxDom i
  | .cal => if (windowSel k o).isNone || s.calAction x == 0 then none else s.calOwner x
  | .coll =>
    if inOff 0x104 o 0x168 then s.ctxDom (s.grpCtx x)
    else if inOff 0x204 o 0x224 then s.ctxDom (s.grpCtx (s.pclSlot x))
    else if inOff 0x284 o 0x2A0 then s.ctxDom (s.grpCtx (s.landSlot x))
    else none
  | .upd => if inOff 0x204 o 0x238 then s.ctxDom x else none
  | .schd => if (windowSel k o).isSome then s.ctxDom (fld (s.rd (wreg x page Off.SCHD_CTX)) 0 14) else none
  | .mgmt =>
    if inOff 0x104 o 0x148 then s.ctxDom (s.ringCtx x)
    else if inOff 0x204 o 0x228 then some (s.qpOwner x)
    else if inOff 0x284 o 0x294 then some (fld (s.rd (wreg x page Off.MGMT_MR_CFG)) 0 10)
    else none
  | .key => if (windowSel k o) = some Off.KEY_DOM_SEL && decide (x < 1024) then some x else none
  | _ => none

/-- A tenant's calendar action and target belong to its domain (R317). -/
def State.tenantTarget (s : State) (d x o : Nat) (v : Word) : Bool :=
  let a := if o = Off.CAL_ENT_ACTION then fld v 0 4 else s.calAction x
  let t := if o = Off.CAL_ENT_TARGET then fld v 0 20 else s.calTarget x
  if o = Off.CAL_ENT_ACTION || o = Off.CAL_ENT_TARGET then a == 0 || decide (8 ≤ a) || s.calTargetOf a t d else true

/-- A tenant's write hands no entry to another domain (R361, R389, R419, R445, R447). -/
def State.tenantNames (s : State) (k : PageKind) (d o : Nat) (v : Word) : Bool :=
  match k with
  | .coll => if o = Off.COLL_PCL_CFG || o = Off.COLL_LND_CFG then s.ctxDom (s.grpCtx (fld v 0 12)) == some d else true
  | .schd => if o = Off.SCHD_CTX then s.ctxDom (fld v 0 14) == some d else true
  | .mgmt =>
    if o = Off.MGMT_RING_CFG then s.ctxDom (fld v 0 14) == some d
    else if o = Off.MGMT_MR_CFG then fld v 0 10 == d else true
  | _ => true

/-- May a tenant session of domain d make an access (R434)? -/
def State.tenantMay (s : State) (se d : Nat) (k : PageKind) (i page o : Nat) (wr : Bool) (v : Word) : Bool :=
  let x := s.window se k page o
  let own := s.entryOwner k i page o x == some d
  match k with
  | .ctx => own && !(wr && (o == Off.EVENT_FORCE || o == Off.LOCK))
  | .cal => o == Off.CAL_SEL || ((windowSel k o).isSome && (own || s.calAction x == 0) && (!wr || s.tenantTarget d x o v))
  | .coll => isSel k o || (own && (!wr || s.tenantNames k d o v))
  | .upd => o == Off.UPD_CTX_SEL || own
  | .schd => o == Off.SCHD_SEL || (own && (!wr || s.tenantNames k d o v))
  | .mgmt => o == Off.MGMT_RING_SEL || o == Off.MGMT_QP_SEL || o == Off.MGMT_MR_SEL || (own && (!wr || s.tenantNames k d o v))
  | .key => (o == Off.KEY_DOM_SEL && (!wr || fld v 0 11 == d)) || (own && (!wr || (o == Off.KEY_DOM_CTRL && !bit v 2)))
  | .att => decide (0x40 ≤ o) && o != Off.ATT_DOM_SEL && !(wr && o == Off.ATT_CTRL && bit v 1)
  | .dbg =>
    (o == Off.DBG_LOG_SEL && (!wr || fld v 0 10 == d)) || o == Off.DBG_LOG_IDX
      || (inOff 0x04C o 0x070 && !wr && s.sel se page Off.DBG_LOG_SEL == d)
  | .met =>
    (o == Off.MET_DOM_SEL && (!wr || fld v 0 10 == d)) || o == Off.MET_LOG_SEL
      || (!wr && (inOff 0x0F8 o 0x0FC || inOff 0x104 o 0x120 || (inOff 0x0E4 o 0x0F4 && s.sel se page Off.MET_DOM_SEL == d)))
  | .err => o == Off.ERR_ALERT_CFG || (o == Off.ERR_ALERT_SENT && !wr)
  | .sec => (decide (0x40 ≤ o) && !wr) || o == Off.SEC_SCRUB_SEL
  | _ => false

/-- Is an access refused to the session (R257, R434)? Operator sessions reach every page. -/
def State.denied (s : State) (se a : Nat) (wr : Bool) (v : Word) : Bool :=
  !isOp se && match pageOf (a / 4096) with
    | some (k, i) => !s.tenantMay se (sessDomain se) k i (a / 4096) (a % 4096) wr v
    | none => true

end Sys2Proof.Machine
end

