-- ==== Sys2Proof/Machine/Control.lean ====
section
/-! DEFINITION. The control plane: operation entries, control frames, sessions, the data port, the access log of operator accesses and ALERT frames (R434 to R444, R480, R483, R531). -/

namespace Sys2Proof.Machine

open Sys2Proof

/-! ## The access log of register accesses (R483) -/

/-- Domains and kinds that a register access of a session touches (R483). -/
def State.touched (s : State) (se a : Nat) (wr : Bool) (v : Word) : List (Nat × Nat) :=
  match pageOf (a / 4096) with
  | none => []
  | some (k, i) =>
    let o := a % 4096
    let x := s.window se k (a / 4096) o
    let owned : List (Nat × Nat) := match s.entryOwner k i (a / 4096) o x with
      | some d => [(d, if wr then 2 else 1)]
      | none => []
    if !wr then owned
    else match k with
      | .ctx =>
        if o = Off.CTX_BIND then
          ((match s.ctxDom i with | some d => [d] | none => []) ++ (if bit v 31 then [fld v 0 10] else [])).eraseDups.map fun d => (d, 7)
        else if o = Off.CTX_RUN_CTRL then (match s.ctxDom i with | some d => [(d, 9)] | none => [])
        else owned
      | .clu =>
        if o = Off.CLU_PART then
          let old := s.rd (reg (a / 4096) o)
          ((if bit old 10 then [fld old 0 10] else []) ++ (if bit v 10 then [fld v 0 10] else [])).eraseDups.map fun d => (d, 7)
        else []
      | .glob => if o = Off.GLOB_DOM_CLASS_MAX || o = Off.GLOB_DOM_XLAT_CTRL then [(x, 7)] else []
      | .key => if o = Off.KEY_DOM_CTRL && decide (x < 1024) && fld v 0 3 != 0 then [(x, 8)] else owned
      | _ => owned

/-- Log an operator's register access of `len` bytes (R483). -/
def State.logReg (s : State) (se a len : Nat) (l : List (Nat × Nat)) : State :=
  l.eraseDups.foldl (fun t p => t.logOp se p.1 p.2 len a) s

/-! ## Register entries (R441) -/

/-- What an entry answers: its value and data, a failure, or a wait until a deadline. -/
inductive EntryOut where
  | ok (value : Nat) (data : List Byte)
  | fail (code : Code) (value : Nat) (data : List Byte)
  | wait (deadline : Nat)
deriving DecidableEq, Repr

/-- RD32 of a permitted address: the value read and the state (R306, R510). -/
def State.readOne (s : State) (se a : Nat) : Nat × State := ((s.regValue se a).toNat, s.readEffect se a)

/-- RD32 (R441). -/
def State.entryRd32 (s : State) (se a : Nat) : State × EntryOut :=
  if s.denied se a false 0 then (s, .fail Err.DOMAIN_ACCESS_DENIED 0 [])
  else
    let (v, t) := (s.logReg se a 4 (s.touched se a false 0)).readOne se a
    (t, .ok v [])

/-- RD64: both halves in one cycle (R441). -/
def State.entryRd64 (s : State) (se a : Nat) : State × EntryOut :=
  if a % 8 ≠ 0 then (s, .fail Err.CTRL_OP_INVALID 0 [])
  else if s.denied se a false 0 || s.denied se (a + 4) false 0 then (s, .fail Err.DOMAIN_ACCESS_DENIED 0 [])
  else
    let (lo, t) := (s.logReg se a 8 (s.touched se a false 0 ++ s.touched se (a + 4) false 0)).readOne se a
    let (hi, t) := t.readOne se (a + 4)
    (t, .ok (lo + hi * 2 ^ 32) [])

/-- WR32 (R441): a refused start fails the entry (R237, R266). -/
def State.entryWr32 (s : State) (se a : Nat) (v : Word) : State × EntryOut :=
  if s.denied se a true v then (s, .fail Err.DOMAIN_ACCESS_DENIED 0 [])
  else
    let (c, t) := (s.logReg se a 4 (s.touched se a true v)).regWrite se a v
    (t, if c = 0 then .ok 0 [] else .fail c 0 [])

/-- WR64: both halves in one cycle (R441). -/
def State.entryWr64 (s : State) (se a : Nat) (lo hi : Word) : State × EntryOut :=
  if a % 8 ≠ 0 then (s, .fail Err.CTRL_OP_INVALID 0 [])
  else if s.denied se a true lo || s.denied se (a + 4) true hi then (s, .fail Err.DOMAIN_ACCESS_DENIED 0 [])
  else
    let t := s.logReg se a 8 (s.touched se a true lo ++ s.touched se (a + 4) true hi)
    let (c, u) := t.regWrite se a lo
    let (e, u) := u.regWrite se (a + 4) hi
    if c = 0 ∧ e = 0 then (u, .ok 0 []) else (t, .fail (if c = 0 then e else c) 0 [])

/-- Does the condition of a POLL32 hold: register AND mask = wanted value (R441)? -/
def State.pollHolds (s : State) (se a value : Nat) : Bool :=
  s.regValue se a &&& w32 (value / 2 ^ 32) == w32 value

/-- POLL32 starts: it answers at once where its condition holds (R441). -/
def State.entryPoll (s : State) (se a value len : Nat) : State × EntryOut :=
  if len = 0 ∨ 1000 < len then (s, .fail Err.CTRL_OP_INVALID 0 [])
  else if s.denied se a false 0 then (s, .fail Err.DOMAIN_ACCESS_DENIED 0 [])
  else
    let s := s.logReg se a 4 (s.touched se a false 0)
    if s.pollHolds se a value then ((s.readEffect se a), .ok (s.regValue se a).toNat [])
    else (s, .wait (s.timer + len * 1000))

/-! ## The data port (R443, R444) -/

/-- Domain of space 0 for a session (R443). -/
def State.dpDomain (s : State) (se : Nat) : Nat := if isOp se then (s.getSess se).dpDom else sessDomain se

/-- DP_SET (R443). -/
def State.entryDpSet (s : State) (se sp d a : Nat) : State × EntryOut :=
  if sp = 3 then (s, .fail Err.DP_INVALID 0 [])
  else if !isOp se && (sp != 0 || (d != 0 && d != sessDomain se)) then (s, .fail Err.OPERATOR_ONLY 0 [])
  else if a % 8 ≠ 0 then (s, .fail Err.DP_INVALID 0 [])
  else (s.modSess se fun r => { r with dpAddr := BitVec.ofNat 64 a, dpSpace := sp, dpDom := d }, .ok 0 [])

/-- Is a transfer of the data port refused before any byte moves (R443)? -/
def State.dpBad (s : State) (se len : Nat) : Bool :=
  let r := s.getSess se
  let a := r.dpAddr.toNat
  a % 8 != 0 || len % 8 != 0 || decide (len < 8) || decide (8192 < len)
    || (r.dpSpace == 1 && !((List.range (len / 8)).all fun i => s.paBacked (a + 8 * i)))
    || (r.dpSpace == 2 && decide (0x1000000 < a + len))

/-- Lengths of the runs of a transfer within each 256-byte line: first address and bytes. -/
def lineRuns (a len : Nat) : List (Nat × Nat) :=
  if len = 0 then []
  else (List.range ((a + len - 1) / 256 - a / 256 + 1)).map fun i =>
    let lo := Nat.max a ((a / 256 + i) * 256)
    let hi := Nat.min (a + len) ((a / 256 + i + 1) * 256)
    (lo, hi - lo)

/-- Domains whose active table maps the granule of a PA, with the domain address of that PA (R331). -/
def State.mappers (s : State) (pa : Nat) : List (Nat × Nat) :=
  s.active.filterMap fun p =>
    (p.2.find? fun r => r.valid && decide (r.pa ≤ pa / 2 ^ 21) && decide (pa / 2 ^ 21 < r.pa + r.granules)).map fun r =>
      (p.1, (r.da + (pa / 2 ^ 21 - r.pa)) * 2 ^ 21 + pa % 2 ^ 21)

/-- The domain under whose keys a PA is reached: the one that maps it, else the one its granule is sealed under. -/
def State.paDomain (s : State) (pa : Nat) : Option Nat :=
  match s.mappers pa with
  | p :: _ => some p.1
  | [] => (s.gran (pa / 2 ^ 21)).dom

/-- Memory code of a poisoned read: TAG_FAIL, or MEM_UE (R444). -/
def dpCode (c : Code) : Code := if c = Err.TAG_FAIL then c else Err.MEM_UE

/-- Read one run of the data port within a line. -/
def State.dpReadRun (s : State) (se a n : Nat) : Except Code (List Byte) :=
  match (s.getSess se).dpSpace with
  | 0 => match s.tierRead (s.dpDomain se) a n true with
    | .ok v => .ok (toLe n v)
    | .poison c _ => .error (dpCode c)
    | .fault c => .error c
  | 1 =>
    let raw : List Byte := (List.range n).map fun i => s.tierByte (a + i)
    match s.paDomain a with
    | some d => match (linesOf a n).findSome? (s.tierBad d) with
      | some c => .error (dpCode c)
      | none => .ok (if (s.gran (a / 2 ^ 21)).fill.isSome then List.replicate n 0 else raw)
    | none => if (linesOf a n).any s.linePoison then .error Err.MEM_UE else .ok raw
  | _ => .ok ((List.range n).map fun i => s.byte (stagingBase + a + i))

/-- Write one run of the data port within a line (R214, R444). -/
def State.dpWriteRun (s : State) (se a : Nat) (bs : List Byte) : Except Code State :=
  let at' (base : Nat) : List (Nat × Byte) := bs.zipIdx.map fun p => (base + p.2, p.1)
  match (s.getSess se).dpSpace with
  | 0 => s.tierWrite (s.dpDomain se) (at' a) true
  | 1 =>
    if (s.mappers a).any fun p => s.hitsImage p.1 p.2 bs.length then .error Err.IMAGE_WRITE
    else match s.paDomain a with
      | some d => .ok (s.tierBytes d (at' a))
      | none => .ok ((at' a).foldl (fun t b => t.setByte b.1 b.2) s)
  | _ => .ok ((at' (stagingBase + a)).foldl (fun t b => t.setByte b.1 b.2) s)

/-- Advance the data port's address. -/
def State.dpAdvance (s : State) (se n : Nat) : State := s.modSess se fun r => { r with dpAddr := r.dpAddr + BitVec.ofNat 64 n }

/-- Read runs in order until one faults: the bytes before it and its code. -/
def State.dpReadRuns (s : State) (se : Nat) : List (Nat × Nat) → List Byte × Option Code
  | [] => ([], none)
  | r :: rs => match s.dpReadRun se r.1 r.2 with
    | .error c => ([], some c)
    | .ok bs => let q := s.dpReadRuns se rs; (bs ++ q.1, q.2)

/-- Write runs in order until one faults: the bytes written and its code. -/
def State.dpWriteRuns (s : State) (se : Nat) (data : List Byte) : List (Nat × Nat) → State × Nat × Option Code
  | [] => (s, 0, none)
  | r :: rs => match s.dpWriteRun se r.1 (data.take r.2) with
    | .error c => (s, 0, some c)
    | .ok t => let q := t.dpWriteRuns se (data.drop r.2) rs; (q.1, r.2 + q.2.1, q.2.2)

/-- Domains that a data-port transfer touches (R483). -/
def State.dpTouched (s : State) (se len : Nat) : List Nat :=
  let r := s.getSess se
  match r.dpSpace with
  | 0 => [s.dpDomain se]
  | 1 => ((lineRuns r.dpAddr.toNat len).flatMap fun q => (s.mappers q.1).map Prod.fst).eraseDups
  | _ => []

/-- DP_READ (R443, R444). -/
def State.entryDpRead (s : State) (se len : Nat) : State × EntryOut :=
  if s.dpBad se len then (s, .fail Err.DP_INVALID 0 [])
  else
    let a := (s.getSess se).dpAddr.toNat
    let s := s.logReg se a len ((s.dpTouched se len).map fun d => (d, 3))
    let (bs, c) := s.dpReadRuns se (lineRuns a len)
    let t := s.dpAdvance se bs.length
    match c with
    | some c => (t, .fail c 0 bs)
    | none => (t, .ok 0 bs)

/-- DP_WRITE (R443, R444). -/
def State.entryDpWrite (s : State) (se : Nat) (data : List Byte) : State × EntryOut :=
  if s.dpBad se data.length then (s, .fail Err.DP_INVALID 0 [])
  else
    let a := (s.getSess se).dpAddr.toNat
    let s := s.logReg se a data.length ((s.dpTouched se data.length).map fun d => (d, 4))
    let (t, n, c) := s.dpWriteRuns se data (lineRuns a data.length)
    let t := t.dpAdvance se n
    match c with
    | some c => (t, .fail c 0 [])
    | none => (t, .ok 0 [])

/-! ## One entry (R441, R480) -/

/-- Operations that recovery accepts (R480). -/
def State.recoveryOk (s : State) (se : Nat) (e : CtlEntry) : Bool :=
  ((e.op == 1 || e.op == 2) && e.addr % 2 ^ 28 / 4096 == pgSEC) || (e.op == 0x10 && e.addr % 4 == 2)
    || (e.op == 0x11 && (s.getSess se).dpSpace == 2)

/-- Apply one operation entry of a session (R441). -/
def State.applyEntry (s : State) (se : Nat) (e : CtlEntry) : State × EntryOut :=
  let a := e.addr % 2 ^ 28
  if s.stage = 9 && !s.recoveryOk se e then (s, .fail Err.CTRL_OP_INVALID 0 [])
  else match e.op with
    | 0x01 => s.entryRd32 se a
    | 0x02 => s.entryWr32 se a (w32 e.value)
    | 0x03 => s.entryRd64 se a
    | 0x04 => s.entryWr64 se a (w32 e.value) (w32 (e.value / 2 ^ 32))
    | 0x05 => s.entryPoll se a e.value e.len
    | 0x10 => s.entryDpSet se (e.addr % 4) (e.addr / 4 % 1024) e.value
    | 0x11 => s.entryDpWrite se e.data
    | 0x12 => s.entryDpRead se e.len
    | 0x20 => if isOp se then (s, .ok 0 []) else (s, .fail Err.OPERATOR_ONLY 0 [])
    | _ => (s, .fail Err.CTRL_OP_INVALID 0 [])

/-! ## Frames (R437 to R440) -/

/-- Session key as bytes. -/
def keyBytes (k : Nat) : List Byte := toLe 32 k

/-- The header with its TAG (R437, R438). -/
def ctlFrame (key : List Byte) (type se ops index status counter : Nat) (payload : List Byte) : List Byte :=
  let head := beBytes 1 1 ++ beBytes 1 type ++ beBytes 2 se ++ beBytes 1 ops ++ beBytes 1 index ++ beBytes 2 status ++ beBytes 8 counter
  let tag := kmac256 key (head ++ List.replicate 16 0 ++ payload) 128 (ascii "VT1 CTRL")
  head ++ toLe 16 tag ++ payload

/-- Bytes of a response entry (R440). -/
def CtlResp.bytes (r : CtlResp) : List Byte :=
  beBytes 1 r.op ++ [0] ++ beBytes 2 r.data.length ++ beBytes 4 r.addr ++ beBytes 8 r.value ++ pad8 r.data

/-- Header fields of a received frame (R437). -/
structure CtlHead where
  version : Nat
  type : Nat
  se : Nat
  ops : Nat
  counter : Nat
  tag : Nat
deriving DecidableEq, Repr

/-- Read the header (R437). -/
def ctlHead (bs : List Byte) : CtlHead :=
  let f (o n : Nat) : List Byte := (bs.drop o).take n
  { version := beOf (f 0 1), type := beOf (f 1 1), se := beOf (f 2 2), ops := beOf (f 4 1), counter := beOf (f 8 8), tag := leOf (f 16 16) }

/-- Does the TAG of a frame verify under a key (R438)? -/
def tagOk (key : List Byte) (bs : List Byte) : Bool :=
  kmac256 key (bs.take 16 ++ List.replicate 16 0 ++ bs.drop 32) 128 (ascii "VT1 CTRL") == (ctlHead bs).tag

/-- Parse n operation entries; none where lengths do not fit (R440). -/
def ctlEntries : Nat → List Byte → Option (List CtlEntry)
  | 0, bs => if bs = [] then some [] else none
  | n + 1, bs =>
    if bs.length < 16 then none
    else
      let f (o k : Nat) : Nat := beOf ((bs.drop o).take k)
      let e : CtlEntry := { op := f 0 1, len := f 2 2, addr := f 4 4, value := f 8 8 }
      let n' := if e.op = 0x11 then cdiv e.len 8 * 8 else 0
      let rest := bs.drop 16
      if rest.length < n' then none
      else (ctlEntries n (rest.drop n')).map fun es => { e with data := if e.op = 0x11 then rest.take e.len else [] } :: es

/-- Check 5: burst bytes, response size and the place of WARM_RESET (R439). -/
def sizesOk (es : List CtlEntry) : Bool :=
  let burst := es.foldl (fun n e => n + if e.op = 0x11 || e.op = 0x12 then e.len else 0) 0
  let resp := es.foldl (fun n e => n + 16 + if e.op = 0x12 then cdiv e.len 8 * 8 else 0) 32
  decide (burst ≤ 8192) && decide (resp ≤ 8960) && es.dropLast.all fun e => e.op != 0x20

/-- Count a discarded frame (R439). -/
def State.discardFrame (s : State) : State := s.inc (reg pgMGMT Off.MGMT_DISCARDS)

/-- A failed tag (R439). -/
def State.tagFail (s : State) : State := (s.inc (reg pgMGMT Off.MGMT_AUTH_FAIL)).pageErr pgMGMT Err.AUTH_FAIL

/-- Send a response frame of a session and, for a frame that was applied or refused at check 5, keep it (R439). -/
def State.respond (s : State) (se port counter : Nat) (status : Code) (index : Nat) (rs : List CtlResp) (keep : Bool) : State :=
  let bs := ctlFrame (keyBytes (s.getSess se).key) 1 se rs.length index status.toNat counter (rs.flatMap CtlResp.bytes)
  let s := if keep then s.modSess se fun r => { r with lastResp := some bs } else s
  s.sendFrame port none "CTRL" [] bs

/-- The frame in progress completes with a status; a WARM_RESET entry that was applied begins the ramp (R441, R442). -/
def State.finishFrame (s : State) (f : FrameRec) (code : Code) (index : Nat) (done : List CtlResp) : State :=
  let s : State := { s with frame := none, logOpen := [] }
  let s := if f.framed then s.respond f.se f.port f.counter code index done true
    else s.emit (.response f.se code (BitVec.ofNat 64 ((done.getLast?.map CtlResp.value).getD 0)) ((done.getLast?.map CtlResp.data).getD []))
  if code = 0 && (done.getLast?.map CtlResp.op) == some 0x20 then s.beginWarm 3 else s

/-- Go on with a frame after an entry's answer. -/
def FrameRec.next (f : FrameRec) (e : CtlEntry) (v : Nat) (d : List Byte) : FrameRec :=
  { f with rest := f.rest.drop 1, poll := none, done := f.done ++ [{ op := e.op, addr := e.addr, value := v, data := d }] }

/-- Apply the entries of the frame in progress until it completes or a POLL32 waits (R441, R442). -/
def State.runFrame : Nat → State → State
  | 0, s => s
  | n + 1, s => match s.frame with
    | none => s
    | some f => match f.rest with
      | [] => s.finishFrame f 0 0xFF f.done
      | e :: _ => match s.applyEntry f.se e with
        | (t, .ok v d) => runFrame n { t with frame := some (f.next e v d) }
        | (t, .fail c v d) => t.finishFrame f c f.done.length (f.next e v d).done
        | (t, .wait dl) => { t with frame := some { f with poll := some dl } }

/-- Start a frame's entries. -/
def State.startFrame (s : State) (f : FrameRec) : State := State.runFrame (f.rest.length + 1) { s with frame := some f }

/-! ## Sessions (R435, R436, R439) -/

/-- Does a port serve control frames: a host port when READY, the boot port in recovery (R437, R480, R553)? -/
def State.servesControl (s : State) (port : Nat) : Bool :=
  (s.stage == 8 && (port == 16 || port == 17))
    || (s.stage == 9 && port == 16 + b2n (bit (s.rd (reg pgSTRP Off.STRP_VALUE)) 0))

/-- A role that OPEN may name: a domain, or the operator role, alone in recovery (R435, R480). -/
def State.roleOk (s : State) (se : Nat) : Bool :=
  decide (se < 8192) && (!isOp se || se % 1024 == 0) && (s.stage != 9 || isOp se)

/-- Number of a role for command keys and OPEN counters: the domain, or 1,024 (R464). -/
def roleOf (se : Nat) : Nat := if isOp se then 1024 else sessDomain se

/-- Lowest free slot of a role (R435). -/
def State.freeSlot (s : State) (se : Nat) : Option Nat :=
  (List.range 4).find? fun k => !(s.getSess (se / 4096 * 4096 + k * 1024 + sessDomain se)).isOpen

/-- Drop the selections and latches of a session: a new one starts with every selection at 0 (R433). -/
def State.freshSel (s : State) (se : Nat) : State :=
  { s with sregs := s.sregs.filter (fun p => p.1 / 2 ^ 28 != se), att := mapDel se s.att }

/-- An accepted OPEN takes a slot and answers with its nonce, or is refused (R435, R474). -/
def State.openAccept (s : State) (port : Nat) (h : CtlHead) (nonce : List Byte) (key : List Byte) : State :=
  let s := ({ s with openCnt := mapPut (roleOf h.se) h.counter s.openCnt } : State).inc (reg pgMGMT Off.MGMT_FRAMES)
  let ack (t : State) (se : Nat) (c : Code) (n : List Byte) : State :=
    t.sendFrame port none "CTRL" [] (ctlFrame key 3 se 0 0xFF c.toNat h.counter n)
  if !isOp h.se && s.scrub.contains (sessDomain h.se) then ack s h.se Err.DOMAIN_ACCESS_DENIED (List.replicate 16 0)
  else match s.freeSlot h.se with
    | none => ack s h.se Err.SESSION_LIMIT (List.replicate 16 0)
    | some k =>
      let se := h.se / 4096 * 4096 + k * 1024 + sessDomain h.se
      let n : List Byte := toLe 16 (Config.nonce s.nonces).toNat
      let r : SessRec := {
        isOpen := true
        key := kmac256 key (nonce ++ n ++ beBytes 2 se) 256 (ascii "VT1 SESSION")
        port := port == 17
        lastAt := s.timer
        alertNext := s.alertSeq }
      let t := (({ s with nonces := s.nonces + 1 } : State).freshSel se).setSess se r
      ack t se 0 n

/-- An OPEN frame: checks 1 to 4 of R439, then R435. -/
def State.openFrame (s : State) (port : Nat) (bs : List Byte) : State :=
  let h := ctlHead bs
  let key := cmdKey (roleOf h.se) port (s.cmdGen (roleOf h.se))
  if h.ops ≠ 0 ∨ bs.length ≠ 48 then s.discardFrame
  else if !s.roleOk h.se then s.discardFrame
  else if !tagOk key bs then s.tagFail
  else if h.counter ≤ mapGet 0 s.openCnt (roleOf h.se) then
    (s.inc (reg pgMGMT Off.MGMT_REPLAYS)).sendFrame port none "CTRL" []
      (ctlFrame key 3 h.se 0 0xFF Err.AUTH_REPLAY.toNat h.counter (List.replicate 16 0))
  else s.openAccept port h (bs.drop 32) key

/-- A frame of an open session passes checks 2 to 4, and is noted as accepted; none where it ends there (R439). -/
def State.sessionChecks (s : State) (port : Nat) (bs : List Byte) : State × Bool :=
  let h := ctlHead bs
  let r := s.getSess h.se
  if 8192 ≤ h.se ∨ r.isOpen = false then (s.discardFrame, false)
  else if !tagOk (keyBytes r.key) bs then (s.tagFail, false)
  else if h.counter ≤ r.counter.toNat then
    match (if h.counter = r.counter.toNat ∧ h.tag = r.lastTag then r.lastResp else none) with
    | some resp => ((s.inc (reg pgMGMT Off.MGMT_RESENDS)).sendFrame port none "CTRL" [] resp, false)
    | none => ((s.inc (reg pgMGMT Off.MGMT_REPLAYS)).respond h.se port h.counter Err.AUTH_REPLAY 0xFF [] false, false)
  else
    ((s.setSess h.se { r with
        counter := BitVec.ofNat 64 h.counter
        port := port == 17
        lastAt := s.timer
        lastTag := h.tag
        lastResp := none }).inc (reg pgMGMT Off.MGMT_FRAMES), true)

/-- A REQUEST frame (R439). -/
def State.requestFrame (s : State) (port : Nat) (bs : List Byte) : State :=
  let h := ctlHead bs
  match (if 64 < h.ops then none else ctlEntries h.ops (bs.drop 32)) with
  | none => s.discardFrame
  | some es =>
    match s.sessionChecks port bs with
    | (t, false) => t
    | (t, true) =>
      if !sizesOk es then t.respond h.se port h.counter Err.CTRL_FRAME_INVALID 0xFF [] true
      else t.startFrame { se := h.se, port := port, framed := true, counter := h.counter, total := es.length, rest := es }

/-- A CLOSE frame ends its session; it is not answered (R436; log entry 16, DESIGN CHOICE). -/
def State.closeFrame (s : State) (port : Nat) (bs : List Byte) : State :=
  let h := ctlHead bs
  if h.ops ≠ 0 ∨ bs.length ≠ 32 then s.discardFrame
  else match s.sessionChecks port bs with
    | (t, false) => t
    | (t, true) => t.closeSess h.se

/-- A control frame is taken for processing (R439, R480, R553). -/
def State.takeFrame (s : State) (port : Nat) (bs : List Byte) : State :=
  let h := ctlHead bs
  if !s.servesControl port then s.discardFrame
  else if bs.length < 32 ∨ 8960 < bs.length ∨ h.version ≠ 1 then s.discardFrame
  else match h.type with
    | 0 => s.requestFrame port bs
    | 2 => s.openFrame port bs
    | 4 => s.closeFrame port bs
    | _ => s.discardFrame

/-- Start a job that waited for the frame in progress. -/
def State.startJob (s : State) : Job → State
  | .frame port _ bs => s.takeFrame port bs
  | .entry se e =>
    if (s.getSess se).isOpen then
      s.startFrame { se := se, port := 16 + b2n (s.getSess se).port, framed := false, rest := [e] }
    else s

/-- Start waiting jobs in order while no frame is in progress (R439). -/
def State.nextJobs : Nat → State → State
  | 0, s => s
  | n + 1, s => if s.frame.isSome then s else match s.jobs with
    | [] => s
    | j :: js => nextJobs n (({ s with jobs := js } : State).startJob j)

/-- A job arrives: it waits for the frame in progress, or starts (R439: one frame at a time). -/
def State.submit (s : State) (j : Job) : State :=
  let s : State := { s with jobs := s.jobs ++ [j] }
  State.nextJobs s.jobs.length s

/-- An entry of a session outside a frame, under the same checks as an entry of one (log entry 16, DESIGN CHOICE). -/
def State.lone (s : State) (se : Nat) (e : CtlEntry) : State := s.submit (.entry se e)

/-- A lone WR32 of a session. -/
def State.write32 (s : State) (se a : Nat) (v : Word) : State := s.lone se { op := 2, addr := a, value := v.toNat }

/-- A lone RD32 of a session. -/
def State.read32 (s : State) (se a : Nat) : State := s.lone se { op := 1, addr := a }

/-- A control frame of a type arrives on a port; one on a fabric port is discarded and counted (R437, R439, R456). -/
def State.ctlArrive (s : State) (type : Nat) (rx : Rx) (bs : List Byte) : State :=
  if (ctlHead bs).type ≠ type ∧ [0, 2, 4].contains (ctlHead bs).type = true then s
  else match s.rxFrame rx with
    | (t, false) => t
    | (t, true) =>
      if rx.port.toNat < 16 then t.discardFrame
      else t.submit (.frame rx.port.toNat rx.secured bs)

/-! ## A waiting POLL32 (R441) -/

/-- The POLL32 that waits: its frame, entry and deadline. -/
def State.pollAt (s : State) : Option (FrameRec × CtlEntry × Nat) :=
  match s.frame with
  | some f => match f.poll, f.rest with
    | some dl, e :: _ => some (f, e, dl)
    | _, _ => none
  | none => none

/-- The polled register has its value: the frame goes on. -/
def State.pollMatch (s : State) : State :=
  match s.pollAt with
  | none => s
  | some (f, e, _) =>
    let a := e.addr % 2 ^ 28
    if s.pollHolds f.se a e.value then
      let v := (s.regValue f.se a).toNat
      let t := s.readEffect f.se a
      let t := t.startFrame (f.next e v [])
      State.nextJobs t.jobs.length t
    else s

/-- The time of a POLL32 ends (R441, R442). -/
def State.pollTimeout (s : State) : State :=
  match s.pollAt with
  | none => s
  | some (f, e, dl) =>
    let a := e.addr % 2 ^ 28
    if s.pollHolds f.se a e.value || decide (s.evaluated < dl) then s
    else
      let t := s.finishFrame f Err.POLL_TIMEOUT f.done.length (f.next e (s.regValue f.se a).toNat []).done
      State.nextJobs t.jobs.length t

/-! ## Idle close and ALERT frames (R436, R531) -/

/-- A session without an accepted frame for MGMT_SESSION_IDLE seconds ends (R436). -/
def State.idleClose (s : State) (x : Nat) : State :=
  let r := s.getSess x
  if r.isOpen && decide (fld (s.rd (reg pgMGMT Off.MGMT_SESSION_IDLE)) 0 12 * 10 ^ 9 ≤ s.evaluated - r.lastAt) then s.closeSess x else s

/-- Queue entries that a session's next ALERT frame carries (R531). -/
def State.alertEntries (s : State) (x : Nat) : List Alert :=
  let r := s.getSess x
  let min := fld (s.srd x (reg pgERR Off.ERR_ALERT_CFG)) 1 2
  (s.alerts.filter fun e => decide (r.alertNext ≤ e.seq) && decide (min ≤ e.sev)
    && (isOp x || (decide (pgCTX 0 ≤ e.page) && s.ctxDom (e.page - pgCTX 0) == some (sessDomain x)))).take 64

/-- Bytes of a queue entry in network order (R529). -/
def Alert.frameBytes (e : Alert) : List Byte := e.fields.flatMap fun f => beBytes f.1 f.2

/-- An ALERT frame is sent: at most one in 100 us, and only with entries to carry (R531). -/
def State.alertFrame (s : State) (x : Nat) : State :=
  let r := s.getSess x
  let es := s.alertEntries x
  let due := match r.alertAt with | some t => decide (t + 100000 ≤ s.timer) | none => true
  if !(r.isOpen && bit (s.srd x (reg pgERR Off.ERR_ALERT_CFG)) 0 && due) then s
  else match es.getLast? with
    | none => s
    | some last =>
      let bs := ctlFrame (keyBytes r.key) 5 x es.length 0xFF 0 r.alertCounter (es.flatMap Alert.frameBytes)
      let s := s.setSess x { r with alertCounter := r.alertCounter + 1, alertNext := last.seq + 1, alertAt := some s.timer }
      let k := reg pgERR Off.ERR_ALERT_SENT
      (s.swr x k (satAdd (s.srd x k) 1)).sendFrame (16 + b2n r.port) none "CTRL" [] bs

end Sys2Proof.Machine
end

