-- ==== Sys2Proof/Machine/Event.lean ====
section
/-! DEFINITION. What every row's meaning shares: answering a next state with the queue as it was, rows that name a unit outside the module, and rows that are not enabled. -/

namespace Sys2Proof.Machine

open Sys2Proof

/-- The answer of every meaning. -/
abbrev Answer := Host.Outcome State Fault Refusal

/-- Answer the next state t; the queue of waiting commands stays the machine's own, whatever the command did. -/
def State.commit (s t : State) : Answer := .next { t with pending := s.pending }

/-- An event whose condition does not hold now has no effect (log entry 3, DESIGN CHOICE). -/
def State.whenever (s : State) (b : Bool) (t : State) : Answer := s.commit (if b then t else s)

/-- An event of a unit that the module does not have stops: the tables of R20 to R26 and R588 give the unit no existence, and no rule an effect. -/
def State.onUnit (s : State) (b : Bool) (t : State) : Answer := if b then s.commit t else .fault .noSuchUnit

/-- A write to a register of a unit that the module does not have meets an unassigned page or a reserved offset, and has no effect (R17, R589). -/
def State.onPage (s : State) (b : Bool) (t : State) : Answer := s.commit (if b then t else s)

/-- A physical core: cluster 0 to 2,999, core 0 to 99 (R26, R588). -/
def coreExists (cl : Cluster) (core : CoreIx) : Bool := decide (cl.toNat < 3000) && decide (core.toNat < 100)

/-- A physical cluster. -/
def cluExists (cl : Cluster) : Bool := decide (cl.toNat < 3000)

end Sys2Proof.Machine
end

