-- ==== Sys2Proof/Machine/RunRows.lean ====
section
/-! DEFINITION. Run control, pre-emption, binding, classes and partitions as rows of the table (09_contexts.md). A row that names a register is a lone WR32 entry of its session: the same checks and the same effect as that entry of a control frame (R441; log entry 16, DESIGN CHOICE). -/

namespace Sys2Proof.Machine

open Sys2Proof

/-- A session writes a register of a page (R441). -/
def State.put (s : State) (se : SessIx) (page off : Nat) (v : Word) : State := s.write32 se.toNat (reg page off) v

/-- A session writes a register of a context page. -/
def State.putCtx (s : State) (se : SessIx) (c : Ctx) (off : Nat) (v : Word) : State := s.put se (pgCTX c.toNat) off v

/-- A session writes a register of a cluster page. -/
def State.putClu (s : State) (se : SessIx) (cl : Cluster) (off : Nat) (v : Word) : State := s.put se (pgCLU cl.toNat) off v

/-! ## Starts and run control -/

/-- REPLAY (R237): CTX_CTRL.REPLAY is written 1. -/
def execReplay (se : SessIx) (c : Ctx) (s : State) : Answer := s.commit (s.putCtx se c Off.CTX_CTRL 1)

/-- PREEMPT (R268): CTX_RUN_CTRL.PREEMPT is written 1. -/
def execPreempt (se : SessIx) (c : Ctx) (s : State) : Answer := s.commit (s.putCtx se c Off.CTX_RUN_CTRL 1)

/-- RESUME (R274): CTX_RUN_CTRL.RESUME is written 1. -/
def execResume (se : SessIx) (c : Ctx) (s : State) : Answer := s.commit (s.putCtx se c Off.CTX_RUN_CTRL 2)

/-- RESTART (R274): CTX_RUN_CTRL.RESTART is written 1. -/
def execRestart (se : SessIx) (c : Ctx) (s : State) : Answer := s.commit (s.putCtx se c Off.CTX_RUN_CTRL 4)

/-- RELEASE (R274): CTX_RUN_CTRL.RELEASE is written 1. -/
def execRelease (se : SessIx) (c : Ctx) (s : State) : Answer := s.commit (s.putCtx se c Off.CTX_RUN_CTRL 8)

/-- CLAIM_GRANT (R266): the tie rule picks the context among the waiting ones. -/
def execClaimGrant (c : Ctx) (s : State) : Answer := s.commit (s.claimGranted c.toNat)

/-- ENGINE_STOPPED (R269): engine 0 front end, 1 array, 2 tile drain, 3 vector, 4 mover, 5 router, 6 mask walk. -/
def execEngineStopped (c : Ctx) (eng : BitVec 3) (s : State) : Answer :=
  match engineOf eng.toNat with
  | some e => s.commit (s.engineStopped c.toNat e)
  | none => .fault .noSuchUnit

/-- SAVE_DONE (R270). -/
def execSaveDone (c : Ctx) (s : State) : Answer := s.commit (s.saveDone c.toNat)

/-- RESTORE_DONE (R271). -/
def execRestoreDone (c : Ctx) (s : State) : Answer := s.commit (s.restoreDone c.toNat)

/-! ## Binding, classes, partitions, row maps -/

/-- CTX_BIND_WRITE (R254). -/
def execCtxBindWrite (se : SessIx) (c : Ctx) (v : Word) (s : State) : Answer := s.commit (s.putCtx se c Off.CTX_BIND v)

/-- CTX_PRIO_WRITE (R258). -/
def execCtxPrioWrite (se : SessIx) (c : Ctx) (v : Word) (s : State) : Answer := s.commit (s.putCtx se c Off.CTX_PRIO v)

/-- GLOB_DOM_CLASS_MAX_WRITE (R258): the domain is the one GLOB_DOM_SEL of the session selects. -/
def execGlobDomClassMaxWrite (se : SessIx) (v : Word) (s : State) : Answer := s.commit (s.put se pgGLOB Off.GLOB_DOM_CLASS_MAX v)

/-- CLU_PART_WRITE (R256). -/
def execCluPartWrite (se : SessIx) (cl : Cluster) (v : Word) (s : State) : Answer :=
  s.onPage (cluExists cl) (s.putClu se cl Off.CLU_PART v)

/-- CORE_ROW_MAP_WRITE (R103): the core is the one CLU_CORE_SEL of the session selects. -/
def execCoreRowMapWrite (se : SessIx) (cl : Cluster) (v : Word) (s : State) : Answer :=
  s.onPage (cluExists cl) (s.putClu se cl Off.CORE_ROW_MAP v)

/-! ## Status and counters of contexts and clusters -/

/-- CTX_NAN_STATUS_CLEAR (R63). -/
def execCtxNanStatusClear (se : SessIx) (c : Ctx) (v : Word) (s : State) : Answer := s.commit (s.putCtx se c Off.CTX_NAN_STATUS v)

/-- CTX_SAT_COUNT_CLEAR (R66). -/
def execCtxSatCountClear (se : SessIx) (c : Ctx) (v : Word) (s : State) : Answer := s.commit (s.putCtx se c Off.CTX_SAT_COUNT v)

/-- CTX_ACC_REPLAY_COUNT_CLEAR (R132). -/
def execCtxAccReplayCountClear (se : SessIx) (c : Ctx) (v : Word) (s : State) : Answer :=
  s.commit (s.putCtx se c Off.CTX_ACC_REPLAY_COUNT v)

/-- CORE_ACC_REPLAYS_CLEAR (R131). -/
def execCoreAccReplaysClear (se : SessIx) (cl : Cluster) (v : Word) (s : State) : Answer :=
  s.onPage (cluExists cl) (s.putClu se cl Off.CORE_ACC_REPLAYS v)

/-- CORE_CNT_CLEAR (R103). -/
def execCoreCntClear (se : SessIx) (cl : Cluster) (v : Word) (s : State) : Answer :=
  s.onPage (cluExists cl) (s.putClu se cl Off.CORE_CNT_CLEAR v)

/-- CLU_CNT_CLEAR (R154). -/
def execCluCntClear (se : SessIx) (cl : Cluster) (v : Word) (s : State) : Answer :=
  s.onPage (cluExists cl) (s.putClu se cl Off.CLU_CNT_CLEAR v)

/-- RTE_CNT_CLEAR (R187). -/
def execRteCntClear (se : SessIx) (cl : Cluster) (v : Word) (s : State) : Answer :=
  s.onPage (cluExists cl) (s.put se (pgRTE cl.toNat) Off.RTE_CNT_CLEAR v)

end Sys2Proof.Machine
end

