-- ==== Sys2Proof/Machine/CollRows.lean ====
section
/-! DEFINITION. Collectives, votes and steps, the update die, parcels, queue pairs, rings and ports as rows (13_collectives.md, 14_update_die.md, 15_control_plane.md). -/

namespace Sys2Proof.Machine

open Sys2Proof

/-! ## Windows, results and deadlines -/

/-- COLLECTIVE_DEADLINE (R375): an expired deadline of an instance, or of the vote for tensor 0xFFFF. -/
def execCollectiveDeadline (g : BitVec 12) (t : BitVec 16) (s : State) : Answer := s.commit (s.deadline g.toNat t.toNat)

/-- SECOND_DEADLINE (R375, R380). -/
def execSecondDeadline (g : BitVec 12) (t : BitVec 16) (s : State) : Answer := s.commit (s.secondDeadline g.toNat t.toNat)

/-- RESULT_RECEIVED (R365). -/
def execResultReceived (rx : Rx) (f : Gw) (crc : DWord) (s : State) : Answer := s.commit (s.rxGw rx f fun t => t.resultFrame f crc)

/-- END_NOTICE_RECEIVED (R377); a tensor it completes may hand its copy over (R409). -/
def execEndNoticeReceived (rx : Rx) (f : Gw) (crc : DWord) (s : State) : Answer :=
  s.commit (s.rxGw rx f fun t => (t.endNotice f crc).handCopies)

/-- ABORT_RECEIVED (R379). -/
def execAbortReceived (rx : Rx) (f : Gw) (crc : DWord) (s : State) : Answer := s.commit (s.rxGw rx f fun t => t.abortFrame f crc)

/-- VOTE_DECISION (R380). -/
def execVoteDecision (rx : Rx) (f : Gw) (crc : DWord) (s : State) : Answer := s.commit (s.rxGw rx f fun t => t.decision f crc)

/-! ## Votes and steps -/

/-- The vote of a context leaves once its conditions hold, after any twin exchange; a VOTE whose group's abort decision has come before it sends its vote and retires at once (R379, R380, R535; log entry 42, DEDUCED). -/
def State.voteSend (s : State) (c : Nat) : State :=
  match s.voteNext c with
  | some (_, g) =>
    if !s.voteReady c then s
    else if (s.getGrp g).shut then (if (s.getGrp g).voteSent then s else s.sendVote c g).retireVotes c g
    else s.twinStep c g
  | none => s

/-- VOTE_SEND (R380). -/
def execVoteSend (c : Ctx) (s : State) : Answer := s.commit (s.voteSend c.toNat)

/-- Does the step of a context resolve now, and with COMMIT (R393, R415)? -/
def State.commits (s : State) (c : Nat) : Bool :=
  (s.getCtx c).stepPending && (s.getStep c).commit && (s.getStep c).decision == some true && s.burstFits c

/-- A step resolves; at a commit the rings of its context advance (R415, R448, R452). -/
def State.stepResolve (s : State) (c : Nat) : State :=
  let t := s.resolveStep c
  if s.commits c then t.ringsCommit c (s.step' c).toNat else t

/-- STEP_RESOLVE (R415). -/
def execStepResolve (c : Ctx) (s : State) : Answer := s.commit (s.stepResolve c.toNat)

/-- UPD_CHUNK_LANDED (R406, R409): the oldest landed chunk. -/
def execUpdChunkLanded (s : State) : Answer := s.commit s.landChunk.handCopies

/-- UPD_CTX_EPOCH_WRITE (R413): the context is the one UPD_CTX_SEL of the session selects. -/
def execUpdCtxEpochWrite (se : SessIx) (v : Word) (s : State) : Answer := s.commit (s.put se pgUPD Off.UPD_CTX_EPOCH v)

/-- UPD_PROG_CTRL_WRITE (R401): the slot is the one UPD_PROG_SEL of the session selects. -/
def execUpdProgCtrlWrite (se : SessIx) (v : Word) (s : State) : Answer := s.commit (s.put se pgUPD Off.UPD_PROG_CTRL v)

/-- COLL_CNT_CLEAR (R388). -/
def execCollCntClear (se : SessIx) (v : Word) (s : State) : Answer := s.commit (s.put se pgCOLL Off.COLL_CNT_CLEAR v)

/-- UPD_CNT_CLEAR (R424). -/
def execUpdCntClear (se : SessIx) (v : Word) (s : State) : Answer := s.commit (s.put se pgUPD Off.UPD_CNT_CLEAR v)

/-! ## Parcels -/

/-- PARCEL_REQ_RECEIVED (R385). -/
def execParcelReqReceived (rx : Rx) (f : Gw) (crc : DWord) (s : State) : Answer := s.commit (s.rxGw rx f fun t => t.parcelReq f crc)

/-- LANDING_GRANT (R385). -/
def execLandingGrant (s : State) : Answer := s.commit s.landGrant

/-- PARCEL_GRANT_RECEIVED (R384). -/
def execParcelGrantReceived (rx : Rx) (f : Gw) (crc : DWord) (s : State) : Answer := s.commit (s.rxGw rx f fun t => t.parcelGrant f crc)

/-- PARCEL_WRITE_ACK (R384). -/
def execParcelWriteAck (p : BitVec 12) (s : State) : Answer := s.commit (s.parcelAck p.toNat)

/-- RDMA_WRITE_RECEIVED (R446). -/
def execRdmaWriteReceived (rx : Rx) (q : BitVec 12) (rkey : Word) (a : DWord) (data : List Byte) (imm : Option Word) (s : State) : Answer :=
  s.commit (s.rdmaWrite rx q.toNat rkey a data imm)

/-- LANDING_SLOT_RELEASE (R386). -/
def execLandingSlotRelease (l : BitVec 12) (s : State) : Answer := s.commit (s.landRelease l.toNat)

/-! ## Queue pairs -/

/-- QP_ERROR (R387, R449): the ACK timer has expired and no retry is left. -/
def execQpError (q : BitVec 12) (s : State) : Answer :=
  s.whenever (s.qpLate q.toNat && decide (s.qpLimit q.toNat ≤ (s.getQp q.toNat).retries)) (s.qpError q.toNat)

/-- A CNP for a queue pair of the port it arrives on (R446). -/
def State.cnpArrive (s : State) (rx : Rx) (q : Nat) : State :=
  match s.rxFrame rx with
  | (t, false) => t
  | (t, true) => if t.qpState q = 1 ∧ t.qpPort q = rx.port.toNat then t.qpCnp q else t

/-- CNP_RECEIVED (R446). -/
def execCnpReceived (rx : Rx) (q : BitVec 12) (s : State) : Answer := s.commit (s.cnpArrive rx q.toNat)

/-- CNP_RATE_RECOVER (R446). -/
def execCnpRateRecover (q : BitVec 12) (s : State) : Answer := s.commit (s.qpRecover q.toNat)

/-- QP_ACK_TIMEOUT (R458). -/
def execQpAckTimeout (q : BitVec 12) (s : State) : Answer := s.commit (s.qpRetry q.toNat)

/-- MGMT_QP_VALID_WRITE (R445): the entry is the one MGMT_QP_SEL of the session selects. -/
def execMgmtQpValidWrite (se : SessIx) (v : Word) (s : State) : Answer := s.commit (s.put se pgMGMT Off.MGMT_QP_CFG v)

/-! ## Rings -/

/-- INGEST_POLL (R447). -/
def execIngestPoll (r : BitVec 8) (s : State) : Answer := s.commit (s.ringPoll r.toNat)

/-- INGEST_INDEX_READ (R447). -/
def execIngestIndexRead (r : BitVec 8) (ix : DWord) (s : State) : Answer := s.commit (s.ringIndex r.toNat ix.toNat)

/-- INGEST_RECORD_LANDED (R447, R449). -/
def execIngestRecordLanded (r : BitVec 8) (data : List Byte) (s : State) : Answer := s.commit (s.ringLand r.toNat data)

/-- INGEST_RELEASE (R448). -/
def execIngestRelease (r : BitVec 8) (s : State) : Answer := s.commit (s.ringRelease r.toNat)

/-- CKPT_WRITE_ACK (R450): checkpoint rings are numbered from 256 (R457). -/
def execCkptWriteAck (r : BitVec 8) (s : State) : Answer := s.commit (s.ckptAck (256 + r.toNat))

/-- MGMT_RING_ENABLE_WRITE (R447): the ring is the one MGMT_RING_SEL of the session selects. -/
def execMgmtRingEnableWrite (se : SessIx) (v : Word) (s : State) : Answer := s.commit (s.put se pgMGMT Off.MGMT_RING_CTRL v)

/-! ## Ports -/

/-- LINK_UP (R459, R553): ports link only while they are being trained or later; in the recovery stage, only the host ports boot with. -/
def State.portsLive (s : State) (p : Nat) : Bool :=
  s.stage == 7 || s.stage == 8 || (s.stage == 9 && decide (16 ≤ p))

/-- LINK_UP (R459). -/
def execLinkUp (p : BitVec 5) (s : State) : Answer :=
  s.onUnit (decide (p.toNat < 18)) (if s.portsLive p.toNat then s.portUp p.toNat else s)

/-- LINK_DOWN (R459). -/
def execLinkDown (p : BitVec 5) (s : State) : Answer := s.onUnit (decide (p.toNat < 18)) (s.portDown p.toNat)

/-- SAK_INSTALLED (R453). -/
def execSakInstalled (p : BitVec 5) (s : State) : Answer := s.onUnit (decide (p.toNat < 18)) (s.sakInstalled p.toNat)

/-- MSEC_DOWN (R453). -/
def execMsecDown (p : BitVec 5) (s : State) : Answer := s.onUnit (decide (p.toNat < 18)) (s.msecDown p.toNat)

/-- PFC_PAUSE_RECEIVED (R428). -/
def execPfcPauseReceived (p : BitVec 5) (mask : BitVec 8) (quanta : List (BitVec 16)) (s : State) : Answer :=
  s.onUnit (decide (p.toNat < 18)) (s.pfcFrame p.toNat mask.toNat (quanta.map BitVec.toNat))

/-- ETH_CNT_CLEAR (R459). -/
def execEthCntClear (se : SessIx) (p : BitVec 5) (v : Word) (s : State) : Answer :=
  s.onPage (decide (p.toNat < 18)) (s.put se (pgETH p.toNat) Off.ETH_CNT_CLEAR v)

/-- PTP_CNT_CLEAR (R460). -/
def execPtpCntClear (se : SessIx) (v : Word) (s : State) : Answer := s.commit (s.put se pgPTP Off.PTP_CNT_CLEAR v)

end Sys2Proof.Machine
end

