-- ==== Sys2Proof/Machine/CoreRows.lean ====
section
/-! DEFINITION. What the engines of a cluster do on their own after a command has issued: waits that end, array passes, tile drains, and the retires of vector, mover, router and send commands (03_matrix_core.md, 05_vector_engine.md, 08_command_streams.md). -/

namespace Sys2Proof.Machine

open Sys2Proof

/-! ## Waits at issue -/

/-- WAIT_COND_SATISFIED (R245): the condition of a held WAIT_COND is true on a later cycle. -/
def execWaitCondSatisfied (c : Ctx) (s : State) : Answer := s.commit (s.condWaitEnd c.toNat)

/-- SEMAPHORE_WAIT_END (R231): the semaphore of a held command has reached WAIT_DEC. -/
def execSemaphoreWaitEnd (c : Ctx) (s : State) : Answer := s.commit (s.semWaitEnd c.toNat)

/-- FENCE_WAIT_END (R217, R239): every earlier command of a held FENCE command, or STREAM_END, has retired. -/
def execFenceWaitEnd (c : Ctx) (s : State) : Answer := s.commit (s.fenceWaitEnd c.toNat)

/-- SEND_LOG_WAIT_END (R372): records of the send log are free again. -/
def execSendLogWaitEnd (c : Ctx) (s : State) : Answer := s.commit (s.sendLogWake c.toNat)

/-! ## Arrays -/

/-- The shadow load of the first pass of a core's queue completes, unless the ledger freezes the core (R81): its weight tile and metadata are latched, damaged words are corrected, or a fault is taken (R75, R93, R101, R162). A pass whose every row is skipped loads none (R599). -/
def State.weightLoad (s : State) (cl core : Nat) (errs : List Damage) : State :=
  let key := coreKey cl core
  match (s.getCore key).queue.find? Pass.isPass with
  | none => s
  | some p =>
    if p.loaded || s.allSkipped p || !s.engineRuns p.ctx .array || s.coreFrozen cl core then s
    else match s.passDamage cl core errs with
      | (t, some f) => t.passFault cl core p f
      | (t, none) => match t.latchWeights p with
        | .error f => t.passFault cl core p f
        | .ok (ws, ix) => t.modCore key fun r => r.setPass { p with loaded := true, wts := ws, idx := ix }

/-- May the pass at the head of a core's queue issue (R75, R77, R80, R81, R85, R93, R95)? Every row of the passes before it has entered; a member waits for its first seed, a head for the tiles its window is fixed on; a pass whose every row is skipped needs no weights. -/
def State.passReady (s : State) (cl core : Nat) (p : Pass) : Bool :=
  let r := s.getCore (coreKey cl core)
  p.isPass && p.stall == 0 && p.granted && !s.frozenPass cl core p && (p.loaded || s.allSkipped p) && r.clear p && s.engineRuns p.ctx .array && s.chainWhole cl p
    && (r.air.all fun x => !x.isPass || x.full)
    && (if p.chain.isSome && decide (0 < p.pos) then r.seeds.any fun x => x.1 == p.tag p.pos else p.chain.isNone || s.tailFree cl core p)

/-- The pass at the head of a core's queue issues; damaged words it meets are corrected, or fault it (R78, R101, R518). -/
def State.passIssue (s : State) (cl core : Nat) (errs : List Damage) : State :=
  match (s.getCore (coreKey cl core)).queue with
  | [] => s
  | p :: _ =>
    if s.passReady cl core p then
      match s.passDamage cl core errs with
      | (t, some f) => t.passFault cl core p f
      | (t, none) => t.issueOnCore cl core p
    else s

/-- The operation that a hazard holds goes on; the cycles it waited on each cause are counted (R77, R85, R95, R103). -/
def State.hazardEnd (s : State) (cl core : Nat) (cycles : StallCycles) : State :=
  let key := coreKey cl core
  match (s.getCore key).queue with
  | [] => s
  | p :: _ =>
    if p.stall ≠ 0 && (s.getCore key).clear p && s.engineRuns p.ctx (if p.isPass then .array else .tileDrain) then
      let s := if p.stall % 2 = 1 then s.inc (wreg core (pgCLU cl) Off.CORE_HAZARD_STALLS) cycles.tile.toNat else s
      let s := if 2 ≤ p.stall then s.inc (wreg core (pgCLU cl) Off.CORE_ISSUE_STALLS) cycles.issue.toNat else s
      s.modCore key CoreRec.settle
    else s

/-- A replay runs; one that the ledger freezes waits (R115, R123, R298). -/
def State.accReplay (s : State) (cl core : Nat) : State :=
  match s.replayDue cl core with
  | some p => if s.engineRuns p.ctx .array && !s.frozenPass cl core p then s.replay cl core p else s
  | none => s

/-- Frozen cycles of an array, each counted once, in the counter of the earliest cause of R82 after the ledger's. -/
def State.countFreeze (s : State) (cl core : Nat) (fs : List Freeze) : State :=
  fs.foldl (fun t f =>
    if f.drain then t.inc (wreg core (pgCLU cl) Off.CORE_FREEZE_DRAIN) f.cycles.toNat
    else if f.feed then t.inc (wreg core (pgCLU cl) Off.CORE_FREEZE_FEED) f.cycles.toNat
    else if f.weight then t.inc (wreg core (pgCLU cl) Off.CORE_FREEZE_WEIGHT) f.cycles.toNat
    else t) s

/-- A pass that is done writes its rows and retires (R78). -/
def State.finishPass (s : State) (cl core : Nat) (p : Pass) : State :=
  match s.commitRows cl core p p.m with
  | .error f => s.passFault cl core p f
  | .ok (t, q) => (t.retirePass cl core q).modCore (coreKey cl core) CoreRec.proceed

/-- The oldest pass of a core's array that has written or handed on its last sum retires; the frozen cycles of its time in the array are counted (R78, R82). -/
def State.passRetire (s : State) (cl core : Nat) (fs : List Freeze) : State :=
  match (s.getCore (coreKey cl core)).air.find? fun p => p.isPass && s.passDone cl core p with
  | some p => if s.engineRuns p.ctx .array && !s.frozenPass cl core p then (s.countFreeze cl core fs).finishPass cl core p else s
  | none => s

/-- A tile drain in flight reads its tile, writes its rows and retires; damaged words it meets are corrected, or fault it (R101, R225). -/
def State.drainRetire (s : State) (cl core : Nat) (errs : List Damage) : State :=
  let key := coreKey cl core
  match (s.getCore key).air.find? fun p => !p.isPass with
  | none => s
  | some p =>
    if s.engineRuns p.ctx .tileDrain && !s.coreFrozen cl core then
      match s.passDamage cl core errs with
      | (t, some f) => t.passFault cl core p f
      | (t, none) =>
        if readsPoison (t.getCore key) p (t.domOf p.ctx) then t.passFault cl core p ⟨Err.TILE_POISONED, 3 + 4, 0⟩
        else match t.runTileDrain cl core p with
          | .error f => t.passFault cl core p f
          | .ok (u, q) => (u.retireDrain cl core q).modCore key CoreRec.proceed
    else s

/-- WEIGHT_LOAD_DONE (R75). -/
def execWeightLoadDone (cl : Cluster) (x : CoreHit) (s : State) : Answer :=
  s.onUnit (coreExists cl x.core) (s.weightLoad cl.toNat x.core.toNat x.errs)

/-- PASS_ISSUE (R78). -/
def execPassIssue (cl : Cluster) (core : CoreIx) (errs : List Damage) (s : State) : Answer :=
  s.onUnit (coreExists cl core) (s.passIssue cl.toNat core.toNat errs)

/-- HAZARD_WAIT_END (R95). -/
def execHazardWaitEnd (cl : Cluster) (core : CoreIx) (cycles : StallCycles) (s : State) : Answer :=
  s.onUnit (coreExists cl core) (s.hazardEnd cl.toNat core.toNat cycles)

/-- ACC_REPLAY (R115). -/
def execAccReplay (cl : Cluster) (core : CoreIx) (s : State) : Answer :=
  s.onUnit (coreExists cl core) (s.accReplay cl.toNat core.toNat)

/-- PASS_RETIRE (R78). -/
def execPassRetire (cl : Cluster) (x : CoreEnd) (s : State) : Answer :=
  s.onUnit (coreExists cl x.core) (s.passRetire cl.toNat x.core.toNat x.frz)

/-- TILE_DRAIN_RETIRE (R225). -/
def execTileDrainRetire (cl : Cluster) (x : CoreHit) (s : State) : Answer :=
  s.onUnit (coreExists cl x.core) (s.drainRetire cl.toNat x.core.toNat x.errs)

/-! ## Retires of the other engines of a cluster -/

/-- VECTOR_OP_RETIRE (R136). -/
def execVectorOpRetire (c : Ctx) (s : State) : Answer := s.whenever (s.engineRuns c.toNat .vector) (s.vectorRetire c.toNat)

/-- MOVE_RETIRE (R150). -/
def execMoveRetire (c : Ctx) (mv : BitVec 2) (s : State) : Answer := s.whenever (s.engineRuns c.toNat .mover) (s.moveRetire c.toNat mv.toNat)

/-- MASK_WALK_RETIRE (R196). -/
def execMaskWalkRetire (c : Ctx) (mv : BitVec 2) (s : State) : Answer := s.whenever (s.engineRuns c.toNat .maskWalk) (s.walkRetire c.toNat mv.toNat)

/-- ROUTE_RETIRE (R176). -/
def execRouteRetire (c : Ctx) (s : State) : Answer := s.whenever (s.engineRuns c.toNat .router) (s.routeRetire c.toNat)

/-- SEND_RETIRE (R371). -/
def execSendRetire (c : Ctx) (s : State) : Answer := s.commit (s.sendRetire c.toNat)

end Sys2Proof.Machine
end

