-- ==== Sys2Proof/Machine/Ballast.lean ====
section
/-! DEFINITION. Where the ledger draws the ballast of a compute account (R288). -/

namespace Sys2Proof.Machine

open Sys2Proof

/-- What may carry the ballast of a die: cluster indices and cores of the die. -/
structure BallastSites where
  /-- idle cores of ungated clusters, those of the releasing claim first -/
  cores : List (Nat × Nat)
  /-- ungated clusters whose vector engine is idle -/
  vecs : List Nat
  /-- clusters that hold no reservation, in ascending order -/
  gated : List Nat
  /-- does no cluster of the die hold a reservation? -/
  dark : Bool
deriving DecidableEq, Repr

/-- The cores that work, of a cluster of a die. -/
def State.sitesOf (s : State) (a n : Nat) : List (Nat × Nat) :=
  ((List.range 100).filter fun k => !mapGet false s.fuse.coreOff (coreKey (a * 375 + n) k)).map fun k => (n, k)

/-- Is a core of a die one of a context's claim? -/
def State.inClaimOf (s : State) (c a : Nat) (p : Nat × Nat) : Bool :=
  let k := s.claim c
  let cl := a * 375 + p.1
  (s.claimClusters c).any (fun q => q.2 == cl) && (List.range k.coren).any fun i => s.physCore cl (k.core + i) == p.2

/-- The units of a die that no reservation holds and that may carry ballast: spares are among them, a cluster whose supply is fused off is not (R288). -/
def State.ballastSites (s : State) (a : Nat) : BallastSites :=
  let held := s.lresv.filter fun u => u.acct == a && decide (u.ix < 375)
  let fit := (List.range 375).filter fun n => decide (s.cluUse (a * 375 + n) ≠ .off)
  let on := fit.filter fun n => held.any fun u => u.ix == n
  let idle := (on.flatMap (s.sitesOf a)).filter fun p => !held.any fun u => u.ix == p.1 && u.core == some p.2
  let mine := match (s.rail a).freed with
    | some c => idle.filter (s.inClaimOf c a)
    | none => []
  { cores := mine ++ idle.filter fun p => !mine.contains p,
    vecs := on.filter fun n => !held.any fun u => u.ix == n && u.iclass == 2,
    gated := fit.filter fun n => !on.contains n,
    dark := on.isEmpty }

/-- A choice of units: its sum, the clusters it ungates, its vector engines and its cores. -/
structure BallastPlan where
  sum : Nat
  clus : Nat
  vecs : Nat
  cores : Nat
deriving DecidableEq, Repr

/-- The smaller sum first, then fewer clusters ungated, then more cores. -/
def BallastPlan.before (p q : BallastPlan) : Bool :=
  decide (p.sum < q.sum) || (p.sum == q.sum && (decide (p.clus < q.clus) || (p.clus == q.clus && decide (p.vecs < q.vecs))))

/-- The best of a list of plans. -/
def bestPlan (l : List BallastPlan) : Option BallastPlan :=
  l.foldl (fun b p => match b with | some q => if p.before q then some p else b | none => some p) none

/-- Plans of at least b LU that ungate j clusters, over any seven counts of vector engines: seven vector engines are sixty cores (R288). -/
def plansFor (b base ck cv cc j vmax nmax : Nat) : List BallastPlan :=
  let fixed := base + j * ck
  let v0 := cdiv (b - fixed - nmax * cc) cv
  ((List.range 7).map fun i =>
    let v := v0 + i
    let n := cdiv (b - fixed - v * cv) cc
    (⟨fixed + v * cv + n * cc, j, v, n⟩ : BallastPlan)).filter fun p => decide (p.vecs ≤ vmax) && decide (p.cores ≤ nmax)

/-- The units that realise b LU of ballast on a compute account: the smallest sum at or above it, placed in clusters already ungated first, there in the releasing claim's idle cores first, then in others in ascending order. A unit of a cluster that holds no reservation comes with that cluster's own 96 LU, and a die that carries only ballast draws DIE_NET of it (R285, R288; log entry 39, DESIGN CHOICE). -/
def State.ballastUnits (s : State) (a b : Nat) : List (Nat × Option Nat × Nat) :=
  if b = 0 then []
  else
    let x := s.ballastSites a
    let cc := s.scaled a 14
    let cv := s.scaled a 120
    let ck := s.scaled a 96
    let net := if x.dark then s.scaled a 800 else 0
    let have0 := x.cores.length * cc + x.vecs.length * cv
    let j0 := if have0 ≥ b then 0 else min x.gated.length (cdiv (b - have0 - net) (ck + cv + 100 * cc))
    let plan (j : Nat) : List BallastPlan :=
      plansFor b (if j = 0 then 0 else net) ck cv cc j (x.vecs.length + j) (x.cores.length + ((x.gated.take j).flatMap (s.sitesOf a)).length)
    let js := ((List.range 9).map (j0 + ·)).filter fun j => decide (j ≤ x.gated.length)
    let p := (bestPlan (js.flatMap plan)).getD ⟨0, x.gated.length, x.vecs.length + x.gated.length, x.cores.length + 100 * x.gated.length⟩
    let new := x.gated.take p.clus
    (new.map fun n => (n, none, 2)) ++ ((x.cores ++ new.flatMap (s.sitesOf a)).take p.cores).map (fun q => (q.1, some q.2, 0))
      ++ ((x.vecs ++ new).take p.vecs).map fun n => (n, none, 1)

/-- The ballast of every compute account after a tick: a unit granted to work is taken over, and the ballast moves (R288, R298). -/
def State.placeBallast (s : State) : State :=
  (List.range 8).foldl (fun t a =>
    let us := t.ballastUnits a (t.account a - t.modelledWork a)
    if us = (t.rail a).units then t else t.modRail a fun r => { r with units := us }) s

end Sys2Proof.Machine
end

