-- ==== Sys2Proof/Machine/LedgerRows.lean ====
section
/-! DEFINITION. The current ledger's rows: ticks, LSTEP_N, the throttle input, ramp profiles and the ledger's registers (10_current_ledger.md). A tick is 2 ns. -/

namespace Sys2Proof.Machine

open Sys2Proof

/-- A granted tile drain at the head of a core's queue enters flight (R93, R225). -/
def State.drainsGo (s : State) : State :=
  (s.cores.filter fun p => match p.2.queue with | x :: _ => !x.isPass && x.granted | [] => false).foldl
    (fun t p => t.modCore p.1 CoreRec.proceed) s

/-- LEDGER_TICK (R287): the operand is the level of THROTTLE_N, low or high. -/
def execLedgerTick (low : Bool) (s : State) : Answer := s.commit (s.ledgerTick low).placeBallast.drainsGo.fabricsGo

/-- The rail has warned for LEDG_LSTEP_LEAD: a rise that waits at the band top, or a throttle release that no low run has ended, goes on (R293, R295). -/
def State.leadElapsed (s : State) (a : Nat) : State :=
  if s.lstep a && !(s.rail a).leadDone && decide (s.leadTicks ≤ (s.rail a).age)
  then s.modRail a fun r => { r with leadDone := true, relHold := r.relHold && s.thr.broken } else s

/-- The account has stayed unchanged for 1 us and no warning stands: LSTEP_N deasserts and the anchor takes its value (R293). -/
def State.lstepEnd (s : State) (a : Nat) : State :=
  if s.lstep a && decide (500 ≤ (s.rail a).still) && !s.lstepHeld a then
    ((s.wrBit (reg pgLEDG Off.LEDG_LSTEP_STATE) a false).wr (railReg a Off.LEDG_RAIL_ANCHOR) (BitVec.ofNat 32 (s.account a))).modRail a
      fun r => { r with leadDone := false }
  else s

/-- LSTEP_LEAD_ELAPSED (R293). -/
def execLstepLeadElapsed (rail : BitVec 3) (s : State) : Answer := s.commit (s.leadElapsed rail.toNat)

/-- LSTEP_DEASSERT (R293). -/
def execLstepDeassert (rail : BitVec 3) (s : State) : Answer := s.commit (s.lstepEnd rail.toNat)

/-- THROTTLE_RECOGNISED (R294): the 50th consecutive low sample. -/
def execThrottleRecognised (s : State) : Answer := s.whenever (!s.thr.throttled && decide (50 ≤ s.thr.low)) s.throttle

/-- LSTEP_N of every rail asserts ahead of a throttle release (R295). -/
def State.releaseWarn (s : State) : State := (List.range 8).foldl State.assertLstep ({ s with thr := { s.thr with warned := true } } : State)

/-- THROTTLE_RELEASE_WARN (R295): the high period has reached 10 us less LEDG_LSTEP_LEAD. -/
def execThrottleReleaseWarn (s : State) : Answer :=
  s.whenever ((s.thr.throttled || s.thr.broken) && decide (0 < s.thr.high) && decide (5000 - s.leadTicks ≤ s.thr.high)) s.releaseWarn

/-- THROTTLE_RELEASE (R295): 10 us of unbroken high samples. -/
def execThrottleRelease (s : State) : Answer := s.whenever ((s.thr.throttled || s.thr.broken) && decide (5000 ≤ s.thr.high)) s.unthrottle

/-- THROTTLE_HELD (R296): 10 ms of unbroken low samples. -/
def execThrottleHeld (s : State) : Answer :=
  s.whenever (!s.thr.held && decide (5000000 ≤ s.thr.low))
    (({ s with thr := { s.thr with held := true } } : State).pageErr pgLEDG Err.THROTTLE_HELD 0 0 2)

/-- THROTTLE_TOGGLING (R296): the 1,000th toggle of an episode. -/
def execThrottleToggling (s : State) : Answer :=
  s.whenever (s.thr.throttled && decide (1000 ≤ s.thr.toggles) && !bit (s.rd (reg pgLEDG Off.EVENT)) 3)
    (s.pageErr pgLEDG Err.THROTTLE_TOGGLING 0 0 8)

/-- The guide of a rail moves to the next segment's target (R292). -/
def State.segmentStart (s : State) (a : Nat) : State :=
  match s.profNext a with
  | some (g, false) => s.modRail a fun r => { r with seg := some g, timer := 0 }
  | _ => s

/-- The hold of the last segment has expired (R292). -/
def State.profileEnd (s : State) (a : Nat) : State :=
  match s.profNext a with
  | some (_, true) => s.modRail a fun r => { r with prof := none, seg := none, guide := 0, timer := 0 }
  | _ => s

/-- PROFILE_SEGMENT_START (R292). -/
def execProfileSegmentStart (rail : BitVec 3) (s : State) : Answer := s.commit (s.segmentStart rail.toNat)

/-- PROFILE_END (R292). -/
def execProfileEnd (rail : BitVec 3) (s : State) : Answer := s.commit (s.profileEnd rail.toNat)

/-- LEDG_RAIL_CEIL_WRITE (R297): accounts 0 to 12 (R281); the offset of an account above them is reserved, and a write there has no effect (R17, R300). -/
def execLedgRailCeilWrite (se : SessIx) (acct : BitVec 4) (v : Word) (s : State) : Answer :=
  s.onPage (decide (acct.toNat < 13)) (s.write32 se.toNat (railReg acct.toNat Off.LEDG_RAIL_CEIL) v)

/-- LEDG_CNT_CLEAR (R299). -/
def execLedgCntClear (se : SessIx) (v : Word) (s : State) : Answer := s.commit (s.put se pgLEDG Off.LEDG_CNT_CLEAR v)

end Sys2Proof.Machine
end

