-- ==== Sys2Proof/Machine/MemRows.lean ====
section
/-! DEFINITION. Memory as rows (12_memory.md): accesses of base dies and of the slow tier's controller, write-combining timers, patrol, region tables, admission fill, quiescing and stack repair. -/

namespace Sys2Proof.Machine

open Sys2Proof

/-! ## Accesses of a context's engines -/

/-- Do engines of a context make accesses now (R269)? -/
def State.accesses (s : State) (c : Nat) : Bool :=
  (s.getCtx c).run == .running || (s.getCtx c).run == .stopping

/-- The parts of n bytes from a that lie in one tag unit each. -/
def unitRuns (a n : Nat) : List (Nat × Nat) :=
  if n = 0 then [] else
    (List.range ((a + n - 1) / 512 - a / 512 + 1)).map fun i =>
      let lo := max a ((a / 512 + i) * 512)
      (lo, min (a + n) ((a / 512 + i + 1) * 512) - lo)

/-- Read every part at its base die; the first bad part's origin code, and whether only a marker made it (R344). -/
def State.dieReads (s : State) (d : Nat) (errs : List (Nat × Nat)) (ps : List (Nat × Nat)) : State × Option (Code × Bool) :=
  ps.foldl (fun acc p =>
    let (t, b) := acc.1.dieRead d p.1 p.2 errs
    (t, acc.2.orElse fun _ => b)) (s, none)

/-- Translate n bytes at a domain address, part by part (R330). -/
def State.xlateRuns (s : State) (d a n : Nat) (wr upd : Bool) : Except Code (List (Nat × Nat)) :=
  (unitRuns a n).mapM fun p => do
    let pa ← s.xlate d p.1 wr upd
    pure (pa, p.2)

/-- Information words of a fault at a domain address (R330, R521). -/
def faultAt (c : Code) (a : Nat) : Flt := ⟨c, a % 2 ^ 32, a / 2 ^ 32 % 2 ^ 20⟩

/-- An engine of a context reads the fast tier as an operand: a refused translation or poison faults the context, and an access to a stack under QUIESCE, or to a granule whose fill is pending, waits (R330, R334, R344, R356, R520). -/
def State.hbmRead (s : State) (c a n : Nat) (errs : List (Nat × Nat)) : State :=
  let d := s.domOf c
  match s.xlateRuns d a n false false with
  | .error e => s.ctxFault c (faultAt e a)
  | .ok ps => if s.accessWaits (ps.map Prod.fst) then s else match s.dieReads d errs ps with
    | (t, none) => t
    | (t, some (e, inh)) => t.ctxFault c ⟨e, 4 * b2n inh, a % 2 ^ 32⟩

/-- Bytes to write at physical addresses, or why they are refused (R214, R330). -/
def State.writePlaces (s : State) (d a : Nat) (data : List Byte) (upd : Bool) : Except Code (List (Nat × Byte)) :=
  (data.zipIdx).mapM fun b => do
    let pa ← s.xlate d (a + b.2) true upd
    if s.hitsImage d (a + b.2) 1 then .error Err.IMAGE_WRITE else pure (pa, b.1)

/-- An engine of a context writes the fast tier; a write to a stack under QUIESCE, or to a granule whose fill is pending, waits (R334, R347, R356). -/
def State.hbmWrite (s : State) (c a : Nat) (data : List Byte) : State :=
  let d := s.domOf c
  match s.writePlaces d a data false with
  | .error e => s.ctxFault c (faultAt e a)
  | .ok bs => if s.accessWaits (bs.map Prod.fst) then s else s.dieWrite d bs

/-- HBM_READ (R344): errs lists damaged codewords by address / 8 with their error patterns. -/
def execHbmRead (c : Ctx) (a : DWord) (n : BitVec 16) (errs : List (Nat × Nat)) (s : State) : Answer :=
  s.whenever (s.accesses c.toNat) (s.hbmRead c.toNat a.toNat n.toNat errs)

/-- HBM_WRITE (R347). -/
def execHbmWrite (c : Ctx) (a : DWord) (data : List Byte) (s : State) : Answer :=
  s.whenever (s.accesses c.toNat) (s.hbmWrite c.toNat a.toNat data)

/-- A failed access of the update die: the tensor being updated is not updated, and the step is incomplete (R520). -/
def State.slowBad (s : State) (c : Nat) (e : Code) : State :=
  let ent := match s.armRecs.find? (fun a => a.ctx == c && !a.bad && !a.aborted && !a.handed) with | some a => a.ent | none => 0
  let s : State := { s with armRecs := s.armRecs.map fun a => if a.ctx == c && a.ent == ent then { a with bad := true } else a }
  (s.updErr c e ent).modStep c fun r => { r with incomplete := true }

/-- The update die reads or writes the slow tier for a context (R353). -/
def State.slowAccess (s : State) (c a n : Nat) (wr : Option (List Byte)) (errs : List (Nat × Nat)) : State :=
  let d := s.domOf c
  match wr with
  | some data => (match s.writePlaces d a data true with
    | .error e => s.slowBad c e
    | .ok bs => if s.accessWaits (bs.map Prod.fst) then s else s.dieWrite d bs)
  | none => (match s.xlateRuns d a n false true with
    | .error e => s.slowBad c e
    | .ok ps => if s.accessWaits (ps.map Prod.fst) then s else match s.dieReads d errs ps with
      | (t, none) => t
      | (t, some (e, _)) => t.slowBad c e)

/-- SLOW_ACCESS (R353): a read of n bytes, or a write of the data given. -/
def execSlowAccess (c : Ctx) (a : DWord) (n : BitVec 16) (wr : Option (List Byte)) (errs : List (Nat × Nat)) (s : State) : Answer :=
  s.whenever ((s.getCtx c.toNat).stepPending) (s.slowAccess c.toNat a.toNat n.toNat wr errs)

/-! ## Write combining and patrol -/

/-- The oldest entry of a stack's buffer that is 2,000 ns old is flushed; entries of the slow tier's controller age with any row (R347, R353). -/
def State.wcTimer (s : State) (st : Nat) (errs : List (Nat × Nat)) : State :=
  let old (e : WcEntry) : Bool := decide (e.born + 2000 ≤ s.evaluated)
  let s1 := match s.wc.find? fun e => s.stackOf (e.unit * 512) == st && old e with
    | some e => (s.flushEntry e errs).incFld (reg (pgHBM st) Off.HBM_WC_FLUSHES) 0 16
    | none => s
  (s1.wc.filter fun e => decide (slowBase ≤ e.unit * 512) && old e).foldl (fun t e => t.flushEntry e errs) s1

/-- WC_FLUSH_TIMER (R347). -/
def execWcFlushTimer (x : StackHit) (s : State) : Answer := s.commit (s.wcTimer x.stack.toNat x.errs)

/-- Does patrol of the stack or package of a PA run (R350, R353, R358)? -/
def State.patrolRuns (s : State) (pa : Nat) : Bool :=
  if slowBase ≤ pa then bit (s.rd (s.memReg pa 0 Off.SLOW_PATROL_CFG)) 16
  else bit (s.rd (reg (s.memPage pa) Off.HBM_PATROL_CFG)) 16

/-- PATROL_READ (R350): the line slot of a backed PA; `last` ends the pass of its stack. -/
def execPatrolRead (pa : DWord) (errs : List (Nat × Nat)) (last : Bool) (s : State) : Answer :=
  s.whenever (s.paBacked pa.toNat && s.patrolRuns pa.toNat) (s.patrolRead pa.toNat errs last)

/-! ## Region tables -/

/-- ACTIVATE (R332): the domain is the one GLOB_DOM_SEL of the session selects. -/
def execActivate (se : SessIx) (s : State) : Answer := s.commit (s.put se pgGLOB Off.GLOB_DOM_XLAT_CTRL 1)

/-- COPY_ACTIVE (R355). -/
def execCopyActive (se : SessIx) (s : State) : Answer := s.commit (s.put se pgGLOB Off.GLOB_DOM_XLAT_CTRL 2)

/-- XLAT_INVALIDATE_DONE (R332): BUSY clears. -/
def execXlatInvalidateDone (d : Dom) (s : State) : Answer := s.commit (s.wrBit (wreg d.toNat pgGLOB Off.GLOB_DOM_XLAT_STATUS) 0 false)

/-- ADMISSION_FILL_GRANULE (R334): a granule by PA / 2 MiB whose fill is pending, while the engine of its tier runs (R476). -/
def execAdmissionFillGranule (g : BitVec 32) (s : State) : Answer :=
  s.whenever ((s.gran g.toNat).fill.isSome && s.scrubRuns (decide (slowBase / 2 ^ 21 ≤ g.toNat))) (s.fillGran g.toNat).scrubUnits

/-! ## Stacks -/

/-- QUIESCE (R352): HBM_CTRL of a stack is written. -/
def execQuiesce (se : SessIx) (st : BitVec 4) (v : Word) (s : State) : Answer := s.commit (s.put se (pgHBM st.toNat) Off.HBM_CTRL v)

/-- HBM_QUIESCED (R352): QUIESCING gives way to QUIESCED. -/
def execHbmQuiesced (st : BitVec 4) (s : State) : Answer :=
  let k := reg (pgHBM st.toNat) Off.HBM_STATE
  s.whenever (fld (s.rd k) 0 3 == 3) (s.wrFld k 0 3 4)

/-- STK_REPAIR_GO (R352): STK_REPAIR_CTRL of a stack is written with GO set. -/
def execStkRepairGo (se : SessIx) (st : BitVec 4) (v : Word) (s : State) : Answer :=
  s.commit (s.put se (pgSTK_REPAIR st.toNat) Off.STK_REPAIR_CTRL (setBit v 31 true))

/-- A shift of a stack's wrapper ends: DONE is set, the captured bits are in the buffer, and a repair it made comes off the log (R352, R357). -/
def State.stkDone (s : State) (st : Nat) (out : BitVec 4096) (ok : Bool) : State :=
  let page := pgSTK_REPAIR st
  let len := fld (s.rd (reg page Off.STK_REPAIR_CTRL)) 8 13
  let s := s.wr (reg page Off.STK_REPAIR_STATUS) 2
  let s := (List.range (cdiv len 32)).foldl (fun t i =>
    t.wr (reg page (Off.STK_REPAIR_BUF + 4 * i)) (BitVec.ofNat 32 (out.toNat % 2 ^ len / 2 ^ (32 * i)))) s
  let k := reg page Off.STK_REPAIR_LOG_COUNT
  if ok then s.wr k (s.rd k - (if s.rd k = 0 then 0 else 1)) else s

/-- STK_REPAIR_DONE (R357): the captured bits, and whether the shift ended a logged repair. -/
def execStkRepairDone (st : BitVec 4) (out : BitVec 4096) (ok : Bool) (s : State) : Answer :=
  s.whenever (bit (s.rd (reg (pgSTK_REPAIR st.toNat) Off.STK_REPAIR_STATUS)) 0) (s.stkDone st.toNat out ok)

/-- HBM_CNT_CLEAR (R356). -/
def execHbmCntClear (se : SessIx) (st : BitVec 4) (v : Word) (s : State) : Answer := s.commit (s.put se (pgHBM st.toNat) Off.HBM_CNT_CLEAR v)

/-- SLOW_CNT_CLEAR (R358): the package is the one SLOW_SEL of the session selects. -/
def execSlowCntClear (se : SessIx) (v : Word) (s : State) : Answer := s.commit (s.put se pgSLOW Off.SLOW_CNT_CLEAR v)

end Sys2Proof.Machine
end

