-- ==== Sys2Proof/Machine/SecRows.lean ====
section
/-! DEFINITION. Keys, scrub, firmware, attestation, sessions, control frames and their entries, alerts, and plain register writes as rows (15_control_plane.md, 16_security.md, 18_reliability.md). -/

namespace Sys2Proof.Machine

open Sys2Proof

/-! ## Keys and scrub -/

/-- ROTATE (R467): the domain is the one KEY_DOM_SEL of the session selects. -/
def execRotate (se : SessIx) (s : State) : Answer := s.commit (s.put se pgKEY Off.KEY_DOM_CTRL 1)

/-- ROTATION_MOVE (R467). -/
def execRotationMove (d : Dom) (slow : Bool) (s : State) : Answer := s.commit (s.rotationMove d.toNat slow)

/-- FORCE_RETIRE (R468). -/
def execForceRetire (se : SessIx) (s : State) : Answer := s.commit (s.put se pgKEY Off.KEY_DOM_CTRL 2)

/-- CMD_ROTATE (R465). -/
def execCmdRotate (se : SessIx) (s : State) : Answer := s.commit (s.put se pgKEY Off.KEY_DOM_CTRL 4)

/-- KEY_PORT_LINK_GEN_WRITE (R465): the port is the one KEY_PORT_SEL of the session selects. -/
def execKeyPortLinkGenWrite (se : SessIx) (v : Word) (s : State) : Answer := s.commit (s.put se pgKEY Off.KEY_PORT_LINK_GEN v)

/-- SEC_SCRUB_START (R473): the domain is the one SEC_SCRUB_SEL of the session selects. -/
def execSecScrubStart (se : SessIx) (s : State) : Answer := s.commit (s.put se pgSEC Off.SEC_SCRUB_CTRL 1)

/-- TENANT_SCRUB_GRANULE (R472). -/
def execTenantScrubGranule (d : Dom) (slow : Bool) (s : State) : Answer := s.commit (s.scrubGranule d.toNat slow)

/-! ## Firmware, attestation, debug access -/

/-- INSTALL (R481). -/
def execInstall (se : SessIx) (u : BitVec 3) (s : State) : Answer :=
  s.commit (s.put se pgSEC Off.SEC_FW_CTRL (BitVec.ofNat 32 (u.toNat + 256)))

/-- COMMIT_SVN (R481). -/
def execCommitSvn (se : SessIx) (u : BitVec 3) (s : State) : Answer :=
  s.commit (s.put se pgSEC Off.SEC_FW_CTRL (BitVec.ofNat 32 (u.toNat + 512)))

/-- FW_DONE (R481). -/
def execFwDone (s : State) : Answer := s.commit s.fwDone

/-- NV_PULSE_END (R545): the hold, in units of 40 ns, of a reset that waited for the pulse. -/
def execNvPulseEnd (held : BitVec 16) (s : State) : Answer := s.commit (s.nvPulseEnd held.toNat)

/-- ATT_GO (R482): ATT_CTRL is written. -/
def execAttGo (se : SessIx) (v : Word) (s : State) : Answer := s.commit (s.put se pgATT Off.ATT_CTRL v)

/-- ATT_REPORT_DONE (R482). -/
def execAttReportDone (se : SessIx) (s : State) : Answer := s.commit (s.attDone se.toNat)

/-- DBG_CTRL_WRITE (R485). -/
def execDbgCtrlWrite (se : SessIx) (v : Word) (s : State) : Answer := s.commit (s.put se pgDBG Off.DBG_CTRL v)

/-! ## Sessions and frames -/

/-- OPEN (R435): a frame of type 2 arrives. -/
def execOpenSession (rx : Rx) (frame : List Byte) (s : State) : Answer := s.commit (s.ctlArrive 2 rx frame)

/-- CLOSE (R436): a frame of type 4 arrives. -/
def execClose (rx : Rx) (frame : List Byte) (s : State) : Answer := s.commit (s.ctlArrive 4 rx frame)

/-- CONTROL_REQUEST (R439): a frame of type 0 arrives. -/
def execControlRequest (rx : Rx) (frame : List Byte) (s : State) : Answer := s.commit (s.ctlArrive 0 rx frame)

/-- RD32 (R441). -/
def execRd32 (se : SessIx) (a : CAddr) (s : State) : Answer := s.commit (s.lone se.toNat { op := 0x01, addr := a.toNat })

/-- WR32 (R441). -/
def execWr32 (se : SessIx) (a : CAddr) (v : Word) (s : State) : Answer :=
  s.commit (s.lone se.toNat { op := 0x02, addr := a.toNat, value := v.toNat })

/-- RD64 (R441). -/
def execRd64 (se : SessIx) (a : CAddr) (s : State) : Answer := s.commit (s.lone se.toNat { op := 0x03, addr := a.toNat })

/-- WR64 (R441). -/
def execWr64 (se : SessIx) (a : CAddr) (v : DWord) (s : State) : Answer :=
  s.commit (s.lone se.toNat { op := 0x04, addr := a.toNat, value := v.toNat })

/-- POLL32 (R441): mask in the upper half of VALUE, the wanted value in the lower; LENGTH in microseconds. -/
def execPoll32 (se : SessIx) (a : CAddr) (mask want : Word) (us : BitVec 16) (s : State) : Answer :=
  s.commit (s.lone se.toNat { op := 0x05, addr := a.toNat, value := mask.toNat * 2 ^ 32 + want.toNat, len := us.toNat })

/-- POLL32_MATCH (R441). -/
def execPoll32Match (s : State) : Answer := s.commit s.pollMatch

/-- POLL_TIMEOUT (R441). -/
def execPollTimeout (s : State) : Answer := s.commit s.pollTimeout

/-- DP_SET (R443): space, domain and address. -/
def execDpSet (se : SessIx) (sp : BitVec 2) (d : Dom) (a : DWord) (s : State) : Answer :=
  s.commit (s.lone se.toNat { op := 0x10, addr := sp.toNat + 4 * d.toNat, value := a.toNat })

/-- DP_WRITE (R443). -/
def execDpWrite (se : SessIx) (data : List Byte) (s : State) : Answer :=
  s.commit (s.lone se.toNat { op := 0x11, len := data.length, data := data })

/-- DP_READ (R443). -/
def execDpRead (se : SessIx) (n : BitVec 16) (s : State) : Answer := s.commit (s.lone se.toNat { op := 0x12, len := n.toNat })

/-- WARM_RESET (R441). -/
def execWarmReset (se : SessIx) (s : State) : Answer := s.commit (s.lone se.toNat { op := 0x20 })

/-- SESS_CTRL_CLOSE (R436): the session is the one MGMT_SESS_SEL of the sender selects. -/
def execSessCtrlClose (se : SessIx) (s : State) : Answer := s.commit (s.put se pgMGMT Off.MGMT_SESS_CTRL 1)

/-- SESSION_IDLE_CLOSE (R436). -/
def execSessionIdleClose (x : SessIx) (s : State) : Answer := s.commit (s.idleClose x.toNat)

/-- MGMT_CNT_CLEAR (R456). -/
def execMgmtCntClear (se : SessIx) (v : Word) (s : State) : Answer := s.commit (s.put se pgMGMT Off.MGMT_CNT_CLEAR v)

/-! ## Alerts and register writes -/

/-- ALERT_FRAME_SEND (R531). -/
def execAlertFrameSend (x : SessIx) (s : State) : Answer := s.commit (s.alertFrame x.toNat)

/-- ERR_Q_ACK_HI_WRITE (R529). -/
def execErrQAckHiWrite (se : SessIx) (v : Word) (s : State) : Answer := s.commit (s.put se pgERR Off.ERR_Q_ACK_HI v)

/-- REPAIR_REQUEST (R523): ERR_REPAIR_REQ is written. -/
def execRepairRequest (se : SessIx) (v : Word) (s : State) : Answer := s.commit (s.put se pgERR Off.ERR_REPAIR_REQ v)

/-- EVENT_CLEAR (R431). -/
def execEventClear (se : SessIx) (page : BitVec 16) (v : Word) (s : State) : Answer := s.commit (s.put se page.toNat Off.EVENT v)

/-- EVENT_FORCE (R430). -/
def execEventForce (se : SessIx) (page : BitVec 16) (v : Word) (s : State) : Answer := s.commit (s.put se page.toNat Off.EVENT_FORCE v)

/-- LOCK_WRITE (R16). -/
def execLockWrite (se : SessIx) (page : BitVec 16) (v : Word) (s : State) : Answer := s.commit (s.put se page.toNat Off.LOCK v)

/-- REGISTER_WRITE (R14). -/
def execRegisterWrite (se : SessIx) (a : CAddr) (v : Word) (s : State) : Answer := s.commit (s.write32 se.toNat a.toNat v)

/-- MET_LO_READ (R510). -/
def execMetLoRead (se : SessIx) (off : BitVec 12) (s : State) : Answer := s.commit (s.read32 se.toNat (reg pgMET off.toNat))

/-! ## Damage, links, escalation and storms -/

/-- The die-to-die links: each compute die, 0 to 7, and the update die, 9, has one link, to the I/O die, 8 (R20, R21, R23, R525). -/
def linkExists (a b : BitVec 4) : Bool :=
  (a == 8#4 && decide (b.toNat < 10) && b != 8#4) || (b == 8#4 && decide (a.toNat < 10) && a != 8#4)

/-- FLIT_RECEIVED (R519): from die a to die b. -/
def execFlitReceived (a b : BitVec 4) (resent : Bool) (f : Flit) (s : State) : Answer :=
  s.onUnit (linkExists a b) (s.flit a.toNat b.toNat resent f)

/-- The eighth consecutive retry of a flit has failed (R519, R525). -/
def State.linkFatal (s : State) (a b : Nat) : State :=
  if s.linkFailed a b then s.fatalError Err.FLIT_RETRY_EXHAUSTED (a + 16 * b) else s

/-- FLIT_RETRY_EXHAUSTED (R519). -/
def execFlitRetryExhausted (a b : BitVec 4) (s : State) : Answer := s.onUnit (linkExists a b) (s.linkFatal a.toNat b.toNat)

/-- Does the module have the store that a damaged word lies in? -/
def Damage.exists' (x : Damage) : Bool :=
  match x.kind with
  | .coreStore | .accFile => coreExists x.unit x.core
  | .cluStore => cluExists x.unit
  | .stateArray | .reserve => true

/-- CORRECTED_WRITEBACK (R518): a damaged word is met and, if it can be, corrected; the write-back in an idle bank cycle, or its absence, leaves the stored value as it is. -/
def execCorrectedWriteback (x : Damage) (_idle : Bool) (s : State) : Answer := s.onUnit (Damage.exists' x) (s.wordDamage x)

/-- FATAL_ESCALATION_RESET (R526). -/
def execFatalEscalationReset (s : State) : Answer := s.commit s.fatalReset

/-- CE_STORM_CHECK (R532). -/
def execCeStormCheck (s : State) : Answer := s.commit s.stormCheck

end Sys2Proof.Machine
end

