-- ==== Sys2Proof/Machine/StreamRows.lean ====
section
/-! DEFINITION. The commands of a context's stream, as the front end fetches them (08_command_streams.md): one meaning per opcode of R221. -/

namespace Sys2Proof.Machine

open Sys2Proof

/-- The next command of a context's stream reaches its front end (R233, R236): skipped, held, refused with a fault code, or issued with its engine's effect. A command with a listed opcode belongs to the row of that opcode; one with a reserved opcode is refused by the front end with OPCODE_INVALID from any row (R221). -/
def streamRow (op : Nat) (c : Ctx) (w : Cmd) (s : State) : Answer :=
  if w.opcode ≠ op ∧ (opInfo w.opcode).isSome = true then .refused .wrongOpcode
  else s.commit (s.frontEnd c.toNat w)

/-- NOP, opcode 0x00 (R221). A NOP command issues and retires doing nothing but its semaphore wait and signal. -/
def execNop (c : Ctx) (w : Cmd) (s : State) : Answer := streamRow 0x00 c w s

/-- SEM_SET, opcode 0x01 (R227). SEM_SET writes a value into a context semaphore at issue. -/
def execSemSet (c : Ctx) (w : Cmd) (s : State) : Answer := streamRow 0x01 c w s

/-- SEM_ADD, opcode 0x02 (R227). SEM_ADD adds a value to a context semaphore at issue, saturating and setting SEM_SATURATED. -/
def execSemAdd (c : Ctx) (w : Cmd) (s : State) : Answer := streamRow 0x02 c w s

/-- REG_SET, opcode 0x03 (R227). REG_SET writes a 64-bit immediate into a parameter or address register at issue. -/
def execRegSet (c : Ctx) (w : Cmd) (s : State) : Answer := streamRow 0x03 c w s

/-- REG_ALU, opcode 0x04 (R227). REG_ALU computes an ALU operation modulo 2^64 and writes a parameter or address register at issue. -/
def execRegAlu (c : Ctx) (w : Cmd) (s : State) : Answer := streamRow 0x04 c w s

/-- CNT_OP, opcode 0x05 (R227). CNT_OP sets, adds to or subtracts from a 32-bit context counter, wrapping modulo 2^32. -/
def execCntOp (c : Ctx) (w : Cmd) (s : State) : Answer := streamRow 0x05 c w s

/-- CMP_SET, opcode 0x06 (R228). CMP_SET configures a comparator whose relation then drives a condition flag every cycle. -/
def execCmpSet (c : Ctx) (w : Cmd) (s : State) : Answer := streamRow 0x06 c w s

/-- LOOP_BEGIN, opcode 0x07 (R241). LOOP_BEGIN latches a count and opens a loop over the following body, or skips the body when the count is 0. -/
def execLoopBegin (c : Ctx) (w : Cmd) (s : State) : Answer := streamRow 0x07 c w s

/-- SKIP, opcode 0x08 (R244). SKIP passes over the following N commands when its condition holds, closing loops as it goes. -/
def execSkip (c : Ctx) (w : Cmd) (s : State) : Answer := streamRow 0x08 c w s

/-- WAIT_COND, opcode 0x09 (R245). WAIT_COND holds the stream at issue until a condition flag reaches the wanted value. -/
def execWaitCond (c : Ctx) (w : Cmd) (s : State) : Answer := streamRow 0x09 c w s

/-- STREAM_END, opcode 0x0A (R239). STREAM_END waits for every earlier command to retire and sets the stream IDLE, closing checkpoints and windows as applicable. -/
def execStreamEnd (c : Ctx) (w : Cmd) (s : State) : Answer := streamRow 0x0A c w s

/-- PASS, opcode 0x10 (R223). A PASS command is admitted and queued on each core of its unit set, or retires at issue when M is 0. -/
def execPass (c : Ctx) (w : Cmd) (s : State) : Answer := streamRow 0x10 c w s

/-- TILE_DRAIN, opcode 0x11 (R225). A TILE_DRAIN reads accumulator tile rows through the drain path into an output tensor. -/
def execTileDrain (c : Ctx) (w : Cmd) (s : State) : Answer := streamRow 0x11 c w s

/-- ADD, opcode 0x20 (R137). Vector element-wise FP32 addition of two operands. -/
def execAdd (c : Ctx) (w : Cmd) (s : State) : Answer := streamRow 0x20 c w s

/-- SUB, opcode 0x21 (R137). Vector element-wise FP32 subtraction. -/
def execSub (c : Ctx) (w : Cmd) (s : State) : Answer := streamRow 0x21 c w s

/-- MUL, opcode 0x22 (R137). Vector element-wise FP32 multiplication. -/
def execMul (c : Ctx) (w : Cmd) (s : State) : Answer := streamRow 0x22 c w s

/-- FMA, opcode 0x23 (R137). Vector element-wise fused multiply-add with one rounding. -/
def execFma (c : Ctx) (w : Cmd) (s : State) : Answer := streamRow 0x23 c w s

/-- MAX, opcode 0x24 (R137). Vector element-wise maximum with NaN propagation and -0 below +0. -/
def execMax (c : Ctx) (w : Cmd) (s : State) : Answer := streamRow 0x24 c w s

/-- MIN, opcode 0x25 (R137). Vector element-wise minimum with NaN propagation and -0 below +0. -/
def execMin (c : Ctx) (w : Cmd) (s : State) : Answer := streamRow 0x25 c w s

/-- ABS, opcode 0x26 (R137). Vector element-wise absolute value. -/
def execAbs (c : Ctx) (w : Cmd) (s : State) : Answer := streamRow 0x26 c w s

/-- NEG, opcode 0x27 (R137). Vector element-wise negation. -/
def execNeg (c : Ctx) (w : Cmd) (s : State) : Answer := streamRow 0x27 c w s

/-- COPYSIGN, opcode 0x28 (R137). Vector element-wise copy of sign from a second operand. -/
def execCopysign (c : Ctx) (w : Cmd) (s : State) : Answer := streamRow 0x28 c w s

/-- CMP_EQ, opcode 0x29 (R137). Vector comparison for equality writing a 1-bit mask per element. -/
def execCmpEq (c : Ctx) (w : Cmd) (s : State) : Answer := streamRow 0x29 c w s

/-- CMP_LT, opcode 0x2A (R137). Vector less-than comparison writing a 1-bit mask per element. -/
def execCmpLt (c : Ctx) (w : Cmd) (s : State) : Answer := streamRow 0x2A c w s

/-- CMP_LE, opcode 0x2B (R137). Vector less-or-equal comparison writing a 1-bit mask per element. -/
def execCmpLe (c : Ctx) (w : Cmd) (s : State) : Answer := streamRow 0x2B c w s

/-- SELECT, opcode 0x2C (R137). Vector selection of elements from two operands by a mask. -/
def execSelect (c : Ctx) (w : Cmd) (s : State) : Answer := streamRow 0x2C c w s

/-- CVT, opcode 0x2D (R46). Vector format conversion, optionally block-scaled and writing a zero-row bitmap. -/
def execCvt (c : Ctx) (w : Cmd) (s : State) : Answer := streamRow 0x2D c w s

/-- RSUM, opcode 0x2E (R138). Vector row sum in the fixed tree-then-segment shape. -/
def execRsum (c : Ctx) (w : Cmd) (s : State) : Answer := streamRow 0x2E c w s

/-- RSUMSQ, opcode 0x2F (R138). Vector row sum of squares in the fixed reduction shape. -/
def execRsumsq (c : Ctx) (w : Cmd) (s : State) : Answer := streamRow 0x2F c w s

/-- RMAX, opcode 0x30 (R138). Vector row maximum. -/
def execRmax (c : Ctx) (w : Cmd) (s : State) : Answer := streamRow 0x30 c w s

/-- RMIN, opcode 0x31 (R138). Vector row minimum. -/
def execRmin (c : Ctx) (w : Cmd) (s : State) : Answer := streamRow 0x31 c w s

/-- RAMAX, opcode 0x32 (R138). Vector row amax of finite elements feeding delayed-scaling history. -/
def execRamax (c : Ctx) (w : Cmd) (s : State) : Answer := streamRow 0x32 c w s

/-- EXP2, opcode 0x33 (R139). Vector element-wise 2^x within 1 ulp. -/
def execExp2 (c : Ctx) (w : Cmd) (s : State) : Answer := streamRow 0x33 c w s

/-- LOG2, opcode 0x34 (R139). Vector element-wise log2 within 1 ulp. -/
def execLog2 (c : Ctx) (w : Cmd) (s : State) : Answer := streamRow 0x34 c w s

/-- RSQRT, opcode 0x35 (R139). Vector element-wise reciprocal square root within 1 ulp. -/
def execRsqrt (c : Ctx) (w : Cmd) (s : State) : Answer := streamRow 0x35 c w s

/-- RCP, opcode 0x36 (R139). Vector element-wise reciprocal within 1 ulp. -/
def execRcp (c : Ctx) (w : Cmd) (s : State) : Answer := streamRow 0x36 c w s

/-- TANH, opcode 0x37 (R139). Vector element-wise tanh within 2 ulp. -/
def execTanh (c : Ctx) (w : Cmd) (s : State) : Answer := streamRow 0x37 c w s

/-- SIGMOID, opcode 0x38 (R139). Vector element-wise sigmoid. -/
def execSigmoid (c : Ctx) (w : Cmd) (s : State) : Answer := streamRow 0x38 c w s

/-- GELU, opcode 0x39 (R139). Vector element-wise GELU. -/
def execGelu (c : Ctx) (w : Cmd) (s : State) : Answer := streamRow 0x39 c w s

/-- SILU, opcode 0x3A (R139). Vector element-wise SiLU. -/
def execSilu (c : Ctx) (w : Cmd) (s : State) : Answer := streamRow 0x3A c w s

/-- RMSNORM, opcode 0x3B (R140). Vector RMS normalisation of each row with gain. -/
def execRmsnorm (c : Ctx) (w : Cmd) (s : State) : Answer := streamRow 0x3B c w s

/-- LAYERNORM, opcode 0x3C (R140). Vector layer normalisation of each row with gain and optional bias. -/
def execLayernorm (c : Ctx) (w : Cmd) (s : State) : Answer := streamRow 0x3C c w s

/-- SMFIN, opcode 0x3D (R141). Vector softmax finalisation of a row against reference, maximum and sum. -/
def execSmfin (c : Ctx) (w : Cmd) (s : State) : Answer := streamRow 0x3D c w s

/-- STMERGE, opcode 0x3E (R142). Vector merge of two statistics records into a third. -/
def execStmerge (c : Ctx) (w : Cmd) (s : State) : Answer := streamRow 0x3E c w s

/-- ROPE, opcode 0x3F (R143). Vector rotary position encoding of element pairs with exact phase. -/
def execRope (c : Ctx) (w : Cmd) (s : State) : Answer := streamRow 0x3F c w s

/-- MOVE, opcode 0x40 (R226). A MOVE copies one descriptor's element sequence into another on a chosen address mover. -/
def execMove (c : Ctx) (w : Cmd) (s : State) : Answer := streamRow 0x40 c w s

/-- ZERO, opcode 0x41 (R221). A ZERO command has a mover write zeros over its destination. -/
def execZero (c : Ctx) (w : Cmd) (s : State) : Answer := streamRow 0x41 c w s

/-- MASK_WALK, opcode 0x42 (R194). A MASK_WALK turns a query block and key range into interior and edge lists, masks and counts. -/
def execMaskWalk (c : Ctx) (w : Cmd) (s : State) : Answer := streamRow 0x42 c w s

/-- ROUTE, opcode 0x50 (R171). A ROUTE command selects experts, computes gates and admits assignments up to capacity. -/
def execRoute (c : Ctx) (w : Cmd) (s : State) : Answer := streamRow 0x50 c w s

/-- UPD_TENSOR, opcode 0x60 (R395). UPD_TENSOR checks and arms an update tensor entry, latching registers and scalars and setting the copy's AG destination. -/
def execUpdTensor (c : Ctx) (w : Cmd) (s : State) : Answer := streamRow 0x60 c w s

/-- UPD_SCHEDULE, opcode 0x61 (R419). UPD_SCHEDULE evaluates a schedule slot at the current step and stages its 16 outputs. -/
def execUpdSchedule (c : Ctx) (w : Cmd) (s : State) : Answer := streamRow 0x61 c w s

/-- RS_SEND, opcode 0x70 (R371). RS_SEND converts and appends source elements to a reduce-scatter instance, sending chunks as they fill. -/
def execRsSend (c : Ctx) (w : Cmd) (s : State) : Answer := streamRow 0x70 c w s

/-- AG_SEND, opcode 0x71 (R371). AG_SEND appends elements of the member's shard to an all-gather instance, sending chunks as they fill. -/
def execAgSend (c : Ctx) (w : Cmd) (s : State) : Answer := streamRow 0x71 c w s

/-- VOTE, opcode 0x72 (R380). VOTE waits until every instance of the context's open windows is done and the update die reports done. -/
def execVote (c : Ctx) (w : Cmd) (s : State) : Answer := streamRow 0x72 c w s

/-- PARCEL_SEND, opcode 0x78 (R384). PARCEL_SEND checks its parcel entry and sends a PARCEL_REQ for a landing slot. -/
def execParcelSend (c : Ctx) (w : Cmd) (s : State) : Answer := streamRow 0x78 c w s

/-- MET_SNAPSHOT, opcode 0x80 (R509). MET_SNAPSHOT queues a signed DOMAIN report for the issuing context's domain. -/
def execMetSnapshot (c : Ctx) (w : Cmd) (s : State) : Answer := streamRow 0x80 c w s

/-- TWIN_ARM, opcode 0x90 (R533). TWIN_ARM arms twin operation of the current replay on a two-member group. -/
def execTwinArm (c : Ctx) (w : Cmd) (s : State) : Answer := streamRow 0x90 c w s

/-- CAL_SET, opcode 0xA0 (R321). CAL_SET writes a calendar entry's instant and ENABLE from a parameter register. -/
def execCalSet (c : Ctx) (w : Cmd) (s : State) : Answer := streamRow 0xA0 c w s

/-- CKPT_PUSH, opcode 0xB0 (R451). CKPT_PUSH opens a checkpoint if none is open and streams its element sequence to the ring. -/
def execCkptPush (c : Ctx) (w : Cmd) (s : State) : Answer := streamRow 0xB0 c w s

end Sys2Proof.Machine
end

