-- ==== Sys2Proof/Machine/SysRows.lean ====
section
/-! DEFINITION. Metrology, reset and start-up, sensors, regulators and the test access port as rows (17_metrology.md, 19_reset_clocks.md, 20_electrical.md). -/

namespace Sys2Proof.Machine

open Sys2Proof

/-! ## Metrology -/

/-- MET_SAMPLE (R492): one sample of each of the thirteen rails; `inClass`: the conditions of R493 outside the samples hold. -/
def execMetSample (xs : List MetIn) (inClass : Bool) (s : State) : Answer := s.commit (s.metSample xs inClass)

/-- MET_CHECKPOINT (R504): `ok`: the written copy reads back. -/
def execMetCheckpoint (ok : Bool) (s : State) : Answer := s.commit (s.metCheckpoint ok)

/-- MET_CLOCK_FAULT (R494). -/
def execMetClockFault (s : State) : Answer := s.commit s.metClockFault

/-- MET_XTAL_COMPARE (R494): the difference in parts per million. -/
def execMetXtalCompare (ppm : Nat) (s : State) : Answer := s.commit (s.metCompare ppm)

/-- MET_CLOCK_RESTORED (R494). -/
def execMetClockRestored (s : State) : Answer := s.commit s.metClockRestored

/-- CALIBRATION_SET (R503): a set and its signature. -/
def execCalibrationSet (blob sig : List Byte) (s : State) : Answer := s.commit (s.calibrate blob sig)

/-- MET_SNAPSHOT_DONE (R509): the oldest queued report is written; a context held for a place in the queue goes on. -/
def execMetSnapshotDone (s : State) : Answer := s.commit s.snapshotDone.snapNext

/-! ## Reset and start-up -/

/-- POWER_ON (R542): PWROK is recognised low. -/
def execPowerOn (s : State) : Answer := s.commit { s.coldReset true with powered := false }

/-- PWROK_RISE (R553): PWROK returns high; sixteen conversions of STRAP_SEL follow (R551). -/
def execPwrokRise (conv : List (BitVec 4)) (s : State) : Answer := s.commit (s.pwrokRise conv)

/-- RESET_N_ASSERT (R543). -/
def execResetNAssert (s : State) : Answer := s.commit s.resetNAssert

/-- RESET_N_RELEASE (R543): with the sixteen conversions of STRAP_SEL (R551). -/
def execResetNRelease (conv : List (BitVec 4)) (s : State) : Answer := s.commit (s.resetNRelease conv)

/-- FUSE_SENSE_DONE (R553). -/
def execFuseSenseDone (s : State) : Answer := s.commit s.fuseSense

/-- FIRMWARE_BOOT (R479). -/
def execFirmwareBoot (s : State) : Answer := s.commit s.boot

/-- KEY_DERIVATION_DONE (R464). -/
def execKeyDerivationDone (s : State) : Answer := s.commit s.keysDone

/-- MEMORY_TRAINING_DONE (R553). -/
def execMemoryTrainingDone (s : State) : Answer := s.commit s.memoryDone

/-- DIE_STAGING_DONE (R554): the units that fail the self-test, as (kind, cluster of the die, core, row). -/
def execDieStagingDone (die : BitVec 3) (bad : List (BitVec 2 × BitVec 9 × CoreIx × BitVec 4)) (s : State) : Answer :=
  s.commit (s.dieStaged die.toNat bad)

/-- LINK_TRAINING_DONE (R553). -/
def execLinkTrainingDone (s : State) : Answer := s.commit s.linksDone

/-- WATCHDOG_EXPIRED (R542). -/
def execWatchdogExpired (s : State) : Answer := s.commit s.watchdog

/-- WARM_RESET_ENTER (R548). -/
def execWarmResetEnter (s : State) : Answer := s.commit s.warmResetEnter

/-- THERMAL_HOLD_EXIT (R550). -/
def execThermalHoldExit (s : State) : Answer := s.commit s.holdExit

/-- PLL_UNLOCK (R559): domains 1 to 25 have a lock (R557). -/
def execPllUnlock (dom : BitVec 5) (s : State) : Answer :=
  s.onUnit (decide (1 ≤ dom.toNat) && decide (dom.toNat ≤ 25)) (s.pllUnlock dom.toNat)

/-! ## Sensors -/

/-- Sensors 0 to 151 (R585). -/
def sensorExists (x : BitVec 8) : Bool := decide (x.toNat < 152)

/-- THERMAL_TRIP (R542): a reading in 1/16 °C. -/
def execThermalTrip (sensor : BitVec 8) (t : BitVec 16) (s : State) : Answer := s.onUnit (sensorExists sensor) (s.thermalTrip sensor.toNat t)

/-- THERM_TRIP_RELEASE (R578). -/
def execThermTripRelease (sensor : BitVec 8) (t : BitVec 16) (s : State) : Answer := s.onUnit (sensorExists sensor) (s.tripRelease sensor.toNat t)

/-- THERMAL_THROTTLE (R579). -/
def execThermalThrottle (sensor : BitVec 8) (t : BitVec 16) (s : State) : Answer := s.onUnit (sensorExists sensor) (s.thermalThrottle sensor.toNat t)

/-- THERMAL_RELEASE (R579): the readings of the millisecond for an account. -/
def execThermalRelease (rail : BitVec 3) (ts : List (BitVec 8 × BitVec 16)) (s : State) : Answer := s.commit (s.thermalRelease rail.toNat ts)

/-- STACK_HOT (R578). -/
def execStackHot (st : BitVec 4) (t : BitVec 16) (s : State) : Answer := s.commit (s.stackTemp st.toNat t true)

/-- STACK_HOT_CLEAR (R578). -/
def execStackHotClear (st : BitVec 4) (t : BitVec 16) (s : State) : Answer := s.commit (s.stackTemp st.toNat t false)

/-- TEMP_CNT_CLEAR (R585). -/
def execTempCntClear (se : SessIx) (v : Word) (s : State) : Answer := s.commit (s.put se pgTEMP Off.TEMP_CNT_CLEAR v)

/-! ## Regulators -/

/-- PMBUS_POLL (R571): an answer, or none, from each of the thirteen regulators. -/
def execPmbusPoll (ans : List (Option PmbAns)) (s : State) : Answer := s.commit (s.pmbPoll ans)

/-- PMB_ALERT (R571). -/
def execPmbAlert (ans : List (Option (BitVec 16))) (s : State) : Answer := s.commit (s.pmbAlert ans)

/-- AVS_WRITE (R570): a target in millivolts, and how many attempts failed. -/
def execAvsWrite (rail : BitVec 4) (mv : BitVec 16) (fails : BitVec 2) (s : State) : Answer := s.commit (s.avsWrite rail.toNat mv.toNat fails.toNat)

/-! ## The test access port -/

/-- TAP_RESET (R581). -/
def execTapReset (s : State) : Answer := s.commit s.tapReset

/-- EXTEST (R581). -/
def execExtest (cells : List Bool) (s : State) : Answer := s.commit (s.tapDrive 0x00 cells)

/-- IDCODE (R581): 32 bits, least significant first. -/
def execIdcode (s : State) : Answer :=
  s.commit (s.tapLoad 0x01 fun t => { t with tap := { t.tap with shift := (List.range 32).map fun i => t.idcode / 2 ^ i % 2 == 1 } })

/-- SAMPLE_PRELOAD (R581): the cells captured, or shifted in. -/
def execSamplePreload (cells : List Bool) (s : State) : Answer :=
  s.commit (s.tapLoad 0x02 fun t => { t with tap := { t.tap with cells := cells, shift := t.tap.cells } })

/-- CLAMP (R581): outputs follow the boundary register, with bypass selected. -/
def execClamp (s : State) : Answer :=
  s.commit (s.tapLoad 0x03 fun t => { t with tap := { t.tap with driven := some t.tap.cells, clamp := true, shift := [false] } })

/-- HIGHZ (R581). -/
def execHighz (s : State) : Answer := s.commit (s.tapLoad 0x04 fun t => { t with tap := { t.tap with hiz := true, shift := [false] } })

/-- EXTEST_PULSE (R581). -/
def execExtestPulse (cells : List Bool) (s : State) : Answer := s.commit (s.tapDrive 0x05 cells)

/-- EXTEST_TRAIN (R581). -/
def execExtestTrain (cells : List Bool) (s : State) : Answer := s.commit (s.tapDrive 0x06 cells)

/-- SEG_SEL (R581): segments 0 to 25. -/
def execSegSel (seg : BitVec 5) (s : State) : Answer :=
  s.onUnit (decide (seg.toNat < 26)) (s.tapLoad 0x10 fun t => { t with tap := { t.tap with seg := seg.toNat } })

/-- MET_CAL (R581, R503). -/
def execMetCal (s : State) : Answer :=
  s.commit (s.tapLoad 0x30 fun t => if t.pagePresent .met 0 then t.modMet fun m => { m with calMode := true } else t)

/-- STK_1500 (R581). -/
def execStk1500 (bits : List Bool) (s : State) : Answer := s.commit (s.stk1500 bits)

/-- PROD_TEST (R581): codes 0x80 to 0xFE; the test itself is the factory's. -/
def execProdTest (code : BitVec 8) (s : State) : Answer :=
  s.whenever (decide (0x80 ≤ code.toNat) && decide (code.toNat ≤ 0xFE)) (s.tapLoad code.toNat fun t => t.emit (.note "production test" [code.toNat]))

/-- BYPASS (R581): any code that does not act. -/
def execBypass (code : BitVec 8) (s : State) : Answer := s.commit (s.tapBypass code.toNat)

/-! ## Debug access (R485) -/

/-- The index under which the debug port's selections stand, outside every session (log entry 16, DESIGN CHOICE). -/
def jtagSess : Nat := 2 ^ 13

/-- First address of the accumulator tiles in debug space: core, tile, element of 16 bytes (log entry 25, DESIGN CHOICE). -/
def tileBase : Nat := 2 ^ 55

/-- Is an address of debug space a byte of an on-die store: a cluster store, a core store or a tile? -/
def dbgStore (a : Nat) : Bool :=
  (decide (2 ^ 53 ≤ a) && decide (a < 2 ^ 53 + 3000 * 2 ^ 21))
    || (decide (2 ^ 54 ≤ a) && decide ((a - 2 ^ 54) / 2 ^ 21 < 3000) && decide ((a - 2 ^ 54) / 2 ^ 14 % 128 < 100))
    || (decide (tileBase ≤ a) && decide ((a - tileBase) / 2 ^ 21 < 3000) && decide ((a - tileBase) / 2 ^ 14 % 128 < 100))

/-- Core and tile of a debug address. -/
def dbgTile (a : Nat) : Nat × Nat := ((a - tileBase) / 2 ^ 14, (a - tileBase) / 2 ^ 12 % 4)

/-- The 16 bytes of an element: the sum in 96 bits, then its flags. -/
def AccEl.word (x : AccEl) : Nat := toTwos 96 x.q + 2 ^ 96 * (b2n x.nan + 2 * b2n x.pinf + 4 * b2n x.ninf)

/-- The element of 16 bytes. -/
def accElOf (v : Nat) : AccEl := { q := sext v 96, nan := v / 2 ^ 96 % 2 == 1, pinf := v / 2 ^ 97 % 2 == 1, ninf := v / 2 ^ 98 % 2 == 1 }

/-- A byte of debug space, whatever its owner. -/
def State.dbgByte (s : State) (a : Nat) : Byte :=
  if a < tileBase then s.byte a
  else
    let t := (s.getCore (dbgTile a).1).tile (dbgTile a).2
    byteOf ((t.el ((a - tileBase) / 64 % 64) ((a - tileBase) / 16 % 4)).word) (a % 16)

/-- Store a byte of debug space, whatever its owner. -/
def State.dbgPut (s : State) (a : Nat) (v : Byte) : State :=
  if a < tileBase then s.setByte a v
  else
    let (k, t) := dbgTile a
    let row := (a - tileBase) / 64 % 64
    let col := (a - tileBase) / 16 % 4
    s.modCore k fun r =>
      let x := r.tile t
      let w := (x.el row col).word
      let i := a % 16
      r.setTile t (x.setEl row col (accElOf (w % 256 ^ i + v.toNat * 256 ^ i + w / 256 ^ (i + 1) * 256 ^ (i + 1))))

/-- Owners of the lines and tiles that n bytes of debug space touch. -/
def State.dbgOwners (s : State) (a n : Nat) : List Nat :=
  if a < tileBase then ((linesOf a n).filterMap fun l => (s.mark l).own).eraseDups
  else (((List.range n).map fun i => dbgTile (a + i)).eraseDups.filterMap fun p => ((s.getCore p.1).tile p.2).own).eraseDups

/-- Log accesses of the debug port: SOURCE.JTAG, merged with none (R483, R484). -/
def State.dbgLog (s : State) (ds : List (Nat × Nat)) (len a : Nat) : State :=
  let keep := s.logOpen
  let s := ds.eraseDups.foldl (fun t p => ({ t with logOpen := [] } : State).logAccess p.1 p.2 4 len a) s
  { s with logOpen := keep }

/-- Register words of a debug access, from the first address on. -/
def State.dbgReg (s : State) (a : Nat) (wr : Option (List Byte)) (i : Nat) : State :=
  let k := (a + 4 * i) % 2 ^ 28
  match wr with
  | none =>
    let v := s.regValue jtagSess k
    let s := s.dbgLog (s.touched jtagSess k false 0) 4 k
    let s := s.readEffect jtagSess k
    { s with tap := { s.tap with shift := s.tap.shift ++ (List.range 32).map fun j => bit v j } }
  | some bs =>
    let v := wordAt bs (4 * i)
    ((s.dbgLog (s.touched jtagSess k true v) 4 k).regWrite jtagSess k v).2

/-- A debug read or write of registers, word by word, or of on-die stores, byte by byte (R485). -/
def State.dbgAccess (s : State) (isReg : Bool) (a n : Nat) (wr : Option (List Byte)) : State :=
  s.tapLoad 0x20 fun t =>
    let t : State := { t with tap := { t.tap with shift := [] } }
    let n := match wr with | some bs => bs.length | none => n
    if isReg then
      if a % 4 ≠ 0 then t else (List.range (n / 4)).foldl (fun u i => u.dbgReg a wr i) t
    else if !((List.range n).all fun i => dbgStore (a + i)) then t
    else
      let t := t.dbgLog ((t.dbgOwners a n).map fun d => (d, if wr.isSome then 6 else 5)) n a
      match wr with
      | some bs => (bs.zipIdx).foldl (fun u b => u.dbgPut (a + b.2) b.1) t
      | none => { t with tap := { t.tap with shift := (List.range n).flatMap fun i => (List.range 8).map fun j => bit (t.dbgByte (a + i)) j } }

/-- DBG_ACCESS (R485, R581): registers by control address, on-die stores by debug address. -/
def execDbgAccess (reg : Bool) (a : DWord) (n : BitVec 16) (wr : Option (List Byte)) (s : State) : Answer :=
  s.commit (s.dbgAccess reg a.toNat n.toNat wr)

end Sys2Proof.Machine
end

