-- ==== Sys2Proof/Machine/TimeRows.lean ====
section
/-! DEFINITION. Fabric time and the event calendar as rows (11_fabric_time.md): the time source, PPS pins, timeouts, and the dispatch of calendar entries by action. -/

namespace Sys2Proof.Machine

open Sys2Proof

/-! ## Calendar entries -/

/-- STEP_START, action 1 (R317, R320). -/
def execStepStart (e : BitVec 12) (s : State) : Answer := s.commit (s.dispatchCal e.toNat 1 fun t c _ _ => t.calStepStart e.toNat c)

/-- HELD_STEP_START (R320): the step has resolved, or the context has become IDLE. -/
def execHeldStepStart (c : Ctx) (s : State) : Answer := s.commit (s.heldStep c.toNat)

/-- RAMP_PROFILE, action 2 (R292): the profile's instant is the entry's (R318). -/
def execRampProfile (e : BitVec 12) (s : State) : Answer := s.commit (s.dispatchCal e.toNat 2 fun t p i own => t.calProfile p i own)

/-- WINDOW_OPEN, action 3 (R374): the window opens at the entry's instant. -/
def execWindowOpen (e : BitVec 12) (s : State) : Answer := s.commit (s.dispatchCal e.toNat 3 fun t g i own => t.calWindowOpen g i own)

/-- COMMIT, action 4 (R415). -/
def execCommit (e : BitVec 12) (s : State) : Answer := s.commit (s.dispatchCal e.toNat 4 fun t c _ _ => t.calCommit c)

/-- CHECKPOINT_START, action 5 (R451). -/
def execCheckpointStart (e : BitVec 12) (s : State) : Answer := s.commit (s.dispatchCal e.toNat 5 fun t r _ _ => t.calCkpt r)

/-- CONTEXT_RELEASE, action 6 (R317): as a write of RESUME. -/
def execContextRelease (e : BitVec 12) (s : State) : Answer := s.commit (s.dispatchCal e.toNat 6 fun t c _ _ => t.resumeCtx c)

/-- SCRUB_START, action 7 (R473). -/
def execScrubStart (e : BitVec 12) (s : State) : Answer := s.commit (s.dispatchCal e.toNat 7 fun t d _ _ => t.startScrub d)

/-- CAL_ENT_CTRL_WRITE (R319): the entry is the one CAL_SEL of the session selects. -/
def execCalEntCtrlWrite (se : SessIx) (v : Word) (s : State) : Answer := s.commit (s.put se pgCAL Off.CAL_ENT_CTRL v)

/-- The registers that CAL_ENTRY_FIELD_WRITE names: 0 PERIOD, 1 ACTION, 2 TARGET (R324). -/
def calField (f : BitVec 2) : Option Nat :=
  match f.toNat with | 0 => some Off.CAL_ENT_PERIOD | 1 => some Off.CAL_ENT_ACTION | 2 => some Off.CAL_ENT_TARGET | _ => none

/-- CAL_ENTRY_FIELD_WRITE (R317); a field that the entry does not have is a reserved offset (R17). -/
def execCalEntryFieldWrite (se : SessIx) (f : BitVec 2) (v : Word) (s : State) : Answer :=
  match calField f with
  | some o => s.commit (s.put se pgCAL o v)
  | none => s.commit s

/-- CAL_CNT_CLEAR (R324). -/
def execCalCntClear (se : SessIx) (v : Word) (s : State) : Answer := s.commit (s.put se pgCAL Off.CAL_CNT_CLEAR v)

/-! ## The time source -/

/-- A PTP message reaches a host port (R454). -/
def State.ptpArrive (s : State) (rx : Rx) (m : PtpMsg) : State :=
  match s.rxFrame rx with
  | (t, false) => t
  | (t, true) => if rx.port.toNat < 16 then t else t.ptpMessage { m with port := rx.port.toNat == 17 }

/-- PTP_MESSAGE (R454). -/
def execPtpMessage (rx : Rx) (m : PtpMsg) (s : State) : Answer := s.commit (s.ptpArrive rx m)

/-- PTP_ANNOUNCE_TIMEOUT (R454): the selected master is given up. -/
def execPtpAnnounceTimeout (s : State) : Answer :=
  s.whenever (!s.tSrc && bit (s.rd (ptpReg Off.PTP_STATE)) 0) s.dropMaster

/-- May PTP move to the other host port: PTP_FAILOVER is set, and its port has lost its link or has held no valid master for 2 s (R308)? -/
def State.failoverDue (s : State) : Bool :=
  !s.tSrc && bit (s.rd (tReg Off.TIME_CFG)) 2 && (s.time.linkLost || s.time.noMaster.any fun t => decide (t + 2000000000 ≤ s.evaluated))

/-- PTP_FAILOVER (R308). -/
def execPtpFailover (s : State) : Answer := s.whenever s.failoverDue s.ptpFailover

/-- PPS_IN_EDGE (R310). -/
def execPpsInEdge (s : State) : Answer := s.commit s.ppsEdge

/-- May PPS_IN have stood at one level for 2 s (R310)? -/
def State.ppsQuiet (s : State) : Bool :=
  s.tSrc && !s.time.ppsLost && decide ((s.time.ppsLast.getD 0) + 2000000000 ≤ s.now.toNat / 64 * 64)

/-- PPS_LOST (R310). -/
def execPpsLost (s : State) : Answer :=
  s.whenever s.ppsQuiet (({ s with time := { s.time with ppsLost := true } } : State).pageErr pgTIME Err.PPS_LOST 0 0 4)

/-- SOURCE_LOST (R311). -/
def execSourceLost (s : State) : Answer := s.whenever s.lossDue s.sourceLost

/-- TIME_ERR_BOUND_UPDATE (R312). -/
def execTimeErrBoundUpdate (s : State) : Answer := s.commit s.updateBound

/-- TIME_TOD_NEXT_WRITE (R310): both halves, the high one first. -/
def execTimeTodNextWrite (se : SessIx) (v : DWord) (s : State) : Answer :=
  s.commit ((s.put se pgTIME Off.TIME_TOD_NEXT_HI (half true v.toNat)).put se pgTIME Off.TIME_TOD_NEXT_LO (half false v.toNat))

/-- TIME_NOW_LO_READ (R306). -/
def execTimeNowLoRead (se : SessIx) (s : State) : Answer := s.commit (s.read32 se.toNat (reg pgTIME Off.TIME_NOW_LO))

/-- TIME_CNT_CLEAR (R323). -/
def execTimeCntClear (se : SessIx) (v : Word) (s : State) : Answer := s.commit (s.put se pgTIME Off.TIME_CNT_CLEAR v)

/-- Is fabric time at a whole second, with PPS_OUT enabled and low (R313)? One cycle of slew may carry the counter past the whole nanosecond; a second that a step crossed has no pulse. -/
def State.ppsOutDue (s : State) : Bool :=
  bit (s.rd (tReg Off.TIME_PPS_OUT_CFG)) 0 && !s.time.ppsOut && decide (s.now.toNat % 1000000000 < 2)
    && s.time.ppsSkip != some (s.now.toNat / 1000000000 * 1000000000)

/-- PPS_OUT_RISE (R313). -/
def execPpsOutRise (s : State) : Answer :=
  s.whenever s.ppsOutDue { s with time := { s.time with ppsOut := true, ppsOutAt := s.now.toNat } }

/-- Has PPS_OUT been high for TIME_PPS_OUT_CFG.WIDTH milliseconds (R313)? -/
def State.ppsOutOver (s : State) : Bool :=
  s.time.ppsOut && decide (s.time.ppsOutAt + fld (s.rd (tReg Off.TIME_PPS_OUT_CFG)) 1 10 * 1000000 ≤ s.now.toNat)

/-- PPS_OUT_FALL (R313). -/
def execPpsOutFall (s : State) : Answer := s.whenever s.ppsOutOver { s with time := { s.time with ppsOut := false } }

/-- FABRIC_TIMEOUT_EXPIRE (R315): the running timeout with a number. -/
def execFabricTimeoutExpire (k : BitVec 40) (s : State) : Answer := s.commit (s.expire k.toNat)

end Sys2Proof.Machine
end

