-- ==== Sys2Proof/Machine/Dispatch.lean ====
section
/-! DEFINITION. One arm per command; each arm calls the command's meaning. -/

namespace Sys2Proof.Machine

open Sys2Proof

def exec (i : Instr) (s : State) : Host.Outcome State Fault Refusal :=
  match i with
  | .nop c w => Sys2Proof.Machine.execNop c w s
  | .semSet c w => Sys2Proof.Machine.execSemSet c w s
  | .semAdd c w => Sys2Proof.Machine.execSemAdd c w s
  | .regSet c w => Sys2Proof.Machine.execRegSet c w s
  | .regAlu c w => Sys2Proof.Machine.execRegAlu c w s
  | .cntOp c w => Sys2Proof.Machine.execCntOp c w s
  | .cmpSet c w => Sys2Proof.Machine.execCmpSet c w s
  | .loopBegin c w => Sys2Proof.Machine.execLoopBegin c w s
  | .skip c w => Sys2Proof.Machine.execSkip c w s
  | .waitCond c w => Sys2Proof.Machine.execWaitCond c w s
  | .waitCondSatisfied c => Sys2Proof.Machine.execWaitCondSatisfied c s
  | .streamEnd c w => Sys2Proof.Machine.execStreamEnd c w s
  | .semaphoreWaitEnd c => Sys2Proof.Machine.execSemaphoreWaitEnd c s
  | .fenceWaitEnd c => Sys2Proof.Machine.execFenceWaitEnd c s
  | .pass c w => Sys2Proof.Machine.execPass c w s
  | .weightLoadDone cl core => Sys2Proof.Machine.execWeightLoadDone cl core s
  | .passIssue cl core errs => Sys2Proof.Machine.execPassIssue cl core errs s
  | .hazardWaitEnd cl core cycles => Sys2Proof.Machine.execHazardWaitEnd cl core cycles s
  | .accReplay cl core => Sys2Proof.Machine.execAccReplay cl core s
  | .passRetire cl core => Sys2Proof.Machine.execPassRetire cl core s
  | .tileDrain c w => Sys2Proof.Machine.execTileDrain c w s
  | .tileDrainRetire cl core => Sys2Proof.Machine.execTileDrainRetire cl core s
  | .add c w => Sys2Proof.Machine.execAdd c w s
  | .sub c w => Sys2Proof.Machine.execSub c w s
  | .mul c w => Sys2Proof.Machine.execMul c w s
  | .fma c w => Sys2Proof.Machine.execFma c w s
  | .max c w => Sys2Proof.Machine.execMax c w s
  | .min c w => Sys2Proof.Machine.execMin c w s
  | .abs c w => Sys2Proof.Machine.execAbs c w s
  | .neg c w => Sys2Proof.Machine.execNeg c w s
  | .copysign c w => Sys2Proof.Machine.execCopysign c w s
  | .cmpEq c w => Sys2Proof.Machine.execCmpEq c w s
  | .cmpLt c w => Sys2Proof.Machine.execCmpLt c w s
  | .cmpLe c w => Sys2Proof.Machine.execCmpLe c w s
  | .select c w => Sys2Proof.Machine.execSelect c w s
  | .cvt c w => Sys2Proof.Machine.execCvt c w s
  | .rsum c w => Sys2Proof.Machine.execRsum c w s
  | .rsumsq c w => Sys2Proof.Machine.execRsumsq c w s
  | .rmax c w => Sys2Proof.Machine.execRmax c w s
  | .rmin c w => Sys2Proof.Machine.execRmin c w s
  | .ramax c w => Sys2Proof.Machine.execRamax c w s
  | .exp2 c w => Sys2Proof.Machine.execExp2 c w s
  | .log2 c w => Sys2Proof.Machine.execLog2 c w s
  | .rsqrt c w => Sys2Proof.Machine.execRsqrt c w s
  | .rcp c w => Sys2Proof.Machine.execRcp c w s
  | .tanh c w => Sys2Proof.Machine.execTanh c w s
  | .sigmoid c w => Sys2Proof.Machine.execSigmoid c w s
  | .gelu c w => Sys2Proof.Machine.execGelu c w s
  | .silu c w => Sys2Proof.Machine.execSilu c w s
  | .rmsnorm c w => Sys2Proof.Machine.execRmsnorm c w s
  | .layernorm c w => Sys2Proof.Machine.execLayernorm c w s
  | .smfin c w => Sys2Proof.Machine.execSmfin c w s
  | .stmerge c w => Sys2Proof.Machine.execStmerge c w s
  | .rope c w => Sys2Proof.Machine.execRope c w s
  | .vectorOpRetire c => Sys2Proof.Machine.execVectorOpRetire c s
  | .move c w => Sys2Proof.Machine.execMove c w s
  | .zero c w => Sys2Proof.Machine.execZero c w s
  | .moveRetire c mv => Sys2Proof.Machine.execMoveRetire c mv s
  | .maskWalk c w => Sys2Proof.Machine.execMaskWalk c w s
  | .maskWalkRetire c mv => Sys2Proof.Machine.execMaskWalkRetire c mv s
  | .route c w => Sys2Proof.Machine.execRoute c w s
  | .routeRetire c => Sys2Proof.Machine.execRouteRetire c s
  | .updTensor c w => Sys2Proof.Machine.execUpdTensor c w s
  | .updSchedule c w => Sys2Proof.Machine.execUpdSchedule c w s
  | .rsSend c w => Sys2Proof.Machine.execRsSend c w s
  | .agSend c w => Sys2Proof.Machine.execAgSend c w s
  | .sendRetire c => Sys2Proof.Machine.execSendRetire c s
  | .sendLogWaitEnd c => Sys2Proof.Machine.execSendLogWaitEnd c s
  | .vote c w => Sys2Proof.Machine.execVote c w s
  | .voteSend c => Sys2Proof.Machine.execVoteSend c s
  | .parcelSend c w => Sys2Proof.Machine.execParcelSend c w s
  | .metSnapshot c w => Sys2Proof.Machine.execMetSnapshot c w s
  | .metSnapshotDone => Sys2Proof.Machine.execMetSnapshotDone s
  | .twinArm c w => Sys2Proof.Machine.execTwinArm c w s
  | .calSet c w => Sys2Proof.Machine.execCalSet c w s
  | .ckptPush c w => Sys2Proof.Machine.execCkptPush c w s
  | .replay se c => Sys2Proof.Machine.execReplay se c s
  | .claimGrant c => Sys2Proof.Machine.execClaimGrant c s
  | .preempt se c => Sys2Proof.Machine.execPreempt se c s
  | .engineStopped c eng => Sys2Proof.Machine.execEngineStopped c eng s
  | .saveDone c => Sys2Proof.Machine.execSaveDone c s
  | .restoreDone c => Sys2Proof.Machine.execRestoreDone c s
  | .resume se c => Sys2Proof.Machine.execResume se c s
  | .restart se c => Sys2Proof.Machine.execRestart se c s
  | .release se c => Sys2Proof.Machine.execRelease se c s
  | .ctxBindWrite se c v => Sys2Proof.Machine.execCtxBindWrite se c v s
  | .ctxPrioWrite se c v => Sys2Proof.Machine.execCtxPrioWrite se c v s
  | .globDomClassMaxWrite se v => Sys2Proof.Machine.execGlobDomClassMaxWrite se v s
  | .cluPartWrite se cl v => Sys2Proof.Machine.execCluPartWrite se cl v s
  | .coreRowMapWrite se cl v => Sys2Proof.Machine.execCoreRowMapWrite se cl v s
  | .ledgerTick low => Sys2Proof.Machine.execLedgerTick low s
  | .lstepLeadElapsed rail => Sys2Proof.Machine.execLstepLeadElapsed rail s
  | .lstepDeassert rail => Sys2Proof.Machine.execLstepDeassert rail s
  | .throttleRecognised => Sys2Proof.Machine.execThrottleRecognised s
  | .throttleReleaseWarn => Sys2Proof.Machine.execThrottleReleaseWarn s
  | .throttleRelease => Sys2Proof.Machine.execThrottleRelease s
  | .throttleHeld => Sys2Proof.Machine.execThrottleHeld s
  | .throttleToggling => Sys2Proof.Machine.execThrottleToggling s
  | .profileSegmentStart rail => Sys2Proof.Machine.execProfileSegmentStart rail s
  | .profileEnd rail => Sys2Proof.Machine.execProfileEnd rail s
  | .ledgRailCeilWrite se acct v => Sys2Proof.Machine.execLedgRailCeilWrite se acct v s
  | .ledgCntClear se v => Sys2Proof.Machine.execLedgCntClear se v s
  | .stepStart e => Sys2Proof.Machine.execStepStart e s
  | .heldStepStart c => Sys2Proof.Machine.execHeldStepStart c s
  | .rampProfile e => Sys2Proof.Machine.execRampProfile e s
  | .windowOpen e => Sys2Proof.Machine.execWindowOpen e s
  | .commit e => Sys2Proof.Machine.execCommit e s
  | .checkpointStart e => Sys2Proof.Machine.execCheckpointStart e s
  | .contextRelease e => Sys2Proof.Machine.execContextRelease e s
  | .scrubStart e => Sys2Proof.Machine.execScrubStart e s
  | .calEntCtrlWrite se v => Sys2Proof.Machine.execCalEntCtrlWrite se v s
  | .calEntryFieldWrite se f v => Sys2Proof.Machine.execCalEntryFieldWrite se f v s
  | .calCntClear se v => Sys2Proof.Machine.execCalCntClear se v s
  | .ptpMessage rx m => Sys2Proof.Machine.execPtpMessage rx m s
  | .ptpAnnounceTimeout => Sys2Proof.Machine.execPtpAnnounceTimeout s
  | .ptpFailover => Sys2Proof.Machine.execPtpFailover s
  | .ppsInEdge => Sys2Proof.Machine.execPpsInEdge s
  | .ppsLost => Sys2Proof.Machine.execPpsLost s
  | .sourceLost => Sys2Proof.Machine.execSourceLost s
  | .timeErrBoundUpdate => Sys2Proof.Machine.execTimeErrBoundUpdate s
  | .timeTodNextWrite se v => Sys2Proof.Machine.execTimeTodNextWrite se v s
  | .timeNowLoRead se => Sys2Proof.Machine.execTimeNowLoRead se s
  | .timeCntClear se v => Sys2Proof.Machine.execTimeCntClear se v s
  | .ppsOutRise => Sys2Proof.Machine.execPpsOutRise s
  | .ppsOutFall => Sys2Proof.Machine.execPpsOutFall s
  | .fabricTimeoutExpire k => Sys2Proof.Machine.execFabricTimeoutExpire k s
  | .collectiveDeadline g t => Sys2Proof.Machine.execCollectiveDeadline g t s
  | .secondDeadline g t => Sys2Proof.Machine.execSecondDeadline g t s
  | .resultReceived rx f crc => Sys2Proof.Machine.execResultReceived rx f crc s
  | .endNoticeReceived rx f crc => Sys2Proof.Machine.execEndNoticeReceived rx f crc s
  | .abortReceived rx f crc => Sys2Proof.Machine.execAbortReceived rx f crc s
  | .voteDecision rx f crc => Sys2Proof.Machine.execVoteDecision rx f crc s
  | .stepResolve c => Sys2Proof.Machine.execStepResolve c s
  | .updChunkLanded => Sys2Proof.Machine.execUpdChunkLanded s
  | .parcelReqReceived rx f crc => Sys2Proof.Machine.execParcelReqReceived rx f crc s
  | .landingGrant => Sys2Proof.Machine.execLandingGrant s
  | .parcelGrantReceived rx f crc => Sys2Proof.Machine.execParcelGrantReceived rx f crc s
  | .parcelWriteAck p => Sys2Proof.Machine.execParcelWriteAck p s
  | .rdmaWriteReceived rx q rkey a data imm => Sys2Proof.Machine.execRdmaWriteReceived rx q rkey a data imm s
  | .landingSlotRelease l => Sys2Proof.Machine.execLandingSlotRelease l s
  | .qpError q => Sys2Proof.Machine.execQpError q s
  | .cnpReceived rx q => Sys2Proof.Machine.execCnpReceived rx q s
  | .cnpRateRecover q => Sys2Proof.Machine.execCnpRateRecover q s
  | .ingestPoll r => Sys2Proof.Machine.execIngestPoll r s
  | .ingestIndexRead r ix => Sys2Proof.Machine.execIngestIndexRead r ix s
  | .ingestRecordLanded r data => Sys2Proof.Machine.execIngestRecordLanded r data s
  | .ingestRelease r => Sys2Proof.Machine.execIngestRelease r s
  | .ckptWriteAck r => Sys2Proof.Machine.execCkptWriteAck r s
  | .mgmtRingEnableWrite se v => Sys2Proof.Machine.execMgmtRingEnableWrite se v s
  | .mgmtQpValidWrite se v => Sys2Proof.Machine.execMgmtQpValidWrite se v s
  | .hbmRead c a n errs => Sys2Proof.Machine.execHbmRead c a n errs s
  | .hbmWrite c a data => Sys2Proof.Machine.execHbmWrite c a data s
  | .wcFlushTimer st => Sys2Proof.Machine.execWcFlushTimer st s
  | .slowAccess c a n wr errs => Sys2Proof.Machine.execSlowAccess c a n wr errs s
  | .patrolRead pa errs last => Sys2Proof.Machine.execPatrolRead pa errs last s
  | .activate se => Sys2Proof.Machine.execActivate se s
  | .copyActive se => Sys2Proof.Machine.execCopyActive se s
  | .xlatInvalidateDone d => Sys2Proof.Machine.execXlatInvalidateDone d s
  | .admissionFillGranule g => Sys2Proof.Machine.execAdmissionFillGranule g s
  | .quiesce se st v => Sys2Proof.Machine.execQuiesce se st v s
  | .hbmQuiesced st => Sys2Proof.Machine.execHbmQuiesced st s
  | .stkRepairGo se st v => Sys2Proof.Machine.execStkRepairGo se st v s
  | .stkRepairDone st out ok => Sys2Proof.Machine.execStkRepairDone st out ok s
  | .hbmCntClear se st v => Sys2Proof.Machine.execHbmCntClear se st v s
  | .slowCntClear se v => Sys2Proof.Machine.execSlowCntClear se v s
  | .flitReceived a b resent errs => Sys2Proof.Machine.execFlitReceived a b resent errs s
  | .flitRetryExhausted a b => Sys2Proof.Machine.execFlitRetryExhausted a b s
  | .correctedWriteback x idle => Sys2Proof.Machine.execCorrectedWriteback x idle s
  | .fatalEscalationReset => Sys2Proof.Machine.execFatalEscalationReset s
  | .ceStormCheck => Sys2Proof.Machine.execCeStormCheck s
  | .rotate se => Sys2Proof.Machine.execRotate se s
  | .rotationMove d slow => Sys2Proof.Machine.execRotationMove d slow s
  | .forceRetire se => Sys2Proof.Machine.execForceRetire se s
  | .cmdRotate se => Sys2Proof.Machine.execCmdRotate se s
  | .keyPortLinkGenWrite se v => Sys2Proof.Machine.execKeyPortLinkGenWrite se v s
  | .secScrubStart se => Sys2Proof.Machine.execSecScrubStart se s
  | .tenantScrubGranule d slow => Sys2Proof.Machine.execTenantScrubGranule d slow s
  | .install se u => Sys2Proof.Machine.execInstall se u s
  | .commitSvn se u => Sys2Proof.Machine.execCommitSvn se u s
  | .nvPulseEnd held => Sys2Proof.Machine.execNvPulseEnd held s
  | .attGo se v => Sys2Proof.Machine.execAttGo se v s
  | .attReportDone se => Sys2Proof.Machine.execAttReportDone se s
  | .dbgCtrlWrite se v => Sys2Proof.Machine.execDbgCtrlWrite se v s
  | .openSession rx frame => Sys2Proof.Machine.execOpenSession rx frame s
  | .close rx frame => Sys2Proof.Machine.execClose rx frame s
  | .controlRequest rx frame => Sys2Proof.Machine.execControlRequest rx frame s
  | .rd32 se a => Sys2Proof.Machine.execRd32 se a s
  | .wr32 se a v => Sys2Proof.Machine.execWr32 se a v s
  | .rd64 se a => Sys2Proof.Machine.execRd64 se a s
  | .wr64 se a v => Sys2Proof.Machine.execWr64 se a v s
  | .poll32 se a mask want us => Sys2Proof.Machine.execPoll32 se a mask want us s
  | .poll32Match => Sys2Proof.Machine.execPoll32Match s
  | .pollTimeout => Sys2Proof.Machine.execPollTimeout s
  | .dpSet se sp d a => Sys2Proof.Machine.execDpSet se sp d a s
  | .dpWrite se data => Sys2Proof.Machine.execDpWrite se data s
  | .dpRead se n => Sys2Proof.Machine.execDpRead se n s
  | .warmReset se => Sys2Proof.Machine.execWarmReset se s
  | .sessCtrlClose se => Sys2Proof.Machine.execSessCtrlClose se s
  | .sessionIdleClose x => Sys2Proof.Machine.execSessionIdleClose x s
  | .mgmtCntClear se v => Sys2Proof.Machine.execMgmtCntClear se v s
  | .alertFrameSend x => Sys2Proof.Machine.execAlertFrameSend x s
  | .errQAckHiWrite se v => Sys2Proof.Machine.execErrQAckHiWrite se v s
  | .repairRequest se v => Sys2Proof.Machine.execRepairRequest se v s
  | .eventClear se page v => Sys2Proof.Machine.execEventClear se page v s
  | .eventForce se page v => Sys2Proof.Machine.execEventForce se page v s
  | .lockWrite se page v => Sys2Proof.Machine.execLockWrite se page v s
  | .registerWrite se a v => Sys2Proof.Machine.execRegisterWrite se a v s
  | .metLoRead se off => Sys2Proof.Machine.execMetLoRead se off s
  | .ctxNanStatusClear se c v => Sys2Proof.Machine.execCtxNanStatusClear se c v s
  | .ctxSatCountClear se c v => Sys2Proof.Machine.execCtxSatCountClear se c v s
  | .ctxAccReplayCountClear se c v => Sys2Proof.Machine.execCtxAccReplayCountClear se c v s
  | .coreAccReplaysClear se cl v => Sys2Proof.Machine.execCoreAccReplaysClear se cl v s
  | .coreCntClear se cl v => Sys2Proof.Machine.execCoreCntClear se cl v s
  | .cluCntClear se cl v => Sys2Proof.Machine.execCluCntClear se cl v s
  | .rteCntClear se cl v => Sys2Proof.Machine.execRteCntClear se cl v s
  | .collCntClear se v => Sys2Proof.Machine.execCollCntClear se v s
  | .updCntClear se v => Sys2Proof.Machine.execUpdCntClear se v s
  | .ethCntClear se p v => Sys2Proof.Machine.execEthCntClear se p v s
  | .ptpCntClear se v => Sys2Proof.Machine.execPtpCntClear se v s
  | .tempCntClear se v => Sys2Proof.Machine.execTempCntClear se v s
  | .updCtxEpochWrite se v => Sys2Proof.Machine.execUpdCtxEpochWrite se v s
  | .updProgCtrlWrite se v => Sys2Proof.Machine.execUpdProgCtrlWrite se v s
  | .linkUp p => Sys2Proof.Machine.execLinkUp p s
  | .linkDown p => Sys2Proof.Machine.execLinkDown p s
  | .sakInstalled p => Sys2Proof.Machine.execSakInstalled p s
  | .metSample xs inClass => Sys2Proof.Machine.execMetSample xs inClass s
  | .metCheckpoint ok => Sys2Proof.Machine.execMetCheckpoint ok s
  | .metClockFault => Sys2Proof.Machine.execMetClockFault s
  | .metXtalCompare ppm => Sys2Proof.Machine.execMetXtalCompare ppm s
  | .metClockRestored => Sys2Proof.Machine.execMetClockRestored s
  | .calibrationSet blob sig => Sys2Proof.Machine.execCalibrationSet blob sig s
  | .powerOn => Sys2Proof.Machine.execPowerOn s
  | .resetNAssert => Sys2Proof.Machine.execResetNAssert s
  | .resetNRelease conv => Sys2Proof.Machine.execResetNRelease conv s
  | .fuseSenseDone => Sys2Proof.Machine.execFuseSenseDone s
  | .firmwareBoot => Sys2Proof.Machine.execFirmwareBoot s
  | .keyDerivationDone => Sys2Proof.Machine.execKeyDerivationDone s
  | .memoryTrainingDone => Sys2Proof.Machine.execMemoryTrainingDone s
  | .dieStagingDone die bad => Sys2Proof.Machine.execDieStagingDone die bad s
  | .linkTrainingDone => Sys2Proof.Machine.execLinkTrainingDone s
  | .watchdogExpired => Sys2Proof.Machine.execWatchdogExpired s
  | .thermalTrip sensor t => Sys2Proof.Machine.execThermalTrip sensor t s
  | .warmResetEnter => Sys2Proof.Machine.execWarmResetEnter s
  | .thermalHoldExit => Sys2Proof.Machine.execThermalHoldExit s
  | .pllUnlock dom => Sys2Proof.Machine.execPllUnlock dom s
  | .thermalThrottle sensor t => Sys2Proof.Machine.execThermalThrottle sensor t s
  | .thermalRelease rail ts => Sys2Proof.Machine.execThermalRelease rail ts s
  | .stackHot st t => Sys2Proof.Machine.execStackHot st t s
  | .pmbusPoll ans => Sys2Proof.Machine.execPmbusPoll ans s
  | .pmbAlert ans => Sys2Proof.Machine.execPmbAlert ans s
  | .avsWrite rail mv fails => Sys2Proof.Machine.execAvsWrite rail mv fails s
  | .tapReset => Sys2Proof.Machine.execTapReset s
  | .extest cells => Sys2Proof.Machine.execExtest cells s
  | .idcode => Sys2Proof.Machine.execIdcode s
  | .samplePreload cells => Sys2Proof.Machine.execSamplePreload cells s
  | .clamp => Sys2Proof.Machine.execClamp s
  | .highz => Sys2Proof.Machine.execHighz s
  | .extestPulse cells => Sys2Proof.Machine.execExtestPulse cells s
  | .extestTrain cells => Sys2Proof.Machine.execExtestTrain cells s
  | .segSel seg => Sys2Proof.Machine.execSegSel seg s
  | .dbgAccess reg a n wr => Sys2Proof.Machine.execDbgAccess reg a n wr s
  | .metCal => Sys2Proof.Machine.execMetCal s
  | .stk1500 bits => Sys2Proof.Machine.execStk1500 bits s
  | .prodTest code => Sys2Proof.Machine.execProdTest code s
  | .bypass code => Sys2Proof.Machine.execBypass code s
  | .pwrokRise conv => Sys2Proof.Machine.execPwrokRise conv s
  | .stackHotClear st t => Sys2Proof.Machine.execStackHotClear st t s
  | .thermTripRelease sensor t => Sys2Proof.Machine.execThermTripRelease sensor t s
  | .msecDown p => Sys2Proof.Machine.execMsecDown p s
  | .fwDone => Sys2Proof.Machine.execFwDone s
  | .qpAckTimeout q => Sys2Proof.Machine.execQpAckTimeout q s
  | .pfcPauseReceived p mask quanta => Sys2Proof.Machine.execPfcPauseReceived p mask quanta s

end Sys2Proof.Machine
end

