-- ==== Sys2Proof/WellFormed.lean ====
section
/-! DEFINITION. Which commands a sender may form: a stream command stands in the row of its own opcode, and every unit number names a unit the module has. -/

namespace Sys2Proof

open Sys2Proof.Machine

/-- Does the 32-byte command belong to the row of an opcode: its own, or one that R221 does not list? -/
def opcodeOk (op : Nat) (w : Cmd) : Bool := decide (w.opcode = op) || !(opInfo w.opcode).isSome

/-- A well-formed command. -/
def Instr.wf (i : Instr) : Bool :=
  match i with
  | .nop _ w => opcodeOk 0x00 w
  | .semSet _ w => opcodeOk 0x01 w
  | .semAdd _ w => opcodeOk 0x02 w
  | .regSet _ w => opcodeOk 0x03 w
  | .regAlu _ w => opcodeOk 0x04 w
  | .cntOp _ w => opcodeOk 0x05 w
  | .cmpSet _ w => opcodeOk 0x06 w
  | .loopBegin _ w => opcodeOk 0x07 w
  | .skip _ w => opcodeOk 0x08 w
  | .waitCond _ w => opcodeOk 0x09 w
  | .waitCondSatisfied _ => true
  | .streamEnd _ w => opcodeOk 0x0A w
  | .semaphoreWaitEnd _ => true
  | .fenceWaitEnd _ => true
  | .pass _ w => opcodeOk 0x10 w
  | .weightLoadDone cl x => coreExists cl x.core
  | .passIssue cl core _ => coreExists cl core
  | .hazardWaitEnd cl core _ => coreExists cl core
  | .accReplay cl core => coreExists cl core
  | .passRetire cl x => coreExists cl x.core
  | .tileDrain _ w => opcodeOk 0x11 w
  | .tileDrainRetire cl x => coreExists cl x.core
  | .add _ w => opcodeOk 0x20 w
  | .sub _ w => opcodeOk 0x21 w
  | .mul _ w => opcodeOk 0x22 w
  | .fma _ w => opcodeOk 0x23 w
  | .max _ w => opcodeOk 0x24 w
  | .min _ w => opcodeOk 0x25 w
  | .abs _ w => opcodeOk 0x26 w
  | .neg _ w => opcodeOk 0x27 w
  | .copysign _ w => opcodeOk 0x28 w
  | .cmpEq _ w => opcodeOk 0x29 w
  | .cmpLt _ w => opcodeOk 0x2A w
  | .cmpLe _ w => opcodeOk 0x2B w
  | .select _ w => opcodeOk 0x2C w
  | .cvt _ w => opcodeOk 0x2D w
  | .rsum _ w => opcodeOk 0x2E w
  | .rsumsq _ w => opcodeOk 0x2F w
  | .rmax _ w => opcodeOk 0x30 w
  | .rmin _ w => opcodeOk 0x31 w
  | .ramax _ w => opcodeOk 0x32 w
  | .exp2 _ w => opcodeOk 0x33 w
  | .log2 _ w => opcodeOk 0x34 w
  | .rsqrt _ w => opcodeOk 0x35 w
  | .rcp _ w => opcodeOk 0x36 w
  | .tanh _ w => opcodeOk 0x37 w
  | .sigmoid _ w => opcodeOk 0x38 w
  | .gelu _ w => opcodeOk 0x39 w
  | .silu _ w => opcodeOk 0x3A w
  | .rmsnorm _ w => opcodeOk 0x3B w
  | .layernorm _ w => opcodeOk 0x3C w
  | .smfin _ w => opcodeOk 0x3D w
  | .stmerge _ w => opcodeOk 0x3E w
  | .rope _ w => opcodeOk 0x3F w
  | .vectorOpRetire _ => true
  | .move _ w => opcodeOk 0x40 w
  | .zero _ w => opcodeOk 0x41 w
  | .moveRetire _ _ => true
  | .maskWalk _ w => opcodeOk 0x42 w
  | .maskWalkRetire _ _ => true
  | .route _ w => opcodeOk 0x50 w
  | .routeRetire _ => true
  | .updTensor _ w => opcodeOk 0x60 w
  | .updSchedule _ w => opcodeOk 0x61 w
  | .rsSend _ w => opcodeOk 0x70 w
  | .agSend _ w => opcodeOk 0x71 w
  | .sendRetire _ => true
  | .sendLogWaitEnd _ => true
  | .vote _ w => opcodeOk 0x72 w
  | .voteSend _ => true
  | .parcelSend _ w => opcodeOk 0x78 w
  | .metSnapshot _ w => opcodeOk 0x80 w
  | .metSnapshotDone => true
  | .twinArm _ w => opcodeOk 0x90 w
  | .calSet _ w => opcodeOk 0xA0 w
  | .ckptPush _ w => opcodeOk 0xB0 w
  | .replay _ _ => true
  | .claimGrant _ => true
  | .preempt _ _ => true
  | .engineStopped _ eng => (engineOf eng.toNat).isSome
  | .saveDone _ => true
  | .restoreDone _ => true
  | .resume _ _ => true
  | .restart _ _ => true
  | .release _ _ => true
  | .ctxBindWrite _ _ _ => true
  | .ctxPrioWrite _ _ _ => true
  | .globDomClassMaxWrite _ _ => true
  | .cluPartWrite _ cl _ => cluExists cl
  | .coreRowMapWrite _ cl _ => cluExists cl
  | .ledgerTick _ => true
  | .lstepLeadElapsed _ => true
  | .lstepDeassert _ => true
  | .throttleRecognised => true
  | .throttleReleaseWarn => true
  | .throttleRelease => true
  | .throttleHeld => true
  | .throttleToggling => true
  | .profileSegmentStart _ => true
  | .profileEnd _ => true
  | .ledgRailCeilWrite _ acct _ => decide (acct.toNat < 13)
  | .ledgCntClear _ _ => true
  | .stepStart _ => true
  | .heldStepStart _ => true
  | .rampProfile _ => true
  | .windowOpen _ => true
  | .commit _ => true
  | .checkpointStart _ => true
  | .contextRelease _ => true
  | .scrubStart _ => true
  | .calEntCtrlWrite _ _ => true
  | .calEntryFieldWrite _ f _ => (calField f).isSome
  | .calCntClear _ _ => true
  | .ptpMessage _ _ => true
  | .ptpAnnounceTimeout => true
  | .ptpFailover => true
  | .ppsInEdge => true
  | .ppsLost => true
  | .sourceLost => true
  | .timeErrBoundUpdate => true
  | .timeTodNextWrite _ _ => true
  | .timeNowLoRead _ => true
  | .timeCntClear _ _ => true
  | .ppsOutRise => true
  | .ppsOutFall => true
  | .fabricTimeoutExpire _ => true
  | .collectiveDeadline _ _ => true
  | .secondDeadline _ _ => true
  | .resultReceived _ _ _ => true
  | .endNoticeReceived _ _ _ => true
  | .abortReceived _ _ _ => true
  | .voteDecision _ _ _ => true
  | .stepResolve _ => true
  | .updChunkLanded => true
  | .parcelReqReceived _ _ _ => true
  | .landingGrant => true
  | .parcelGrantReceived _ _ _ => true
  | .parcelWriteAck _ => true
  | .rdmaWriteReceived _ _ _ _ _ _ => true
  | .landingSlotRelease _ => true
  | .qpError _ => true
  | .cnpReceived _ _ => true
  | .cnpRateRecover _ => true
  | .ingestPoll _ => true
  | .ingestIndexRead _ _ => true
  | .ingestRecordLanded _ _ => true
  | .ingestRelease _ => true
  | .ckptWriteAck _ => true
  | .mgmtRingEnableWrite _ _ => true
  | .mgmtQpValidWrite _ _ => true
  | .hbmRead _ _ _ _ => true
  | .hbmWrite _ _ _ => true
  | .wcFlushTimer _ => true
  | .slowAccess _ _ _ _ _ => true
  | .patrolRead _ _ _ => true
  | .activate _ => true
  | .copyActive _ => true
  | .xlatInvalidateDone _ => true
  | .admissionFillGranule _ => true
  | .quiesce _ _ _ => true
  | .hbmQuiesced _ => true
  | .stkRepairGo _ _ _ => true
  | .stkRepairDone _ _ _ => true
  | .hbmCntClear _ _ _ => true
  | .slowCntClear _ _ => true
  | .flitReceived a b _ f => linkExists a b && decide (f.errs.length = 2 + f.words.val)
  | .flitRetryExhausted a b => linkExists a b
  | .correctedWriteback x _ => Damage.exists' x
  | .fatalEscalationReset => true
  | .ceStormCheck => true
  | .rotate _ => true
  | .rotationMove _ _ => true
  | .forceRetire _ => true
  | .cmdRotate _ => true
  | .keyPortLinkGenWrite _ _ => true
  | .secScrubStart _ => true
  | .tenantScrubGranule _ _ => true
  | .install _ _ => true
  | .commitSvn _ _ => true
  | .nvPulseEnd _ => true
  | .attGo _ _ => true
  | .attReportDone _ => true
  | .dbgCtrlWrite _ _ => true
  | .openSession _ _ => true
  | .close _ _ => true
  | .controlRequest _ _ => true
  | .rd32 _ _ => true
  | .wr32 _ _ _ => true
  | .rd64 _ _ => true
  | .wr64 _ _ _ => true
  | .poll32 _ _ _ _ _ => true
  | .poll32Match => true
  | .pollTimeout => true
  | .dpSet _ _ _ _ => true
  | .dpWrite _ _ => true
  | .dpRead _ _ => true
  | .warmReset _ => true
  | .sessCtrlClose _ => true
  | .sessionIdleClose _ => true
  | .mgmtCntClear _ _ => true
  | .alertFrameSend _ => true
  | .errQAckHiWrite _ _ => true
  | .repairRequest _ _ => true
  | .eventClear _ _ _ => true
  | .eventForce _ _ _ => true
  | .lockWrite _ _ _ => true
  | .registerWrite _ _ _ => true
  | .metLoRead _ _ => true
  | .ctxNanStatusClear _ _ _ => true
  | .ctxSatCountClear _ _ _ => true
  | .ctxAccReplayCountClear _ _ _ => true
  | .coreAccReplaysClear _ cl _ => cluExists cl
  | .coreCntClear _ cl _ => cluExists cl
  | .cluCntClear _ cl _ => cluExists cl
  | .rteCntClear _ cl _ => cluExists cl
  | .collCntClear _ _ => true
  | .updCntClear _ _ => true
  | .ethCntClear _ p _ => decide (p.toNat < 18)
  | .ptpCntClear _ _ => true
  | .tempCntClear _ _ => true
  | .updCtxEpochWrite _ _ => true
  | .updProgCtrlWrite _ _ => true
  | .linkUp p => decide (p.toNat < 18)
  | .linkDown p => decide (p.toNat < 18)
  | .sakInstalled p => decide (p.toNat < 18)
  | .metSample _ _ => true
  | .metCheckpoint _ => true
  | .metClockFault => true
  | .metXtalCompare _ => true
  | .metClockRestored => true
  | .calibrationSet _ _ => true
  | .powerOn => true
  | .resetNAssert => true
  | .resetNRelease _ => true
  | .fuseSenseDone => true
  | .firmwareBoot => true
  | .keyDerivationDone => true
  | .memoryTrainingDone => true
  | .dieStagingDone _ _ => true
  | .linkTrainingDone => true
  | .watchdogExpired => true
  | .thermalTrip sensor _ => sensorExists sensor
  | .warmResetEnter => true
  | .thermalHoldExit => true
  | .pllUnlock dom => decide (1 ≤ dom.toNat) && decide (dom.toNat ≤ 25)
  | .thermalThrottle sensor _ => sensorExists sensor
  | .thermalRelease _ _ => true
  | .stackHot _ _ => true
  | .pmbusPoll _ => true
  | .pmbAlert _ => true
  | .avsWrite _ _ _ => true
  | .tapReset => true
  | .extest _ => true
  | .idcode => true
  | .samplePreload _ => true
  | .clamp => true
  | .highz => true
  | .extestPulse _ => true
  | .extestTrain _ => true
  | .segSel seg => decide (seg.toNat < 26)
  | .dbgAccess _ _ _ _ => true
  | .metCal => true
  | .stk1500 _ => true
  | .prodTest _ => true
  | .bypass _ => true
  | .pwrokRise _ => true
  | .stackHotClear _ _ => true
  | .thermTripRelease sensor _ => sensorExists sensor
  | .msecDown p => decide (p.toNat < 18)
  | .fwDone => true
  | .qpAckTimeout _ => true
  | .pfcPauseReceived p _ _ => decide (p.toNat < 18)

end Sys2Proof
end

