-- ==== Sys2Proof/Safety.lean ====
section
/-! DEFINITION. What counts as a safe run, and the conditions under which claims say that a command completes. -/

namespace Sys2Proof.Machine

open Sys2Proof

/-- Every waiting command is well formed: no run from the state stops. -/
def State.safe (s : State) : Bool := s.pending.all Instr.wf

/-- The front end of context c takes a command now: the context runs, holds no command, is in no chain, does not skip the command, and its semaphore wait and fence are met (R217, R231, R233). -/
def State.ready (s : State) (c : Nat) (w : Cmd) : Bool :=
  let r := s.getCtx c
  r.run == .running && r.held.isNone && r.chainLeft == 0 && !(w.condEn && s.cond c w.condSel == w.condNeg)
    && decide (w.waitDec ≤ (s.sem c w.waitSem).toNat) && (!w.fence || r.live.isEmpty)

/-- Admission accepts a command outside a chain, and finds a (R248). -/
def State.admits (s : State) (c : Nat) (w : Cmd) (a : Admitted) : Bool :=
  match s.admission c (s.pc c).toNat w with
  | .ok x => x.1 == a && x.2 == 0
  | .error _ => false

/-- Admission accepts a chain's head or a command outside a chain: it finds a, and n members behind the head (R224, R248). -/
def State.admitsChain (s : State) (c : Nat) (w : Cmd) (a : Admitted) (n : Nat) : Bool :=
  match s.admission c (s.pc c).toNat w with
  | .ok x => x.1 == a && x.2 == n
  | .error _ => false

/-- The state in which an admitted command reaches its engine: counted, its semaphore taken, the position moved on (R231, R242). -/
def State.issued (s : State) (c : Nat) (w : Cmd) : State := (s.beginIssue c w).moveTo c ((s.pc c).toNat + 32)

/-- The command in flight that a vector, mover or router command becomes at issue: with its operands per cluster, the parameter it has read and its step (R216, R229, R364). -/
def State.clusterLive (s : State) (c : Nat) (w : Cmd) (a : Admitted) : Live :=
  { id := (s.getCtx c).nextId, off := (s.pc c).toNat, w := w, left := 1, clus := ((s.instances c w a).map InstOps.cl).eraseDups,
    insts := s.instances c w a, par := (s.issued c w).parRead c w, step := s.step' c }

/-- The chain of n members that an admitted head opens (R224). -/
def State.chained (s : State) (c n : Nat) : State :=
  if n = 0 then s else s.modCtx c fun r => { r with chainLeft := n, chainId := (s.getCtx c).nextId, chainPos := 1 }

/-- The array's record of a command as its instances enter their queues: in flight, its chain opened (R216, R224). -/
def State.queuing (s : State) (c : Nat) (w : Cmd) (a : Admitted) (n : Nat) : State :=
  let insts := (s.chained c n).instances c w a
  (((s.chained c n).issued c w).addLive c (s.pc c).toNat w insts.length (insts.map InstOps.cl).eraseDups).1

/-- A core's record apart from which of its queued operations have their current. -/
def CoreRec.ungranted (r : CoreRec) : CoreRec := { r with queue := r.queue.map fun p => { p with granted := false } }

/-- No fabric command of a context waits for its current (R287). -/
def State.noneWaits (s : State) (c : Nat) : Bool := (s.getCtx c).live.all fun l => !(l.w.iclass == 8 && l.waits)

/-- No other context than c has a router operation that waits for its units: at issue, or to start again (R180). -/
def State.routerQuiet (s : State) (c : Nat) : Bool :=
  s.ctx.all fun p => if p.1 = c then p.2 == s.getCtx c else !((match p.2.held with | some (w, .engine) => w.eclass == 4 | _ => false) || p.2.live.any fun l => l.w.eclass == 4 && l.waits)

/-- Where a context stands after a command that ends at `pc`, loops closed (R242). -/
def State.nextPc (s : State) (c pc : Nat) : Nat := (closeLoops pc (s.getCtx c).stack).1

/-- A command has joined those in flight of its context, and the stream has moved on. -/
def State.flown (s : State) (c : Nat) (t : State) : Prop :=
  (t.pc c).toNat = s.nextPc c ((s.pc c).toNat + 32) ∧ (t.getCtx c).live.map Live.id = (s.getCtx c).live.map Live.id ++ [(s.getCtx c).nextId]

/-- The stream goes on inside its length after a command that ends at `pc` (R239). -/
def State.room (s : State) (c pc : Nat) : Bool := decide (s.nextPc c pc < s.streamLen c)

/-- A command that moves on by one issues in its row: the front end takes it, admission accepts it and the stream goes on. -/
def State.issues (s : State) (c : Nat) (w : Cmd) (a : Admitted) : Bool :=
  s.ready c w && s.admits c w a && s.room c ((s.pc c).toNat + 32)

/-- Registers of a register target of R227. -/
def regTargetKeys (c t : Nat) : List Nat :=
  if t < 64 then [reg (pgCTX c) (Off.CTX_PARn_LO + 8 * t), reg (pgCTX c) (Off.CTX_PARn_LO + 8 * t) + 4]
  else [reg (pgCTX c) (Off.CTX_AREGn_LO + 8 * (t - 64)), reg (pgCTX c) (Off.CTX_AREGn_LO + 8 * (t - 64)) + 4]

/-- A lone entry of an open session is applied at once: the module is READY, no frame is in progress and none waits (R439, R553). -/
def State.serves (s : State) (se : Nat) : Bool :=
  s.stage == 8 && (s.getSess se).isOpen && s.frame.isNone && s.jobs.isEmpty

/-- The state in which an entry of a session is applied outside a frame (R441). -/
def State.applying (s : State) (se : Nat) (e : CtlEntry) : State :=
  { s with frame := some { se := se, port := 16 + b2n (s.getSess se).port, framed := false, rest := [e] } }

/-- An entry outside a frame is answered (R441). -/
def State.answered (s : State) (se : Nat) (c : Code) (v : Nat) (d : List Byte) : State :=
  ({ s with frame := none, logOpen := [] } : State).emit (.response se c (BitVec.ofNat 64 v) d)

/-- What a session's write of a register leaves before it is answered: the code of a refused start, and the state (R441, R483). -/
def State.wrote (s : State) (se a : Nat) (v : Word) : Code × State :=
  let t := s.applying se { op := 2, addr := a, value := v.toNat }
  (t.logReg se a 4 (t.touched se a true v)).regWrite se a v

/-- The state in which a session's read of a register finds its value: an operator's access is logged (R441, R483). -/
def State.reading (s : State) (se a n : Nat) : State :=
  let t := s.applying se { op := if n = 8 then 3 else 1, addr := a }
  t.logReg se a n (t.touched se a false 0 ++ if n = 8 then t.touched se (a + 4) false 0 else [])

/-- The session may write the register, and nothing is under way before the write (R434, R439). -/
def State.mayWrite (s : State) (se : SessIx) (a : Nat) (v : Word) : Bool := s.serves se.toNat && !s.denied se.toNat a true v

/-- Nothing but registers, the answer and the access logs differs between two states. -/
def State.onlyRegs (s t : State) : Prop := { t with regs := s.regs, sregs := s.sregs, out := s.out, logs := s.logs, logOpen := s.logOpen } = s

end Sys2Proof.Machine

namespace Sys2Proof

open Sys2Proof.Machine

/-- Registers that the waits and signals of any command may change: its semaphores, the position, the count of issued commands and the stream's status (R231, R252). -/
def Cmd.issueKeys (w : Cmd) (c : Nat) : List Nat :=
  (if w.waitDec = 0 then [] else [semKey c w.waitSem]) ++ (if w.sigInc = 0 then [] else [semKey c w.sigSem]) ++
    [reg (pgCTX c) Off.CTX_PC_LO, reg (pgCTX c) Off.CTX_PC_LO + 4, reg (pgCTX c) Off.CTX_ISSUED_LO, reg (pgCTX c) Off.CTX_ISSUED_LO + 4,
     reg (pgCTX c) Off.CTX_STREAM_STATUS]

/-- Registers that a control command of R227 names as its destination. -/
def Cmd.targetKeys (w : Cmd) (c : Nat) : List Nat :=
  match w.opcode with
  | 1 => [semKey c (w.op 0 8)]
  | 2 => [semKey c (w.op 0 8)]
  | 3 => regTargetKeys c (w.op 0 7)
  | 4 => regTargetKeys c (w.op 0 7)
  | 5 => [cntKey c (w.op 0 3)]
  | 6 => [reg (pgCTX c) (Off.CTX_CMPn_CTRL + 8 * w.op 0 3), reg (pgCTX c) (Off.CTX_CMPn_CTRL + 8 * w.op 0 3) + 4]
  | _ => []

end Sys2Proof
end

