-- ==== Sys2Proof/Certificates/Slice0/Obligations.lean ====
section
/-! DEFINITION. Statements for the provers: what the block's commands do, by the numbered rules of the spec. -/

open Sys2Proof Sys2Proof.Machine

/-! ## The machine as a whole -/

/-- A step takes the command at the front of the queue and runs it with the queue's rest; with no command waiting, one cycle of fabric time passes while the PLL of clock domain 20 is locked (log entry 4, DESIGN CHOICE), and nothing happens else. -/
def Obligations.StepRunsFrontCommand : Prop :=
  ∀ (s : State) (c : Instr) (r : List Instr),
    step { s with pending := c :: r } = exec c { s with pending := r } ∧
    (bit (s.rd (reg pgCLK Off.CLK_LOCK)) 19 = false → step { s with pending := [] } = .next { s with pending := [] }) ∧
    (bit (s.rd (reg pgCLK Off.CLK_LOCK)) 19 = true → ∃ t, step { s with pending := [] } = .next t ∧
      { t with now := s.now, frac := s.frac, pending := s.pending } = s)

/-- A well-formed command answers a next state in every state and leaves the queue of waiting commands as it is; any other stops by name, with the fault of an absent unit or the refusal of a command of another row. -/
def Obligations.WellFormedCommandsComplete : Prop :=
  ∀ (i : Instr) (s : State),
    (i.wf = true → ∃ t, exec i s = .next t ∧ t.pending = s.pending) ∧
    (i.wf = false → exec i s = .fault .noSuchUnit ∨ exec i s = .refused .wrongOpcode)

/-- INVARIANT of every step: where every waiting command is well formed, a step answers a next state, takes exactly one command, and every command that still waits is well formed. -/
def Obligations.StepKeepsQueueSafe : Prop :=
  ∀ s : State, s.safe = true → ∃ t, step s = .next t ∧ t.safe = true ∧ t.pending = s.pending.tail

/-- A queue of well-formed commands runs to its end: after as many steps as commands wait, none has faulted or been refused and the queue is empty. -/
def Obligations.SafeQueueRunsOut : Prop :=
  ∀ s : State, s.safe = true → ∃ t, core.run s.pending.length s = .next t ∧ t.pending = []

/-- The state after reset is safe, its memory is in canonical form, every byte of it reads 0 (log entry 2, the model's choice), and it is a power-on reset just recognised (log entry 14, DEDUCED): RST_CAUSE and RST_COUNT_COLD read 1 and RST_STAGE 0 (R542, R560), no context is bound, no session is open and no control frame waits, and fabric time is 0. -/
def Obligations.ResetState : Prop :=
  State.reset.safe = true ∧ Memory.wf State.reset.mem = true ∧ (∀ a, State.reset.byte a = 0) ∧
  State.reset.rd (reg pgRST Off.RST_CAUSE) = 1 ∧ State.reset.rd (reg pgRST Off.RST_COUNT_COLD) = 1 ∧ State.reset.stage = 0 ∧ State.reset.now = 0 ∧
  (∀ c, (State.reset.getCtx c).run = .unbound) ∧ (∀ i, (State.reset.getSess i).isOpen = false) ∧ State.reset.frame = none

/-! ## Control commands of a stream (R227 to R245) -/

/-- NOP, SEM_SET, SEM_ADD, REG_SET, REG_ALU, CNT_OP and CMP_SET issue and retire at once: the position moves on by one command with loops closed, the command counts as issued, and nothing changes but the loop stack, the register target, the semaphores of its wait and signal, and the stream's status. -/
def Obligations.ControlCommandsFrame : Prop :=
  ∀ (s : State) (c : Ctx) (w : Cmd) (a : Admitted) (i : Instr),
    i ∈ [Instr.nop c w, .semSet c w, .semAdd c w, .regSet c w, .regAlu c w, .cntOp c w, .cmpSet c w] → i.wf = true → w.opcode ≤ 6 →
    s.issues c.toNat w a = true →
    ∃ t, exec i s = .next t ∧ { t with regs := s.regs, ctx := s.ctx } = s ∧
      (t.pc c.toNat).toNat = s.nextPc c.toNat ((s.pc c.toNat).toNat + 32) ∧
      t.rd64 (reg (pgCTX c.toNat) Off.CTX_ISSUED_LO) = satAdd (s.rd64 (reg (pgCTX c.toNat) Off.CTX_ISSUED_LO)) 1 ∧
      (∀ d, t.getCtx d = if d = c.toNat then
        { s.getCtx d with stack := (closeLoops ((s.pc d).toNat + 32) (s.getCtx d).stack).2 } else s.getCtx d) ∧
      ∀ k, k ∉ w.issueKeys c.toNat ++ w.targetKeys c.toNat → t.rd k = s.rd k

/-- The results of R227: what SEM_SET, SEM_ADD, REG_SET, REG_ALU, CNT_OP and CMP_SET leave in their targets, with the command's own wait taken before and its own signal added after (R231). -/
def Obligations.ControlCommandResults : Prop :=
  ∀ (s : State) (c : Ctx) (w : Cmd) (a : Admitted), s.issues c.toNat w a = true →
    let x := c.toNat
    (w.opcode = 1 → ∃ t, exec (.semSet c w) s = .next t ∧
      t.sem x (w.op 0 8) = satAdd (BitVec.ofNat 32 (w.op 32 32)) (if w.sigSem = w.op 0 8 then w.sigInc else 0)) ∧
    (w.opcode = 2 → ∃ t, exec (.semAdd c w) s = .next t ∧
      let v := s.sem x (w.op 0 8) - (if w.waitSem = w.op 0 8 then BitVec.ofNat 32 w.waitDec else 0)
      t.sem x (w.op 0 8) = satAdd (satAdd v (w.op 32 32)) (if w.sigSem = w.op 0 8 then w.sigInc else 0) ∧
      (2 ^ 32 ≤ v.toNat + w.op 32 32 → bit (t.rd (reg (pgCTX x) Off.CTX_STREAM_STATUS)) 1 = true)) ∧
    (w.opcode = 3 → ∃ t, exec (.regSet c w) s = .next t ∧ t.target x (w.op 0 7) = w.op1) ∧
    (w.opcode = 4 → ∃ t, exec (.regAlu c w) s = .next t ∧
      t.target x (w.op 0 7) = aluOp (w.op 22 4) (s.target x (w.op 7 7)) (if w.opBit 21 then w.op1 else s.target x (w.op 14 7))) ∧
    (w.opcode = 5 → ∃ t, exec (.cntOp c w) s = .next t ∧
      let v := BitVec.ofNat 32 (w.op 32 32)
      t.rd (cntKey x (w.op 0 3)) = if w.op 3 2 = 0 then v else if w.op 3 2 = 1 then s.rd (cntKey x (w.op 0 3)) + v else s.rd (cntKey x (w.op 0 3)) - v) ∧
    (w.opcode = 6 → ∃ t, exec (.cmpSet c w) s = .next t ∧
      fld (t.rd (reg (pgCTX x) (Off.CTX_CMPn_CTRL + 8 * w.op 0 3))) 0 21 = w.op 3 21 ∧
      (t.rd (reg (pgCTX x) (Off.CTX_CMPn_REF + 8 * w.op 0 3))).toNat = w.op 64 32)

/-- LOOP_BEGIN with a latched count above 0 opens a loop over its body at index 0 and goes on behind itself; with a count of 0 it passes over the body and no loop opens (R241, R242). -/
def Obligations.LoopBeginOpensOrSkips : Prop :=
  ∀ (s : State) (c : Ctx) (w : Cmd) (a : Admitted),
    let x := c.toNat
    let pc := (s.pc x).toNat
    let stop := pc + 32 * (w.op 0 16 + 1)
    let n := if w.opBit 16 then (s.par x (w.op 17 6)).toNat else w.op 24 24
    w.opcode = 7 → s.ready x w = true → s.admits x w a = true → n < 2 ^ 32 → pc + 32 < s.streamLen x →
    (n ≠ 0 → ∃ t, exec (.loopBegin c w) s = .next t ∧ (t.pc x).toNat = pc + 32 ∧
      (t.getCtx x).stack = { start := pc + 32, stop := stop, count := n, index := 0,
                             reg := if w.opBit 16 then some (w.op 17 6) else none } :: (s.getCtx x).stack ∧
      (t.getCtx x).run = .running ∧ { t with regs := s.regs, ctx := s.ctx } = s) ∧
    (n = 0 → s.room x stop = true → ∃ t, exec (.loopBegin c w) s = .next t ∧ (t.pc x).toNat = s.nextPc x stop ∧
      (t.getCtx x).stack = (closeLoops stop (s.getCtx x).stack).2 ∧
      (t.getCtx x).run = .running ∧ { t with regs := s.regs, ctx := s.ctx } = s)

/-- SKIP passes over its N commands and counts them in CTX_SKIPPED; a command skipped by its own condition is never admitted, takes no semaphore and counts once (R233, R242, R244). -/
def Obligations.SkipPassesOver : Prop :=
  ∀ (s : State) (c : Ctx) (w : Cmd) (a : Admitted),
    let x := c.toNat
    let pc := (s.pc x).toNat
    let stop := pc + 32 * (w.op 0 16 + 1)
    (w.opcode = 8 → s.ready x w = true → s.admits x w a = true → s.room x stop = true →
      ∃ t, exec (.skip c w) s = .next t ∧ (t.pc x).toNat = s.nextPc x stop ∧
        t.rd (reg (pgCTX x) Off.CTX_SKIPPED) = satAdd (s.rd (reg (pgCTX x) Off.CTX_SKIPPED)) (w.op 0 16) ∧
        (t.getCtx x).run = .running ∧ { t with regs := s.regs, ctx := s.ctx } = s) ∧
    (w.opcode = 0 → (s.getCtx x).run = .running → (s.getCtx x).held = none → (s.getCtx x).chainLeft = 0 → w.condEn = true →
      s.cond x w.condSel = w.condNeg → s.room x (pc + 32) = true →
      ∃ t, exec (.nop c w) s = .next t ∧ (t.pc x).toNat = s.nextPc x (pc + 32) ∧
        t.rd (reg (pgCTX x) Off.CTX_SKIPPED) = satAdd (s.rd (reg (pgCTX x) Off.CTX_SKIPPED)) 1 ∧
        (∀ n, n < 256 → t.sem x n = s.sem x n) ∧ { t with regs := s.regs, ctx := s.ctx } = s)

/-- A command that must wait is held at issue and changes nothing else: on its semaphore (R231), at its fence (R217), at WAIT_COND while the condition is not the wanted value (R245), and at STREAM_END while earlier commands are in flight (R239). -/
def Obligations.WaitsHoldTheStream : Prop :=
  ∀ (s : State) (c : Ctx) (w : Cmd) (a : Admitted),
    let x := c.toNat
    let r := s.getCtx x
    let held (k : WaitKind) (i : Instr) : Prop := ∃ t, exec i s = .next t ∧ { t with ctx := s.ctx } = s ∧
      ∀ d, t.getCtx d = if d = x then { r with held := some (w, k) } else s.getCtx d
    r.run = .running → r.held = none → r.chainLeft = 0 → w.condEn = false →
    ((s.sem x w.waitSem).toNat < w.waitDec → w.opcode = 0 → held .sem (.nop c w)) ∧
    (w.waitDec = 0 → w.fence = true → r.live ≠ [] → w.opcode = 0 → held .fence (.nop c w)) ∧
    (w.waitDec = 0 → w.fence = false → s.admits x w a = true → w.opcode = 9 → s.cond x (w.op 0 3) = w.opBit 3 → held .cond (.waitCond c w)) ∧
    (w.waitDec = 0 → w.fence = false → s.admits x w a = true → w.opcode = 10 → r.live ≠ [] → held .streamEnd (.streamEnd c w))

/-- A held command issues once what it waits for has come: WAIT_COND when its condition has the wanted value, at once or on a later cycle, a command at its semaphore, and one at its fence when every earlier command has retired (R217, R231, R245). -/
def Obligations.WaitsEnd : Prop :=
  ∀ (s : State) (c : Ctx) (w : Cmd) (a : Admitted),
    let x := c.toNat
    let s0 := s.setCtx x { s.getCtx x with held := none }
    let goes (i : Instr) : Prop := ∃ t, exec i s = .next t ∧ (t.pc x).toNat = s.nextPc x ((s.pc x).toNat + 32) ∧
      (t.getCtx x).held = none ∧ (t.getCtx x).run = .running ∧ { t with regs := s.regs, ctx := s.ctx } = s
    (w.opcode = 9 → s.issues x w a = true → s.cond x (w.op 0 3) ≠ w.opBit 3 → goes (.waitCond c w)) ∧
    (w.opcode = 9 → (s.getCtx x).held = some (w, .cond) → s0.issues x w a = true →
      s.cond x (w.op 0 3) ≠ w.opBit 3 → goes (.waitCondSatisfied c)) ∧
    (w.opcode = 0 → (s.getCtx x).held = some (w, .sem) → s0.issues x w a = true → goes (.semaphoreWaitEnd c)) ∧
    (w.opcode = 0 → (s.getCtx x).held = some (w, .fence) → (s.getCtx x).live = [] → s0.issues x w a = true → goes (.fenceWaitEnd c))

/-- STREAM_END with every earlier command retired sets the stream IDLE and frees the claim; one held for that does so when the last has retired (R239, R267). -/
def Obligations.StreamEndSetsIdle : Prop :=
  ∀ (s : State) (c : Ctx) (w : Cmd) (a : Admitted),
    let x := c.toNat
    let s0 := s.setCtx x { s.getCtx x with held := none }
    let ends (i : Instr) : Prop := ∃ t, exec i s = .next t ∧ (t.getCtx x).run = .idle ∧ (t.getCtx x).resident = false ∧
      (t.getCtx x).grantedClaim = none
    w.opcode = 10 → (s.getCtx x).live = [] →
    (s.ready x w = true → s.admits x w a = true → ends (.streamEnd c w)) ∧
    ((s.getCtx x).held = some (w, .streamEnd) → s0.ready x w = true → s0.admits x w a = true → ends (.fenceWaitEnd c))

/-! ## Engine commands of clusters (R216, R221 to R226) -/

/-- PASS and TILE_DRAIN join the queue of each core of their unit set and the commands in flight of their context, and ask for their current; the head of a spool chain opens its chain (R216, R224, R285). Memory, the tiles and every other context are as before. A PASS with M = 0 retires at issue and reaches no core (R223). -/
def Obligations.ArrayCommandsQueue : Prop :=
  ∀ (s : State) (c : Ctx) (w : Cmd) (a : Admitted) (n : Nat),
    let x := c.toNat
    let pc := (s.pc x).toNat
    let i : Instr := if w.opcode = 0x10 then .pass c w else .tileDrain c w
    let insts := (s.chained x n).instances x w a
    let id := (s.getCtx x).nextId
    (w.opcode = 0x10 ∨ w.opcode = 0x11) → s.ready x w = true → s.admitsChain x w a n = true → s.room x (pc + 32) = true →
    (¬ (w.opcode = 0x10 ∧ w.op 0 24 = 0) → ∃ t, exec i s = .next t ∧
      (t.pc x).toNat = s.nextPc x (pc + 32) ∧ t.mem = s.mem ∧ t.marks = s.marks ∧ (t.getCtx x).chainLeft = n ∧
      (t.getCtx x).live = (s.getCtx x).live ++
        [{ id := id, off := pc, w := w, left := insts.length, clus := (insts.map InstOps.cl).eraseDups, step := s.step' x }] ∧
      (∀ d, d ≠ x → t.getCtx d = s.getCtx d) ∧
      ∀ k, (t.getCore k).ungranted = ((((s.queuing x w a n).arrayPasses x id pc w a insts (if n = 0 then none else some ⟨id, 0, false⟩)).filter
        fun q => coreKey q.1.cl q.1.core == k).foldl (fun r q => r.enqueue q.2) (s.getCore k)).ungranted) ∧
    (w.opcode = 0x10 → w.op 0 24 = 0 → ∃ t, exec i s = .next t ∧ (t.pc x).toNat = s.nextPc x (pc + 32) ∧
      (t.getCtx x).live = (s.getCtx x).live ∧ { t with regs := s.regs, ctx := s.ctx } = s ∧
      (w.opBit 111 = true → t.par x (w.op 105 6) = 0))

/-- A vector command issues: it joins the commands in flight of its context with its operands on each cluster, and each instance asks for its current, with which it computes (R136, R216, R285): the 32 opcodes 0x20 to 0x3F, where no other vector operation of the context is in flight. Memory, and every other context, are as before; the results stand when VECTOR_OP_RETIRE takes the command (ClusterRetiresTakeTheOldest; the instant is the model's choice, log entry 11). -/
def Obligations.VectorCommandsCompute : Prop :=
  ∀ (s : State) (c : Ctx) (w : Cmd) (a : Admitted) (i : Instr),
    let x := c.toNat
    let pc := (s.pc x).toNat
    i ∈ [Instr.add c w, .sub c w, .mul c w, .fma c w, .max c w, .min c w, .abs c w, .neg c w, .copysign c w, .cmpEq c w, .cmpLt c w,
      .cmpLe c w, .select c w, .cvt c w, .rsum c w, .rsumsq c w, .rmax c w, .rmin c w, .ramax c w, .exp2 c w, .log2 c w, .rsqrt c w,
      .rcp c w, .tanh c w, .sigmoid c w, .gelu c w, .silu c w, .rmsnorm c w, .layernorm c w, .smfin c w, .stmerge c w, .rope c w] →
    i.wf = true → 0x20 ≤ w.opcode → w.opcode ≤ 0x3F → s.issues x w a = true → ((s.getCtx x).live.all fun l => l.w.eclass != 2) = true →
    ∃ t, exec i s = .next t ∧ (t.pc x).toNat = s.nextPc x (pc + 32) ∧
      (t.getCtx x).live = (s.getCtx x).live ++ [s.clusterLive x w a] ∧ (∀ d, d ≠ x → t.getCtx d = s.getCtx d) ∧
      { t with regs := s.regs, ctx := s.ctx, lreqs := s.lreqs, lresv := s.lresv, cores := s.cores, ties := s.ties } = s ∧
      ∀ y ∈ s.instances x w a, ∃ u : LUnit, u.owner = some (x, (s.getCtx x).nextId) ∧ u.acct * 375 + u.ix = y.cl ∧
        (u ∈ t.lresv ∨ ∃ q ∈ t.lreqs, u ∈ q.units)

/-- MOVE, ZERO, MASK_WALK and ROUTE issue: they join the commands in flight of their context with their operands on each cluster and ask for their current, with which movers copy, write zeros or walk masks (R150, R194, R226) and router units route (R171, R180). The clusters' router units are free. Memory, and every other context, are as before; the results stand at the retires (ClusterRetiresTakeTheOldest; the instant is the model's choice, log entry 11). -/
def Obligations.MoverRouterCommandsCompute : Prop :=
  ∀ (s : State) (c : Ctx) (w : Cmd) (a : Admitted) (i : Instr),
    let x := c.toNat
    let pc := (s.pc x).toNat
    i ∈ [Instr.move c w, .zero c w, .maskWalk c w, .route c w] → i.wf = true → w.opcode ∈ [0x40, 0x41, 0x42, 0x50] →
    s.issues x w a = true → s.issueWait x w a = none →
    ∃ t, exec i s = .next t ∧ (t.pc x).toNat = s.nextPc x (pc + 32) ∧
      (t.getCtx x).live = (s.getCtx x).live ++ [s.clusterLive x w a] ∧ (∀ d, d ≠ x → t.getCtx d = s.getCtx d) ∧
      { t with regs := s.regs, ctx := s.ctx, lreqs := s.lreqs, lresv := s.lresv, cores := s.cores, ties := s.ties } = s ∧
      (∀ y ∈ s.instances x w a, ∃ u : LUnit, u.owner = some (x, (s.getCtx x).nextId) ∧ u.acct * 375 + u.ix = y.cl ∧
        (u ∈ t.lresv ∨ ∃ q ∈ t.lreqs, u ∈ q.units)) ∧
      (w.opcode = 0x50 → ∀ y ∈ s.instances x w a, t.rd (reg (pgRTE y.cl) Off.RTE_STATE) = 0)

/-- The scalar laws of R137: MAX and MIN give the canonical NaN when either input is a NaN, and take −0 below +0; ABS and NEG of an ordinary number change the sign bit only; COPYSIGN takes the sign of its second operand. -/
def Obligations.VectorLanesFollowSignRules : Prop :=
  ∀ a b : Nat, a < 2 ^ 32 → b < 2 ^ 32 →
    (f32IsNaN a = true ∨ f32IsNaN b = true → vecLane 0x24 a b 0 = f32NaN ∧ vecLane 0x25 a b 0 = f32NaN) ∧
    vecLane 0x24 0x80000000 0 0 = 0 ∧ vecLane 0x24 0 0x80000000 0 = 0 ∧ vecLane 0x25 0x80000000 0 0 = 0x80000000 ∧
    vecLane 0x25 0 0x80000000 0 = 0x80000000 ∧
    (f32IsNaN a = false → a / 2 ^ 23 % 256 ≠ 0 →
      vecLane 0x26 a 0 0 = a % 2 ^ 31 ∧ vecLane 0x28 a b 0 = a % 2 ^ 31 + b / 2 ^ 31 * 2 ^ 31) ∧
    (f32IsNaN a = true → vecLane 0x26 a 0 0 = f32NaN ∧ vecLane 0x28 a b 0 = f32NaN)

/-- The retires of a cluster's engines: while the engines of the context run, VECTOR_OP_RETIRE, MOVE_RETIRE, MASK_WALK_RETIRE and ROUTE_RETIRE take the oldest command of their engine, once it has its current and is not frozen: its rows are computed and written (R137), its elements moved or zeroed (R150), its masks walked into lists and counts (R194, R196), its tokens routed (R171, R176), and where no fault stops the context it leaves the commands in flight (R231, R285). With none in flight, nothing changes. That the work is done at this row is the model's choice (log entry 11). -/
def Obligations.ClusterRetiresTakeTheOldest : Prop :=
  ∀ (s : State) (c : Ctx) (mv : BitVec 2) (l : Live),
    let x := c.toNat
    let gone (i : Instr) (u : State) : Prop := (u.getCtx x).run ≠ .faulted → ∃ t, exec i s = .next t ∧ t.mem = u.mem ∧ t.cores = u.cores ∧
      (t.getCtx x).live = (u.getCtx x).live.filter fun y => y.id != l.id
    (s.engineRuns x .vector = true → s.oldestGranted x (fun y => y.w.eclass == 2) = some l → ((s.runVector x l).getCtx x).held = none →
      gone (.vectorOpRetire c) (s.runVector x l)) ∧
    (s.engineRuns x .mover = true → s.oldestGranted x (fun y => (y.w.opcode == 0x40 || y.w.opcode == 0x41) && y.w.op 0 2 == mv.toNat) = some l →
      gone (.moveRetire c mv) (s.runMove x l)) ∧
    (s.engineRuns x .maskWalk = true → s.oldestGranted x (fun y => y.w.opcode == 0x42 && y.w.op 80 2 == mv.toNat) = some l →
      gone (.maskWalkRetire c mv) (s.runWalk x l).1) ∧
    (s.engineRuns x .router = true → s.oldestGranted x (fun y => s.routerHolds x y) = some l →
      (∀ p ∈ (s.runRoute x l).ctx, p.2.held = none ∧ p.2.live.all (fun y => !(y.w.eclass == 4 && y.waits)) = true) →
      gone (.routeRetire c) (s.runRoute x l)) ∧
    ((s.getCtx x).live = [] → exec (.vectorOpRetire c) s = .next s ∧ exec (.moveRetire c mv) s = .next s ∧
      exec (.maskWalkRetire c mv) s = .next s ∧ exec (.routeRetire c) s = .next s)

/-! ## Commands of the update die, the exchange and the control units (R221, R227) -/

/-- UPD_TENSOR, UPD_SCHEDULE, TWIN_ARM and CAL_SET retire at issue with their effect: the entry is armed (R395), the schedule slot is evaluated and staged (R419), the step is a twin step on a two-member group of the context (R533), an entry of the domain with a valid action takes its instant and ENABLE (R321). -/
def Obligations.CommandsThatActAtIssue : Prop :=
  ∀ (s : State) (c : Ctx) (w : Cmd) (a : Admitted) (u : State) (g : Nat),
    let x := c.toNat
    let s0 := s.issued x w
    s.issues x w a = true →
    ((u.pc x).toNat < u.streamLen x → w.opcode = 0x60 → s0.armTensor x (s.pc x).toNat (w.op 0 16) = .ok u → ∃ t, exec (.updTensor c w) s = .next t ∧
      t = { u.signalCmd x w with pending := s.pending } ∧ (t.getCtx x).voted = true ∧
      ((s.getCtx x).stepPending = true → ∃ r ∈ t.armRecs, r.ctx = x ∧ r.ent = w.op 0 16 ∧ r.off = (s.pc x).toNat ∧ r.bad = false)) ∧
    ((u.pc x).toNat < u.streamLen x → w.opcode = 0x61 → s0.schedule x (w.op 0 8) = .ok u → ∃ t, exec (.updSchedule c w) s = .next t ∧
      t = { u.signalCmd x w with pending := s.pending } ∧
      (t.getStep x).sched = ((s.getStep x).sched.filter fun y => y.slot != w.op 0 8) ++ [s0.evalSched (w.op 0 8) (s0.step' x).toNat]) ∧
    (w.opcode = 0x90 → (s.getStep x).twin = none → s0.slotFor x (w.op 0 20) = some g → s0.grpN g = 2 →
      (s0.rd (grpReg g Off.COLL_GRP_TT_COUNT)).toNat ≤ 65534 → ∃ t, exec (.twinArm c w) s = .next t ∧
      t.rd (twinReg x Off.TWIN_CTX_STATE) = 1 ∧ (t.rd (twinReg x Off.TWIN_CTX_GROUP)).toNat = w.op 0 20 ∧ (t.getStep x).twin = some g ∧
      { t with regs := s.regs, ctx := s.ctx, steps := s.steps } = s) ∧
    (w.opcode = 0xA0 → 1 ≤ s0.calAction (w.op 0 12) → s0.calValid (w.op 0 12) = true → s0.calOwner (w.op 0 12) = s0.ctxDom x →
      ∃ t, exec (.calSet c w) s = .next t ∧
      t.rd64 (calReg (w.op 0 12) Off.CAL_ENT_INSTANT_LO) = s.par x (w.op 12 6) ∧
      bit (t.rd (calReg (w.op 0 12) Off.CAL_ENT_CTRL)) 0 = w.opBit 18 ∧ { t with regs := s.regs, ctx := s.ctx, lateEnt := s.lateEnt } = s)

/-- VOTE, RS_SEND, AG_SEND, PARCEL_SEND, CKPT_PUSH and MET_SNAPSHOT join the commands in flight of their context. A fabric command asks for its current and goes to its endpoint with it (R287): a vote waits for its conditions (R380); a send runs in its window, or is held until it opens (R371, R374); a parcel asks for a landing slot (R384); bytes join the open checkpoint and leave for the ring (R451). A report is queued (R509). The state that follows is given for every window, current and ring; what it holds is said where no other fabric command of the context waits for current. -/
def Obligations.CommandsThatFly : Prop :=
  ∀ (s : State) (c : Ctx) (w : Cmd) (a : Admitted) (o : Opnd) (g : Nat) (bs : List Byte) (k : Ckpt),
    let x := c.toNat
    let pc := (s.pc x).toNat
    let id := (s.getCtx x).nextId
    let op := ((s.instances x w a).head?.bind fun y => y.get 0).orElse fun _ => (s.instances x w a).head?.bind fun y => y.get 2
    let f := ((s.issued x w).flyOther x pc w op).1
    let sent (rs : Bool) : State := (({ f with sends := f.sends ++ [({ ctx := x, id := some id, off := pc, slot := g, tensor := w.op 20 16, rs := rs, o := o } : SendRec)] } : State)).startDeadline
      g (w.op 20 16) s.now.toNat
    let goes (i : Instr) (u : State) : Prop := exec i s = .next { (u.startFabrics x).overrun x with pending := s.pending }
    let held (i : Instr) (rs : Bool) : Prop := s.noneWaits x = true → (s.getGrp g).winOpen = false → (s.getGrp g).shut = false →
      ∃ t, exec i s = .next t ∧ s.flown x t ∧ t.mem = s.mem ∧
        t.sends = s.sends ++ [{ ctx := x, id := some id, off := pc, slot := g, tensor := w.op 20 16, rs := rs, o := o }]
    s.issues x w a = true →
    (w.opcode = 0x72 → (s.issued x w).slotFor x (w.op 0 20) = some g → s.noneWaits x = true → ∃ t, exec (.vote c w) s = .next t ∧ s.flown x t ∧
      t.mem = s.mem ∧ (t.getStep x).votes = (s.getStep x).votes ++ [(id, g)] ∧ (t.getCtx x).voted = true) ∧
    (w.opcode = 0x70 → op = some o → (s.issued x w).slotFor x (w.op 0 20) = some g → goes (.rsSend c w) (sent true) ∧ held (.rsSend c w) true) ∧
    (w.opcode = 0x71 → op = some o → (s.issued x w).slotFor x (w.op 0 20) = some g → goes (.agSend c w) (sent false) ∧ held (.agSend c w) false) ∧
    (w.opcode = 0x78 → op = some o → (s.issued x w).pclOf x (w.op 0 12) = true → goes (.parcelSend c w) f ∧
      (s.noneWaits x = true → f.waitsCurrent x id none = false → bit (f.rd (pclReg (w.op 0 12) Off.COLL_PCL_STATE)) 2 = false →
        f.qpState (f.pclQp (w.op 0 12)) ≠ 2 → ∃ t, exec (.parcelSend c w) s = .next t ∧ s.flown x t ∧ t.mem = s.mem ∧
        t.parcels = s.parcels ++ [{ parcel := w.op 0 12, ctx := x, id := id, o := o }])) ∧
    (w.opcode = 0xB0 → op = some o → goes (.ckptPush c w) f ∧
      (s.noneWaits x = true → f.waitsCurrent x id none = false → f.ringRuns (256 + w.op 0 8) = true → f.ringCtx (256 + w.op 0 8) = x →
        f.seqBytes (f.domOf x) o false = .ok bs → (s.getRing (256 + w.op 0 8)).ckpt = some k →
        k.bytes + bs.length ≤ (f.rd (ringReg (256 + w.op 0 8) Off.MGMT_RING_SIZE)).toNat * 4096 →
        ∃ t, exec (.ckptPush c w) s = .next t ∧ s.flown x t ∧ t.mem = s.mem ∧ ∃ k', (t.getRing (256 + w.op 0 8)).ckpt = some k' ∧
          k'.bytes = k.bytes + bs.length ∧ k'.pushed = true ∧ k'.unacked = k.unacked ++ [some (x, id)])) ∧
    (w.opcode = 0x80 → op = some o → s.met.snaps.length < 16 → ∃ t, exec (.metSnapshot c w) s = .next t ∧ s.flown x t ∧ t.mem = s.mem ∧
      t.met.snaps = s.met.snaps ++ [⟨x, id, o, s.step' x⟩])

/-- What ends these commands: a send that has been carried out retires, with its signal (R231, R371); the next vote of a context leaves in a frame once its conditions hold, and where an abort of its group has come before it its VOTE retires (R375, R380); the oldest queued report is written and its command retires (R509); a send that waited for log records runs when records are free (R372). -/
def Obligations.FlyingCommandsEnd : Prop :=
  ∀ (s : State) (c : Ctx) (x : SendRec) (g id : Nat) (y : SnapRec) (rest : List SnapRec) (l : Live) (u : State),
    let d := s.domOf y.ctx
    let bs := s.metReport (some (d, y.ctx, y.step))
    let at' := (y.o.addr (y.o.plainOff 0)).1
    (s.sends.find? (fun z => z.ctx == c.toNat && z.done && z.id.isSome) = some x → s.liveOf c.toNat (x.id.getD 0) = some l → l.left ≤ 1 →
      ∃ t, exec (.sendRetire c) s = .next t ∧ t.sends = s.sends.erase x ∧ t.mem = s.mem ∧
      (t.getCtx c.toNat).live = ((s.getCtx c.toNat).live.filter fun z => z.id != l.id) ∧
      (l.w.sigInc ≠ 0 → t.sem c.toNat l.w.sigSem = satAdd (s.sem c.toNat l.w.sigSem) l.w.sigInc)) ∧
    (s.voteNext c.toNat = some (id, g) → s.voteReady c.toNat = true → (s.getGrp g).shut = false → (s.getStep c.toNat).twin = none →
      ∃ t, exec (.voteSend c) s = .next t ∧ (t.getGrp g).voteSent = true ∧ (t.getGrp g).vote = 1 ∧ t.timedOut (deadKey false g 0xFFFF) = false ∧
        (t.getStep c.toNat).votes = (s.getStep c.toNat).votes) ∧
    (s.voteNext c.toNat = some (id, g) → s.voteReady c.toNat = true → (s.getGrp g).shut = true →
      ∃ t, exec (.voteSend c) s = .next t ∧ (t.getStep c.toNat).votes = (s.getStep c.toNat).votes.filter fun v => v.2 != g) ∧
    (s.met.snaps = y :: rest → s.metRuns = true → s.liveOf y.ctx y.id = some l → l.left ≤ 1 →
      ({ s with met := { s.met with snaps := rest } } : State).spWrite d 0 0 0 ((List.range bs.length).map fun i => (at' + i, bs.getD i 0)) = .ok u →
      (u.getCtx y.ctx).live = (s.getCtx y.ctx).live → (∀ p ∈ u.ctx, p.2.held = none) →
      ∃ t, exec .metSnapshotDone s = .next t ∧ t.met.snaps = rest ∧ t.mem = u.mem ∧
        (t.getCtx y.ctx).live = (s.getCtx y.ctx).live.filter fun z => z.id != l.id) ∧
    (s.logUsed < 65536 → s.sends.find? (fun z => z.ctx == c.toNat && z.waitLog) = some x →
      exec (.sendLogWaitEnd c) s = .next { ({ s with sends := s.sends.map fun z => if z == x then { x with waitLog := false } else z } : State).runSend
        { x with waitLog := false } with pending := s.pending })

/-! ## Arrays (03_matrix_core.md, 04_accumulation.md) -/

/-- WEIGHT_LOAD_DONE latches the weights and metadata of the first pass in the core's queue, after the correction of what it reads; PASS_ISSUE takes a ready pass off the head of the queue and runs it; a pass that is not ready, and an array whose context has stopped, change nothing (R75, R78, R93, R162). -/
def Obligations.PassesLoadAndIssue : Prop :=
  ∀ (s : State) (cl : Cluster) (core : CoreIx) (errs : List Damage) (p : Pass) (q : List Pass) (ws : List Val) (ix : List Nat) (u : State),
    let key := coreKey cl.toNat core.toNat
    coreExists cl core = true →
    ((s.getCore key).queue.find? Pass.isPass = some p → p.loaded = false → s.allSkipped p = false → s.engineRuns p.ctx .array = true →
      s.coreFrozen cl.toNat core.toNat = false → s.passDamage cl.toNat core.toNat errs = (u, none) → u.latchWeights p = .ok (ws, ix) →
      ∃ t, exec (.weightLoadDone cl ⟨core, errs⟩) s = .next t ∧ { t with cores := u.cores, pending := u.pending } = u ∧
        (∀ k, k ≠ key → t.getCore k = u.getCore k) ∧ t.getCore key = (u.getCore key).setPass { p with loaded := true, wts := ws, idx := ix }) ∧
    ((s.getCore key).queue = p :: q → s.engineRuns p.ctx .array = false → p.isPass = true →
      exec (.weightLoadDone cl ⟨core, errs⟩) s = .next s ∧ exec (.passIssue cl core errs) s = .next s) ∧
    ((s.getCore key).queue = p :: q → s.passReady cl.toNat core.toNat p = true → s.passDamage cl.toNat core.toNat errs = (u, none) →
      exec (.passIssue cl core errs) s = .next { u.issueOnCore cl.toNat core.toNat p with pending := s.pending })

/-- HAZARD_WAIT_END lets a held operation go on and counts the cycles it waited on each cause; ACC_REPLAY runs the replay that is due; PASS_RETIRE writes the rows of a finished pass and takes it out of the array with its status word; TILE_DRAIN_RETIRE writes the rows of a drain and retires it. A core that the ledger freezes holds what it does (R77, R81, R95, R103, R115, R130, R225). The instant of the writes is the model's choice (log entry 11). -/
def Obligations.PassesReplayAndRetire : Prop :=
  ∀ (s : State) (cl : Cluster) (core : CoreIx) (n : StallCycles) (errs : List Damage) (frz : List Freeze) (p q : Pass) (l : List Pass) (u v : State),
    let key := coreKey cl.toNat core.toNat
    let reg' (off : Nat) := wreg core.toNat (pgCLU cl.toNat) off
    coreExists cl core = true →
    ((s.getCore key).queue = p :: l → p.stall ≠ 0 → (s.getCore key).clear p = true →
      s.engineRuns p.ctx (if p.isPass then .array else .tileDrain) = true → ∃ t, exec (.hazardWaitEnd cl core n) s = .next t ∧
        t.getCore key = (s.getCore key).settle ∧ t.mem = s.mem ∧ t.ctx = s.ctx ∧
        (p.stall % 2 = 1 → t.rd (reg' Off.CORE_HAZARD_STALLS) = satAdd (s.rd (reg' Off.CORE_HAZARD_STALLS)) n.tile.toNat) ∧
        (2 ≤ p.stall → t.rd (reg' Off.CORE_ISSUE_STALLS) = satAdd (s.rd (reg' Off.CORE_ISSUE_STALLS)) n.issue.toNat)) ∧
    (s.replayDue cl.toNat core.toNat = some p → s.engineRuns p.ctx .array = true → s.frozenPass cl.toNat core.toNat p = false →
      exec (.accReplay cl core) s = .next { s.replay cl.toNat core.toNat p with pending := s.pending }) ∧
    ((s.getCore key).air.find? (fun x => x.isPass && s.passDone cl.toNat core.toNat x) = some p → s.engineRuns p.ctx .array = true →
      s.frozenPass cl.toNat core.toNat p = false → p.dest ≠ .drain →
      (s.countFreeze cl.toNat core.toNat frz).commitRows cl.toNat core.toNat p p.m = .ok (u, q) → q.nans = [] →
      ∃ t, exec (.passRetire cl ⟨core, frz⟩) s = .next t ∧
        t.mem = s.mem ∧ t.rd (reg' Off.CORE_ACC_STATUS) = q.statusWord ∧
        t.rd64 (reg' Off.CORE_PASSES_LO) = satAdd (s.rd64 (reg' Off.CORE_PASSES_LO)) 1) ∧
    ((s.getCore key).air.find? (fun x => !x.isPass) = some p → s.engineRuns p.ctx .tileDrain = true → s.coreFrozen cl.toNat core.toNat = false →
      s.passDamage cl.toNat core.toNat errs = (v, none) → readsPoison (v.getCore key) p (v.domOf p.ctx) = false →
      v.runTileDrain cl.toNat core.toNat p = .ok (u, q) →
      exec (.tileDrainRetire cl ⟨core, errs⟩) s =
        .next { (u.retireDrain cl.toNat core.toNat q).modCore key CoreRec.proceed with pending := s.pending }) ∧
    (s.coreFrozen cl.toNat core.toNat = true → exec (.passRetire cl ⟨core, frz⟩) s = .next s ∧ exec (.tileDrainRetire cl ⟨core, errs⟩) s = .next s)

/-! ## Register entries, polls and the data port (R434, R441, R443) -/

/-- The entries RD32, RD64, WR32 and WR64 of a served session, and REGISTER_WRITE, which is a WR32: a read answers the value of the register or pair and has the effect that reading has; a write has the effect of the write, both halves in one cycle; a refused access is answered DOMAIN_ACCESS_DENIED and changes nothing. -/
def Obligations.RegisterEntriesReadAndWrite : Prop :=
  ∀ (s : State) (se : SessIx) (a : CAddr) (v : Word) (u : DWord),
    let x := se.toNat
    let k := a.toNat
    let go (t : State) : Host.Outcome State Fault Refusal := .next { t with pending := s.pending }
    let r := s.reading x k 4
    let p := (s.reading x k 8).readEffect x k
    let q := s.applying x { op := 4, addr := k, value := u.toNat }
    let w := (q.logReg x k 8 (q.touched x k true (w32 u.toNat) ++ q.touched x (k + 4) true (w32 (u.toNat / 2 ^ 32)))).regWrite x k (w32 u.toNat)
    let z := w.2.regWrite x (k + 4) (w32 (u.toNat / 2 ^ 32))
    s.serves x = true →
    (s.denied x k false 0 = false → exec (.rd32 se a) s = go ((r.readEffect x k).answered x 0 (r.regValue x k).toNat [])) ∧
    (k % 8 = 0 → s.denied x k false 0 = false → s.denied x (k + 4) false 0 = false → exec (.rd64 se a) s =
      go ((p.readEffect x (k + 4)).answered x 0 (((s.reading x k 8).regValue x k).toNat + (p.regValue x (k + 4)).toNat * 2 ^ 32) [])) ∧
    (s.denied x k true v = false → exec (.wr32 se a v) s = go ((s.wrote x k v).2.answered x (s.wrote x k v).1 0 [])) ∧
    (k % 8 = 0 → s.denied x k true (w32 u.toNat) = false → s.denied x (k + 4) true (w32 (u.toNat / 2 ^ 32)) = false → w.1 = 0 → z.1 = 0 →
      exec (.wr64 se a u) s = go (z.2.answered x 0 0 [])) ∧
    (s.denied x k false 0 = true → exec (.rd32 se a) s = go (s.answered x Err.DOMAIN_ACCESS_DENIED 0 [])) ∧
    (s.denied x k true v = true → exec (.wr32 se a v) s = go (s.answered x Err.DOMAIN_ACCESS_DENIED 0 [])) ∧
    exec (.registerWrite se a v) s = exec (.wr32 se a v) s

/-- POLL32 answers at once where its condition holds and waits until its deadline where it does not; POLL32_MATCH goes on with the frame when the register has its value; POLL_TIMEOUT fails the entry when the time is over; with no POLL32 waiting, neither changes anything (R441). -/
def Obligations.PollsWaitAndEnd : Prop :=
  ∀ (s : State) (se : SessIx) (a : CAddr) (mask want : Word) (us : BitVec 16) (f : FrameRec) (e : CtlEntry) (dl : Nat),
    let x := se.toNat
    let k := a.toNat
    let y := e.addr % 2 ^ 28
    let p : CtlEntry := { op := 5, addr := k, value := mask.toNat * 2 ^ 32 + want.toNat, len := us.toNat }
    let q := s.applying x p
    let t := q.logReg x k 4 (q.touched x k false 0)
    let h : FrameRec := { se := x, port := 16 + b2n (s.getSess x).port, framed := false, rest := [p], poll := some (s.timer + us.toNat * 1000) }
    let go (t : State) : Host.Outcome State Fault Refusal := .next { t with pending := s.pending }
    (s.serves x = true → 1 ≤ us.toNat → us.toNat ≤ 1000 → s.denied x k false 0 = false →
      (t.regValue x k &&& mask = want → exec (.poll32 se a mask want us) s = go ((t.readEffect x k).answered x 0 (t.regValue x k).toNat [])) ∧
      (t.regValue x k &&& mask ≠ want → exec (.poll32 se a mask want us) s = go { t with frame := some h })) ∧
    (s.pollAt = some (f, e, dl) → s.jobs = [] →
      (s.pollHolds f.se y e.value = true → exec .poll32Match s = go ((s.readEffect f.se y).startFrame (f.next e (s.regValue f.se y).toNat []))) ∧
      (s.pollHolds f.se y e.value = true → f.framed = false → f.rest = [e] → f.done = [] → e.op = 5 →
        exec .poll32Match s = go ((s.readEffect f.se y).answered f.se 0 (s.regValue f.se y).toNat [])) ∧
      (s.pollHolds f.se y e.value = false → dl ≤ s.evaluated → f.framed = false → f.rest = [e] → f.done = [] →
        exec .pollTimeout s = go (s.answered f.se Err.POLL_TIMEOUT (s.regValue f.se y).toNat []))) ∧
    (s.pollAt = none → exec .poll32Match s = .next s ∧ exec .pollTimeout s = .next s)

/-- DP_SET sets the data port's address, space and domain; DP_READ answers the bytes at its address and DP_WRITE writes them, and both advance it; a tenant may set only space 0 of its own domain. WARM_RESET of the operator is answered, and then the drogue ramp of a warm reset begins; a tenant's is refused (R441, R443; the code of the refusal is the model's choice, log entry 16). -/
def Obligations.DataPortAndWarmReset : Prop :=
  ∀ (s : State) (se : SessIx) (sp : BitVec 2) (d : Dom) (a : DWord) (n : BitVec 16) (data bs : List Byte) (u : State),
    let x := se.toNat
    let port := (s.getSess x).dpAddr.toNat
    let go (t : State) : Host.Outcome State Fault Refusal := .next { t with pending := s.pending }
    let rd := (s.applying x { op := 0x12, len := n.toNat }).logReg x port n.toNat ((s.dpTouched x n.toNat).map fun d => (d, 3))
    let wr := (s.applying x { op := 0x11, len := data.length, data := data }).logReg x port data.length ((s.dpTouched x data.length).map fun d => (d, 4))
    s.serves x = true →
    (sp ≠ 3 → a.toNat % 8 = 0 → (isOp x = true ∨ sp = 0 ∧ (d = 0 ∨ d.toNat = sessDomain x)) → exec (.dpSet se sp d a) s =
      go ((s.modSess x fun r => { r with dpAddr := a, dpSpace := sp.toNat, dpDom := d.toNat }).answered x 0 0 [])) ∧
    (isOp x = false → sp = 1 ∨ sp = 2 ∨ d ≠ 0 ∧ d.toNat ≠ sessDomain x → sp ≠ 3 → exec (.dpSet se sp d a) s = go (s.answered x Err.OPERATOR_ONLY 0 [])) ∧
    (s.dpBad x n.toNat = false → rd.dpReadRuns x (lineRuns port n.toNat) = (bs, none) →
      exec (.dpRead se n) s = go ((rd.dpAdvance x bs.length).answered x 0 0 bs)) ∧
    (s.dpBad x data.length = false → wr.dpWriteRuns x data (lineRuns port data.length) = (u, data.length, none) →
      exec (.dpWrite se data) s = go ((u.dpAdvance x data.length).answered x 0 0 [])) ∧
    (s.dpBad x n.toNat = true → exec (.dpRead se n) s = go (s.answered x Err.DP_INVALID 0 [])) ∧
    (isOp x = true → exec (.warmReset se) s = go ((s.answered x 0 0 []).beginWarm 3)) ∧
    (isOp x = false → exec (.warmReset se) s = go (s.answered x Err.OPERATOR_ONLY 0 []))

/-- TIME_NOW_LO_READ answers bits [31:0] of fabric time's nanoseconds and latches the rest of the 80-bit value, which every session then reads; MET_LO_READ answers a _LO register of the MET page and latches its _HI half (R306, R510). -/
def Obligations.WideReadsLatch : Prop :=
  ∀ (s : State) (se : SessIx) (off : BitVec 12) (v : Nat),
    let x := se.toNat
    s.serves x = true →
    (s.denied x (reg pgTIME Off.TIME_NOW_LO) false 0 = false → ∃ t, exec (.timeNowLoRead se) s = .next t ∧
      t.out = s.out ++ [.response x 0 (BitVec.ofNat 64 (s.now.toNat % 2 ^ 32)) []] ∧
      (∀ y, t.regValue y (reg pgTIME Off.TIME_NOW_HI) = w32 (s.now.toNat / 2 ^ 32) ∧
        t.regValue y (reg pgTIME Off.TIME_NOW_FRAC) = w32 (s.frac.toNat / 2 ^ 24)) ∧ s.onlyRegs t ∧
      ∀ k, k ≠ reg pgTIME Off.TIME_NOW_HI → k ≠ reg pgTIME Off.TIME_NOW_FRAC → t.rd k = s.rd k) ∧
    (s.fuse.grade ≠ 3 → s.denied x (reg pgMET off.toNat) false 0 = false → s.metPair (s.sel x pgMET Off.MET_DOM_SEL) off.toNat = some v →
      ∃ t, exec (.metLoRead se off) s = .next t ∧ t.out = s.out ++ [.response x 0 (BitVec.ofNat 64 (v % 2 ^ 32)) []] ∧
        t.srd x (reg pgMET (off.toNat + 4)) = w32 (v / 2 ^ 32) ∧ { t with sregs := s.sregs, out := s.out, logs := s.logs, logOpen := s.logOpen } = s)

/-- Each session has its own copy of every selection register: a write of one by a session leaves every other session's selections as they were, and a session that OPEN accepts starts with every selection at 0 (R433). -/
def Obligations.SelectionsArePerSession : Prop :=
  (∀ (s : State) (se : SessIx) (k : PageKind) (i page o : Nat) (v : Word), pageOf page = some (k, i) → page < 2 ^ 16 → o < 4096 → isSel k o = true →
    s.mayWrite se (reg page o) v = true → ∃ t, exec (.wr32 se (BitVec.ofNat 28 (reg page o)) v) s = .next t ∧
      ∀ y p q, y ≠ se.toNat → p < 2 ^ 16 → q < 4096 → t.sel y p q = s.sel y p q) ∧
  (∀ (s : State) (port k : Nat) (h : CtlHead) (nonce key : List Byte), s.freeSlot h.se = some k → (isOp h.se = true ∨ s.scrub.contains (sessDomain h.se) = false) →
    ∀ p q, p < 2 ^ 16 → q < 4096 → (s.openAccept port h nonce key).sel (h.se / 4096 * 4096 + k * 1024 + sessDomain h.se) p q = 0)

/-! ## Sessions, frames, alerts and the common header (R16, R430, R431, R435 to R442, R529, R531) -/

/-- An OPEN frame that passes its checks opens the lowest free slot of its role with a fresh key, counter 0 and every other session as it was; a CLOSE frame ends its session without an answer (the model's choice, log entry 16); a REQUEST frame that passes its checks is noted as accepted and its entries run in order. -/
def Obligations.SessionsOpenServeAndClose : Prop :=
  ∀ (s u : State) (rx : Rx) (bs : List Byte) (k : Nat) (es : List CtlEntry),
    let h := ctlHead bs
    let port := rx.port.toNat
    let n := h.se / 4096 * 4096 + k * 1024 + sessDomain h.se
    let key := cmdKey (roleOf h.se) port (s.cmdGen (roleOf h.se))
    s.stage = 8 → s.frame = none → s.jobs = [] → port = 16 ∨ port = 17 → s.rxFrame rx = (u, true) → h.version = 1 → bs.length ≤ 8960 →
    (h.type = 2 → h.ops = 0 → bs.length = 48 → s.roleOk h.se = true → tagOk key bs = true → mapGet 0 s.openCnt (roleOf h.se) < h.counter →
      (isOp h.se = true ∨ s.scrub.contains (sessDomain h.se) = false) → s.freeSlot h.se = some k →
      ∃ t, exec (.openSession rx bs) s = .next t ∧ (t.getSess n).isOpen = true ∧ (t.getSess n).counter = 0 ∧ (t.getSess n).port = (port == 17) ∧
        (t.getSess n).key = kmac256 key (bs.drop 32 ++ toLe 16 (Config.nonce s.nonces).toNat ++ beBytes 2 n) 256 (ascii "VT1 SESSION") ∧
        mapGet 0 t.openCnt (roleOf h.se) = h.counter ∧ t.nonces = s.nonces + 1 ∧ (∀ y, y ≠ n → t.getSess y = s.getSess y) ∧
        t.mem = s.mem ∧ t.ctx = s.ctx) ∧
    (32 ≤ bs.length → h.se < 8192 → (s.getSess h.se).isOpen = true → tagOk (keyBytes (s.getSess h.se).key) bs = true →
      (s.getSess h.se).counter.toNat < h.counter →
      (h.type = 4 → h.ops = 0 → bs.length = 32 → ∃ t, exec (.close rx bs) s = .next t ∧ (t.getSess h.se).isOpen = false ∧
        (∀ y, y ≠ h.se → t.getSess y = s.getSess y) ∧ t.out = s.out ∧ t.mem = s.mem ∧ t.ctx = s.ctx) ∧
      (h.type = 0 → h.ops ≤ 64 → ctlEntries h.ops (bs.drop 32) = some es → sizesOk es = true → ∃ v : State,
        v.getSess h.se = { s.getSess h.se with counter := BitVec.ofNat 64 h.counter, port := port == 17, lastAt := s.timer, lastTag := h.tag, lastResp := none } ∧
        { v with regs := s.regs, sess := s.sess, ethRem := s.ethRem } = s ∧
        exec (.controlRequest rx bs) s = .next { v.startFrame
          { se := h.se, port := port, framed := true, counter := h.counter, total := es.length, rest := es } with pending := s.pending }))

/-- A write of MGMT_SESS_CTRL.CLOSE ends the selected session; a session idle for MGMT_SESSION_IDLE seconds ends, and one that is not stays; an ALERT frame carries the waiting entries of an enabled session, whose next entry then follows them, and takes none off the queue (R436, R531). -/
def Obligations.SessionsEndAndAlertsGo : Prop :=
  ∀ (s : State) (se x : SessIx) (last : Alert),
    let n := s.sel se.toNat pgMGMT Off.MGMT_SESS_SEL
    let idle := decide (fld (s.rd (reg pgMGMT Off.MGMT_SESSION_IDLE)) 0 12 * 10 ^ 9 ≤ s.evaluated - (s.getSess x.toNat).lastAt)
    let r := s.getSess x.toNat
    (s.mayWrite se (reg pgMGMT Off.MGMT_SESS_CTRL) 1 = true → ∃ t, exec (.sessCtrlClose se) s = .next t ∧
      (t.getSess n).isOpen = false ∧ (∀ y, y ≠ n → t.getSess y = s.getSess y) ∧ { t with sess := s.sess, out := s.out, logs := s.logs, logOpen := s.logOpen } = s) ∧
    (r.isOpen = true → idle = true → ∃ t, exec (.sessionIdleClose x) s = .next t ∧ (t.getSess x.toNat).isOpen = false ∧ { t with sess := s.sess } = s) ∧
    (idle = false → exec (.sessionIdleClose x) s = .next s) ∧
    (r.isOpen = true → bit (s.srd x.toNat (reg pgERR Off.ERR_ALERT_CFG)) 0 = true → (∀ t, r.alertAt = some t → t + 100000 ≤ s.timer) →
      (s.alertEntries x.toNat).getLast? = some last → ∃ t, exec (.alertFrameSend x) s = .next t ∧ t.alerts = s.alerts ∧
        t.getSess x.toNat = { r with alertCounter := r.alertCounter + 1, alertNext := last.seq + 1, alertAt := some s.timer } ∧
        t.srd x.toNat (reg pgERR Off.ERR_ALERT_SENT) = satAdd (s.srd x.toNat (reg pgERR Off.ERR_ALERT_SENT)) 1) ∧
    (s.alertEntries x.toNat = [] → exec (.alertFrameSend x) s = .next s)

/-- Writes of the common header of a present page: EVENT clears the bits written 1, and with ERROR the error record of the page (R431); EVENT_FORCE sets bits, and enabled bits that rise push one queue entry (R430, R528); LOCK set to 1 makes every RWL register of the page read-only (R16). A write of ERR_Q_ACK removes the entries up to its SEQ (R529), and GO of ERR_REPAIR_REQ records the unit it names (R523). -/
def Obligations.HeaderWrites : Prop :=
  ∀ (s : State) (se : SessIx) (page : BitVec 16) (k : PageKind) (i : Nat) (v : Word),
    let p := page.toNat
    let frame (t : State) (ks : List Nat) : Prop := s.onlyRegs t ∧ ∀ r, r ∉ ks → t.rd r = s.rd r
    let rose := v &&& ~~~s.rd (reg p Off.EVENT) &&& s.rd (reg p Off.EVENT_EN)
    pageOf p = some (k, i) → s.pagePresent k i = true →
    (s.mayWrite se (reg p Off.EVENT) v = true → ∃ t, exec (.eventClear se page v) s = .next t ∧ t.rd (reg p Off.EVENT) = s.rd (reg p Off.EVENT) &&& ~~~v ∧
      frame t [reg p Off.EVENT, reg p Off.ERR_CODE, reg p Off.ERR_INFO0, reg p Off.ERR_INFO1] ∧
      ∀ o ∈ [Off.ERR_CODE, Off.ERR_INFO0, Off.ERR_INFO1], t.rd (reg p o) = if bit v 30 then 0 else s.rd (reg p o)) ∧
    (s.mayWrite se (reg p Off.EVENT_FORCE) v = true → s.alerts.length < 240 → ∃ t, exec (.eventForce se page v) s = .next t ∧
      t.rd (reg p Off.EVENT) = s.rd (reg p Off.EVENT) ||| v ∧ frame { t with alerts := s.alerts, alertSeq := s.alertSeq } [reg p Off.EVENT] ∧
      (rose = 0 → t.alerts = s.alerts) ∧ (rose ≠ 0 → ∃ e, t.alerts = s.alerts ++ [e] ∧ e.seq = s.alertSeq ∧ e.page = p ∧ e.event = rose)) ∧
    (s.mayWrite se (reg p Off.LOCK) 1 = true → k ≠ .met → ∃ t, exec (.lockWrite se page 1) s = .next t ∧ t.rd (reg p Off.LOCK) = 1 ∧ frame t [reg p Off.LOCK] ∧
      ∀ (o : Nat) (row : RegRow) (y : Nat) (w : Word), o < 4096 → regRow k o = some row → row.acc = .rwl → t.regWrite y (reg p o) w = (0, t)) ∧
    (s.mayWrite se (reg pgERR Off.ERR_Q_ACK_HI) v = true → ∃ t, exec (.errQAckHiWrite se v) s = .next t ∧
      t.alerts = s.alerts.filter (fun e => decide ((s.srd se.toNat (reg pgERR Off.ERR_Q_ACK_LO)).toNat + v.toNat * 2 ^ 32 < e.seq)) ∧
      { t with alerts := s.alerts, out := s.out, logOpen := s.logOpen } = s) ∧
    (s.mayWrite se (reg pgERR Off.ERR_REPAIR_REQ) v = true → bit v 0 = true → fld v 1 2 ≠ 3 → fld v 6 9 < 375 → fld v 15 7 < 100 →
      s.repairs.length < 512 → ∃ t, exec (.repairRequest se v) s = .next t ∧ bit (t.rd (reg pgERR Off.EVENT)) 3 = true ∧
        t.repairs = s.repairs ++ [{ kind := fld v 1 2, clu := fld v 3 3 * 375 + fld v 6 9, core := fld v 15 7, row := fld v 22 4 }])

/-- PAGE_REV reads 0x0000_0100 on every present page, and 0 on an absent one (R10, R591). -/
def Obligations.PageRevisionReads : Prop :=
  ∀ (s : State) (se page i : Nat) (k : PageKind), pageOf page = some (k, i) →
    s.regValue se (reg page Off.PAGE_REV) = if s.pagePresent k i then 0x100#32 else 0

/-! ## Counter clears (R16 and the register tables) -/

/-- Writing 1 to a page's CNT_CLEAR clears its counters and nothing else: the LEDG, CAL, TIME, MGMT, COLL, UPD, PTP and TEMP pages (R299, R323, R324, R388, R424, R456, R460, R585). The counters of every window of a page are cleared with those of the page. -/
def Obligations.CounterClearsOfPages : Prop :=
  ∀ (s : State) (se : SessIx) (v : Word), bit v 0 = true →
    let gone (i : Instr) (page : Nat) (offs wins : List Nat) : Prop := ∃ t, exec i s = .next t ∧ s.onlyRegs t ∧
      (∀ k, (k ∈ offs.map (reg page) ∨ ∃ w, ∃ o ∈ wins, k = wreg w page o) → t.rd k = 0) ∧
      (∀ k, k % 4 = 0 → k ∉ offs.map (reg page) → (∀ w, ∀ o ∈ wins, k ≠ wreg w page o) → t.rd k = s.rd k)
    let may (page off : Nat) : Prop := s.mayWrite se (reg page off) v = true
    (may pgLEDG Off.LEDG_CNT_CLEAR → gone (.ledgCntClear se v) pgLEDG ([0x04C, 0x050, 0x054] ++ (List.range 13).flatMap fun a =>
      [Off.LEDG_RAIL_PEAK, Off.LEDG_RAIL_WAIT, Off.LEDG_RAIL_BALLAST_NC_LO, Off.LEDG_RAIL_BALLAST_NC_HI, Off.LEDG_RAIL_FREEZE_TICKS].map (· + 0x40 * a)) []) ∧
    (may pgCAL Off.CAL_CNT_CLEAR → gone (.calCntClear se v) pgCAL [0x06C, 0x070, 0x074] [Off.CAL_ENT_FIRES]) ∧
    (may pgTIME Off.TIME_CNT_CLEAR → gone (.timeCntClear se v) pgTIME [0x074, 0x078, 0x07C] []) ∧
    (may pgMGMT Off.MGMT_CNT_CLEAR → gone (.mgmtCntClear se v) pgMGMT [0x048, 0x04C, 0x050, 0x054, 0x058] []) ∧
    (may pgCOLL Off.COLL_CNT_CLEAR → gone (.collCntClear se v) pgCOLL [0x048, 0x04C, 0x050]
      ([0x154, 0x158, 0x15C, 0x160, 0x164, 0x168] ++ [Off.COLL_PCL_DROPPED, Off.COLL_LND_LANDED])) ∧
    (may pgUPD Off.UPD_CNT_CLEAR → gone (.updCntClear se v) pgUPD [0x048, 0x04C, 0x050] [0x22C, 0x230, 0x234, 0x238]) ∧
    (may pgPTP Off.PTP_CNT_CLEAR → gone (.ptpCntClear se v) pgPTP [0x054, 0x058] []) ∧
    (may pgTEMP Off.TEMP_CNT_CLEAR → gone (.tempCntClear se v) pgTEMP [0x054, 0x058] [])

/-- Writing 1 to the CNT_CLEAR of a stack, of a slow-tier package, of a port, a cluster, a core or a router unit that is present clears its counters, with what stands below one counted unit, and no other register; bit 0 written to CTX_NAN_STATUS re-arms the trap and zeroes its count, and to CTX_SAT_COUNT or CTX_ACC_REPLAY_COUNT clears it (R63, R66, R132, R103, R154, R187, R356, R358, R459). -/
def Obligations.CounterClearsOfUnits : Prop :=
  ∀ (s : State) (se : SessIx) (v : Word) (st : BitVec 4) (p : BitVec 5) (cl : Cluster) (x' : Ctx), bit v 0 = true →
    let x := se.toNat
    let c := cl.toNat
    let pk := s.sel x pgSLOW Off.SLOW_SEL
    let core := s.sel x (pgCLU c) Off.CLU_CORE_SEL
    let gone (i : Instr) (ks : List Nat) : Prop := ∃ t, exec i s = .next t ∧ (∀ k ∈ ks, t.rd k = 0) ∧ (∀ k, k ∉ ks → t.rd k = s.rd k) ∧
      s.onlyRegs { t with wcFence := s.wcFence, slowRem := s.slowRem, ethRem := s.ethRem, pfcNs := s.pfcNs, moverRem := s.moverRem }
    let cx (o : Nat) := reg (pgCTX x'.toNat) o
    let only (t : State) (ks : List Nat) : Prop := s.onlyRegs t ∧ ∀ r, r ∉ ks → t.rd r = s.rd r
    let may (page off : Nat) : Prop := s.mayWrite se (reg page off) v = true
    (may (pgHBM st.toNat) Off.HBM_CNT_CLEAR → s.pagePresent .hbm st.toNat = true →
      gone (.hbmCntClear se st v) (offRange (pgHBM st.toNat) 0x048 0x058 ++ offRange (pgHBM st.toNat) 0x070 0x08C)) ∧
    (may pgSLOW Off.SLOW_CNT_CLEAR → gone (.slowCntClear se v) ([0x048, 0x04C, 0x050, 0x064, 0x068].map (wreg pk pgSLOW))) ∧
    (p.toNat < 18 → may (pgETH p.toNat) Off.ETH_CNT_CLEAR → s.pagePresent .eth p.toNat = true →
      gone (.ethCntClear se p v) (offRange (pgETH p.toNat) 0x060 0x080 ++ [reg (pgETH p.toNat) 0x08C])) ∧
    (cluExists cl = true → s.cluUse c ≠ .off →
      (may (pgCLU c) Off.CLU_CNT_CLEAR → gone (.cluCntClear se cl v) (offRange (pgCLU c) 0x040 0x06C)) ∧
      (may (pgRTE c) Off.RTE_CNT_CLEAR → gone (.rteCntClear se cl v) (offRange (pgRTE c) 0x044 0x074)) ∧
      (may (pgCLU c) Off.CORE_CNT_CLEAR → s.coreEnabled c core = true →
        gone (.coreCntClear se cl v) ((List.range 14).map fun i => wreg core (pgCLU c) (0x818 + 4 * i))) ∧
      (may (pgCLU c) Off.CORE_ACC_REPLAYS → s.coreEnabled c core = true →
        gone (.coreAccReplaysClear se cl v) [wreg core (pgCLU c) Off.CORE_ACC_REPLAYS])) ∧
    (s.mayWrite se (cx Off.CTX_NAN_STATUS) v = true → ∃ t, exec (.ctxNanStatusClear se x' v) s = .next t ∧ only t [cx Off.CTX_NAN_STATUS, cx Off.CTX_NAN_COUNT] ∧
      t.rd (cx Off.CTX_NAN_STATUS) = s.rd (cx Off.CTX_NAN_STATUS) &&& ~~~v ∧ t.rd (cx Off.CTX_NAN_COUNT) = 0) ∧
    (s.mayWrite se (cx Off.CTX_SAT_COUNT) v = true → ∃ t, exec (.ctxSatCountClear se x' v) s = .next t ∧ only t [cx Off.CTX_SAT_COUNT] ∧
      t.rd (cx Off.CTX_SAT_COUNT) = 0) ∧
    (s.mayWrite se (cx Off.CTX_ACC_REPLAY_COUNT) v = true → ∃ t, exec (.ctxAccReplayCountClear se x' v) s = .next t ∧ only t [cx Off.CTX_ACC_REPLAY_COUNT] ∧
      t.rd (cx Off.CTX_ACC_REPLAY_COUNT) = 0)

/-! ## Binding, classes, partitions and run control (R254 to R276) -/

/-- CTX_BIND binds or unbinds an UNBOUND or IDLE context; CLU_PART assigns an enabled cluster where no context of a domain concerned holds its partition; CORE_ROW_MAP maps out a row of an idle core while the page is not locked (R103, R254, R256). Other writes of these registers change no register but EVENT, and set INVALID_WRITE; a page that the module does not have is reserved (R17). -/
def Obligations.BindingsAndPartitions : Prop :=
  ∀ (s : State) (se : SessIx) (c : Ctx) (cl : Cluster) (v : Word),
    let x := c.toNat
    let p := pgCLU cl.toNat
    let old := s.rd (reg p Off.CLU_PART)
    let core := s.sel se.toNat p Off.CLU_CORE_SEL
    let named := (if bit old 10 then [fld old 0 10] else []) ++ (if bit v 10 then [fld v 0 10] else [])
    let frame (t : State) (k : Nat) : Prop := s.onlyRegs { t with ctx := s.ctx } ∧ ∀ r, r ≠ k → t.rd r = s.rd r
    let refused (i : Instr) (page : Nat) : Prop := s.alerts.length < 240 → ∃ t, exec i s = .next t ∧ bit (t.rd (reg page Off.EVENT)) 31 = true ∧
      frame { t with alerts := s.alerts, alertSeq := s.alertSeq } (reg page Off.EVENT) ∧ t.ctx = s.ctx
    (isOp se.toNat = true → s.mayWrite se (reg (pgCTX x) Off.CTX_BIND) v = true →
      ((s.getCtx x).run = .unbound ∨ (s.getCtx x).run = .idle → ∃ t, exec (.ctxBindWrite se c v) s = .next t ∧
        t.ctxDom x = (if bit v 31 then some (fld v 0 10) else none) ∧ (t.getCtx x).run = (if bit v 31 then .idle else .unbound) ∧
        frame t (reg (pgCTX x) Off.CTX_BIND) ∧ ∀ d, d ≠ x → t.getCtx d = s.getCtx d) ∧
      ((s.getCtx x).run ≠ .unbound → (s.getCtx x).run ≠ .idle → refused (.ctxBindWrite se c v) (pgCTX x))) ∧
    (cluExists cl = true → s.cluUse cl.toNat ≠ .off → s.mayWrite se (reg p Off.CLU_PART) v = true →
      (named.any s.holdsPartition = false → (bit v 10 = true → s.cluEnabled cl.toNat = true) → ∃ t, exec (.cluPartWrite se cl v) s = .next t ∧
        t.rd (reg p Off.CLU_PART) = v &&& 0x7FF#32 ∧ frame t (reg p Off.CLU_PART)) ∧
      (named.any s.holdsPartition = true → refused (.cluPartWrite se cl v) p)) ∧
    (cluExists cl = true → s.cluUse cl.toNat ≠ .off → s.mayWrite se (reg p Off.CORE_ROW_MAP) v = true → s.coreEnabled cl.toNat core = true →
      bit (s.rd (reg p Off.LOCK)) 0 = false →
      (s.coreIdle cl.toNat core = true → ∃ t, exec (.coreRowMapWrite se cl v) s = .next t ∧
        t.rd (wreg core p Off.CORE_ROW_MAP) = v &&& 0x1F#32 ∧ frame t (wreg core p Off.CORE_ROW_MAP)) ∧
      (s.coreIdle cl.toNat core = false → refused (.coreRowMapWrite se cl v) p)) ∧
    (cluExists cl = false → exec (.cluPartWrite se cl v) s = .next s ∧ exec (.coreRowMapWrite se cl v) s = .next s)

/-- Every context's class is 0 to 3. A write of CTX_PRIO above its domain's GLOB_DOM_CLASS_MAX has no effect and sets the invalid-write EVENT bit; any other sets the class. A write of GLOB_DOM_CLASS_MAX gives every context of the domain above the new maximum the new maximum (R258). -/
def Obligations.PriorityClasses : Prop :=
  ∀ (s : State) (se : SessIx) (c : Ctx) (v : Word),
    let k := reg (pgCTX c.toNat) Off.CTX_PRIO
    let d := s.sel se.toNat pgGLOB Off.GLOB_DOM_SEL
    s.ctxClass c.toNat < 4 ∧
    (s.mayWrite se k v = true → fld v 0 2 ≤ s.classMax (s.domOf c.toNat) → ∃ t, exec (.ctxPrioWrite se c v) s = .next t ∧
      t.ctxClass c.toNat = fld v 0 2 ∧ s.onlyRegs t ∧ ∀ r, r ≠ k → t.rd r = s.rd r) ∧
    (s.mayWrite se k v = true → s.classMax (s.domOf c.toNat) < fld v 0 2 → ∃ t, exec (.ctxPrioWrite se c v) s = .next t ∧
      bit (t.rd (reg (pgCTX c.toNat) Off.EVENT)) 31 = true ∧ t.ctxClass c.toNat = s.ctxClass c.toNat ∧ t.ctx = s.ctx) ∧
    (s.mayWrite se (reg pgGLOB Off.GLOB_DOM_CLASS_MAX) v = true → d < 1024 → ∃ t, exec (.globDomClassMaxWrite se v) s = .next t ∧
      t.classMax d = fld v 0 2 ∧ s.onlyRegs t ∧
      ∀ x, x < 2 ^ 14 → t.ctxClass x = if s.ctxDom x = some d then min (s.ctxClass x) (fld v 0 2) else s.ctxClass x)

/-- REPLAY of an IDLE context with no step pending, no VOTE of a released step in flight, no patch list and no window to open at its start: the position is 0, no loop is active, the step is pending, CTX_REPLAYS counts, no semaphore, counter or comparator changes, and the context is granted a claim that no resident claim overlaps (R232, R237, R266). A context whose step is pending or that is not IDLE starts nothing, and the entry answers the code. -/
def Obligations.ReplayStartsAContext : Prop :=
  ∀ (s : State) (se : SessIx) (c : Ctx),
    let x := c.toNat
    s.mayWrite se (reg (pgCTX x) Off.CTX_CTRL) 1 = true →
    (s.mayReplay x = true → fld (s.rd (reg (pgCTX x) Off.CTX_PATCH_COUNT)) 0 7 = 0 → s.replayGrps x = [] → (s.getStep x).votes = [] → ∃ t, exec (.replay se c) s = .next t ∧
      t.pc x = 0 ∧ (t.getCtx x).stepPending = true ∧ (t.getCtx x).stack = [] ∧ (t.getCtx x).held = none ∧ t.mem = s.mem ∧
      (∀ n, n < 256 → t.sem x n = s.sem x n) ∧ (∀ n, n < 8 → t.rd (cntKey x n) = s.rd (cntKey x n)) ∧
      (∀ o ∈ offRange (pgCTX x) Off.CTX_CMPn_CTRL (Off.CTX_CMPn_CTRL + 60), t.rd o = s.rd o) ∧
      t.rd (reg (pgCTX x) Off.CTX_REPLAYS) = satAdd (s.rd (reg (pgCTX x) Off.CTX_REPLAYS)) 1 ∧
      (s.claimBad x = false → s.rivals x = [] → (s.getCtx x).saveValid = false → (t.getCtx x).run = .running ∧ (t.getCtx x).resident = true ∧
        ∀ d, d ≠ x → t.getCtx d = s.getCtx d)) ∧
    (s.replayAnswer x ≠ 0 → ∃ t, exec (.replay se c) s = .next t ∧ t.out = s.out ++ [.response se.toNat (s.replayAnswer x) 0 []] ∧
      { t with out := s.out, logs := s.logs, logOpen := s.logOpen } = s)

/-- PREEMPT puts a running context into STOPPING with its engines to stop, and a restoring one to be pre-empted after its restore, where it then stays until RESUME, with the time of the first request; RESUME takes a pre-empted SAVED context back to its claim (R268, R274, R277). A write in any other state changes no context and sets INVALID_WRITE. -/
def Obligations.PreemptAndResume : Prop :=
  ∀ (s : State) (se : SessIx) (c : Ctx),
    let x := c.toNat
    let r := s.getCtx x
    let may (v : Word) : Prop := s.mayWrite se (reg (pgCTX x) Off.CTX_RUN_CTRL) v = true
    let others (t : State) : Prop := (∀ d, d ≠ x → t.getCtx d = s.getCtx d) ∧ t.mem = s.mem
    let refused (i : Instr) : Prop := ∃ t, exec i s = .next t ∧ t.ctx = s.ctx ∧ t.mem = s.mem ∧ bit (t.rd (reg (pgCTX x) Off.EVENT)) 31 = true
    (may 1 → r.run = .running → ∃ t, exec (.preempt se c) s = .next t ∧ others t ∧ t.cores = s.cores ∧
      t.getCtx x = { r with run := .stopping, engines := s.busyEngines x, byPreempt := true, preemptAt := s.now.toNat } ∧
      t.rd (reg (pgCTX x) Off.CTX_PREEMPTS) = satAdd (s.rd (reg (pgCTX x) Off.CTX_PREEMPTS)) 1) ∧
    (may 1 → r.run = .restoring → ∃ t, exec (.preempt se c) s = .next t ∧ others t ∧ t.cores = s.cores ∧
      t.getCtx x = { r with preemptAfter := true, byPreempt := true, preemptAt := if r.preemptAfter then r.preemptAt else s.now.toNat }) ∧
    (may 1 → r.run ≠ .running → r.run ≠ .restoring → refused (.preempt se c)) ∧
    (may 2 → r.run = .saved → r.byPreempt = true → s.claimBad x = false → s.rivals x = [] → ∃ t, exec (.resume se c) s = .next t ∧ others t ∧
      (r.starting = false ∨ r.saveValid = true → t.cores = s.cores) ∧
      t.getCtx x = { r with byPreempt := false, resident := true, starting := false, grantedClaim := some (s.claimWords x), run := if r.saveValid then .restoring else .running }) ∧
    (may 2 → ¬ (r.run = .saved ∧ r.byPreempt = true) → refused (.resume se c))

/-- RESTART takes a FAULTED context to CTX_RESTART_PC with its error record clear and no loop active, and asks for its claim; RELEASE makes any context that is neither UNBOUND nor IDLE IDLE, without its save, its claim, its loops or its pending step, which counts as discarded (R274). A router operation of another context that waits for units which a release frees starts then (R180): the release is stated where none waits. -/
def Obligations.RestartAndRelease : Prop :=
  ∀ (s : State) (se : SessIx) (c : Ctx),
    let x := c.toNat
    let r := s.getCtx x
    let u := s.freeClaim x
    let may (v : Word) : Prop := s.mayWrite se (reg (pgCTX x) Off.CTX_RUN_CTRL) v = true
    let refused (i : Instr) : Prop := ∃ t, exec i s = .next t ∧ t.ctx = s.ctx ∧ t.mem = s.mem ∧ bit (t.rd (reg (pgCTX x) Off.EVENT)) 31 = true
    (may 4 → r.run = .faulted → r.releaseOnly = false → s.restartPcOk x = true → u.claimBad x = false → u.rivals x = [] →
      ∃ t, exec (.restart se c) s = .next t ∧ t.pc x = s.rd64 (reg (pgCTX x) Off.CTX_RESTART_PC_LO) ∧
        t.rd (reg (pgCTX x) Off.ERR_CODE) = 0 ∧ bit (t.rd (reg (pgCTX x) Off.EVENT)) 30 = false ∧ t.mem = s.mem ∧
        (t.getCtx x).stack = [] ∧ (t.getCtx x).resident = true ∧ (t.getCtx x).run = (if r.saveValid then .restoring else .running) ∧
        ∀ d, d ≠ x → t.getCtx d = s.getCtx d) ∧
    (may 4 → ¬ (r.run = .faulted ∧ r.releaseOnly = false ∧ s.restartPcOk x = true) → refused (.restart se c)) ∧
    (may 8 → r.run ≠ .unbound → r.run ≠ .idle → s.routerQuiet x = true → ∃ t, exec (.release se c) s = .next t ∧ (t.getCtx x).run = .idle ∧
      (t.getCtx x).saveValid = false ∧ (t.getCtx x).resident = false ∧ (t.getCtx x).grantedClaim = none ∧ (t.getCtx x).stack = [] ∧
      (t.getCtx x).stepPending = false ∧ mapGet {} t.saves x = {} ∧ t.mem = s.mem ∧ (∀ d, d ≠ x → t.getCtx d = s.getCtx d) ∧
      (r.stepPending = true → r.run = .faulted → t.rd (updReg x Off.UPD_CTX_DISCARDS) = satAdd (s.rd (updReg x Off.UPD_CTX_DISCARDS)) 1)) ∧
    (may 8 → r.run = .unbound ∨ r.run = .idle → refused (.release se c))

/-- CLAIM_GRANT makes the context that the tie rule picks resident, to restore its save or to run, and has no effect for a context it does not pick; an engine of a stopping context stops at its boundary, with what it completes on the way, and with the last the context is SAVING; the front end, the tile drains, the mask walk and the router complete nothing (R266, R269). -/
def Obligations.ClaimsAndStops : Prop :=
  ∀ (s u : State) (c : Ctx) (b : BitVec 3) (e : Engine),
    let x := c.toNat
    let r := s.getCtx x
    let p := s.stopEngine x e
    let q := p.getCtx x
    let still : Prop := (∀ d, d ≠ x → p.getCtx d = s.getCtx d) ∧ p.mem = s.mem ∧ p.cores = s.cores ∧
      q = if e = .router then { r with live := r.live.map fun l => if l.w.eclass == 4 then { l with waits := true } else l } else r
    (s.tieGrant 0x20000 16384 s.waiting = (some x, u) → ∃ t, exec (.claimGrant c) s = .next t ∧ (∀ d, d ≠ x → t.getCtx d = s.getCtx d) ∧ t.mem = s.mem ∧
      (r.starting = false ∨ r.saveValid = true → { t with ctx := s.ctx, ties := s.ties } = s) ∧
      t.getCtx x = { r with resident := true, starting := false, grantedClaim := some (s.claimWords x), run := if r.saveValid then .restoring else .running }) ∧
    ((s.tieGrant 0x20000 16384 s.waiting).1 ≠ some x → exec (.claimGrant c) s = .next s) ∧
    (e = .frontEnd ∨ e = .tileDrain ∨ e = .maskWalk ∨ e = .router → still) ∧
    (engineOf b.toNat = some e → r.run = .stopping → r.engines.contains e = true → (r.engines.erase e).contains e = false → s.mayStop x e = true →
      q.run = .stopping → q.engines = r.engines → (e = .router → s.routerQuiet x = true) → ∃ t, exec (.engineStopped c b) s = .next t ∧
      t.mem = p.mem ∧ (∀ d, d ≠ x → t.getCtx d = p.getCtx d) ∧
      t.getCtx x = { q with engines := r.engines.erase e, held := if e = .frontEnd then none else q.held, run := if r.engines.erase e = [] then .saving else .stopping }) ∧
    (engineOf b.toNat = some e → r.run = .stopping → r.engines.contains e = true → s.mayStop x e = true → q.run ≠ .stopping →
      exec (.engineStopped c b) s = .next { p with pending := s.pending }) ∧
    (engineOf b.toNat = some e → r.run ≠ .stopping ∨ r.engines.contains e = false ∨ s.mayStop x e = false → exec (.engineStopped c b) s = .next s) ∧
    (engineOf b.toNat = none → exec (.engineStopped c b) s = .fault .noSuchUnit)

/-- SAVE_DONE, once the movers have their current, keeps the on-die state of the claim, takes the context's passes out of the cores and leaves it SAVED without its claim (a FAULTED one FAULTED, with its state saved); RESTORE_DONE writes that state back and lets the context run; a save area that does not translate, or a line that reads poisoned on either way, loses the state and faults the context (R267, R270, R271, R275, R276). A router operation of another context that waits starts as well when a restore frees its units (R180): the restore is stated where none waits. That the saved state stands beside its area, whose bytes are free, is the model's choice (log entry 17). -/
def Obligations.SavesAndRestores : Prop :=
  ∀ (s : State) (c : Ctx),
    let x := c.toNat
    let r := s.getCtx x
    let saves : Bool := (r.run == .saving || (r.run == .faulted && r.resident && r.savingFault)) && !s.waitsCurrent x (2 ^ 64) none && !s.saveFrozen x
    let lost (t : State) : Prop := (t.getCtx x).run = .faulted ∧ (t.getCtx x).releaseOnly = true ∧ (t.getCtx x).resident = false ∧
      (t.getCtx x).saveValid = false ∧ mapGet {} t.saves x = {} ∧ t.mem = s.mem
    let back := s.putSave x (mapGet {} s.saves x)
    (saves = true → s.saveAreaFault x true = false → s.storePoison x = false → ∃ t, exec (.saveDone c) s = .next t ∧ mapGet {} t.saves x = s.takeSave x ∧
      (t.getCtx x).run = (if r.run = .saving then .saved else .faulted) ∧ (t.getCtx x).saveValid = true ∧ (t.getCtx x).resident = false ∧
      (t.getCtx x).grantedClaim = none ∧ (∀ p ∈ t.cores, ∀ q ∈ p.2.queue ++ p.2.air, q.ctx ≠ x) ∧ (∀ d, d ≠ x → t.getCtx d = s.getCtx d) ∧
      ∀ y, (s.gran (y / 2 ^ 21)).fill = none → (∀ r ∈ s.saveRuns x, y < r.1 ∨ r.1 + r.2 ≤ y) → t.byte y = s.byte y) ∧
    (saves = true → s.saveAreaFault x true = true ∨ s.storePoison x = true → ∃ t, exec (.saveDone c) s = .next t ∧ lost t) ∧
    (saves = false → exec (.saveDone c) s = .next s) ∧
    (r.run = .restoring → s.saveAreaFault x false = false → s.saveAreaPoison x = false → r.held = none → s.routerQuiet x = true → ∃ t, exec (.restoreDone c) s = .next t ∧
      (t.getCtx x).run = (if r.preemptAfter then .stopping else .running) ∧ (t.getCtx x).saveValid = false ∧ t.mem = back.mem ∧ t.marks = back.marks ∧
      mapGet {} t.saves x = {} ∧ ∀ d, d ≠ x → t.getCtx d = s.getCtx d) ∧
    (r.run = .restoring → s.saveAreaFault x false = true ∨ s.saveAreaPoison x = true → ∃ t, exec (.restoreDone c) s = .next t ∧ lost t) ∧
    (r.run ≠ .restoring → exec (.restoreDone c) s = .next s)

/-! ## The current ledger (R281 to R301) -/

/-- A ledger tick moves each compute account by at most one step of its slew, never above its ceiling unless it is falling, and never up while the throttle is recognised; it samples THROTTLE_N, and touches no memory and no context, but for fabric commands that wait for their current and start with it, stated where none waits (R287, R294, R297). -/
def Obligations.LedgerTickBoundsAccounts : Prop :=
  ∀ (s : State) (low : Bool), (∀ c, s.noneWaits c = true) → ∃ t, exec (.ledgerTick low) s = .next t ∧ t.ctx = s.ctx ∧ t.mem = s.mem ∧ t.now = s.now ∧
    t.thr.low = (if low then s.thr.low + 1 else 0) ∧ t.thr.high = (if low then 0 else s.thr.high + 1) ∧ t.thr.throttled = s.thr.throttled ∧
    ∀ a, a < 8 →
      let step := (s.rd (railReg a Off.LEDG_RAIL_SLEW)).toNat / 50
      t.account a ≤ s.account a + step ∧ s.account a ≤ t.account a + step ∧ t.account a ≤ max (s.ceil a) (s.account a - step) ∧
      (s.thr.throttled = true → t.account a ≤ s.account a)

/-- LSTEP_N and the throttle: a rail that has warned for LEDG_LSTEP_LEAD goes on, unless a low run has ended the release it waits for (R293, R295); an account unchanged for 1 us, with no warning left to give, deasserts it and moves its anchor (R293); recognition asserts every LSTEP_N, zeroes ballast and freezes down to the throttle floor (R294); release follows 10 us of high samples, warned before (R295); 10 ms of low samples and 1,000 toggles raise their errors (R296). Where its condition does not hold, each of these rows changes nothing. -/
def Obligations.LstepAndThrottle : Prop :=
  ∀ (s : State) (rail : BitVec 3),
    let a := rail.toNat
    let due := s.lstep a && !(s.rail a).leadDone && decide (s.leadTicks ≤ (s.rail a).age)
    let still := s.lstep a && decide (500 ≤ (s.rail a).still) && !s.lstepHeld a
    let rec' := !s.thr.throttled && decide (50 ≤ s.thr.low)
    let open' := s.thr.throttled || s.thr.broken
    let warn := open' && decide (0 < s.thr.high) && decide (5000 - s.leadTicks ≤ s.thr.high)
    let held := !s.thr.held && decide (5000000 ≤ s.thr.low)
    let tog := s.thr.throttled && decide (1000 ≤ s.thr.toggles) && !bit (s.rd (reg pgLEDG Off.EVENT)) 3
    (due = true → ∃ t, exec (.lstepLeadElapsed rail) s = .next t ∧ t.rail a = { s.rail a with leadDone := true, relHold := (s.rail a).relHold && s.thr.broken } ∧
      { t with rails := s.rails } = s) ∧
    (due = false → exec (.lstepLeadElapsed rail) s = .next s) ∧
    (still = true → ∃ t, exec (.lstepDeassert rail) s = .next t ∧ t.lstep a = false ∧ (t.rd (railReg a Off.LEDG_RAIL_ANCHOR)).toNat = s.account a ∧
      t.rail a = { s.rail a with leadDone := false } ∧ (∀ b, b < 8 → b ≠ a → t.lstep b = s.lstep b ∧ t.rail b = s.rail b) ∧ { t with rails := s.rails, regs := s.regs } = s) ∧
    (still = false → exec (.lstepDeassert rail) s = .next s) ∧
    (rec' = true → ∃ t, exec .throttleRecognised s = .next t ∧ t.thr = { s.thr with throttled := true, toggles := 0, warned := false, broken := false } ∧
      t.rd (reg pgLEDG Off.LEDG_THR_COUNT) = satAdd (s.rd (reg pgLEDG Off.LEDG_THR_COUNT)) 1 ∧ t.rd64 (reg pgLEDG Off.LEDG_THR_LAST_LO) = s.now ∧
      bit (t.rd (reg pgLEDG Off.EVENT)) 0 = true ∧ t.lresv = s.lresv ∧
      ∀ b, b < 8 → t.lstep b = true ∧ (t.rail b).debts = [] ∧ (t.rail b).units = [] ∧
        t.account b = min (freezeTo (s.thrFloor b) (s.work b) (s.freezeOrder b)).1 (s.account b)) ∧
    (rec' = false → exec .throttleRecognised s = .next s) ∧
    (warn = true → ∃ t, exec .throttleReleaseWarn s = .next t ∧ (∀ b, b < 8 → t.lstep b = true) ∧ t.thr = { s.thr with warned := true } ∧
      { t with regs := s.regs, rails := s.rails, thr := s.thr } = s) ∧
    (warn = false → exec .throttleReleaseWarn s = .next s) ∧
    (open' = true → 5000 ≤ s.thr.high → ∃ t, exec .throttleRelease s = .next t ∧ t.thr = { s.thr with throttled := false, warned := false, broken := false } ∧
      (s.thr.throttled = true → bit (t.rd (reg pgLEDG Off.EVENT)) 2 = true) ∧ ∀ b, b < 8 → t.rail b = { s.rail b with relHold := !(s.rail b).leadDone }) ∧
    (open' = false ∨ s.thr.high < 5000 → exec .throttleRelease s = .next s) ∧
    (held = true → ∃ t, exec .throttleHeld s = .next t ∧ t.thr = { s.thr with held := true } ∧ bit (t.rd (reg pgLEDG Off.EVENT)) 1 = true ∧
      bit (t.rd (reg pgLEDG Off.EVENT)) 30 = true) ∧
    (held = false → exec .throttleHeld s = .next s) ∧
    (tog = true → ∃ t, exec .throttleToggling s = .next t ∧ t.thr = s.thr ∧ bit (t.rd (reg pgLEDG Off.EVENT)) 3 = true ∧ bit (t.rd (reg pgLEDG Off.EVENT)) 30 = true) ∧
    (tog = false → exec .throttleToggling s = .next s)

/-- Ramp profiles and ceilings: when the lead or hold of a rail's profile has expired the guide's segment moves on, and after the last the profile ends (R292); a ceiling in its range is taken, and one below the account raises CEILING_BELOW_ACCOUNT, with the account to follow at its slew (R297); one outside its range is refused, and one of an account that does not exist has no effect (R17). -/
def Obligations.ProfilesAndCeilings : Prop :=
  ∀ (s : State) (se : SessIx) (rail : BitVec 3) (acct : BitVec 4) (v : Word) (g : Nat),
    let a := rail.toNat
    let b := acct.toNat
    let k := railReg b Off.LEDG_RAIL_CEIL
    let ok := inOff (if b < 8 then 120000 else 0) (fld v 0 20) (ceilMax b)
    (s.profNext a = some (g, false) → ∃ t, exec (.profileSegmentStart rail) s = .next t ∧ t.rail a = { s.rail a with seg := some g, timer := 0 } ∧
      { t with rails := s.rails } = s) ∧
    (s.profNext a = some (g, true) → ∃ t, exec (.profileEnd rail) s = .next t ∧
      t.rail a = { s.rail a with prof := none, seg := none, guide := 0, timer := 0 } ∧ { t with rails := s.rails } = s) ∧
    (s.profNext a = none → exec (.profileSegmentStart rail) s = .next s ∧ exec (.profileEnd rail) s = .next s) ∧
    (b < 13 → s.mayWrite se k v = true → s.locked pgLEDG = false →
      (ok = true → ∃ t, exec (.ledgRailCeilWrite se acct v) s = .next t ∧ t.ceil b = fld v 0 20 ∧ t.account b = s.account b ∧
        (b < 8 → fld v 0 20 < s.account b → bit (t.rd (reg pgLEDG Off.EVENT)) 6 = true ∧ bit (t.rd (reg pgLEDG Off.EVENT)) 30 = true) ∧
        (8 ≤ b ∨ s.account b ≤ fld v 0 20 → s.onlyRegs t ∧ ∀ r, r ≠ k → t.rd r = s.rd r)) ∧
      (ok = false → ∃ t, exec (.ledgRailCeilWrite se acct v) s = .next t ∧ t.ceil b = fld (s.rd k) 0 20 ∧ bit (t.rd (reg pgLEDG Off.EVENT)) 31 = true)) ∧
    (13 ≤ b → exec (.ledgRailCeilWrite se acct v) s = .next s)

/-! ## The event calendar (R292, R316 to R322) -/

/-- What every dispatch of a calendar entry leaves: its last dispatch is now and its fires count; a one-shot entry is disabled, and a periodic one that was due has its next instant, a whole number of periods on, past now (R318, R319, R322). -/
def Obligations.DispatchKeepsTheCalendar : Prop :=
  ∀ (s : State) (e : BitVec 12),
    let x := e.toNat
    let n := s.calAdvance x
    n.rd64 (calReg x Off.CAL_ENT_LAST_LO) = s.now ∧ n.rd (calReg x Off.CAL_ENT_FIRES) = satAdd (s.rd (calReg x Off.CAL_ENT_FIRES)) 1 ∧
    (s.calPeriod x = 0 → n.calEnabled x = false ∧ n.calInstant x = s.calInstant x) ∧
    (0 < s.calPeriod x → s.calDue x = true → s.now.toNat + s.calPeriod x < 2 ^ 64 → n.calEnabled x = true ∧ s.now.toNat < n.calInstant x ∧
      n.calInstant x ≤ s.now.toNat + s.calPeriod x ∧ (n.calInstant x - s.calInstant x) % s.calPeriod x = 0 ∧
      (s.calInstant x + s.calPeriod x ≤ s.now.toNat → bit (n.rd (reg pgCAL Off.EVENT)) 1 = true)) ∧
    s.onlyRegs { n with lateEnt := s.lateEnt, alerts := s.alerts, alertSeq := s.alertSeq } ∧
    ∀ y, y < 4096 → y ≠ x → n.calEnabled y = s.calEnabled y ∧ n.calInstant y = s.calInstant y

/-- Each of the seven actions of a calendar entry that is the next to dispatch and whose target belongs to its owner: a start of an IDLE context's replay, or its hold until the step resolves, or its loss behind one already held; a ramp profile on the rails it names; the windows of a group; a commit instant; a checkpoint; a resume; a scrub. An action without effect counts, and an entry that is not the next does nothing (R292, R317, R318, R320). -/
def Obligations.CalendarActionsRun : Prop :=
  ∀ (s : State) (e : BitVec 12),
    let x := e.toNat
    let n := s.calAdvance x
    let c := s.calTarget x
    let own := s.calOwner x
    let r := s.getCtx c
    let go (a : Nat) : Prop := s.calNext x = true ∧ s.calAction x = a ∧ ∀ d, own = some d → s.calTargetOf a c d = true
    let next (i : Instr) (t : State) : Prop := exec i s = .next { t with pending := s.pending }
    let none' (i : Instr) : Prop := ∃ t, exec i s = .next t ∧ t.ctx = s.ctx ∧ t.mem = s.mem ∧ t.grps = s.grps ∧ t.rings = s.rings ∧ t.steps = s.steps ∧ t.scrub = s.scrub ∧
      t.rd (reg pgCAL Off.CAL_NOEFFECT) = satAdd (s.rd (reg pgCAL Off.CAL_NOEFFECT)) 1 ∧ bit (t.rd (reg pgCAL Off.EVENT)) 2 = true
    let slots := (n.slotsOfGroup c).filter fun g => bit (n.rd (grpReg g Off.COLL_GRP_CFG)) 0 && (match own with | some d => n.ctxDom (n.grpCtx g) == some d | none => true)
    (go 1 → s.mayReplay c = true → r.heldStart = none → next (.stepStart e) ((n.beginReplay c).armFloor c x)) ∧
    (go 1 → s.mayReplay c = false → r.run ≠ .unbound → r.heldStart = none → next (.stepStart e) (n.setCtx c { r with heldStart := some (x, s.now.toNat) })) ∧
    (go 1 → r.run = .unbound → none' (.stepStart e)) ∧
    (go 1 → r.run ≠ .unbound → r.heldStart ≠ none → next (.stepStart e) ((n.inc (reg pgCAL Off.CAL_MISSED)).raise pgCAL 1)) ∧
    (go 2 → c < 16 → ∃ t, exec (.rampProfile e) s = .next t ∧ ∀ a, a < 8 →
      if bit (s.rd (reg pgLEDG (Off.LEDG_PROF_CFG + 0x40 * c))) a then t.lstep a = true ∧ (t.rail a).prof = some c ∧ (t.rail a).seg = none ∧ (t.rail a).profDom = own.getD 1024
      else t.rail a = s.rail a) ∧
    (go 3 → slots ≠ [] → next (.windowOpen e) (slots.foldl (fun t g => t.openWindow g (s.calInstant x)) n)) ∧
    (go 3 → slots = [] → none' (.windowOpen e)) ∧
    (go 4 → r.stepPending = true → (s.getStep c).commit = false → bit (s.rd (updReg c Off.UPD_CTX_CFG)) 0 = false →
      next (.commit e) (n.setStep c { s.getStep c with commit := true })) ∧
    (go 4 → r.stepPending = false → none' (.commit e)) ∧
    (go 5 → s.ringRuns (256 + c) = true → (s.getRing (256 + c)).ckpt = none → ∃ t, n.ckptStart (256 + c) = some t ∧ next (.checkpointStart e) t) ∧
    (go 5 → s.ringRuns (256 + c) = false → none' (.checkpointStart e)) ∧
    (go 6 → r.run = .saved → r.byPreempt = true → next (.contextRelease e) ((n.setCtx c { r with run := .ready, byPreempt := false }).requestClaim c)) ∧
    (go 6 → r.run ≠ .saved → none' (.contextRelease e)) ∧
    (go 7 → (∀ p ∈ s.boundCtxs, p.2 ≠ c) → s.domSession c = false → s.scrub.contains c = false → ∃ t, n.startScrub c = some t ∧ next (.scrubStart e) t) ∧
    (go 7 → s.scrub.contains c = true → none' (.scrubStart e)) ∧
    (s.calNext x = false → ∀ i ∈ [Instr.stepStart e, .rampProfile e, .windowOpen e, .commit e, .checkpointStart e, .contextRelease e, .scrubStart e], exec i s = .next s)

/-- A held start begins once its context may replay, counts late and sets CAL_LATE's event (R320); ENABLE of a valid entry enables it and of an invalid one leaves it disabled with ENTRY_INVALID; a write of ACTION takes the writer's domain as owner, and a write that makes an enabled entry invalid disables it; a field that the entry does not have is reserved (R17, R316, R317, R319). -/
def Obligations.HeldStartsAndEntryWrites : Prop :=
  ∀ (s : State) (se : SessIx) (c : Ctx) (h : Nat × Nat) (f : BitVec 2) (o : Nat) (v : Word),
    let y := c.toNat
    let x := s.sel se.toNat pgCAL Off.CAL_SEL
    let n := (((s.setCtx y { s.getCtx y with heldStart := none }).inc (reg pgCAL Off.CAL_LATE)).raise pgCAL 0)
    let calm (t : State) : Prop := t.ctx = s.ctx ∧ t.mem = s.mem ∧ ∀ z, z < 4096 → z ≠ x → t.calEnabled z = s.calEnabled z
    ((s.getCtx y).heldStart = some h → s.mayReplay y = true → exec (.heldStepStart c) s = .next { (n.beginReplay y).armFloor y h.1 with pending := s.pending }) ∧
    ((s.getCtx y).heldStart = none ∨ s.mayReplay y = false → exec (.heldStepStart c) s = .next s) ∧
    (s.mayWrite se (reg pgCAL Off.CAL_ENT_CTRL) v = true → ∃ t, exec (.calEntCtrlWrite se v) s = .next t ∧ calm t ∧
      t.calEnabled x = (bit v 0 && s.calValid x) ∧ (bit v 0 = true → s.calValid x = false → bit (t.rd (reg pgCAL Off.EVENT)) 3 = true ∧ bit (t.rd (reg pgCAL Off.EVENT)) 30 = true)) ∧
    (calField f = some o → s.mayWrite se (reg pgCAL o) v = true → x < 4096 → ∃ t, exec (.calEntryFieldWrite se f v) s = .next t ∧ calm t ∧
      (o = Off.CAL_ENT_PERIOD → t.calPeriod x = v.toNat) ∧
      (o = Off.CAL_ENT_TARGET → t.calTarget x = fld v 0 20) ∧
      (o = Off.CAL_ENT_ACTION → t.calOwner x = if isOp se.toNat then none else some (sessDomain se.toNat)) ∧
      t.calEnabled x = (s.calEnabled x && t.calValid x)) ∧
    (calField f = none → exec (.calEntryFieldWrite se f v) s = .next s)

/-! ## Fabric time (R303 to R315, R454) -/

/-- A PTP message on the port in use, of its domain and in its ranges: a better Announce, or one of the selected source, selects its source, a one-step Sync and the Follow_Up of a two-step one measure the offset from the selected master, and a Delay_Resp, a one-step Pdelay_Resp and the follow-up of a two-step one set the mean path; one out of range counts as rejected and unselects its source; one on another port, of another domain or from no source in use has no effect. A measurement in FREE steps the counter to the source, one in LOCKED of at most 10 us leaves the counter, and the loop's increment stays within 200 ppm and does not rise while the source is behind, a free value of the model (log entry 9, DESIGN CHOICE; R303, R304, R308, R309, R314, R454). -/
def Obligations.PtpDisciplinesTime : Prop :=
  ∀ (s u : State) (rx : Rx) (m : PtpMsg) (b : Bool),
    let m' : PtpMsg := { m with port := rx.port.toNat == 17 }
    let sel := bit (u.rd (ptpReg Off.PTP_STATE)) 0 && decide (m.source = u.rd64 (ptpReg Off.PTP_MASTER_LO))
    let p2p := bit (u.rd (ptpReg Off.PTP_CFG)) 10
    let off (t2 : Nat) : Int := (m.stamp : Int) + m.corr + ((u.rd (ptpReg Off.PTP_MEAN_PATH)).toNat : Int) - (t2 : Int)
    let shown (o : Int) : Word := BitVec.ofInt 32 (max (-(2 ^ 31)) (min (2 ^ 31 - 1) o))
    let measured (i : Instr) (t2 : Nat) : Prop := ∃ t, exec i s = .next t ∧ t.rd (tReg Off.TIME_OFFSET) = shown (off t2) ∧ t.time.syncAt = t.timer ∧
      t.time.linkLost = false ∧ t.time.failed = false ∧
      (u.tState = 0 → t.tState = 1 ∧ t.now = BitVec.ofInt 64 (max 0 ((u.now.toNat : Int) + off t2))) ∧
      (u.tState = 2 → (off t2).natAbs ≤ 10000 → t.now = u.now ∧ t.tState = 2 ∧
        (u.time.adj.natAbs ≤ 219902325 → t.time.adj.natAbs ≤ 219902325 ∧ (off t2 < 0 → t.time.adj ≤ u.time.adj))) ∧
      (u.tState = 1 → t.now = u.now ∧ t.tState = if 7 ≤ u.time.good ∧ (off t2).natAbs ≤ 100 then 2 else 1)
    let path (d : Int) : Prop := ∃ t, exec (.ptpMessage rx m) s = .next t ∧ { t with regs := u.regs, time := u.time } = u ∧
      t.rd (ptpReg Off.PTP_MEAN_PATH) = BitVec.ofInt 32 (max 0 d)
    s.rxFrame rx = (u, b) →
    (b = false ∨ rx.port.toNat < 16 → exec (.ptpMessage rx m) s = .next u) ∧
    (u.tSrc = true ∨ m'.port ≠ bit (u.rd (tReg Off.TIME_STATE)) 3 ∨ m.domain ≠ fld (u.rd (ptpReg Off.PTP_CFG)) 0 8 → exec (.ptpMessage rx m) s = .next u) ∧
    (b = true → 16 ≤ rx.port.toNat → u.tSrc = false → m'.port = bit (u.rd (tReg Off.TIME_STATE)) 3 → m.domain = fld (u.rd (ptpReg Off.PTP_CFG)) 0 8 →
      (ptpInRange m = false → ∃ t, exec (.ptpMessage rx m) s = .next t ∧ t.rd (ptpReg Off.PTP_REJECTED) = satAdd (u.rd (ptpReg Off.PTP_REJECTED)) 1 ∧
        { t with regs := u.regs, time := u.time } = u ∧ t.time = (if sel then { u.time with noMaster := some u.timer } else u.time) ∧
        (sel = true → bit (t.rd (ptpReg Off.PTP_STATE)) 0 = false)) ∧
      (ptpInRange m = true →
        (m.kind = 0xB → bit (u.rd (ptpReg Off.PTP_STATE)) 0 = false ∨ sel = true ∨ m.rank < u.time.rank → ∃ t, exec (.ptpMessage rx m) s = .next t ∧
          t.rd64 (ptpReg Off.PTP_MASTER_LO) = m.source ∧ bit (t.rd (ptpReg Off.PTP_STATE)) 0 = true ∧ t.time = { u.time with rank := m.rank, noMaster := none } ∧ t.now = u.now) ∧
        (m.kind = 0 → sel = true → m.twoStep = true → ∃ t, exec (.ptpMessage rx m) s = .next t ∧ t.time = { u.time with sync2 := some (m.seq, u.rxStamp m'.port) } ∧
          t.now = u.now ∧ t.rd (ptpReg Off.PTP_SYNC_RX) = satAdd (u.rd (ptpReg Off.PTP_SYNC_RX)) 1) ∧
        (m.kind = 0 → sel = true → m.twoStep = false → measured (.ptpMessage rx m) (u.rxStamp m'.port)) ∧
        (∀ t2, m.kind = 8 → sel = true → u.time.sync2 = some (m.seq, t2) → measured (.ptpMessage rx m) t2) ∧
        (∀ t1 t2 t3, m.kind = 9 → sel = true → u.time.delayAt = some (m.seq, t3) → u.time.lastSync = some (t2, t1) → p2p = false →
          path ((((t2 : Int) - t1) + ((m.stamp : Int) - m.corr - t3)) / 2)) ∧
        (∀ t1, m.kind = 3 → u.time.delayAt = some (m.seq, t1) → p2p = true → m.twoStep = false →
          path (((u.rxStamp m'.port : Int) - t1 - m.stamp - m.corr) / 2)) ∧
        (∀ t1, m.kind = 3 → u.time.delayAt = some (m.seq, t1) → p2p = true → m.twoStep = true →
          exec (.ptpMessage rx m) s = .next { u with time := { u.time with pdelay := some (m.seq, u.rxStamp m'.port, m.stamp, m.corr) } }) ∧
        (∀ q t1 t4 t2 k, m.kind = 0xA → u.time.delayAt = some (q, t1) → u.time.pdelay = some (m.seq, t4, t2, k) → p2p = true →
          path (((t4 : Int) - t1 - ((m.stamp : Int) - t2) - k - m.corr) / 2))))

/-- A lost source puts the module into HOLDOVER from LOCKED with its instant recorded, its increment held and a bound of 100 ns, and raises HOLDOVER, as does one lost again before it has locked, from the bound reached (R311, R312); the bound's update reports E(t) and UNTRUSTED beyond TIME_UNTRUST_NS (R312); Announce timeout and failover give the master up (R308, R454); PPS edges count as early, as outliers, or are measured, and PPS_LOST is raised after 2 s of silence (R310). PPS_OUT rises at a whole second, or in the two nanoseconds from it (log entry 32, DEDUCED), while it is enabled and falls after its width (R313); a running timeout that an evaluation instant has reached expires, and no other (R315); a write of TIME_TOD_NEXT sets the next edge's second and TOD_VALID (R310). -/
def Obligations.SourcesHoldoverAndTimeouts : Prop :=
  ∀ (s : State) (se : SessIx) (v : DWord) (k : BitVec 40) (w : Nat × Timeout),
    let st := tReg Off.TIME_STATE
    let ev := tReg Off.EVENT
    let dt := s.now.toNat - (s.rd64 (tReg Off.TIME_HOLDOVER_START_LO)).toNat
    let e := holdBound s.time.e0 dt
    let calm (t : State) : Prop := t.now = s.now ∧ t.ctx = s.ctx ∧ t.mem = s.mem ∧ t.timeouts = s.timeouts
    let tod := s.rd64 (tReg Off.TIME_TOD_NEXT_LO)
    let due := decide (w.2.due ≤ s.now.toNat / 64 * 64)
    (s.lossDue = true → s.tState = 2 → ∃ t, exec .sourceLost s = .next t ∧ calm t ∧ t.tState = 3 ∧ t.rd64 (tReg Off.TIME_HOLDOVER_START_LO) = s.now ∧
      t.time = { s.time with e0 := 100, back := false, good := 0 } ∧ bit (t.rd ev) 0 = true ∧ bit (t.rd ev) 30 = true ∧
      (bit (s.rd ev) 30 = false → t.rd (tReg Off.ERR_CODE) = Err.TIME_HOLDOVER.setWidth 32)) ∧
    (s.lossDue = true → s.tState = 3 → s.time.back = true → ∃ t, exec .sourceLost s = .next t ∧ calm t ∧ t.tState = 3 ∧ t.rd64 (tReg Off.TIME_HOLDOVER_START_LO) = s.now ∧
      t.time = { s.time with e0 := holdBound s.time.e0 dt, back := false, good := 0 } ∧ bit (t.rd ev) 0 = true ∧ bit (t.rd ev) 30 = true) ∧
    (s.lossDue = false ∨ s.tState = 0 ∨ (s.tState = 3 ∧ s.time.back = false) → exec .sourceLost s = .next s) ∧
    (s.tState = 3 → ∃ t, exec .timeErrBoundUpdate s = .next t ∧ calm t ∧ t.rd (tReg Off.TIME_ERR_BOUND) = BitVec.ofNat 32 (min e (2 ^ 32 - 1)) ∧
      s.time.e0 + 20 * dt / 10 ^ 9 ≤ e ∧
      ((s.rd (tReg Off.TIME_UNTRUST_NS)).toNat < e → bit (t.rd st) 5 = true ∧ bit (t.rd ev) 5 = true) ∧
      (e ≤ (s.rd (tReg Off.TIME_UNTRUST_NS)).toNat → ∀ r, r ≠ tReg Off.TIME_ERR_BOUND → t.rd r = s.rd r)) ∧
    (s.tState ≠ 3 → exec .timeErrBoundUpdate s = .next s) ∧
    (s.tSrc = false → bit (s.rd (ptpReg Off.PTP_STATE)) 0 = true → ∃ t, exec .ptpAnnounceTimeout s = .next t ∧ bit (t.rd (ptpReg Off.PTP_STATE)) 0 = false ∧
      t.time = { s.time with noMaster := some s.timer } ∧ { t with regs := s.regs, time := s.time } = s) ∧
    (s.tSrc = true ∨ bit (s.rd (ptpReg Off.PTP_STATE)) 0 = false → exec .ptpAnnounceTimeout s = .next s) ∧
    (s.failoverDue = true → ∃ t, exec .ptpFailover s = .next t ∧ calm t ∧ bit (t.rd st) 3 = !bit (s.rd st) 3 ∧ bit (t.rd (ptpReg Off.PTP_STATE)) 0 = false ∧ t.time.failed = true) ∧
    (s.failoverDue = false → exec .ptpFailover s = .next s) ∧
    (s.ppsQuiet = true → ∃ t, exec .ppsLost s = .next t ∧ calm t ∧ t.time = { s.time with ppsLost := true } ∧ bit (t.rd ev) 2 = true ∧ bit (t.rd ev) 30 = true) ∧
    (s.ppsQuiet = false → exec .ppsLost s = .next s) ∧
    (s.tSrc = false → exec .ppsInEdge s = .next s) ∧
    (∀ p, s.tSrc = true → s.time.ppsLast = some p →
      (s.now.toNat < p + 500000000 → ∃ t, exec .ppsInEdge s = .next t ∧ { t with regs := s.regs } = s ∧ t.rd (tReg Off.TIME_PPS_EARLY) = satAdd (s.rd (tReg Off.TIME_PPS_EARLY)) 1 ∧
        ∀ r, r ≠ tReg Off.TIME_PPS_EARLY → t.rd r = s.rd r) ∧
      (p + 500000000 ≤ s.now.toNat → 1000000 < ((s.now.toNat : Int) - p - 1000000000).natAbs → ∃ t, exec .ppsInEdge s = .next t ∧ calm t ∧
        t.time = { s.time with ppsLast := some s.now.toNat, ppsLost := false, outliers := s.time.outliers + 1 } ∧
        t.rd64 (tReg Off.TIME_TOD_NEXT_LO) = tod + 1 ∧ t.rd (tReg Off.TIME_PPS_OUTLIERS) = satAdd (s.rd (tReg Off.TIME_PPS_OUTLIERS)) 1) ∧
      (((s.now.toNat : Int) - p - 1000000000).natAbs ≤ 1000000 → bit (s.rd st) 2 = true → ∃ t, exec .ppsInEdge s = .next t ∧ t.time.ppsLast = some t.now.toNat ∧
        t.time.outliers = 0 ∧ t.time.ppsLost = false ∧ t.rd64 (tReg Off.TIME_TOD_NEXT_LO) = tod + 1 ∧
        t.rd (tReg Off.TIME_OFFSET) = BitVec.ofInt 32 (max (-(2 ^ 31)) (min (2 ^ 31 - 1) ((tod.toNat * 1000000000 : Nat) - (s.now.toNat : Int)))))) ∧
    (s.ppsOutDue = true → exec .ppsOutRise s = .next { s with time := { s.time with ppsOut := true, ppsOutAt := s.now.toNat } }) ∧
    (s.ppsOutDue = false → exec .ppsOutRise s = .next s) ∧
    (s.ppsOutOver = true → exec .ppsOutFall s = .next { s with time := { s.time with ppsOut := false } }) ∧
    (s.ppsOutOver = false → exec .ppsOutFall s = .next s) ∧
    (s.timeouts.find? (fun q => q.1 == k.toNat) = some w → due = true → ∃ t, exec (.fabricTimeoutExpire k) s = .next t ∧ t.timedOut k.toNat = true ∧
      (∀ j, j ≠ k.toNat → t.timedOut j = s.timedOut j) ∧ { t with timeouts := s.timeouts } = s) ∧
    (s.timeouts.find? (fun q => q.1 == k.toNat) = some w → due = false → exec (.fabricTimeoutExpire k) s = .next s) ∧
    (s.mayWrite se (tReg Off.TIME_TOD_NEXT_HI) (v.extractLsb' 32 32) = true → s.mayWrite se (tReg Off.TIME_TOD_NEXT_LO) (v.setWidth 32) = true →
      ∃ t, exec (.timeTodNextWrite se v) s = .next t ∧ t.rd64 (tReg Off.TIME_TOD_NEXT_LO) = v ∧ bit (t.rd (tReg Off.TIME_STATE)) 2 = true ∧ s.onlyRegs t ∧
        ∀ r ∉ [tReg Off.TIME_TOD_NEXT_LO, tReg Off.TIME_TOD_NEXT_HI, tReg Off.TIME_STATE], t.rd r = s.rd r)

/-! ## Collectives, votes and steps (R360 to R382, R401 to R415) -/

/-- A RESULT, NOTICE, ABORT or decision frame that its port delivers: a damaged one counts in COLL_CRC_FAIL, and a damaged RESULT records CHUNK_CORRUPT in its step; one with a wrong version, reserved bits, an unknown group or another kind counts in COLL_BAD_FRAMES; one of no open window in COLL_STALE_FRAMES. A chunk of a reduce-scatter lands at its place once, with its BFX codes taken under R40, or joins the update die's queue and takes a free pipe; a clean end notice completes the instance whose chunks have landed, stops its deadline and signals its semaphore; an ABORT of an unaborted group on which no send is held records its code and completes every instance; a decision closes the window, retires the group's VOTE and decides the step, an abort at once and a commit with the context's last VOTE (log entry 42, DEDUCED), and one that follows an unresolved vote only closes the window and counts late (R29, R40, R365, R366, R370, R373, R377, R379 to R382, R393). -/
def Obligations.CollectiveFramesAct : Prop :=
  ∀ (s : State) (rx : Rx) (f : Gw) (crc : DWord) (g : Nat),
    let d := s.rxFrame rx
    let w := d.1.serdes (d.1.groupDom (f.group % 2 ^ 20)) f.bytes.length
    let slots := w.slotsOfGroup (f.group % 2 ^ 20)
    let hit := slots.find? fun h => (w.getGrp h).winOpen && (w.step' (w.grpCtx h)).toNat == f.step && w.grpAttempt h == f.group / 2 ^ 20 % 256
    let sound := decide (crc = crc64 (f.header ++ f.data))
    let fit (k : Nat) : Bool := f.version == 1 && f.rsv == 0 && !slots.isEmpty && f.kind == k
    let bump (k : Nat) : State := w.inc (reg pgCOLL (if sound then (if fit k then Off.COLL_STALE_FRAMES else Off.COLL_BAD_FRAMES) else Off.COLL_CRC_FAIL))
    let n := f.seq % 2 ^ 16
    let c := w.grpCtx g
    let code := if switchCode f.err = true ∨ (f.flag 4 = false ∧ f.src = w.grpRank g) then BitVec.ofNat 16 f.err else Err.MEMBER_ABORT
    let quiet : Prop := ∀ x ∈ w.sends, x.slot = g → x.done = true
    let left := (w.getStep c).votes.filter fun v => v.2 != g
    let next (i : Instr) (t : State) : Prop := exec i s = .next { t with pending := s.pending }
    let counts (k : Nat) : Prop :=
      (k = 1 → next (.resultReceived rx f crc) (bump 1)) ∧ (k = 2 → next (.abortReceived rx f crc) (bump 2)) ∧
      (k = 3 → next (.voteDecision rx f crc) (bump 3) ∧ next (.endNoticeReceived rx f crc) (bump 3).handCopies)
    d.2 = true →
    (sound = false → (f.kind ≠ 1 ∧ f.kind ≠ 3) ∨ slots = [] → ∀ k, counts k) ∧
    (sound = false → f.kind = 1 → slots.head? = some g → ∃ t, exec (.resultReceived rx f crc) s = .next t ∧
      t.rd (reg pgCOLL Off.COLL_CRC_FAIL) = satAdd (w.rd (reg pgCOLL Off.COLL_CRC_FAIL)) 1 ∧ (t.getStep c).firstErr.isSome = true ∧ t.mem = s.mem) ∧
    (∀ k, 1 ≤ k → k ≤ 3 → sound = true → fit k = false ∨ hit = none → counts k) ∧
    (∀ i : Inst, sound = true → fit 1 = true → hit = some g → f.op ≠ 4 → n ≠ 0xFFFE → w.inst g n = some i → f.seq / 2 ^ 16 % 256 = i.redo → i.done = false → i.e.kind = 0 →
      i.e.first (w.grpN g) (w.grpRank g) ≤ f.chunk → f.chunk < i.e.first (w.grpN g) (w.grpRank g + 1) →
      let v := w.inc (grpReg g Off.COLL_GRP_RX)
      let bytes := if f.flag 1 then List.replicate f.len 0 else bfxBytes i.e.fmt (f.data.take f.len)
      let j := { i with landed := if i.landed.contains f.chunk then i.landed else i.landed ++ [f.chunk], inAmax := max i.inAmax f.amax }
      (i.e.destUpd = false → next (.resultReceived rx f crc)
        ((v.landBytes g (i.e.dest + (f.chunk - i.e.first (w.grpN g) (w.grpRank g)) * i.e.ch) bytes).tryComplete g j)) ∧
      (i.e.destUpd = true →
        let x := ({ v with landq := v.landq ++ [⟨g, n, i.redo, BitVec.ofNat 64 f.step, f.chunk, f.amax, f.scale, bytes, none⟩] } : State).engage.tryComplete g j
        next (.resultReceived rx f crc) x ∧ x.mem = s.mem)) ∧
    (∀ i : Inst, sound = true → fit 3 = true → hit = some g → f.op ≠ 4 → w.inst g n = some i → f.seq / 2 ^ 16 % 256 = i.redo → i.e.kind = 0 → i.done = false → f.flag 0 = false →
      w.wantChunks g i.e ≤ i.landed.length →
      let u := w.tryComplete g { i with endClean := true, inAmax := f.amax }
      next (.endNoticeReceived rx f crc) u.handCopies ∧ u.inst g n = some { i with endClean := true, inAmax := f.amax, done := true, log := [] } ∧
        u.timedOut (deadKey false g n) = false ∧ (i.e.sem < 256 → u.sem c i.e.sem = satAdd (w.sem c i.e.sem) 1)) ∧
    (sound = true → fit 2 = true → hit = some g → (w.getGrp g).aborted = false → quiet → ∃ t, exec (.abortReceived rx f crc) s = .next t ∧ (t.getGrp g).aborted = true ∧
      (∀ i ∈ (t.getGrp g).insts, i.done = true) ∧ (t.getStep c).firstErr.isSome = true ∧ bit (t.rd (reg pgCOLL Off.EVENT)) 0 = true ∧
      t.rd (grpReg g Off.COLL_GRP_ERR) = BitVec.ofNat 32 (code.toNat + (if f.flag 4 then 0 else f.src) * 2 ^ 16)) ∧
    (sound = true → fit 2 = true → hit = some g → (w.getGrp g).aborted = true → next (.abortReceived rx f crc) w) ∧
    (sound = true → fit 3 = true → hit = some g → f.op = 4 → (w.getGrp g).unresolved = false → quiet → ∃ t, exec (.voteDecision rx f crc) s = .next t ∧
      (t.getGrp g).winOpen = false ∧ (t.getGrp g).shut = f.flag 2 ∧ (t.getGrp g).vote = (if f.flag 2 then 3 else 2) ∧ (t.getStep c).votes = left ∧
      ((w.getCtx c).stepPending = true → f.flag 2 = true → (t.getStep c).decision = some false) ∧
      ((w.getCtx c).stepPending = true → f.flag 2 = false → (t.getStep c).decision = if left = [] then some ((w.getStep c).decision.getD true) else (w.getStep c).decision) ∧
      ((w.getCtx c).stepPending = false → (t.getStep c).decision = (w.getStep c).decision)) ∧
    (sound = true → fit 3 = true → hit = some g → f.op = 4 → (w.getGrp g).unresolved = true → ∃ t, exec (.voteDecision rx f crc) s = .next t ∧
      (t.getGrp g).late = ((w.getGrp g).late || !f.flag 2) ∧ (t.getGrp g).winOpen = false ∧ t.steps = s.steps ∧ (f.flag 2 = false → bit (t.rd (reg pgCOLL Off.EVENT)) 3 = true))

/-- An expired deadline starts the second one and sends its frame, and the second aborts the step locally, or leaves the vote unresolved and its VOTE retired (R375, R380); a decided step with its commit instant resolves: COMMIT, once the current of its burst fits, advances the step, flips the epoch and counts, ABORT discards, and either leaves the errors of the step to a VOTE yet to come (R29, R393, R415, R416); the oldest landed chunk whose pipe has its current is taken and frees its pipe, its tensor recorded as skewed where its step is not the context's (R393, R406, R410); the epoch bit is written only while the context is IDLE, and VALID of a program slot is refused on a bad program (R401, R413). -/
def Obligations.DeadlinesStepsAndChunks : Prop :=
  ∀ (s : State) (g : BitVec 12) (n : BitVec 16) (c : Ctx) (l : Landing) (i : Inst) (se : SessIx) (v : Word),
    let h := g.toNat
    let k := n.toNat
    let y := s.grpCtx h
    let x := c.toNat
    let r := s.getStep x
    let q := s.grpCtx l.slot
    let es := s.sel se.toNat pgUPD Off.UPD_CTX_SEL
    let ps := s.sel se.toNat pgUPD Off.UPD_PROG_SEL
    let ready := (s.getCtx x).stepPending && r.commit
    let ended : StepRec := { r with decision := none, commit := false, unresolved := false, digests := [], flushes := [] }
    let engaged (z : Landing) : Bool := z.pipe.any fun p => !s.pipeWaits p
    let u := s.takeChunk l
    (s.timedOut (deadKey false h k) = true → ∃ t, exec (.collectiveDeadline g n) s = .next t ∧ t.timedOut (deadKey false h k) = false ∧
      mapGet {} t.timeouts (deadKey true h k) = { due := s.now.toNat + s.grpTimeout h } ∧ t.grps = s.grps ∧ t.steps = s.steps ∧ t.mem = s.mem ∧ t.ctx = s.ctx) ∧
    (s.timedOut (deadKey false h k) = false → exec (.collectiveDeadline g n) s = .next s) ∧
    (s.timedOut (deadKey true h k) = true → (k = 0xFFFF → ∃ t, exec (.secondDeadline g n) s = .next t ∧ (t.getGrp h).unresolved = true ∧
        t.rd (grpReg h Off.COLL_GRP_ERR) = Err.VOTE_UNRESOLVED.setWidth 32 ∧ bit (t.rd (reg pgCOLL Off.EVENT)) 2 = true ∧
        t.getStep y = { s.getStep y with decision := some false, commit := true, unresolved := true, votes := (s.getStep y).votes.filter fun v => v.2 != h }) ∧
      (k ≠ 0xFFFF → (s.getGrp h).aborted = false → (∀ z ∈ s.sends, z.slot = h → z.done = true) → ∃ t, exec (.secondDeadline g n) s = .next t ∧
        (t.getGrp h).aborted = true ∧ (t.getGrp h).noRank = true ∧ t.rd (grpReg h Off.COLL_GRP_ERR) = Err.COLLECTIVE_TIMEOUT.setWidth 32 ∧
        (t.getStep y).decision = some false ∧ (t.getStep y).commit = true ∧ (t.getStep y).firstErr.isSome = true)) ∧
    (s.timedOut (deadKey true h k) = false → exec (.secondDeadline g n) s = .next s) ∧
    (ready = true → r.decision = some true → s.burstFits x = true → ∃ t, exec (.stepResolve c) s = .next t ∧ t.step' x = s.step' x + 1 ∧
      (t.getCtx x).stepPending = false ∧ bit (t.rd (updReg x Off.UPD_CTX_EPOCH)) 0 = !bit (s.rd (updReg x Off.UPD_CTX_EPOCH)) 0 ∧
      t.rd (updReg x Off.UPD_CTX_COMMITS) = satAdd (s.rd (updReg x Off.UPD_CTX_COMMITS)) 1 ∧ t.getStep x = ended ∧ ∀ a ∈ t.armRecs, a.ctx ≠ x) ∧
    (ready = true → r.decision = some true → s.burstFits x = false → exec (.stepResolve c) s = .next s) ∧
    (ready = true → r.decision = some false → ∃ t, exec (.stepResolve c) s = .next t ∧ t.step' x = s.step' x ∧ (t.getCtx x).stepPending = false ∧
      t.rd (updReg x Off.UPD_CTX_EPOCH) = s.rd (updReg x Off.UPD_CTX_EPOCH) ∧ t.mem = s.mem ∧
      t.rd (updReg x Off.UPD_CTX_DISCARDS) = satAdd (s.rd (updReg x Off.UPD_CTX_DISCARDS)) 1 ∧ t.getStep x = ended ∧ ∀ a ∈ t.armRecs, a.ctx ≠ x) ∧
    (ready = false ∨ r.decision = none → exec (.stepResolve c) s = .next s) ∧
    (s.landq.find? engaged = some l → exec .updChunkLanded s =
      .next { ({ u.releaseUnits (fun z => l.pipe.any z.isPipe) none with landq := u.landq.erase l } : State).engage.handCopies with pending := s.pending }) ∧
    (s.inst l.slot l.tensor = some i → i.redo = l.redo → (s.getGrp l.slot).aborted = false →
      (l.step ≠ s.step' q → u.rd (updReg q Off.UPD_CTX_SKEW_FRAME) = l.step.setWidth 32 ∧ u.rd (updReg q Off.UPD_CTX_SKEW_CTX) = (s.step' q).setWidth 32 ∧
        (u.getStep q).skew = true ∧ u.mem = s.mem ∧ ∀ a ∈ u.armRecs, a.ctx = q → a.ent = i.e.upd → a.bad = true) ∧
      (∀ a t, l.step = s.step' q → s.armRecs.find? (fun a => a.ctx == q && a.ent == i.e.upd) = some a → a.aborted = false → a.bad = false →
        a.src = some (l.slot, l.tensor) → s.updChunk a i.e l = .ok t → u = t)) ∧
    (s.landq.find? engaged = none → exec .updChunkLanded s = .next { s.handCopies with pending := s.pending }) ∧
    (s.mayWrite se (reg pgUPD Off.UPD_CTX_EPOCH) v = true → ((s.getCtx es).run = .idle → ∃ t, exec (.updCtxEpochWrite se v) s = .next t ∧
        t.rd (updReg es Off.UPD_CTX_EPOCH) = v &&& 1#32 ∧ s.onlyRegs t ∧ ∀ z, z ≠ updReg es Off.UPD_CTX_EPOCH → t.rd z = s.rd z) ∧
      ((s.getCtx es).run ≠ .idle → ∃ t, exec (.updCtxEpochWrite se v) s = .next t ∧ t.rd (updReg es Off.UPD_CTX_EPOCH) = s.rd (updReg es Off.UPD_CTX_EPOCH) ∧
        bit (t.rd (reg pgUPD Off.EVENT)) 31 = true)) ∧
    (s.mayWrite se (reg pgUPD Off.UPD_PROG_CTRL) v = true → (∀ a ∈ s.armRecs, uf a.v 0x10 1 ≠ ps) → ∃ t, exec (.updProgCtrlWrite se v) s = .next t ∧
      (let bad := bit v 31 && !(decide (1 ≤ fld v 0 6 ∧ fld v 0 6 ≤ 32) && (List.range (fld v 0 6)).all fun j => !uaBad (s.rd (wreg ps pgUPD (Off.UPD_PROG_INSTRj + 4 * j))))
       t.programValid ps = (if bad then s.programValid ps else bit v 31) ∧ fld (t.rd (wreg ps pgUPD Off.UPD_PROG_CTRL)) 0 6 = fld v 0 6 ∧
       (bad = true → bit (t.rd (reg pgUPD Off.EVENT)) 31 = true)))

/-! ## Parcels, RDMA and queue pairs (R383 to R387, R445, R446, R449, R458) -/

/-- Parcels: a sound request for a valid landing of its group and source waits and may be granted, another is refused; a grant goes to the request that the tie rule picks; a granted parcel is written, cut to its capacity, and a refusal faults its context; the acknowledged write retires its command; a release takes 1 from its semaphore and frees the oldest slot (R384 to R386). -/
def Obligations.ParcelsMove : Prop :=
  ∀ (s : State) (rx : Rx) (f : Gw) (crc : DWord) (p l : BitVec 12) (x : PclRec) (bs : List Byte),
    let d := s.rxFrame rx
    let w := d.1.serdes (d.1.groupDom (f.group % 2 ^ 20)) f.bytes.length
    let slots := w.slotsOfGroup (f.group % 2 ^ 20)
    let sound := decide (crc = crc64 (f.header ++ f.data))
    let fit (k : Nat) : Bool := f.version == 1 && f.rsv == 0 && !slots.isEmpty && f.kind == k
    let n := f.seq % 2 ^ 16
    let next (i : Instr) (t : State) : Prop := exec i s = .next { t with pending := s.pending }
    let wanted := decide (n < 4096) && w.landValid n && slots.contains (w.landSlot n) && (fld (w.rd (pclReg n Off.COLL_LND_SRC)) 0 16 == f.src)
    let pick := w.parcels.find? fun y => y.granted.isNone && slots.contains (w.pclSlot y.parcel) && w.pclLanding y.parcel == n
    let cap := (w.rd (pclReg x.parcel Off.COLL_PCL_CAP)).toNat
    let req := s.lands.filterMap fun q => if 0 < q.2.pend ∧ q.2.granted.length + q.2.occ.length < 2 then some (q.1, s.ctxClass (s.grpCtx (s.landSlot q.1))) else none
    let used := s.lands.foldl (fun a q => a + q.2.granted.length) 0
    let free := decide (used < fld (s.rd (reg pgCOLL Off.COLL_LAND_MAX)) 0 5)
    let a := l.toNat
    let c := s.grpCtx (s.landSlot a)
    let sem := fld (s.rd (pclReg a Off.COLL_LND_SEMS)) 8 8
    let r := s.getLand a
    (d.2 = true →
      (sound = false → next (.parcelReqReceived rx f crc) (w.inc (reg pgCOLL Off.COLL_CRC_FAIL)) ∧ next (.parcelGrantReceived rx f crc) (w.inc (reg pgCOLL Off.COLL_CRC_FAIL))) ∧
      (sound = true → fit 5 = false → next (.parcelReqReceived rx f crc) (w.inc (reg pgCOLL Off.COLL_BAD_FRAMES))) ∧
      (sound = true → fit 6 = false → next (.parcelGrantReceived rx f crc) (w.inc (reg pgCOLL Off.COLL_BAD_FRAMES))) ∧
      (sound = true → fit 5 = true → wanted = true →
        next (.parcelReqReceived rx f crc) (w.setLand n { w.getLand n with pend := (w.getLand n).pend + 1 }).landGrant) ∧
      (sound = true → fit 5 = true → wanted = false → ∃ t, exec (.parcelReqReceived rx f crc) s = .next t ∧ t.lands = s.lands ∧ t.mem = s.mem ∧
        t.rd (reg pgCOLL Off.COLL_BAD_FRAMES) = satAdd (w.rd (reg pgCOLL Off.COLL_BAD_FRAMES)) 1) ∧
      (sound = true → fit 6 = true → pick = some x → f.flag 2 = false → w.seqBytes (w.domOf x.ctx) x.o false = .ok bs →
        ∃ t, exec (.parcelGrantReceived rx f crc) s = .next t ∧ t.mem = s.mem ∧ t.ctx = s.ctx ∧
          t.parcels = w.parcels.map (fun y => if y == x then { y with granted := some (f.chunk % 2) } else y) ∧
          t.rd (pclReg x.parcel Off.COLL_PCL_DROPPED) = satAdd (w.rd (pclReg x.parcel Off.COLL_PCL_DROPPED)) (bs.length - cap) ∧
          (t.getQp (w.pclQp x.parcel)).outs = (w.getQp (w.pclQp x.parcel)).outs + if w.qpState (w.pclQp x.parcel) = 1 then 1 else 0) ∧
      (sound = true → fit 6 = true → pick = some x → f.flag 2 = true → ∃ t, exec (.parcelGrantReceived rx f crc) s = .next t ∧ t.parcels = s.parcels.erase x ∧
        (t.getCtx x.ctx).run = .faulted ∧ t.mem = s.mem) ∧
      (sound = true → fit 6 = true → pick = none → next (.parcelGrantReceived rx f crc) w)) ∧
    (∀ k u, free = true → s.tieGrant 0x40000 4096 req = (some k, u) → ∃ t, exec .landingGrant s = .next t ∧ t.mem = s.mem ∧
      t.getLand k = { s.getLand k with pend := (s.getLand k).pend - 1, granted := (s.getLand k).granted ++ [if (s.getLand k).granted.contains 0 || (s.getLand k).occ.contains 0 then 1 else 0] } ∧
      ∀ j, j ≠ k → t.getLand j = s.getLand j) ∧
    (free = false ∨ (s.tieGrant 0x40000 4096 req).1 = none → exec .landingGrant s = .next s) ∧
    (s.parcels.find? (fun y => y.parcel == p.toNat && y.granted.isSome) = some x → ∃ t, exec (.parcelWriteAck p) s = .next t ∧ t.parcels = s.parcels.erase x ∧
      t.mem = s.mem ∧ ∀ m ∈ (t.getCtx x.ctx).live, m.id ≠ x.id) ∧
    (s.parcels.find? (fun y => y.parcel == p.toNat && y.granted.isSome) = none → exec (.parcelWriteAck p) s = .next s) ∧
    (∀ b rest, r.occ = b :: rest → s.landValid a = true → s.sem c sem ≠ 0 → ∃ t, exec (.landingSlotRelease l) s = .next t ∧ t.sem c sem = s.sem c sem - 1 ∧
      t.getLand a = { r with occ := rest } ∧ { t with lands := s.lands, regs := s.regs } = s) ∧
    (r.occ = [] ∨ s.landValid a = false ∨ s.sem c sem = 0 → exec (.landingSlotRelease l) s = .next s)

/-- RDMA and queue pairs: an incoming write lands in a valid region of its pair's domain, and one outside is denied and changes no memory (R445, R446); a CNP halves the rate and 5 % returns every 55 us, the model's reading of R446 (log entry 21, DESIGN CHOICE); an expired ACK timer sends again while a retry is left, and else the pair is in ERROR and its parcels and rings have failed (R387, R449, R458); VALID brings a pair to READY, and its end to RESET (R445). -/
def Obligations.RdmaAndQueuePairs : Prop :=
  ∀ (s u : State) (rx : Rx) (q : BitVec 12) (rkey : Word) (a : DWord) (data : List Byte) (imm : Option Word) (se : SessIx) (v : Word),
    let x := q.toNat
    let p := rx.port.toNat
    let d := u.qpOwner x
    let cnp := rx.ce && (match (u.getQp x).cnpTx with | some t => decide (t + 50000 ≤ u.timer) | none => true)
    let y := u.serdes (some d) data.length
    let y := if cnp then ((y.inc (ethReg p Off.ETH_CNP_TX)).setQp x { y.getQp x with cnpTx := some y.timer }).sendFrame p (some d) "CNP" [0x10000 + x] [] else y
    let m := fld rkey 0 24
    let cfg := y.rd (wreg m pgMGMT Off.MGMT_MR_CFG)
    let base := (y.rd64 (wreg m pgMGMT Off.MGMT_MR_BASE_LO)).toNat
    let ok := decide (m < 4096) && bit cfg 31 && (fld cfg 16 8 == fld rkey 24 8) && bit cfg 10 && (fld cfg 0 10 == d) && decide (base ≤ a.toNat) &&
      decide (a.toNat + data.length ≤ base + (y.rd64 (wreg m pgMGMT Off.MGMT_MR_LEN_LO)).toNat)
    let cells := (data.zipIdx).map fun b => (a.toNat + b.2, b.1)
    let r := s.getQp x
    let next (i : Instr) (t : State) : Prop := exec i s = .next { t with pending := s.pending }
    let k := s.sel se.toNat pgMGMT Off.MGMT_QP_SEL
    let was := bit (s.rd (qpReg k Off.MGMT_QP_CFG)) 31
    (s.rxFrame rx = (u, true) →
      (u.qpState x ≠ 1 ∨ u.qpPort x ≠ p → next (.rdmaWriteReceived rx q rkey a data imm) u ∧ next (.cnpReceived rx q) u) ∧
      (u.qpState x = 1 → u.qpPort x = p →
        (u.scrub.contains d = true → ∃ t, exec (.rdmaWriteReceived rx q rkey a data imm) s = .next t ∧ t.mem = s.mem ∧
          t.rd (reg pgSEC Off.SEC_SCRUB_DISCARDS) = satAdd (u.rd (reg pgSEC Off.SEC_SCRUB_DISCARDS)) 1) ∧
        (∀ z, u.scrub.contains d = false → ok = true → y.tierWrite d cells = .ok z → ∃ t, exec (.rdmaWriteReceived rx q rkey a data imm) s = .next t ∧
          t.mem = z.mem ∧ t.marks = z.marks ∧ t.ctx = s.ctx ∧ (cnp = true → t.rd (ethReg p Off.ETH_CNP_TX) = satAdd (u.rd (ethReg p Off.ETH_CNP_TX)) 1)) ∧
        (u.scrub.contains d = false → ok = false → ∃ t, exec (.rdmaWriteReceived rx q rkey a data imm) s = .next t ∧ t.mem = s.mem ∧ t.lands = s.lands ∧
          t.rd (ethReg p Off.ETH_RDMA_DENIED) = satAdd (u.rd (ethReg p Off.ETH_RDMA_DENIED)) 1) ∧
        next (.cnpReceived rx q) (u.setQp x { u.getQp x with rate := (u.getQp x).rate / 2, rateAt := u.timer }))) ∧
    (r.rate < 1048576 → r.rateAt + 55000 ≤ s.timer → ∃ t, exec (.cnpRateRecover q) s = .next t ∧ t.getQp x = { r with rate := min 1048576 (r.rate + 52429), rateAt := s.timer } ∧
      { t with qps := s.qps } = s) ∧
    (1048576 ≤ r.rate ∨ s.timer < r.rateAt + 55000 → exec (.cnpRateRecover q) s = .next s) ∧
    (s.qpLate x = true → (r.retries < s.qpLimit x → ∃ t, exec (.qpAckTimeout q) s = .next t ∧ t.getQp x = { r with retries := r.retries + 1, sentAt := s.timer } ∧
        t.mem = s.mem ∧ t.ctx = s.ctx ∧ ∀ z, z ≠ x → t.getQp z = s.getQp z) ∧
      (s.qpLimit x ≤ r.retries → exec (.qpAckTimeout q) s = .next s ∧ ∃ t, exec (.qpError q) s = .next t ∧ t.qpState x = 2 ∧ t.getQp x = {} ∧ t.mem = s.mem ∧
        (∀ e ∈ s.parcelsOnQp x, bit (t.rd (pclReg e Off.COLL_PCL_STATE)) 2 = true ∧ ∀ z ∈ t.parcels, z.parcel ≠ e) ∧
        ∀ e ∈ s.ringsOnQp x, (t.getRing e).failed = true)) ∧
    (s.qpLate x = false → exec (.qpAckTimeout q) s = .next s ∧ exec (.qpError q) s = .next s) ∧
    (s.mayWrite se (reg pgMGMT Off.MGMT_QP_CFG) v = true →
      (was = true → bit v 31 = false → ∃ t, exec (.mgmtQpValidWrite se v) s = .next t ∧ bit (t.rd (qpReg k Off.MGMT_QP_CFG)) 31 = false ∧ t.qpState k = 0 ∧ t.getQp k = {} ∧
        t.qpPort k = s.qpPort k ∧ t.qpOwner k = s.qpOwner k) ∧
      (was = false → bit v 31 = true → ∃ t, exec (.mgmtQpValidWrite se v) s = .next t ∧ bit (t.rd (qpReg k Off.MGMT_QP_CFG)) 31 = true ∧
        t.qpState k = (if s.qpState k = 0 then 1 else s.qpState k) ∧ (fld v 0 5 < 18 → t.qpPort k = fld v 0 5) ∧ (isOp se.toNat = false → t.qpOwner k = s.qpOwner k)))

/-! ## Rings and ports (R427, R428, R447 to R453, R459) -/

/-- Ingest and checkpoint rings: a running ring that has a free slot polls; an index it waits for is taken and records are asked for; a record that lands in whole writes its slot, signals its semaphore and writes its parameter, and one that cannot be written fails the ring; a unit of the release semaphore frees the oldest record of a MODE 0 ring; the oldest checkpoint write that is acknowledged leaves, and the last one of a closed checkpoint completes it, oldest checkpoint first; ENABLE set starts a ring at record 0 (the model's choice, log entry 20, DEDUCED), and cleared stops it (R447 to R451). -/
def Obligations.RingsRun : Prop :=
  ∀ (s : State) (r : BitVec 8) (ix : DWord) (data : List Byte) (se : SessIx) (v : Word) (k : Ckpt),
    let x := r.toNat
    let g := s.getRing x
    let q := s.ringQp x
    let c := s.ringCtx x
    let d := s.domOf c
    let size := (s.rd (ringReg x Off.MGMT_RING_SIZE)).toNat
    let due := match g.polledAt with | some t => decide (t + fld (s.rd (ringReg x Off.MGMT_RING_CTRL)) 16 10 * 1000 ≤ s.timer) | none => true
    let polls := s.ringRuns x && !g.polling && decide (g.asked - g.freed < s.ringSlots x) && due && s.qpState q == 1
    let sems := s.rd (ringReg x Off.MGMT_RING_SEMS)
    let lands := s.ringRuns x && decide (g.landed < g.asked) && decide (data.length = size)
    let at' := (s.rd64 (ringReg x Off.MGMT_RING_LBASE_LO)).toNat + g.landed % max 1 (s.ringSlots x) * size
    let u := (s.qpAck q).serdes (some d) size
    let cells := (data.zipIdx).map fun b => (at' + b.2, b.1)
    let bad := u.meetsPoison d at' size
    let frees := s.ringRuns x && !bit (s.rd (ringReg x Off.MGMT_RING_CFG)) 14 && decide (g.freed < g.landed) && s.sem c (fld sems 8 8) != 0
    let y := 256 + x
    let o := s.getRing y
    let n := s.sel se.toNat pgMGMT Off.MGMT_RING_SEL
    let was := bit (s.rd (ringReg n Off.MGMT_RING_CTRL)) 0
    (polls = true → ∃ t, exec (.ingestPoll r) s = .next t ∧ t.getRing x = { g with polling := true, polledAt := some s.timer } ∧ (t.getQp q).outs = (s.getQp q).outs + 1 ∧ t.mem = s.mem) ∧
    (polls = false → exec (.ingestPoll r) s = .next s) ∧
    (g.polling = true → exec (.ingestIndexRead r ix) s =
      .next { ((s.qpAck q).setRing x { g with polling := false, producer := max g.producer ix.toNat }).ringAsk x 2 with pending := s.pending }) ∧
    (g.polling = false → exec (.ingestIndexRead r ix) s = .next s) ∧
    (∀ z, lands = true → u.tierWrite d cells = .ok z → bad = false → ∃ t, exec (.ingestRecordLanded r data) s = .next t ∧ t.mem = z.mem ∧ t.marks = z.marks ∧
      (t.getRing x).landed = g.landed + 1 ∧ t.rd64 (ringReg x Off.MGMT_RING_COUNT_LO) = BitVec.ofNat 64 (g.landed + 1) ∧
      t.sem c (fld sems 0 8) = satAdd (s.sem c (fld sems 0 8)) 1 ∧ t.par c (fld sems 16 6) = BitVec.ofNat 64 (g.landed + 1)) ∧
    (∀ e, lands = true → u.tierWrite d cells = .error e → ∃ t, exec (.ingestRecordLanded r data) s = .next t ∧ t.mem = s.mem ∧ (t.getRing x).failed = true ∧
      t.rd (ringReg x Off.MGMT_RING_ERR) = e.setWidth 32) ∧
    (∀ z, lands = true → u.tierWrite d cells = .ok z → bad = true → ∃ t, exec (.ingestRecordLanded r data) s = .next t ∧ t.mem = s.mem ∧ (t.getRing x).failed = true ∧
      t.rd (ringReg x Off.MGMT_RING_ERR) = Err.MEM_UE.setWidth 32) ∧
    (lands = false → exec (.ingestRecordLanded r data) s = .next s) ∧
    (frees = true → ∃ t, exec (.ingestRelease r) s = .next t ∧ (t.getRing x).freed = g.freed + 1 ∧ t.sem c (fld sems 8 8) = s.sem c (fld sems 8 8) - 1 ∧ t.mem = s.mem) ∧
    (frees = false → exec (.ingestRelease r) s = .next s) ∧
    (∀ w rest, o.closing = [] → o.ckpt = some k → k.unacked = w :: rest → ∃ t, exec (.ckptWriteAck r) s = .next t ∧ t.mem = s.mem ∧
      t.getRing y = { o with ckpt := some { k with unacked := rest } }) ∧
    (∀ w rest ks, o.closing = k :: ks → k.unacked = w :: rest → (∀ j, ks.head? = some j → j.unacked ≠ []) → ∃ t, exec (.ckptWriteAck r) s = .next t ∧ t.mem = s.mem ∧
      t.getRing y = { o with closing := if rest = [] then ks else { k with unacked := rest } :: ks }) ∧
    (ckptAcked (o.closing ++ o.ckpt.toList) = none → exec (.ckptWriteAck r) s = .next s) ∧
    (s.mayWrite se (reg pgMGMT Off.MGMT_RING_CTRL) v = true →
      (was = false → bit v 0 = true → ∃ t, exec (.mgmtRingEnableWrite se v) s = .next t ∧ bit (t.rd (ringReg n Off.MGMT_RING_CTRL)) 0 = true ∧ t.getRing n = {} ∧
        t.rd64 (ringReg n Off.MGMT_RING_COUNT_LO) = 0 ∧ t.rd (ringReg n Off.MGMT_RING_ERR) = 0) ∧
      (was = true → bit v 0 = false → ∃ t, exec (.mgmtRingEnableWrite se v) s = .next t ∧ bit (t.rd (ringReg n Off.MGMT_RING_CTRL)) 0 = false ∧
        t.getRing n = { s.getRing n with polling := false, asked := (s.getRing n).landed }))

/-- Ports: LINK_UP of a present port in training or later sets its state, LINK_DOWN of a linked one takes link and MACsec state away, an SAK secures a linked port under the present link-key generation, and MSEC_DOWN ends that; a PFC frame pauses, for its quanta, the priorities that it names and the port enables, and no other. A port number above 17 stops (R427, R428, R453, R459, R465). The stages in which LINK_UP acts are the model's reading (log entry 32, DEDUCED). -/
def Obligations.PortsLinkAndPause : Prop :=
  ∀ (s : State) (p : BitVec 5) (mask : BitVec 8) (quanta : List (BitVec 16)),
    let x := p.toNat
    let st := ethReg x Off.ETH_STATE
    let ev := reg (pgETH x) Off.EVENT
    let live := s.portPresent x && s.linkUp x
    let secured := bit (s.rd st) 3
    let en := fld (s.rd (ethReg x Off.ETH_CFG)) 3 8
    let ns (i : Nat) : Nat := (quanta.map BitVec.toNat).getD i 0 * (if 16 ≤ x then 128 else 64) / 100
    (x < 18 →
      (s.portsLive x = true → s.portPresent x = true → s.linkUp x = false → ∃ t, exec (.linkUp p) s = .next t ∧ t.linkUp x = true ∧ bit (t.rd ev) 1 = true ∧
        bit (t.rd st) 3 = secured ∧ t.mem = s.mem ∧ t.ctx = s.ctx) ∧
      (s.portsLive x = false ∨ s.portPresent x = false ∨ s.linkUp x = true → exec (.linkUp p) s = .next s) ∧
      (s.linkUp x = true → ∃ t, exec (.linkDown p) s = .next t ∧ t.linkUp x = false ∧ bit (t.rd st) 3 = false ∧ bit (t.rd ev) 0 = true ∧ t.mem = s.mem ∧ t.ctx = s.ctx ∧
        t.time.linkLost = (s.time.linkLost || decide (x = 16 + b2n (bit (s.rd (tReg Off.TIME_STATE)) 3)))) ∧
      (s.linkUp x = false → exec (.linkDown p) s = .next s) ∧
      (live = true → ∃ t, exec (.sakInstalled p) s = .next t ∧ bit (t.rd st) 3 = true ∧ bit (t.rd (reg pgMSEC Off.MSEC_PORTS_SECURED)) x = true ∧
        t.rd (ethReg x Off.ETH_MSEC_STATE) = BitVec.ofNat 32 (3 + 4 * fld (s.rd (wreg x pgKEY Off.KEY_PORT_LINK_GEN)) 0 6) ∧
        t.rd (reg pgMSEC Off.MSEC_SAK_CHANGES) = satAdd (s.rd (reg pgMSEC Off.MSEC_SAK_CHANGES)) 1 ∧ (secured = false → bit (t.rd ev) 3 = true)) ∧
      (live = false → exec (.sakInstalled p) s = .next s) ∧
      (secured = true → ∃ t, exec (.msecDown p) s = .next t ∧ bit (t.rd st) 3 = false ∧ t.linkUp x = s.linkUp x ∧ fld (t.rd (ethReg x Off.ETH_MSEC_STATE)) 0 2 = 0 ∧
        bit (t.rd (reg pgMSEC Off.MSEC_PORTS_SECURED)) x = false ∧ bit (t.rd ev) 2 = true) ∧
      (secured = false → exec (.msecDown p) s = .next s) ∧
      (live = true → ∃ t, exec (.pfcPauseReceived p mask quanta) s = .next t ∧ t.mem = s.mem ∧ t.ctx = s.ctx ∧ ∀ i, i < 8 →
        mapGet {} t.pfc (x * 8 + i) = if bit mask i && (en / 2 ^ i % 2 == 1) then (if ns i = 0 then {} else { from' := s.now.toNat, until' := s.now.toNat + ns i })
          else mapGet {} s.pfc (x * 8 + i)) ∧
      (live = false → exec (.pfcPauseReceived p mask quanta) s = .next s)) ∧
    (18 ≤ x → exec (.linkUp p) s = .fault .noSuchUnit ∧ exec (.linkDown p) s = .fault .noSuchUnit ∧ exec (.sakInstalled p) s = .fault .noSuchUnit ∧
      exec (.msecDown p) s = .fault .noSuchUnit ∧ exec (.pfcPauseReceived p mask quanta) s = .fault .noSuchUnit)

/-! ## Memory (R327 to R357) -/

/-- Accesses of the tiers: a read whose translations are allowed and whose units are clean goes on and changes no byte, and one that meets poison or a refused translation faults its context; a write of a whole unit stores every byte, and a write changes no byte outside it, the buffered writes and granules that await their fill; both wait, changing nothing, while a stack they reach is under QUIESCE or a granule they reach awaits its fill; the update die's accesses make its step incomplete instead (which tensor is marked is the model's choice, log entry 13); an aged buffer entry leaves; patrol poisons a line that it cannot correct; the fill of a granule, once its engine runs, makes every byte of it 0 and changes none outside (R330, R334, R344, R347, R350, R353, R356, R476, R520). -/
def Obligations.TierAccesses : Prop :=
  ∀ (s : State) (c : Ctx) (a : DWord) (n : BitVec 16) (errs : List (Nat × Nat)) (data : List Byte) (st : StackHit) (last : Bool) (gr : BitVec 32),
    let x := c.toNat
    let d := s.domOf x
    let lo := a.toNat
    let quiet (t : State) : Prop := t.mem = s.mem ∧ t.ctx = s.ctx
    let stopped (i : Instr) : Prop := ∃ t, exec i s = .next t ∧ (t.getCtx x).run = .faulted ∧ t.mem = s.mem
    let short (i : Instr) : Prop := ∃ t, exec i s = .next t ∧ (t.getStep x).incomplete = true ∧ t.mem = s.mem
    let clean (p : Nat × Nat) : Prop := (s.gran (p.1 / 2 ^ 21)).fill = none ∧ s.genLive d (s.gran (p.1 / 2 ^ 21)).gen = true ∧
      ∀ l ∈ linesOf (s.spanOf p.1 p.2).1 (s.spanOf p.1 p.2).2, s.linePoison l = false ∧ ((s.mark l).own.orElse fun _ => (s.gran (p.1 / 2 ^ 21)).dom) = some d
    let stores (t : State) (bs : List (Nat × Byte)) : Prop :=
      (∀ p, p % 512 = 0 → bs.map Prod.fst = (List.range 512).map (p + ·) → ∀ b ∈ bs, t.byte b.1 = b.2) ∧
      ∀ y, (∀ b ∈ bs, b.1 ≠ y) → (∀ e ∈ s.wc, ∀ b ∈ e.bytes, b.1 ≠ y) → (s.gran (y / 2 ^ 21)).fill = none → t.byte y = s.byte y
    let aged (e : WcEntry) : Bool := decide (e.born + 2000 ≤ s.evaluated)
    let outs := (List.range 32).map fun i => readWord (s.linePoison ((lo / 256 * 256 + 8 * i) / 64)) (((errs.find? fun e => e.1 == lo / 256 * 32 + i).map Prod.snd).getD 0)
    let g := gr.toNat
    (s.accesses x = true →
      (∀ ps, s.xlateRuns d lo n.toNat false false = .ok ps → s.accessWaits (ps.map Prod.fst) = true → exec (.hbmRead c a n errs) s = .next s) ∧
      (∀ ps, s.xlateRuns d lo n.toNat false false = .ok ps → s.accessWaits (ps.map Prod.fst) = false →
        ((∀ p ∈ ps, clean p) → errs = [] → ∃ t, exec (.hbmRead c a n errs) s = .next t ∧ quiet t) ∧
        ((s.dieReads d errs ps).2 = none → ∃ t, exec (.hbmRead c a n errs) s = .next t ∧ quiet t) ∧
        ((s.dieReads d errs ps).2 ≠ none → stopped (.hbmRead c a n errs))) ∧
      (∀ e, s.xlateRuns d lo n.toNat false false = .error e → stopped (.hbmRead c a n errs)) ∧
      (∀ bs, s.writePlaces d lo data false = .ok bs → s.accessWaits (bs.map Prod.fst) = true → exec (.hbmWrite c a data) s = .next s) ∧
      (∀ bs, s.writePlaces d lo data false = .ok bs → s.accessWaits (bs.map Prod.fst) = false → ∃ t, exec (.hbmWrite c a data) s = .next t ∧ t.ctx = s.ctx ∧ stores t bs) ∧
      (∀ e, s.writePlaces d lo data false = .error e → stopped (.hbmWrite c a data))) ∧
    (s.accesses x = false → exec (.hbmRead c a n errs) s = .next s ∧ exec (.hbmWrite c a data) s = .next s) ∧
    ((s.getCtx x).stepPending = true →
      (∀ ps, s.xlateRuns d lo n.toNat false true = .ok ps → s.accessWaits (ps.map Prod.fst) = true → exec (.slowAccess c a n none errs) s = .next s) ∧
      (∀ ps, s.xlateRuns d lo n.toNat false true = .ok ps → s.accessWaits (ps.map Prod.fst) = false →
        ((s.dieReads d errs ps).2 = none → ∃ t, exec (.slowAccess c a n none errs) s = .next t ∧ quiet t) ∧
        ((s.dieReads d errs ps).2 ≠ none → short (.slowAccess c a n none errs))) ∧
      (∀ e, s.xlateRuns d lo n.toNat false true = .error e → short (.slowAccess c a n none errs)) ∧
      (∀ bs, s.writePlaces d lo data true = .ok bs → s.accessWaits (bs.map Prod.fst) = true → exec (.slowAccess c a n (some data) errs) s = .next s) ∧
      (∀ bs, s.writePlaces d lo data true = .ok bs → s.accessWaits (bs.map Prod.fst) = false → ∃ t, exec (.slowAccess c a n (some data) errs) s = .next t ∧ t.ctx = s.ctx ∧ stores t bs) ∧
      (∀ e, s.writePlaces d lo data true = .error e → short (.slowAccess c a n (some data) errs))) ∧
    (∀ wr, (s.getCtx x).stepPending = false → exec (.slowAccess c a n wr errs) s = .next s) ∧
    (∀ e, s.wc.find? (fun e => s.stackOf (e.unit * 512) == st.stack.toNat && aged e) = some e → ∃ t, exec (.wcFlushTimer st) s = .next t ∧ t.wc.length < s.wc.length ∧ t.ctx = s.ctx) ∧
    ((∀ e ∈ s.wc, aged e = false) → exec (.wcFlushTimer st) s = .next s) ∧
    (s.paBacked lo = true → s.patrolRuns lo = true → ∃ t, exec (.patrolRead a errs last) s = .next t ∧ quiet t ∧
      (last = true → bit (t.rd (reg (s.memPage lo) Off.EVENT)) 5 = true) ∧
      (outs.any WordOut.fresh = true → bit (t.rd (reg (s.memPage lo) Off.EVENT)) 0 = true ∧ ∀ i, i < 4 → t.linePoison (lo / 256 * 4 + i) = true)) ∧
    (s.paBacked lo = false ∨ s.patrolRuns lo = false → exec (.patrolRead a errs last) s = .next s) ∧
    (∀ e, (s.gran g).fill = some e → s.scrubRuns (decide (slowBase / 2 ^ 21 ≤ g)) = true → ∃ t, exec (.admissionFillGranule gr) s = .next t ∧ (∀ y, t.byte y = if y / 2 ^ 21 = g then 0 else s.byte y) ∧
      (∀ l, t.mark l = if l / 2 ^ 15 = g then {} else s.mark l) ∧
      t.gran g = { s.gran g with dom := some e, gen := s.writeGen e, fill := none, poisoned := false, released := none }) ∧
    ((s.gran g).fill = none ∨ s.scrubRuns (decide (slowBase / 2 ^ 21 ≤ g)) = false → exec (.admissionFillGranule gr) s = .next s)

/-- Region tables and stacks: a valid staged table within the narrow pool becomes active, with every granule it adds awaiting its fill, and a bad one leaves the active table and names its entry; COPY_ACTIVE stages the active table; BUSY clears; a stack is quiesced, told so, and set going again; GO of a wrapper runs only over quiesced stacks, and its end captures the bits (R331, R332, R334, R352, R355, R357). -/
def Obligations.TablesAndStacks : Prop :=
  ∀ (s : State) (se : SessIx) (dom : Dom) (st : BitVec 4) (v : Word) (out : BitVec 4096) (ok : Bool),
    let d := s.sel se.toNat pgGLOB Off.GLOB_DOM_SEL
    let tab := s.stagedTable d
    let k := wreg d pgGLOB Off.GLOB_DOM_XLAT_STATUS
    let old := tableGrans (s.regions d)
    let pool := if s.fuse.grade = 2 then 40960 else 57344
    let x := st.toNat
    let hs := reg (pgHBM x) Off.HBM_STATE
    let state := fld (s.rd hs) 0 3
    let rs := reg (pgSTK_REPAIR x) Off.STK_REPAIR_STATUS
    let rc := reg (pgSTK_REPAIR x) Off.STK_REPAIR_CTRL
    let rl := reg (pgSTK_REPAIR x) Off.STK_REPAIR_LOG_COUNT
    let len := fld (s.rd rc) 8 13
    let buf (i : Nat) : Nat := reg (pgSTK_REPAIR x) (Off.STK_REPAIR_BUF + 4 * i)
    let kb := wreg dom.toNat pgGLOB Off.GLOB_DOM_XLAT_STATUS
    (s.mayWrite se (reg pgGLOB Off.GLOB_DOM_XLAT_CTRL) 1 = true → d < 1024 →
      (s.firstBad none 0 tab = none → s.narrowUsed d tab ≤ pool → ∃ t, exec (.activate se) s = .next t ∧ t.regions d = tab ∧ bit (t.rd k) 0 = true ∧ bit (t.rd k) 1 = false ∧
        (∀ e, e ≠ d → t.regions e = s.regions e) ∧ ∀ h ∈ tableGrans tab, (∀ o ∈ old, o.1 ≠ h.1) → (t.gran h.1).fill = some d) ∧
      (∀ i, i < 4096 → s.firstBad none 0 tab = some i → ∃ t, exec (.activate se) s = .next t ∧ t.active = s.active ∧ t.grans = s.grans ∧ bit (t.rd k) 1 = true ∧
        fld (t.rd k) 16 12 = i ∧ bit (t.rd (reg pgGLOB Off.EVENT)) 30 = true) ∧
      (s.firstBad none 0 tab = none → pool < s.narrowUsed d tab → ∃ t, exec (.activate se) s = .next t ∧ t.active = s.active ∧ t.grans = s.grans ∧ bit (t.rd k) 1 = true)) ∧
    (s.mayWrite se (reg pgGLOB Off.GLOB_DOM_XLAT_CTRL) 2 = true → d < 1024 → (s.regions d).length ≤ 4096 → ∃ t, exec (.copyActive se) s = .next t ∧
      t.stagedTable d = s.regions d ∧ t.active = s.active ∧ t.grans = s.grans) ∧
    (∃ t, exec (.xlatInvalidateDone dom) s = .next t ∧ bit (t.rd kb) 0 = false ∧ { t with regs := s.regs } = s ∧ ∀ r, r ≠ kb → t.rd r = s.rd r) ∧
    (s.mayWrite se (reg (pgHBM x) Off.HBM_CTRL) v = true → s.pagePresent .hbm x = true → ∃ t, exec (.quiesce se st v) s = .next t ∧
      fld (t.rd hs) 0 3 = if bit v 0 then (if state = 2 then 3 else state) else if state = 3 ∨ state = 4 then 2 else state) ∧
    (state = 3 → ∃ t, exec (.hbmQuiesced st) s = .next t ∧ fld (t.rd hs) 0 3 = 4 ∧ { t with regs := s.regs } = s) ∧
    (state ≠ 3 → exec (.hbmQuiesced st) s = .next s) ∧
    (s.mayWrite se rc (setBit v 31 true) = true → s.pagePresent .stkRepair x = true → ∃ t, exec (.stkRepairGo se st v) s = .next t ∧
      (t.rd rs = if bit (s.rd rs) 0 then s.rd rs else if s.allQuiesced then 1 else 4) ∧ t.mem = s.mem ∧
      (bit (s.rd rs) 0 = false → s.allQuiesced = false → bit (t.rd (reg (pgSTK_REPAIR x) Off.EVENT)) 30 = true)) ∧
    (bit (s.rd rs) 0 = true → len ≤ 4096 → ∃ t, exec (.stkRepairDone st out ok) s = .next t ∧ t.rd rs = 2 ∧
      (∀ i, 32 * i < len → t.rd (buf i) = BitVec.ofNat 32 (out.toNat % 2 ^ len / 2 ^ (32 * i))) ∧
      (t.rd rl).toNat = (s.rd rl).toNat - (if ok then 1 else 0) ∧ { t with regs := s.regs } = s ∧
      ∀ r, r ≠ rs → r ≠ rl → (∀ i, 32 * i < len → r ≠ buf i) → t.rd r = s.rd r) ∧
    (bit (s.rd rs) 0 = false → exec (.stkRepairDone st out ok) s = .next s)

/-! ## Keys, scrub, firmware, attestation and debug (R462 to R487, R545) -/

/-- Keys and scrub: a rotation raises the write generation with the old one live until its last granule has moved, a second one is refused (R467, R469); a move brings the next granule to the write generation while the engine of its tier runs and no fill is left to it; retirement ends the old one at once (R468); command and link generations change (R465); a scrub starts on a domain without contexts or sessions and writes its released granules with zeros under the next generation (R472 to R474). Firmware: a valid staged image is installed and becomes the slot's when its write ends, another is refused, and so is unit 7; burned bits raise the fused minimum one by one; a report is signed over the latched nonce; JTAG_EN is the operator's (R478, R481, R482, R485, R545). -/
def Obligations.SecurityRows : Prop :=
  ∀ (s : State) (se : SessIx) (dom : Dom) (slow : Bool) (u : BitVec 3) (v : Word) (held : BitVec 16),
    let x := s.sel se.toNat pgKEY Off.KEY_DOM_SEL
    let w := s.writeGen x
    let may (page off : Nat) (v : Word) : Prop := s.mayWrite se (reg page off) v = true
    let fast (i : Nat) : Bool := decide (slowBase / 2 ^ 21 ≤ i) == slow
    let d := dom.toNat
    let p := s.sel se.toNat pgKEY Off.KEY_PORT_SEL
    let b := s.sel se.toNat pgSEC Off.SEC_SCRUB_SEL
    let f := u.toNat
    let img := s.stagedImage f
    let idle := s.fwBusy.isNone && s.nv.isNone
    let status (t : State) (i : Nat) : Bool := bit (t.rd (reg pgSEC Off.SEC_FW_STATUS)) i
    let lack := (s.slotOf f).svn - s.fusedMin f
    let a := mapGet {} s.att se.toNat
    (may pgKEY Off.KEY_DOM_CTRL 1 → x < 1024 →
      (s.rotating x = false → ∃ t, exec (.rotate se) s = .next t ∧ t.writeGen x = (w + 1) % 64 ∧ t.mem = s.mem ∧ t.grans = s.grans ∧
        (∀ g ∈ s.mapped x, (s.gran g).fill = none → (s.gran g).gen = w → t.rotating x = true ∧ t.oldGen x = w ∧ t.genLive x w = true)) ∧
      (s.rotating x = true → ∃ t, exec (.rotate se) s = .next t ∧ t.writeGen x = w ∧ t.oldGen x = s.oldGen x ∧ t.rotating x = true ∧ bit (t.rd (reg pgKEY Off.EVENT)) 30 = true)) ∧
    (∀ g rest, s.rotating d = true → s.scrubRuns slow = true → s.fillWork slow = false → s.toMove d slow = g :: rest →
      ∃ t, exec (.rotationMove dom slow) s = .next t ∧ (t.gran g).gen = s.writeGen d ∧ (t.gran g).dom = some d ∧
      ((∀ e ∈ s.wc, e.unit / 4096 ≠ g) → t.mem = s.mem ∧ ∀ h, h ≠ g → t.gran h = s.gran h)) ∧
    (s.rotating d = false ∨ s.scrubRuns slow = false ∨ s.fillWork slow = true ∨ s.toMove d slow = [] → exec (.rotationMove dom slow) s = .next s) ∧
    (may pgKEY Off.KEY_DOM_CTRL 2 → x < 1024 → ∃ t, exec (.forceRetire se) s = .next t ∧ t.writeGen x = w ∧ t.mem = s.mem ∧ t.grans = s.grans ∧
      (s.rotating x = true → t.rotating x = false ∧ ∀ g, g ≠ w → t.genLive x g = false)) ∧
    (may pgKEY Off.KEY_DOM_CTRL 4 → x ≤ 1024 → ∃ t, exec (.cmdRotate se) s = .next t ∧ t.cmdGen x = (s.cmdGen x + 1) % 64 ∧ s.onlyRegs t ∧ ∀ r, r ≠ keyReg x Off.KEY_DOM_CMD_GEN → t.rd r = s.rd r) ∧
    (may pgKEY Off.KEY_PORT_LINK_GEN v → ∃ t, exec (.keyPortLinkGenWrite se v) s = .next t ∧ t.rd (wreg p pgKEY Off.KEY_PORT_LINK_GEN) = v &&& 0x3F#32 ∧
      s.onlyRegs t ∧ ∀ r, r ≠ wreg p pgKEY Off.KEY_PORT_LINK_GEN → t.rd r = s.rd r) ∧
    (may pgSEC Off.SEC_SCRUB_CTRL 1 →
      ((∀ q ∈ s.boundCtxs, q.2 ≠ b) → s.domSession b = false → s.scrub.contains b = false → ∃ t, exec (.secScrubStart se) s = .next t ∧ t.mem = s.mem ∧
        t.scrub = (if s.releasedOf b = [] then s.scrub else s.scrub ++ [b])) ∧
      (s.domSession b = true ∨ s.scrub.contains b = true → ∃ t, exec (.secScrubStart se) s = .next t ∧ t.scrub = s.scrub ∧ t.mem = s.mem ∧ bit (t.rd (reg pgSEC Off.EVENT)) 31 = true)) ∧
    (∀ g rest, s.scrub.contains d = true → s.scrubRuns slow = true → s.fillWork slow = false → s.moveWork slow = false → (s.releasedOf d).filter fast = g :: rest → ∃ t, exec (.tenantScrubGranule dom slow) s = .next t ∧
      (∀ y, t.byte y = if y / 2 ^ 21 = g then 0 else s.byte y) ∧ t.gran g = { dom := some d, gen := (s.writeGen d + 1) % 64 } ∧ (∀ h, h ≠ g → t.gran h = s.gran h)) ∧
    (s.scrub.contains d = false ∨ s.scrubRuns slow = false ∨ s.fillWork slow = true ∨ s.moveWork slow = true → exec (.tenantScrubGranule dom slow) s = .next s) ∧
    (may pgSEC Off.SEC_FW_CTRL (BitVec.ofNat 32 (f + 256)) →
      (f ≠ 7 → idle = true → s.fwValid f img = true → ∃ t, exec (.install se u) s = .next t ∧ t.fwBusy = some (f, img) ∧ (t.slotOf f).ok = false ∧ status t 0 = true ∧ status t 1 = false ∧
        (∀ z, z ≠ f → t.slotOf z = s.slotOf z)) ∧
      (f ≠ 7 → idle = true → s.fwValid f img = false → ∃ t, exec (.install se u) s = .next t ∧ t.fwBusy = none ∧ t.slots = s.slots ∧ status t 2 = true ∧ status t 0 = false ∧
        bit (t.rd (reg pgSEC Off.EVENT)) 30 = true) ∧
      (f = 7 ∨ idle = false → ∃ t, exec (.install se u) s = .next t ∧ t.fwBusy = s.fwBusy ∧ t.slots = s.slots ∧ bit (t.rd (reg pgSEC Off.EVENT)) 31 = true)) ∧
    (may pgSEC Off.SEC_FW_CTRL (BitVec.ofNat 32 (f + 512)) →
      (f ≠ 7 → idle = true → (s.slotOf f).ok = true → 0 < lack → ∃ t, exec (.commitSvn se u) s = .next t ∧ t.nv = some { unit := f, bits := lack } ∧ status t 0 = true ∧
        bit (t.rd (reg pgNVM Off.NVM_STATE)) 1 = true) ∧
      (f ≠ 7 → idle = true → (s.slotOf f).ok = false ∨ lack = 0 → ∃ t, exec (.commitSvn se u) s = .next t ∧ t.nv = none ∧ status t 0 = false ∧ status t 1 = true) ∧
      (f = 7 ∨ idle = false → ∃ t, exec (.commitSvn se u) s = .next t ∧ t.nv = s.nv ∧ t.slots = s.slots ∧ bit (t.rd (reg pgSEC Off.EVENT)) 31 = true)) ∧
    (∀ z, s.fwBusy = some z → ∃ t, exec .fwDone s = .next t ∧ t.fwBusy = none ∧ t.slotOf z.1 = z.2 ∧ status t 0 = false ∧ status t 1 = true ∧ bit (t.rd (reg pgSEC Off.EVENT)) 1 = true) ∧
    (s.fwBusy = none → exec .fwDone s = .next s) ∧
    (∀ r, s.nv = some r → ∃ t, exec (.nvPulseEnd held) s = .next t ∧ t.fusedMin r.unit = s.fusedMin r.unit + 1 ∧ (∀ z, z ≠ r.unit → t.fusedMin z = s.fusedMin z) ∧
      t.rd (reg pgNVM Off.NVM_FUSE_BITS) = satAdd (s.rd (reg pgNVM Off.NVM_FUSE_BITS)) 1 ∧
      t.nv = (if r.held = true ∨ r.bits ≤ 1 then none else some { r with bits := r.bits - 1 }) ∧
      (r.held = true → if s.warm = none ∧ s.fatal = none then bit (t.rd (reg pgRST Off.RST_CAUSE)) 4 = true else t.deferred = true)) ∧
    (s.nv = none → exec (.nvPulseEnd held) s = .next s) ∧
    (may pgATT Off.ATT_CTRL v → bit v 0 = true → a.busy = false → ∃ t, exec (.attGo se v) s = .next t ∧ (mapGet {} t.att se.toNat).busy = true ∧
      (mapGet {} t.att se.toNat).nonce = ((List.range 8).flatMap fun i => toLe 4 (s.srd se.toNat (reg pgATT (Off.ATT_NONCE + 4 * i))).toNat) ∧
      (isOp se.toNat = false → (mapGet {} t.att se.toNat).dom = some (sessDomain se.toNat)) ∧ ∀ z, z ≠ se.toNat → mapGet {} t.att z = mapGet {} s.att z) ∧
    (may pgATT Off.ATT_CTRL v → bit v 0 = true → a.busy = true → ∃ t, exec (.attGo se v) s = .next t ∧ t.att = s.att ∧ bit (t.rd (reg pgATT Off.EVENT)) 31 = true) ∧
    (a.busy = true → ∃ t, exec (.attReportDone se) s = .next t ∧ { t with att := s.att } = s ∧ mapGet {} t.att se.toNat =
      { a with busy := false, done := true, report := s.attBody a.nonce a.dom ++ signature 0 (s.attBody a.nonce a.dom) ++ List.replicate 14 0 }) ∧
    (a.busy = false → exec (.attReportDone se) s = .next s) ∧
    (may pgDBG Off.DBG_CTRL v → ∃ t, exec (.dbgCtrlWrite se v) s = .next t ∧ t.rd (reg pgDBG Off.DBG_CTRL) = v &&& 1#32 ∧ s.onlyRegs t ∧ ∀ r, r ≠ reg pgDBG Off.DBG_CTRL → t.rd r = s.rd r) ∧
    (isOp se.toNat = false → s.serves se.toNat = true → ∃ t, exec (.dbgCtrlWrite se v) s = .next t ∧ t.regs = s.regs ∧
      t.out = s.out ++ [.response se.toNat Err.DOMAIN_ACCESS_DENIED 0 []])

/-! ## Errors and metrology -/

/-- Links, stored words, storms and metrology: only the I/O die has links, one to every other die; of the flits that contend for a crossbar output in a cycle the one of the highest class crosses; a flit has two codewords of header and one to each 8 bytes of payload, its corrected codewords are counted and a bad one is discarded, counted as a retry while the eighth has not failed, and flits behind it pass unseen until it is resent, the ninth failure being fatal; a corrected stored word counts and leaves its store, a fresh error poisons its line or tile or is fatal, whether or not the bank has an idle cycle; the second's sum of corrected errors, with a free part for the ports' FEC, stands in ERR_CE_LAST and raises CE_STORM above the threshold; a sample adds V × I to the total and to each rail and shares it out whole; a checkpoint replaces the older copy or leaves the other standing; the unit's clock and its calibration change only as they may, and a refused set keeps the old one (R20, R22 to R24, R492 to R494, R497, R503, R504, R515, R518, R519, R525, R532; log entries 9, 23 and 26). -/
def Obligations.ErrorsAndMetrology : Prop :=
  ∀ (s : State) (a b : BitVec 4) (resent idle inClass ok : Bool) (f : Flit) (x : Damage) (xs : List MetIn) (ppm : Nat) (blob sg : List Byte),
    let k := a.toNat * 16 + b.toNat
    let n := mapGet 0 s.linkRetry k
    let outs := (flitCodewords f).map (damage64 false)
    let lost := outs.any fun o => o == .fresh || o == .marker
    let crosses := (a == 8#4) && !resent
    let came := !crosses || (s.crossbar b.toNat f).1
    let top := f.others.foldl (fun m r => max m r.cls.toNat) 0
    let fixed := (outs.filter (· == .corrected)).length
    let ev (t : State) (page i : Nat) : Bool := bit (t.rd (reg page Off.EVENT)) i
    let flitCE := reg pgERR Off.ERR_FLIT_CE
    let flitRetry := reg pgERR Off.ERR_FLIT_RETRY
    let key (o : Nat) := wreg x.core.toNat (pgCLU x.unit.toNat) o
    let ck := coreKey x.unit.toNat x.core.toNat
    let store := (storeRead32 (s.mark (damageLine x)).poison x.pat).kind
    let acc := (storeRead32 ((s.getCore ck).tile (damageTile x)).poison x.pat).kind
    let clu := damage64 (s.mark (damageLine x)).poison x.pat
    let arr := (storeRead32 false x.pat).kind
    let res := damage64 false x.pat
    let ces := min (s.ceNew + (s.draw).1.toNat % 2 ^ 32) (2 ^ 32 - 1)
    let thresh := (s.rd (reg pgERR Off.ERR_CE_THRESH)).toNat
    let e (y : MetIn) : Nat := y.v.toNat * y.i.toNat
    let m := s.met
    let due := s.metRuns && decide (m.tot.time % 1000000 = 0) && decide (m.tot.time ≠ 0)
    let sq (c : Option (Nat × MetTotals)) : Nat := match c with | some y => y.1 | none => 0
    let toA := m.copyA.isNone || (m.copyB.isSome && decide (sq m.copyA < sq m.copyB))
    let tot : MetTotals := { m.tot with reportSeq := m.tot.reportSeq + 1 }
    let valid := Config.ed448Verify (Config.ed448Public 2) (toLe 8 s.fuse.serial.toNat ++ blob) sg
    (linkExists a b = false → exec (.flitReceived a b resent f) s = .fault .noSuchUnit ∧ exec (.flitRetryExhausted a b) s = .fault .noSuchUnit) ∧
    (linkExists a b = true ↔ a ≠ b ∧ (a = 8 ∨ b = 8) ∧ a.toNat < 10 ∧ b.toNat < 10) ∧
    outs.length = 2 + f.words.val ∧
    (crosses = true → top < f.own.cls.toNat → came = true) ∧ (crosses = true → f.own.cls.toNat < top → (∀ r ∈ f.others, xbarIndex r ≠ xbarIndex f.own) → came = false) ∧
    (linkExists a b = true → came = false ∨ 8 < n → exec (.flitReceived a b resent f) s = .next s) ∧
    (linkExists a b = true → came = true → 0 < n → n ≤ 8 → resent = false → ∃ t, exec (.flitReceived a b resent f) s = .next t ∧ { t with ties := s.ties } = s) ∧
    (linkExists a b = true → came = true → n = 0 ∨ (n ≤ 8 ∧ resent = true) → ∃ t, exec (.flitReceived a b resent f) s = .next t ∧ t.rd flitCE = satAdd (s.rd flitCE) fixed ∧ t.ceNew = s.ceNew + fixed ∧
      mapGet 0 t.linkRetry k = (if lost then n + 1 else 0) ∧ (∀ j, j ≠ k → mapGet 0 t.linkRetry j = mapGet 0 s.linkRetry j) ∧
      t.rd flitRetry = (if lost && decide (n < 8) then satAdd (s.rd flitRetry) 1 else s.rd flitRetry) ∧
      (crosses = false → t.ties = s.ties) ∧ { t with regs := s.regs, ceNew := s.ceNew, linkRetry := s.linkRetry, ties := s.ties } = s ∧ ∀ r, r ≠ flitCE → r ≠ flitRetry → t.rd r = s.rd r) ∧
    (linkExists a b = true → 8 < n → s.fatal = none → ∃ t, exec (.flitRetryExhausted a b) s = .next t ∧ t.fatal = some s.timer ∧
      t.rd (reg pgERR Off.ERR_FATAL_CODE) = Err.FLIT_RETRY_EXHAUSTED.setWidth 32 ∧ ev t pgERR 30 = true ∧ t.mem = s.mem) ∧
    (linkExists a b = true → n ≤ 8 → exec (.flitRetryExhausted a b) s = .next s) ∧
    (Damage.exists' x = false → exec (.correctedWriteback x idle) s = .fault .noSuchUnit) ∧
    (Damage.exists' x = true → x.kind = .coreStore →
      (store = .clean ∨ store = .marker → exec (.correctedWriteback x idle) s = .next s) ∧
      (store = .corrected → ∃ t, exec (.correctedWriteback x idle) s = .next t ∧ t.rd (key Off.CORE_STORE_CE) = satAdd (s.rd (key Off.CORE_STORE_CE)) 1 ∧
        { t with regs := s.regs, ceNew := s.ceNew } = s ∧ t.ceNew = s.ceNew + 1) ∧
      (store = .fresh → ∃ t, exec (.correctedWriteback x idle) s = .next t ∧
        t.rd (key Off.CORE_UE) = setFld (s.rd (key Off.CORE_UE)) 0 16 (min 65535 (fld (s.rd (key Off.CORE_UE)) 0 16 + 1)) ∧
        (t.mark (damageLine x)).poison = true ∧ (∀ l, l ≠ damageLine x → t.mark l = s.mark l) ∧ t.mem = s.mem)) ∧
    (Damage.exists' x = true → x.kind = .accFile →
      (acc = .clean ∨ acc = .marker → exec (.correctedWriteback x idle) s = .next s) ∧
      (acc = .corrected → ∃ t, exec (.correctedWriteback x idle) s = .next t ∧ t.rd (key Off.CORE_ACC_CE) = satAdd (s.rd (key Off.CORE_ACC_CE)) 1 ∧
        { t with regs := s.regs, ceNew := s.ceNew } = s ∧ t.ceNew = s.ceNew + 1) ∧
      (acc = .fresh → ∃ t, exec (.correctedWriteback x idle) s = .next t ∧
        t.rd (key Off.CORE_UE) = setFld (s.rd (key Off.CORE_UE)) 16 16 (min 65535 (fld (s.rd (key Off.CORE_UE)) 16 16 + 1)) ∧
        ((t.getCore ck).tile (damageTile x)).poison = true ∧ t.mem = s.mem ∧ t.marks = s.marks)) ∧
    (Damage.exists' x = true → x.kind = .cluStore →
      (clu = .clean ∨ clu = .marker → exec (.correctedWriteback x idle) s = .next s) ∧
      (clu = .corrected → ∃ t, exec (.correctedWriteback x idle) s = .next t ∧ { t with regs := s.regs, ceNew := s.ceNew } = s ∧
        t.rd (reg (pgCLU x.unit.toNat) Off.CLU_CS_CE) = satAdd (s.rd (reg (pgCLU x.unit.toNat) Off.CLU_CS_CE)) 1) ∧
      (clu = .fresh → ∃ t, exec (.correctedWriteback x idle) s = .next t ∧ (t.mark (damageLine x)).poison = true ∧ t.mem = s.mem ∧
        t.rd (reg (pgCLU x.unit.toNat) Off.CLU_CS_UE) = satAdd (s.rd (reg (pgCLU x.unit.toNat) Off.CLU_CS_UE)) 1)) ∧
    (x.kind = .stateArray →
      (arr = .corrected → ∃ t, exec (.correctedWriteback x idle) s = .next t ∧ t.rd (reg pgERR Off.ERR_STATE_CE) = satAdd (s.rd (reg pgERR Off.ERR_STATE_CE)) 1 ∧ t.fatal = s.fatal) ∧
      (arr = .fresh → s.fatal = none → ∃ t, exec (.correctedWriteback x idle) s = .next t ∧ t.fatal = some s.timer ∧
        t.rd (reg pgERR Off.ERR_FATAL_CODE) = Err.STATE_UE.setWidth 32)) ∧
    (x.kind = .reserve →
      (res = .corrected → ∃ t, exec (.correctedWriteback x idle) s = .next t ∧ t.ceNew = s.ceNew + 1 ∧ t.fatal = s.fatal) ∧
      (res = .fresh → s.fatal = none → ∃ t, exec (.correctedWriteback x idle) s = .next t ∧ t.fatal = some s.timer ∧
        t.rd (reg pgERR Off.ERR_FATAL_CODE) = Err.STATE_UE.setWidth 32)) ∧
    (∃ t, exec .ceStormCheck s = .next t ∧ t.rd (reg pgERR Off.ERR_CE_LAST) = BitVec.ofNat 32 ces ∧ t.ceNew = 0 ∧ (thresh < ces → ev t pgERR 0 = true) ∧
      (ces ≤ thresh → { t with regs := s.regs, ceNew := s.ceNew, fresh := s.fresh } = s ∧ ∀ r, r ≠ reg pgERR Off.ERR_CE_LAST → t.rd r = s.rd r)) ∧
    (s.metRuns = true → xs.length = 13 → ∃ t, exec (.metSample xs inClass) s = .next t ∧ t.met.tot.time = m.tot.time + 1 ∧
      t.met.tot.total = m.tot.total + (xs.map e).sum ∧ (∀ r y, xs[r]? = some y → mapGet 0 t.met.tot.rails r = mapGet 0 m.tot.rails r + e y) ∧
      (mapWf (fun _ => 0) m.tot.work = true → mapWf (fun _ => 0) m.tot.ballast = true →
        amounts t.met.tot.work + amounts t.met.tot.ballast = amounts m.tot.work + amounts m.tot.ballast + (xs.map e).sum) ∧
      (inClass = false → t.met.inClass = false) ∧ t.met.charge = [] ∧ t.ballastBill = [] ∧ t.mem = s.mem) ∧
    (s.metRuns = false ∨ xs.length ≠ 13 → exec (.metSample xs inClass) s = .next s) ∧
    (due = true → ∃ t, exec (.metCheckpoint ok) s = .next t ∧ t.met.tot = tot ∧
      (if toA then t.met.copyA else t.met.copyB) = (if ok then some (max (sq m.copyA) (sq m.copyB) + 1, tot) else none) ∧
      (if toA then t.met.copyB else t.met.copyA) = (if toA then m.copyB else m.copyA) ∧
      t.met.logNext = m.logNext + b2n (!ok) ∧ (ok = false → ev t pgMET 3 = true ∧ ev t pgMET 30 = true) ∧ t.mem = s.mem) ∧
    (due = false → exec (.metCheckpoint ok) s = .next s) ∧
    (s.metRuns = true → m.clockFault = false → ∃ t, exec .metClockFault s = .next t ∧ t.met.clockFault = true ∧ t.met.inClass = false ∧ t.met.tot = m.tot ∧
      t.met.logNext = m.logNext + 1 ∧ ev t pgMET 0 = true ∧ t.mem = s.mem) ∧
    (s.metRuns = false ∨ m.clockFault = true → exec .metClockFault s = .next s) ∧
    (s.metRuns = true → exec (.metXtalCompare ppm) s =
      (if 200 < ppm then exec .metClockFault s else if 50 < ppm then .next { s with met := { m with inClass := false } } else .next s)) ∧
    (s.metRuns = false → exec (.metXtalCompare ppm) s = .next s) ∧
    (s.metRuns = true → m.clockFault = true → ∃ t, exec .metClockRestored s = .next t ∧ t.met.clockFault = false ∧ t.met.logNext = m.logNext + 1 ∧ t.met.tot = m.tot ∧
      { t with met := m } = s) ∧
    (s.metRuns = false ∨ m.clockFault = false → exec .metClockRestored s = .next s) ∧
    (s.metRuns = true → m.calMode = true → ∃ t, exec (.calibrationSet blob sg) s = .next t ∧ t.met.logNext = m.logNext + 1 ∧ t.met.tot = m.tot ∧
      t.met.calId = (if valid then leOf (shake256 blob 8) else m.calId) ∧ t.met.sealCtr = m.sealCtr + b2n valid ∧ (valid = false → ev t pgMET 30 = true)) ∧
    (s.metRuns = false ∨ m.calMode = false → exec (.calibrationSet blob sg) s = .next s)

/-! ## Resets and start-up -/

/-- The resets and the start that follows each: power-on and RESET_N are recognised at once and clear what their column lists; a warm-class reset waits until every compute account is at 0 and no eFuse pulse is under way, then keeps the tiers, its records and the levels of the pins and starts warm or holds; a cold start measures STRAP_SEL, senses the fuses, verifies the firmware or enters recovery, derives keys, trains memory, stages the dies with their pending records and trains the links, each once its current is granted; the watchdog begins a warm-class reset, THERMAL_HOLD ends when every sensor reads below its limit, and a lost lock is fatal (R284, R542, R543, R545, R546, R548 to R551, R553 to R556, R559; log entries 14, 22 and 24). -/
def Obligations.ResetsAndStart : Prop :=
  ∀ (s : State) (conv : List (BitVec 4)) (die : BitVec 3) (bad : List (BitVec 2 × BitVec 9 × CoreIx × BitVec 4)) (pll : BitVec 5) (cause : Nat),
    let ev (t : State) (page i : Nat) : Bool := bit (t.rd (reg page Off.EVENT)) i
    let count (t : State) (o : Nat) : Nat := (t.rd (rstReg o)).toNat
    let empty (t : State) : Prop := t.ctx = [] ∧ t.cores = [] ∧ t.sess = [] ∧ t.alerts = [] ∧ t.grps = [] ∧ t.rings = [] ∧ t.saves = [] ∧ t.wc = [] ∧ t.warm = none ∧ t.fatal = none
    let records (t : State) : Prop := t.fuse = s.fuse ∧ t.repairs = s.repairs ∧ t.openCnt = s.openCnt ∧ t.slots = s.slots ∧ t.svnMin = s.svnMin
    let cold (t : State) (n : Nat) : Prop := t.stage = 0 ∧ count t Off.RST_CAUSE = n ∧ t.rd (rstReg Off.RST_COUNT_COLD) = satAdd (s.rd (rstReg Off.RST_COUNT_COLD)) 1 ∧
      t.now = 0 ∧ t.rails = [] ∧ empty t ∧ records t ∧ t.deferred = false ∧ t.heldStatus = none ∧ t.heldAlert = none
    let code (t : State) : BitVec 4 := (t.rd (reg pgSTRP Off.STRP_VALUE)).setWidth 4
    let started (t : State) : Prop := t.stage = 1 ∧ t.powered = true ∧ t.rstLow = false ∧
      (∀ v : BitVec 4, conv.count v ≤ conv.count (code t) ∧ (v.toNat < (code t).toNat → conv.count v < conv.count (code t))) ∧
      (bit (t.rd (reg pgSTRP Off.STRP_VALUE)) 4 = true ↔ ∃ v ∈ conv, v ≠ code t) ∧ ((∃ v ∈ conv, v ≠ code t) → ev t pgSTRP 0 = true) ∧ t.mem = s.mem
    let warm (t : State) (c : Nat) : Prop := t.stage = (if s.hold || decide (c = 6) then 10 else 3) ∧ t.warmStart = true ∧ t.rd (rstReg Off.RST_CAUSE) = BitVec.ofNat 32 (c + 16 * b2n s.deferred) ∧
      t.deferred = false ∧ t.heldStatus = some s.statusPins ∧ t.heldAlert = some s.alertN ∧
      t.rd (rstReg Off.RST_COUNT_WARM) = satAdd (s.rd (rstReg Off.RST_COUNT_WARM)) 1 ∧ t.now = s.now ∧ t.active = s.active ∧ empty t ∧ records t ∧
      (s.wc = [] → t.grans = s.grans ∧ ∀ a, t.byte a = if offDie a then s.byte a else 0)
    let waitsForPulse (t : State) : Prop := ∃ r, s.nv = some r ∧ t.nv = some { r with held := true } ∧ bit (t.rd (reg pgNVM Off.NVM_STATE)) 2 = true ∧
      { t with regs := s.regs, nv := s.nv } = s ∧ ∀ k, k ≠ reg pgNVM Off.NVM_STATE → t.rd k = s.rd k
    let boot := s.bootLoad s.bootUnits
    let left := if s.warmStart then s.repairs else s.repairs.filter fun r => decide (r.clu / 375 ≠ die.toNat)
    let fresh := bad.map fun b => ({ kind := b.1.toNat, clu := die.toNat * 375 + b.2.1.toNat, core := b.2.2.1.toNat, row := b.2.2.2.toNat } : Repair)
    let dog := bit (s.rd (rstReg Off.RST_WDT_CFG)) 0 && decide (3 ≤ s.stage)
    let limit : Int := (fld (s.rd (rstReg Off.RST_THERM_CLEAR)) 0 8 : Int) * 16
    let cool := s.temps.all fun p => decide (p.2.toInt < limit)
    let d := pll.toNat
    let lock (t : State) (i : Nat) : Bool := bit (t.rd (reg pgCLK Off.CLK_LOCK)) i
    (∃ t, exec .powerOn s = .next t ∧ cold t 1 ∧ t.powered = false ∧ (∀ a, t.byte a = if 2 ^ 56 ≤ a then s.byte a else 0) ∧
      t.grans = [] ∧ t.marks = [] ∧ t.active = [] ∧ t.staged = [] ∧ t.met.running = false) ∧
    (s.rstLow = true → exec .resetNAssert s = .next s) ∧
    (s.rstLow = false → s.powered = false → exec .resetNAssert s = .next { s with rstLow := true }) ∧
    (s.rstLow = false → s.powered = true → ∃ t, exec .resetNAssert s = .next t ∧ cold t 2 ∧ t.rstLow = true ∧ t.powered = true ∧
      (∀ a, t.byte a = if offDie a then s.byte a else 0) ∧ t.grans = s.grans ∧ t.active = s.active ∧ t.staged = s.staged ∧ t.met.tot = s.met.tot ∧ t.met.running = s.met.running) ∧
    (s.powered = true ∨ conv.length ≠ 16 → exec (.pwrokRise conv) s = .next s) ∧
    (s.powered = false → conv.length = 16 → (s.rstLow = true → exec (.pwrokRise conv) s = .next { s with powered := true }) ∧
      (s.rstLow = false → ∃ t, exec (.pwrokRise conv) s = .next t ∧ started t)) ∧
    (s.rstLow = false ∨ conv.length ≠ 16 → exec (.resetNRelease conv) s = .next s) ∧
    (s.rstLow = true → conv.length = 16 → ∃ t, exec (.resetNRelease conv) s = .next t ∧ t.rstLow = false ∧ t.tap.driven = none ∧ t.tap.hiz = false ∧ t.tap.clamp = false ∧
      (s.powered = true → started t) ∧ (s.powered = false → { t with rstLow := true, tap := s.tap } = s)) ∧
    (s.stage = 1 → ∃ t, exec .fuseSenseDone s = .next t ∧ t.stage = 3 ∧ t.now = 0 ∧ t.frac = 0 ∧ t.rd (reg pgCLK Off.CLK_LOCK) = 0x1FFFFFF#32 ∧
      ∀ p, p < 18 → t.rd (ethReg p Off.ETH_MAC_LO) = BitVec.ofNat 32 ((s.fuse.mac.toNat + p) % 2 ^ 48)) ∧
    (s.stage ≠ 1 → exec .fuseSenseDone s = .next s) ∧
    (s.stage = 3 → (s.warmStart = true → ∃ t, exec .firmwareBoot s = .next t ∧ t.stage = 5 ∧ t.heldStatus = none ∧ t.running = s.running ∧ t.mem = s.mem) ∧
      (s.warmStart = false → boot.2 = none → ∃ t, exec .firmwareBoot s = .next t ∧ t.stage = 4 ∧ bit (t.rd (reg pgSEC Off.SEC_STATE)) 0 = true ∧ ∀ u ∈ s.bootUnits, s.fwValid u (mapGet {} t.running u) = true) ∧
      (s.warmStart = false → boot.2.isSome = true → ∃ t, exec .firmwareBoot s = .next t ∧ t.stage = 9 ∧ bit (t.rd (reg pgSEC Off.SEC_STATE)) 1 = true ∧ ev t pgSEC 30 = true)) ∧
    (s.stage ≠ 3 → exec .firmwareBoot s = .next s) ∧
    (s.stage = 4 → ∃ t, exec .keyDerivationDone s = .next t ∧ t.stage = 5 ∧ bit (t.rd (reg pgSEC Off.SEC_STATE)) 2 = true ∧ t.mem = s.mem) ∧
    (s.stage ≠ 4 → exec .keyDerivationDone s = .next s) ∧
    (s.stage = 5 → s.startWaits none = false → ∃ t, exec .memoryTrainingDone s = .next t ∧ t.stage = (if s.trips = [] then 6 else 10) ∧ t.mem = s.mem ∧
      ∀ i, i < 16 → s.pagePresent .hbm i = true → fld (s.rd (reg (pgHBM i) Off.HBM_STATE)) 0 3 ≠ 5 → fld (t.rd (reg (pgHBM i) Off.HBM_STATE)) 0 3 = (if s.trips = [] then 2 else 1)) ∧
    (s.stage ≠ 5 ∨ s.startWaits none = true → exec .memoryTrainingDone s = .next s) ∧
    (s.stage = 6 → s.stagedDies.length = die.toNat → s.startWaits (some die.toNat) = false → ∃ t, exec (.dieStagingDone die bad) s = .next t ∧ t.stagedDies = s.stagedDies ++ [die.toNat] ∧
      t.stage = (if die = 7 then 7 else 6) ∧ t.repairs = left ++ fresh.take (512 - left.length) ∧ (bad ≠ [] → ev t pgERR 3 = true) ∧ t.mem = s.mem) ∧
    (s.stage ≠ 6 ∨ s.stagedDies.length ≠ die.toNat ∨ s.startWaits (some die.toNat) = true → exec (.dieStagingDone die bad) s = .next s) ∧
    (s.stage = 7 → s.startWaits none = false → ∃ t, exec .linkTrainingDone s = .next t ∧ t.stage = 8 ∧ t.heldAlert = none ∧ t.mem = s.mem ∧ ∀ r, r ≠ rstReg Off.RST_STAGE → t.rd r = s.rd r) ∧
    (s.stage ≠ 7 ∨ s.startWaits none = true → exec .linkTrainingDone s = .next s) ∧
    (dog = true → ∃ t, exec .watchdogExpired s = .next t ∧ ev t pgRST 1 = true ∧ ev t pgRST 30 = true ∧ t.mem = s.mem ∧ t.ctx = s.ctx ∧
      t.warm = (if s.fatal.isSome || decide (s.stage = 10) then s.warm else some (mergeCause s.warm 4))) ∧
    (dog = false → exec .watchdogExpired s = .next s) ∧
    (s.warm = some cause → s.accountsZero = true → ∃ t, exec .warmResetEnter s = .next t ∧ if s.nv = none then warm t cause else waitsForPulse t) ∧
    (s.warm = none ∨ s.accountsZero = false → exec .warmResetEnter s = .next s) ∧
    (s.fatalDue = true → s.accountsZero = true → ∃ t, exec .fatalEscalationReset s = .next t ∧ if s.nv = none then warm t (mergeCause s.warm 5) else waitsForPulse t) ∧
    (s.fatalDue = false ∨ s.accountsZero = false → exec .fatalEscalationReset s = .next s) ∧
    (s.stage = 10 → cool = true → ∃ t, exec .thermalHoldExit s = .next t ∧ t.stage = 3 ∧ t.warmStart = true ∧ { t with regs := s.regs, warmStart := s.warmStart } = s) ∧
    (s.stage ≠ 10 ∨ cool = false → exec .thermalHoldExit s = .next s) ∧
    (d = 0 ∨ 25 < d → exec (.pllUnlock pll) s = .fault .noSuchUnit) ∧
    (1 ≤ d → d ≤ 23 → lock s (d - 1) = true → ∃ t, exec (.pllUnlock pll) s = .next t ∧ (∀ i, i < 32 → lock t i = (lock s i && decide (i ≠ d - 1))) ∧
      t.rd (reg pgCLK Off.CLK_UNLOCKS) = satAdd (s.rd (reg pgCLK Off.CLK_UNLOCKS)) 1 ∧ ev t pgCLK 0 = true ∧ ev t pgCLK 30 = true ∧
      (ev s pgCLK 30 = false → t.rd (reg pgCLK Off.ERR_INFO0) = BitVec.ofNat 32 d) ∧ t.fatal = some (s.fatal.getD s.timer)) ∧
    (1 ≤ d → d ≤ 25 → lock s (d - 1) = false ∨ 23 < d → exec (.pllUnlock pll) s = .next s)

/-! ## Sensors, regulators and test access -/

/-- Sensors, regulators and the module TAP: a reading is recorded with its peak, a trip asserts the comparator and begins a warm-class reset into the hold, or ends a warm start in it; a die sensor at THROTTLE caps its accounts until every capping sensor has cooled; polls and alerts record what the regulators answer and raise their faults; an AVS target moves within its limits, in small steps and not too soon; a TAP instruction acts where R581 lets it and otherwise behaves as BYPASS and is counted, and debug access reaches registers and on-die stores (R485, R503, R550, R570, R571, R578, R579, R581, R585; log entries 16 and 25). -/
def Obligations.SensorsRegulatorsTap : Prop :=
  ∀ (s : State) (x : BitVec 8) (st : BitVec 4) (rail : BitVec 3) (v : BitVec 16) (ts : List (BitVec 8 × BitVec 16)) (ans : List (Option PmbAns)) (words : List (Option (BitVec 16)))
    (sel : BitVec 4) (mv : BitVec 16) (fails : BitVec 2) (cells : List Bool) (seg : BitVec 5) (code : BitVec 8) (isReg : Bool) (a : DWord) (n : BitVec 16) (bs : List Byte),
    let y := x.toNat
    let z := 136 + st.toNat
    let ev (t : State) (page i : Nat) : Bool := bit (t.rd (reg page Off.EVENT)) i
    let recorded (t : State) (y : Nat) : Prop := (s.sensorPresent y = true → t.temp y = v.toInt) ∧ ∀ w, w ≠ y → t.temp w = s.temp w
    let only (t : State) : Prop := { t with regs := s.regs, temps := s.temps } = s ∧ ∀ r, r ≠ tempReg Off.TEMP_PEAK → t.rd r = s.rd r
    let trips := s.sensorPresent y && decide (tripAt y ≤ v.toInt)
    let stage := s.stage
    let caps := cappedBy y
    let fresh := caps.filter fun b => (s.rail b).caps == []
    let held := (s.rail rail.toNat).caps
    let cool (t : State) : Prop := ∀ w ∈ held, t.temp w < s.throttleAt - s.hystOf
    let k := pmbReg sel.toNat Off.PMB_AVS_TARGET
    let old := if (s.rd k).toNat = 0 then (if sel.toNat < 8 then 700 else 750) else (s.rd k).toNat
    let soon := match s.avsAt.find? fun p => p.1 == sel.toNat with | some p => decide (s.timer < p.2 + 100000) | none => false
    let lim := s.avsLimits sel.toNat
    let moves := decide (sel.toNat < 10) && decide (lim.1 ≤ mv.toNat) && decide (mv.toNat ≤ lim.2) && decide (mv.toNat ≤ old + 5) && decide (old ≤ mv.toNat + 5) && !soon && s.avsOpen sel.toNat
    let base (c : Nat) : TapRec := { s.tap with ir := c, driven := none, hiz := false, clamp := false }
    let loaded (t : TapRec) : State := { s with tap := t }
    let bypassed (c : Nat) : State := (loaded { base c with shift := [false] }).inc (reg pgJTAG Off.JTAG_REFUSED)
    let wrap := s.rstLow || s.allQuiesced
    let prod := decide (0x80 ≤ code.toNat) && decide (code.toNat ≤ 0xFE)
    let jtag := bit (s.rd (reg pgDBG Off.DBG_CTRL)) 0
    let dbg := loaded { base 0x20 with shift := [] }
    let ad := a.toNat
    let inStores (n : Nat) : Prop := ∀ i, i < n → dbgStore (ad + i) = true
    (152 ≤ y → exec (.thermalTrip x v) s = .fault .noSuchUnit ∧ exec (.thermTripRelease x v) s = .fault .noSuchUnit ∧ exec (.thermalThrottle x v) s = .fault .noSuchUnit) ∧
    (y < 152 → trips = false → ∃ t, exec (.thermalTrip x v) s = .next t ∧ recorded t y ∧ only t) ∧
    (y < 152 → trips = true → ∃ t, exec (.thermalTrip x v) s = .next t ∧ recorded t y ∧ y ∈ t.trips ∧ (∀ w, w ≠ y → (w ∈ t.trips ↔ w ∈ s.trips)) ∧ t.mem = s.mem ∧
      (stage < 3 ∨ stage = 10 → t.stage = stage ∧ t.warm = s.warm) ∧
      (3 ≤ stage → stage ≠ 10 → ev t pgRST 0 = true ∧ ev t pgRST 30 = true ∧
        (s.warmStart = true → stage ≠ 8 → t.stage = 10 ∧ t.warm = s.warm) ∧
        (s.warmStart = false → stage < 6 ∨ stage = 9 → t.stage = stage ∧ t.warm = s.warm) ∧
        (s.warmStart = false ∨ stage = 8 → 6 ≤ stage → stage ≠ 9 → t.stage = stage ∧ t.hold = true ∧ t.warm = some (mergeCause s.warm 6)))) ∧
    (y < 152 → ∃ t, exec (.thermTripRelease x v) s = .next t ∧ recorded t y ∧ (∀ w, w ≠ y → (w ∈ t.trips ↔ w ∈ s.trips)) ∧
      (v.toInt < tripClear y → y ∉ t.trips) ∧ (tripClear y ≤ v.toInt → only t)) ∧
    (y < 152 → v.toInt < s.throttleAt ∨ 136 ≤ y → ∃ t, exec (.thermalThrottle x v) s = .next t ∧ recorded t y ∧ only t) ∧
    (y < 136 → s.throttleAt ≤ v.toInt → ∃ t, exec (.thermalThrottle x v) s = .next t ∧ recorded t y ∧ (∀ b ∈ caps, y ∈ (t.rail b).caps) ∧ (∀ b, b ∉ caps → t.rail b = s.rail b) ∧
      t.rd (tempReg Off.TEMP_THROTTLES) = satAdd (s.rd (tempReg Off.TEMP_THROTTLES)) fresh.length ∧ (fresh ≠ [] → ev t pgTEMP 0 = true) ∧ t.mem = s.mem) ∧
    (∃ t, exec (.thermalRelease rail ts) s = .next t ∧ (∀ b, b ≠ rail.toNat → t.rail b = s.rail b) ∧ (held ≠ [] → cool t → (t.rail rail.toNat).caps = [] ∧ ev t pgTEMP 1 = true) ∧
      (held = [] ∨ ¬ cool t → only t)) ∧
    (s.sensorPresent z = false → exec (.stackHot st v) s = .next s ∧ exec (.stackHotClear st v) s = .next s) ∧
    (s.sensorPresent z = true → (∃ t, exec (.stackHot st v) s = .next t ∧ recorded t z ∧ t.mem = s.mem ∧ (s.temp z < 85 * 16 → 85 * 16 ≤ v.toInt → ev t pgTEMP 2 = true) ∧
      (85 * 16 ≤ s.temp z ∨ v.toInt < 85 * 16 → only t)) ∧ ∃ t, exec (.stackHotClear st v) s = .next t ∧ recorded t z ∧ only t) ∧
    (bit (s.rd (reg pgPMB Off.PMB_CFG)) 0 = true → 3 ≤ stage → ans.length = 13 → ∃ t, exec (.pmbusPoll ans) s = .next t ∧ t.mem = s.mem ∧ ∀ r, r < 13 →
      (∀ w, ans[r]? = some (some w) → t.rd (pmbReg r Off.PMB_VOUT) = w.vout.setWidth 32 ∧ t.rd (pmbReg r Off.PMB_IOUT) = w.iout ∧ t.rd (pmbReg r Off.PMB_TEMP) = w.temp.setWidth 32 ∧
        t.rd (pmbReg r Off.PMB_STATUS) = w.status.setWidth 32 ∧ mapGet 0 t.pmbMiss r = 0 ∧ (w.status ≠ 0 → ev t pgPMB 0 = true)) ∧
      (ans[r]? = some none → mapGet 0 t.pmbMiss r = mapGet 0 s.pmbMiss r + 1 ∧ t.rd (pmbReg r Off.PMB_VOUT) = s.rd (pmbReg r Off.PMB_VOUT) ∧
        (mapGet 0 s.pmbMiss r = 2 → bit (t.rd (pmbReg r Off.PMB_STATUS)) 16 = true ∧ ev t pgPMB 2 = true))) ∧
    (bit (s.rd (reg pgPMB Off.PMB_CFG)) 0 = false ∨ stage < 3 ∨ ans.length ≠ 13 → exec (.pmbusPoll ans) s = .next s) ∧
    (3 ≤ stage → words.length = 13 → ∃ t, exec (.pmbAlert words) s = .next t ∧ t.mem = s.mem ∧ ∀ r, r < 13 →
      (∀ w, words[r]? = some (some w) → t.rd (pmbReg r Off.PMB_STATUS) = w.setWidth 32 ∧ (w ≠ 0 → ev t pgPMB 0 = true)) ∧
      (words[r]? = some none → t.rd (pmbReg r Off.PMB_STATUS) = s.rd (pmbReg r Off.PMB_STATUS))) ∧
    (stage < 3 ∨ words.length ≠ 13 → exec (.pmbAlert words) s = .next s) ∧
    (moves = true → ∃ t, exec (.avsWrite sel mv fails) s = .next t ∧ mapGet 0 t.avsAt sel.toNat = s.timer ∧ t.mem = s.mem ∧
      t.rd k = (if fails = 3 then s.rd k else mv.setWidth 32) ∧ (fails = 3 → ev t pgPMB 1 = true ∧ ev t pgPMB 30 = true) ∧
      (fails ≠ 3 → ∀ r, r ≠ k → t.rd r = s.rd r)) ∧
    (moves = false → exec (.avsWrite sel mv fails) s = .next s) ∧
    exec .tapReset s = .next { s with tap := { ir := 1 }, met := { s.met with calMode := false } } ∧
    (s.rstLow = true → exec (.extest cells) s = .next (loaded { base 0 with cells := cells, driven := some cells }) ∧
      exec (.extestPulse cells) s = .next (loaded { base 5 with cells := cells, driven := some cells }) ∧
      exec (.extestTrain cells) s = .next (loaded { base 6 with cells := cells, driven := some cells }) ∧
      exec .clamp s = .next (loaded { base 3 with driven := some s.tap.cells, clamp := true, shift := [false] }) ∧
      exec .highz s = .next (loaded { base 4 with hiz := true, shift := [false] })) ∧
    (s.rstLow = false → exec (.extest cells) s = .next (bypassed 0) ∧ exec (.extestPulse cells) s = .next (bypassed 5) ∧ exec (.extestTrain cells) s = .next (bypassed 6) ∧
      exec .clamp s = .next (bypassed 3) ∧ exec .highz s = .next (bypassed 4)) ∧
    exec .idcode s = .next (loaded { base 1 with shift := (List.range 32).map fun i => (0x0A7100E3#32 ||| (s.fuse.rev.setWidth 32 <<< 28)).getLsbD i }) ∧
    exec (.samplePreload cells) s = .next (loaded { base 2 with cells := cells, shift := s.tap.cells }) ∧
    (seg.toNat < 26 → exec (.segSel seg) s = .next (loaded { base 0x10 with seg := seg.toNat })) ∧
    (26 ≤ seg.toNat → exec (.segSel seg) s = .fault .noSuchUnit) ∧
    exec .metCal s = .next { loaded (base 0x30) with met := { s.met with calMode := s.met.calMode || s.pagePresent .met 0 } } ∧
    (wrap = true → 10 ≤ s.tap.seg → ∃ o, exec (.stk1500 cells) s = .next { loaded (base 0x40) with out := s.out ++ [o] }) ∧
    (wrap = true → s.tap.seg < 10 → exec (.stk1500 cells) s = .next (loaded (base 0x40))) ∧
    (wrap = false → exec (.stk1500 cells) s = .next (bypassed 0x40)) ∧
    (prod = true → s.fuse.prodClosed = false → ∃ o, exec (.prodTest code) s = .next { loaded (base code.toNat) with out := s.out ++ [o] }) ∧
    (prod = true → s.fuse.prodClosed = true → exec (.prodTest code) s = .next (bypassed code.toNat) ∧ exec (.bypass code) s = .next (bypassed code.toNat)) ∧
    (prod = false → exec (.prodTest code) s = .next s) ∧
    (tapListed code.toNat = false → exec (.bypass code) s = .next (loaded { base code.toNat with shift := [false] })) ∧
    (tapListed code.toNat = true → s.tapActs code.toNat = true → exec (.bypass code) s = .next s) ∧
    (∀ wr, jtag = false → exec (.dbgAccess isReg a n wr) s = .next (bypassed 0x20)) ∧
    (jtag = true → ad % 4 = 0 → ∃ t, exec (.dbgAccess true a 4 none) s = .next t ∧ t.tap.shift = (List.range 32).map (bit (dbg.regValue jtagSess (ad % 2 ^ 28))) ∧ t.mem = s.mem ∧
      (ad % 2 ^ 28 ≠ tReg Off.TIME_NOW_LO → ad % 2 ^ 28 / 2 ^ 24 ≠ 2 → t.regs = s.regs)) ∧
    (∀ wr, jtag = true → ad % 4 ≠ 0 → exec (.dbgAccess true a n wr) s = .next dbg) ∧
    (jtag = true → ad = reg pgERR Off.ERR_CE_THRESH → bs.length = 4 → ∃ t, exec (.dbgAccess true a n (some bs)) s = .next t ∧ (t.rd (reg pgERR Off.ERR_CE_THRESH)).toNat = leOf bs ∧
      { t with regs := s.regs } = dbg ∧ ∀ r, r ≠ reg pgERR Off.ERR_CE_THRESH → t.rd r = s.rd r) ∧
    (jtag = true → inStores n.toNat → ∃ t, exec (.dbgAccess false a n none) s = .next t ∧
      t.tap.shift = ((List.range n.toNat).flatMap fun i => (List.range 8).map fun j => bit (s.dbgByte (ad + i)) j) ∧ { t with logs := s.logs, logOpen := s.logOpen, tap := s.tap } = s) ∧
    (jtag = true → ¬ inStores n.toNat → exec (.dbgAccess false a n none) s = .next dbg) ∧
    (jtag = true → inStores bs.length → ad + bs.length ≤ tileBase → ∃ t, exec (.dbgAccess false a n (some bs)) s = .next t ∧ t.regs = s.regs ∧
      ∀ q, t.byte q = if ad ≤ q ∧ q < ad + bs.length then bs.getD (q - ad) 0 else s.byte q) ∧
    (jtag = true → ¬ inStores bs.length → exec (.dbgAccess false a n (some bs)) s = .next dbg)
end

