-- ==== Sys2Proof/Laws/Map.lean ====
section
/-! SUPPORT. Laws of the sparse tables: read after write, and that writing keeps the canonical form. -/

namespace Sys2Proof.Machine

variable {α : Type}

theorem mapGet_mapDel_self (d : α) (m : List (Nat × α)) (k : Nat) : mapGet d (mapDel k m) k = d := by
  induction m with
  | nil => rfl
  | cons p m ih =>
    obtain ⟨j, v⟩ := p
    simp only [mapDel]
    split
    · exact ih
    · simp [mapGet, *]

theorem mapGet_mapDel_other (d : α) (m : List (Nat × α)) {j k : Nat} (h : j ≠ k) :
    mapGet d (mapDel k m) j = mapGet d m j := by
  induction m with
  | nil => rfl
  | cons p m ih =>
    obtain ⟨i, v⟩ := p
    simp only [mapDel]
    split
    · subst_vars; simp [mapGet, h, ih]
    · simp [mapGet, ih]

theorem mapGet_mapPut_self (d : α) (m : List (Nat × α)) (k : Nat) (v : α) : mapGet d (mapPut k v m) k = v := by
  induction m with
  | nil => simp [mapPut, mapGet]
  | cons p m ih =>
    obtain ⟨i, w⟩ := p
    simp only [mapPut]
    split
    · simp [mapGet]
    · split
      · simp [mapGet]
      · simp [mapGet, *]

theorem mapGet_mapPut_other (d : α) (m : List (Nat × α)) (v : α) {j k : Nat} (h : j ≠ k) :
    mapGet d (mapPut k v m) j = mapGet d m j := by
  induction m with
  | nil => simp [mapPut, mapGet, h]
  | cons p m ih =>
    obtain ⟨i, w⟩ := p
    simp only [mapPut]
    split
    · simp [mapGet, h]
    · split
      · subst_vars; simp [mapGet, h]
      · simp [mapGet, ih]

/-- A table read after a write gives the value written. -/
@[simp] theorem mapGet_mapSet_self [DecidableEq α] (d : α) (m : List (Nat × α)) (k : Nat) (v : α) :
    mapGet d (mapSet d m k v) k = v := by
  unfold mapSet
  split
  · simp [mapGet_mapDel_self, *]
  · exact mapGet_mapPut_self d m k v

/-- A write leaves every other key alone, whatever default each read takes. -/
theorem mapGet_mapSet_other [DecidableEq α] (d e : α) (m : List (Nat × α)) (v : α) {j k : Nat} (h : j ≠ k) :
    mapGet e (mapSet d m k v) j = mapGet e m j := by
  unfold mapSet
  split
  · exact mapGet_mapDel_other e m h
  · exact mapGet_mapPut_other e m v h

/-! ## Canonical form -/

theorem mapWfFrom_mono [DecidableEq α] (d : Nat → α) {lo lo' : Nat} (h : lo' ≤ lo) (m : List (Nat × α))
    (hw : mapWfFrom d lo m = true) : mapWfFrom d lo' m = true := by
  cases m with
  | nil => rfl
  | cons p m =>
    obtain ⟨k, v⟩ := p
    simp only [mapWfFrom, Bool.and_eq_true, decide_eq_true_eq] at hw ⊢
    exact ⟨⟨le_trans h hw.1.1, hw.1.2⟩, hw.2⟩

theorem mapWfFrom_mapDel [DecidableEq α] (d : Nat → α) (k : Nat) :
    ∀ (m : List (Nat × α)) (lo : Nat), mapWfFrom d lo m = true → mapWfFrom d lo (mapDel k m) = true
  | [], _, _ => rfl
  | (j, v) :: m, lo, hw => by
    simp only [mapWfFrom, Bool.and_eq_true, decide_eq_true_eq] at hw
    have ih := mapWfFrom_mapDel d k m (j + 1) hw.2
    simp only [mapDel]
    split
    · exact mapWfFrom_mono d (by omega) _ ih
    · simp [mapWfFrom, hw.1.1, ih]; simpa using hw.1.2

theorem mapWfFrom_mapPut [DecidableEq α] (d : Nat → α) (k : Nat) (v : α) (hv : v ≠ d k) :
    ∀ (m : List (Nat × α)) (lo : Nat), lo ≤ k → mapWfFrom d lo m = true → mapWfFrom d lo (mapPut k v m) = true
  | [], lo, hl, _ => by simp [mapPut, mapWfFrom, hl, hv]
  | (j, w) :: m, lo, hl, hw => by
    simp only [mapWfFrom, Bool.and_eq_true, decide_eq_true_eq] at hw
    simp only [mapPut]
    split
    · rename_i hkj
      have h1 : k + 1 ≤ j := hkj
      have h2 : ¬ w = d j := by simpa using hw.1.2
      simp [mapWfFrom, hl, hv, h1, h2, hw.2]
    · split
      · subst_vars
        simp [mapWfFrom, hl, hv, hw.2]
      · rename_i h1 h2
        have ih := mapWfFrom_mapPut d k v hv m (j + 1) (by omega) hw.2
        have h3 : ¬ w = d j := by simpa using hw.1.2
        simp [mapWfFrom, hw.1.1, h3, ih]

/-- Writing a key of a table in canonical form keeps the form. -/
theorem mapWf_mapSet [DecidableEq α] (d : Nat → α) (m : List (Nat × α)) (k : Nat) (v : α) (h : mapWf d m = true) :
    mapWf d (mapSet (d k) m k v) = true := by
  unfold mapSet
  split
  · exact mapWfFrom_mapDel d k m 0 h
  · rename_i hv
    exact mapWfFrom_mapPut d k v hv m 0 (Nat.zero_le _) h

/-- Dropping entries keeps the form. -/
theorem mapWfFrom_filter [DecidableEq α] (d : Nat → α) (p : Nat × α → Bool) :
    ∀ (m : List (Nat × α)) (lo : Nat), mapWfFrom d lo m = true → mapWfFrom d lo (m.filter p) = true
  | [], _, _ => rfl
  | (j, v) :: m, lo, hw => by
    simp only [mapWfFrom, Bool.and_eq_true, decide_eq_true_eq] at hw
    have ih := mapWfFrom_filter d p m (j + 1) hw.2
    simp only [List.filter_cons]
    split
    · have h3 : ¬ v = d j := by simpa using hw.1.2
      simp [mapWfFrom, hw.1.1, h3, ih]
    · exact mapWfFrom_mono d (by omega) _ ih

end Sys2Proof.Machine
end

