-- ==== Sys2Proof/Laws/State.lean ====
section
/-! SUPPORT. One law per field and update: the named updates leave every other field of the state alone, and each read after its write gives the value written. -/

namespace Sys2Proof.Machine

variable (s : State)

/-! ## wr -/

@[simp] theorem State.wr_pending (k : Nat) (v : Word) : (s.wr k v).pending = s.pending := rfl
@[simp] theorem State.wr_fresh (k : Nat) (v : Word) : (s.wr k v).fresh = s.fresh := rfl
@[simp] theorem State.wr_sregs (k : Nat) (v : Word) : (s.wr k v).sregs = s.sregs := rfl
@[simp] theorem State.wr_ctx (k : Nat) (v : Word) : (s.wr k v).ctx = s.ctx := rfl
@[simp] theorem State.wr_cores (k : Nat) (v : Word) : (s.wr k v).cores = s.cores := rfl
@[simp] theorem State.wr_mem (k : Nat) (v : Word) : (s.wr k v).mem = s.mem := rfl
@[simp] theorem State.wr_marks (k : Nat) (v : Word) : (s.wr k v).marks = s.marks := rfl
@[simp] theorem State.wr_grans (k : Nat) (v : Word) : (s.wr k v).grans = s.grans := rfl
@[simp] theorem State.wr_staged (k : Nat) (v : Word) : (s.wr k v).staged = s.staged := rfl
@[simp] theorem State.wr_active (k : Nat) (v : Word) : (s.wr k v).active = s.active := rfl
@[simp] theorem State.wr_sess (k : Nat) (v : Word) : (s.wr k v).sess = s.sess := rfl
@[simp] theorem State.wr_alerts (k : Nat) (v : Word) : (s.wr k v).alerts = s.alerts := rfl
@[simp] theorem State.wr_alertSeq (k : Nat) (v : Word) : (s.wr k v).alertSeq = s.alertSeq := rfl
@[simp] theorem State.wr_now (k : Nat) (v : Word) : (s.wr k v).now = s.now := rfl
@[simp] theorem State.wr_frac (k : Nat) (v : Word) : (s.wr k v).frac = s.frac := rfl
@[simp] theorem State.wr_ties (k : Nat) (v : Word) : (s.wr k v).ties = s.ties := rfl
@[simp] theorem State.wr_amax (k : Nat) (v : Word) : (s.wr k v).amax = s.amax := rfl
@[simp] theorem State.wr_out (k : Nat) (v : Word) : (s.wr k v).out = s.out := rfl
@[simp] theorem State.wr_fuse (k : Nat) (v : Word) : (s.wr k v).fuse = s.fuse := rfl
@[simp] theorem State.wr_scrub (k : Nat) (v : Word) : (s.wr k v).scrub = s.scrub := rfl
@[simp] theorem State.wr_moverRem (k : Nat) (v : Word) : (s.wr k v).moverRem = s.moverRem := rfl
@[simp] theorem State.wr_saves (k : Nat) (v : Word) : (s.wr k v).saves = s.saves := rfl
@[simp] theorem State.wr_lreqs (k : Nat) (v : Word) : (s.wr k v).lreqs = s.lreqs := rfl
@[simp] theorem State.wr_lresv (k : Nat) (v : Word) : (s.wr k v).lresv = s.lresv := rfl
@[simp] theorem State.wr_rails (k : Nat) (v : Word) : (s.wr k v).rails = s.rails := rfl
@[simp] theorem State.wr_thr (k : Nat) (v : Word) : (s.wr k v).thr = s.thr := rfl
@[simp] theorem State.wr_armed (k : Nat) (v : Word) : (s.wr k v).armed = s.armed := rfl
@[simp] theorem State.wr_ballastPc (k : Nat) (v : Word) : (s.wr k v).ballastPc = s.ballastPc := rfl
@[simp] theorem State.wr_ballastBill (k : Nat) (v : Word) : (s.wr k v).ballastBill = s.ballastBill := rfl
@[simp] theorem State.wr_time (k : Nat) (v : Word) : (s.wr k v).time = s.time := rfl
@[simp] theorem State.wr_timeouts (k : Nat) (v : Word) : (s.wr k v).timeouts = s.timeouts := rfl
@[simp] theorem State.wr_lateEnt (k : Nat) (v : Word) : (s.wr k v).lateEnt = s.lateEnt := rfl
@[simp] theorem State.wr_wc (k : Nat) (v : Word) : (s.wr k v).wc = s.wc := rfl
@[simp] theorem State.wr_wcFence (k : Nat) (v : Word) : (s.wr k v).wcFence = s.wcFence := rfl
@[simp] theorem State.wr_slowRem (k : Nat) (v : Word) : (s.wr k v).slowRem = s.slowRem := rfl
@[simp] theorem State.wr_patrol (k : Nat) (v : Word) : (s.wr k v).patrol = s.patrol := rfl
@[simp] theorem State.wr_sparesUsed (k : Nat) (v : Word) : (s.wr k v).sparesUsed = s.sparesUsed := rfl
@[simp] theorem State.wr_grps (k : Nat) (v : Word) : (s.wr k v).grps = s.grps := rfl
@[simp] theorem State.wr_sends (k : Nat) (v : Word) : (s.wr k v).sends = s.sends := rfl
@[simp] theorem State.wr_parcels (k : Nat) (v : Word) : (s.wr k v).parcels = s.parcels := rfl
@[simp] theorem State.wr_lands (k : Nat) (v : Word) : (s.wr k v).lands = s.lands := rfl
@[simp] theorem State.wr_steps (k : Nat) (v : Word) : (s.wr k v).steps = s.steps := rfl
@[simp] theorem State.wr_armRecs (k : Nat) (v : Word) : (s.wr k v).armRecs = s.armRecs := rfl
@[simp] theorem State.wr_landq (k : Nat) (v : Word) : (s.wr k v).landq = s.landq := rfl
@[simp] theorem State.wr_qps (k : Nat) (v : Word) : (s.wr k v).qps = s.qps := rfl
@[simp] theorem State.wr_rings (k : Nat) (v : Word) : (s.wr k v).rings = s.rings := rfl
@[simp] theorem State.wr_pfc (k : Nat) (v : Word) : (s.wr k v).pfc = s.pfc := rfl
@[simp] theorem State.wr_pfcNs (k : Nat) (v : Word) : (s.wr k v).pfcNs = s.pfcNs := rfl
@[simp] theorem State.wr_ethRem (k : Nat) (v : Word) : (s.wr k v).ethRem = s.ethRem := rfl
@[simp] theorem State.wr_frame (k : Nat) (v : Word) : (s.wr k v).frame = s.frame := rfl
@[simp] theorem State.wr_jobs (k : Nat) (v : Word) : (s.wr k v).jobs = s.jobs := rfl
@[simp] theorem State.wr_openCnt (k : Nat) (v : Word) : (s.wr k v).openCnt = s.openCnt := rfl
@[simp] theorem State.wr_nonces (k : Nat) (v : Word) : (s.wr k v).nonces = s.nonces := rfl
@[simp] theorem State.wr_logs (k : Nat) (v : Word) : (s.wr k v).logs = s.logs := rfl
@[simp] theorem State.wr_logOpen (k : Nat) (v : Word) : (s.wr k v).logOpen = s.logOpen := rfl
@[simp] theorem State.wr_slots (k : Nat) (v : Word) : (s.wr k v).slots = s.slots := rfl
@[simp] theorem State.wr_running (k : Nat) (v : Word) : (s.wr k v).running = s.running := rfl
@[simp] theorem State.wr_svnMin (k : Nat) (v : Word) : (s.wr k v).svnMin = s.svnMin := rfl
@[simp] theorem State.wr_fwBusy (k : Nat) (v : Word) : (s.wr k v).fwBusy = s.fwBusy := rfl
@[simp] theorem State.wr_att (k : Nat) (v : Word) : (s.wr k v).att = s.att := rfl
@[simp] theorem State.wr_nv (k : Nat) (v : Word) : (s.wr k v).nv = s.nv := rfl
@[simp] theorem State.wr_met (k : Nat) (v : Word) : (s.wr k v).met = s.met := rfl
@[simp] theorem State.wr_repairs (k : Nat) (v : Word) : (s.wr k v).repairs = s.repairs := rfl
@[simp] theorem State.wr_ueSeen (k : Nat) (v : Word) : (s.wr k v).ueSeen = s.ueSeen := rfl
@[simp] theorem State.wr_fatal (k : Nat) (v : Word) : (s.wr k v).fatal = s.fatal := rfl
@[simp] theorem State.wr_linkRetry (k : Nat) (v : Word) : (s.wr k v).linkRetry = s.linkRetry := rfl
@[simp] theorem State.wr_ceNew (k : Nat) (v : Word) : (s.wr k v).ceNew = s.ceNew := rfl
@[simp] theorem State.wr_warm (k : Nat) (v : Word) : (s.wr k v).warm = s.warm := rfl
@[simp] theorem State.wr_powered (k : Nat) (v : Word) : (s.wr k v).powered = s.powered := rfl
@[simp] theorem State.wr_rstLow (k : Nat) (v : Word) : (s.wr k v).rstLow = s.rstLow := rfl
@[simp] theorem State.wr_stagedDies (k : Nat) (v : Word) : (s.wr k v).stagedDies = s.stagedDies := rfl
@[simp] theorem State.wr_warmStart (k : Nat) (v : Word) : (s.wr k v).warmStart = s.warmStart := rfl
@[simp] theorem State.wr_hold (k : Nat) (v : Word) : (s.wr k v).hold = s.hold := rfl
@[simp] theorem State.wr_temps (k : Nat) (v : Word) : (s.wr k v).temps = s.temps := rfl
@[simp] theorem State.wr_trips (k : Nat) (v : Word) : (s.wr k v).trips = s.trips := rfl
@[simp] theorem State.wr_pmbMiss (k : Nat) (v : Word) : (s.wr k v).pmbMiss = s.pmbMiss := rfl
@[simp] theorem State.wr_avsAt (k : Nat) (v : Word) : (s.wr k v).avsAt = s.avsAt := rfl
@[simp] theorem State.wr_tap (k : Nat) (v : Word) : (s.wr k v).tap = s.tap := rfl
@[simp] theorem State.wr_tags (k : Nat) (v : Word) : (s.wr k v).tags = s.tags := rfl
@[simp] theorem State.wr_slowPasses (k : Nat) (v : Word) : (s.wr k v).slowPasses = s.slowPasses := rfl
@[simp] theorem State.wr_deferred (k : Nat) (v : Word) : (s.wr k v).deferred = s.deferred := rfl
@[simp] theorem State.wr_heldStatus (k : Nat) (v : Word) : (s.wr k v).heldStatus = s.heldStatus := rfl
@[simp] theorem State.wr_heldAlert (k : Nat) (v : Word) : (s.wr k v).heldAlert = s.heldAlert := rfl

/-! ## wr64 -/

@[simp] theorem State.wr64_pending (k : Nat) (v : DWord) : (s.wr64 k v).pending = s.pending := rfl
@[simp] theorem State.wr64_fresh (k : Nat) (v : DWord) : (s.wr64 k v).fresh = s.fresh := rfl
@[simp] theorem State.wr64_sregs (k : Nat) (v : DWord) : (s.wr64 k v).sregs = s.sregs := rfl
@[simp] theorem State.wr64_ctx (k : Nat) (v : DWord) : (s.wr64 k v).ctx = s.ctx := rfl
@[simp] theorem State.wr64_cores (k : Nat) (v : DWord) : (s.wr64 k v).cores = s.cores := rfl
@[simp] theorem State.wr64_mem (k : Nat) (v : DWord) : (s.wr64 k v).mem = s.mem := rfl
@[simp] theorem State.wr64_marks (k : Nat) (v : DWord) : (s.wr64 k v).marks = s.marks := rfl
@[simp] theorem State.wr64_grans (k : Nat) (v : DWord) : (s.wr64 k v).grans = s.grans := rfl
@[simp] theorem State.wr64_staged (k : Nat) (v : DWord) : (s.wr64 k v).staged = s.staged := rfl
@[simp] theorem State.wr64_active (k : Nat) (v : DWord) : (s.wr64 k v).active = s.active := rfl
@[simp] theorem State.wr64_sess (k : Nat) (v : DWord) : (s.wr64 k v).sess = s.sess := rfl
@[simp] theorem State.wr64_alerts (k : Nat) (v : DWord) : (s.wr64 k v).alerts = s.alerts := rfl
@[simp] theorem State.wr64_alertSeq (k : Nat) (v : DWord) : (s.wr64 k v).alertSeq = s.alertSeq := rfl
@[simp] theorem State.wr64_now (k : Nat) (v : DWord) : (s.wr64 k v).now = s.now := rfl
@[simp] theorem State.wr64_frac (k : Nat) (v : DWord) : (s.wr64 k v).frac = s.frac := rfl
@[simp] theorem State.wr64_ties (k : Nat) (v : DWord) : (s.wr64 k v).ties = s.ties := rfl
@[simp] theorem State.wr64_amax (k : Nat) (v : DWord) : (s.wr64 k v).amax = s.amax := rfl
@[simp] theorem State.wr64_out (k : Nat) (v : DWord) : (s.wr64 k v).out = s.out := rfl
@[simp] theorem State.wr64_fuse (k : Nat) (v : DWord) : (s.wr64 k v).fuse = s.fuse := rfl
@[simp] theorem State.wr64_scrub (k : Nat) (v : DWord) : (s.wr64 k v).scrub = s.scrub := rfl
@[simp] theorem State.wr64_moverRem (k : Nat) (v : DWord) : (s.wr64 k v).moverRem = s.moverRem := rfl
@[simp] theorem State.wr64_saves (k : Nat) (v : DWord) : (s.wr64 k v).saves = s.saves := rfl
@[simp] theorem State.wr64_lreqs (k : Nat) (v : DWord) : (s.wr64 k v).lreqs = s.lreqs := rfl
@[simp] theorem State.wr64_lresv (k : Nat) (v : DWord) : (s.wr64 k v).lresv = s.lresv := rfl
@[simp] theorem State.wr64_rails (k : Nat) (v : DWord) : (s.wr64 k v).rails = s.rails := rfl
@[simp] theorem State.wr64_thr (k : Nat) (v : DWord) : (s.wr64 k v).thr = s.thr := rfl
@[simp] theorem State.wr64_armed (k : Nat) (v : DWord) : (s.wr64 k v).armed = s.armed := rfl
@[simp] theorem State.wr64_ballastPc (k : Nat) (v : DWord) : (s.wr64 k v).ballastPc = s.ballastPc := rfl
@[simp] theorem State.wr64_ballastBill (k : Nat) (v : DWord) : (s.wr64 k v).ballastBill = s.ballastBill := rfl
@[simp] theorem State.wr64_time (k : Nat) (v : DWord) : (s.wr64 k v).time = s.time := rfl
@[simp] theorem State.wr64_timeouts (k : Nat) (v : DWord) : (s.wr64 k v).timeouts = s.timeouts := rfl
@[simp] theorem State.wr64_lateEnt (k : Nat) (v : DWord) : (s.wr64 k v).lateEnt = s.lateEnt := rfl
@[simp] theorem State.wr64_wc (k : Nat) (v : DWord) : (s.wr64 k v).wc = s.wc := rfl
@[simp] theorem State.wr64_wcFence (k : Nat) (v : DWord) : (s.wr64 k v).wcFence = s.wcFence := rfl
@[simp] theorem State.wr64_slowRem (k : Nat) (v : DWord) : (s.wr64 k v).slowRem = s.slowRem := rfl
@[simp] theorem State.wr64_patrol (k : Nat) (v : DWord) : (s.wr64 k v).patrol = s.patrol := rfl
@[simp] theorem State.wr64_sparesUsed (k : Nat) (v : DWord) : (s.wr64 k v).sparesUsed = s.sparesUsed := rfl
@[simp] theorem State.wr64_grps (k : Nat) (v : DWord) : (s.wr64 k v).grps = s.grps := rfl
@[simp] theorem State.wr64_sends (k : Nat) (v : DWord) : (s.wr64 k v).sends = s.sends := rfl
@[simp] theorem State.wr64_parcels (k : Nat) (v : DWord) : (s.wr64 k v).parcels = s.parcels := rfl
@[simp] theorem State.wr64_lands (k : Nat) (v : DWord) : (s.wr64 k v).lands = s.lands := rfl
@[simp] theorem State.wr64_steps (k : Nat) (v : DWord) : (s.wr64 k v).steps = s.steps := rfl
@[simp] theorem State.wr64_armRecs (k : Nat) (v : DWord) : (s.wr64 k v).armRecs = s.armRecs := rfl
@[simp] theorem State.wr64_landq (k : Nat) (v : DWord) : (s.wr64 k v).landq = s.landq := rfl
@[simp] theorem State.wr64_qps (k : Nat) (v : DWord) : (s.wr64 k v).qps = s.qps := rfl
@[simp] theorem State.wr64_rings (k : Nat) (v : DWord) : (s.wr64 k v).rings = s.rings := rfl
@[simp] theorem State.wr64_pfc (k : Nat) (v : DWord) : (s.wr64 k v).pfc = s.pfc := rfl
@[simp] theorem State.wr64_pfcNs (k : Nat) (v : DWord) : (s.wr64 k v).pfcNs = s.pfcNs := rfl
@[simp] theorem State.wr64_ethRem (k : Nat) (v : DWord) : (s.wr64 k v).ethRem = s.ethRem := rfl
@[simp] theorem State.wr64_frame (k : Nat) (v : DWord) : (s.wr64 k v).frame = s.frame := rfl
@[simp] theorem State.wr64_jobs (k : Nat) (v : DWord) : (s.wr64 k v).jobs = s.jobs := rfl
@[simp] theorem State.wr64_openCnt (k : Nat) (v : DWord) : (s.wr64 k v).openCnt = s.openCnt := rfl
@[simp] theorem State.wr64_nonces (k : Nat) (v : DWord) : (s.wr64 k v).nonces = s.nonces := rfl
@[simp] theorem State.wr64_logs (k : Nat) (v : DWord) : (s.wr64 k v).logs = s.logs := rfl
@[simp] theorem State.wr64_logOpen (k : Nat) (v : DWord) : (s.wr64 k v).logOpen = s.logOpen := rfl
@[simp] theorem State.wr64_slots (k : Nat) (v : DWord) : (s.wr64 k v).slots = s.slots := rfl
@[simp] theorem State.wr64_running (k : Nat) (v : DWord) : (s.wr64 k v).running = s.running := rfl
@[simp] theorem State.wr64_svnMin (k : Nat) (v : DWord) : (s.wr64 k v).svnMin = s.svnMin := rfl
@[simp] theorem State.wr64_fwBusy (k : Nat) (v : DWord) : (s.wr64 k v).fwBusy = s.fwBusy := rfl
@[simp] theorem State.wr64_att (k : Nat) (v : DWord) : (s.wr64 k v).att = s.att := rfl
@[simp] theorem State.wr64_nv (k : Nat) (v : DWord) : (s.wr64 k v).nv = s.nv := rfl
@[simp] theorem State.wr64_met (k : Nat) (v : DWord) : (s.wr64 k v).met = s.met := rfl
@[simp] theorem State.wr64_repairs (k : Nat) (v : DWord) : (s.wr64 k v).repairs = s.repairs := rfl
@[simp] theorem State.wr64_ueSeen (k : Nat) (v : DWord) : (s.wr64 k v).ueSeen = s.ueSeen := rfl
@[simp] theorem State.wr64_fatal (k : Nat) (v : DWord) : (s.wr64 k v).fatal = s.fatal := rfl
@[simp] theorem State.wr64_linkRetry (k : Nat) (v : DWord) : (s.wr64 k v).linkRetry = s.linkRetry := rfl
@[simp] theorem State.wr64_ceNew (k : Nat) (v : DWord) : (s.wr64 k v).ceNew = s.ceNew := rfl
@[simp] theorem State.wr64_warm (k : Nat) (v : DWord) : (s.wr64 k v).warm = s.warm := rfl
@[simp] theorem State.wr64_powered (k : Nat) (v : DWord) : (s.wr64 k v).powered = s.powered := rfl
@[simp] theorem State.wr64_rstLow (k : Nat) (v : DWord) : (s.wr64 k v).rstLow = s.rstLow := rfl
@[simp] theorem State.wr64_stagedDies (k : Nat) (v : DWord) : (s.wr64 k v).stagedDies = s.stagedDies := rfl
@[simp] theorem State.wr64_warmStart (k : Nat) (v : DWord) : (s.wr64 k v).warmStart = s.warmStart := rfl
@[simp] theorem State.wr64_hold (k : Nat) (v : DWord) : (s.wr64 k v).hold = s.hold := rfl
@[simp] theorem State.wr64_temps (k : Nat) (v : DWord) : (s.wr64 k v).temps = s.temps := rfl
@[simp] theorem State.wr64_trips (k : Nat) (v : DWord) : (s.wr64 k v).trips = s.trips := rfl
@[simp] theorem State.wr64_pmbMiss (k : Nat) (v : DWord) : (s.wr64 k v).pmbMiss = s.pmbMiss := rfl
@[simp] theorem State.wr64_avsAt (k : Nat) (v : DWord) : (s.wr64 k v).avsAt = s.avsAt := rfl
@[simp] theorem State.wr64_tap (k : Nat) (v : DWord) : (s.wr64 k v).tap = s.tap := rfl
@[simp] theorem State.wr64_tags (k : Nat) (v : DWord) : (s.wr64 k v).tags = s.tags := rfl
@[simp] theorem State.wr64_slowPasses (k : Nat) (v : DWord) : (s.wr64 k v).slowPasses = s.slowPasses := rfl
@[simp] theorem State.wr64_deferred (k : Nat) (v : DWord) : (s.wr64 k v).deferred = s.deferred := rfl
@[simp] theorem State.wr64_heldStatus (k : Nat) (v : DWord) : (s.wr64 k v).heldStatus = s.heldStatus := rfl
@[simp] theorem State.wr64_heldAlert (k : Nat) (v : DWord) : (s.wr64 k v).heldAlert = s.heldAlert := rfl

/-! ## inc -/

@[simp] theorem State.inc_pending (k n : Nat) : (s.inc k n).pending = s.pending := rfl
@[simp] theorem State.inc_fresh (k n : Nat) : (s.inc k n).fresh = s.fresh := rfl
@[simp] theorem State.inc_sregs (k n : Nat) : (s.inc k n).sregs = s.sregs := rfl
@[simp] theorem State.inc_ctx (k n : Nat) : (s.inc k n).ctx = s.ctx := rfl
@[simp] theorem State.inc_cores (k n : Nat) : (s.inc k n).cores = s.cores := rfl
@[simp] theorem State.inc_mem (k n : Nat) : (s.inc k n).mem = s.mem := rfl
@[simp] theorem State.inc_marks (k n : Nat) : (s.inc k n).marks = s.marks := rfl
@[simp] theorem State.inc_grans (k n : Nat) : (s.inc k n).grans = s.grans := rfl
@[simp] theorem State.inc_staged (k n : Nat) : (s.inc k n).staged = s.staged := rfl
@[simp] theorem State.inc_active (k n : Nat) : (s.inc k n).active = s.active := rfl
@[simp] theorem State.inc_sess (k n : Nat) : (s.inc k n).sess = s.sess := rfl
@[simp] theorem State.inc_alerts (k n : Nat) : (s.inc k n).alerts = s.alerts := rfl
@[simp] theorem State.inc_alertSeq (k n : Nat) : (s.inc k n).alertSeq = s.alertSeq := rfl
@[simp] theorem State.inc_now (k n : Nat) : (s.inc k n).now = s.now := rfl
@[simp] theorem State.inc_frac (k n : Nat) : (s.inc k n).frac = s.frac := rfl
@[simp] theorem State.inc_ties (k n : Nat) : (s.inc k n).ties = s.ties := rfl
@[simp] theorem State.inc_amax (k n : Nat) : (s.inc k n).amax = s.amax := rfl
@[simp] theorem State.inc_out (k n : Nat) : (s.inc k n).out = s.out := rfl
@[simp] theorem State.inc_fuse (k n : Nat) : (s.inc k n).fuse = s.fuse := rfl
@[simp] theorem State.inc_scrub (k n : Nat) : (s.inc k n).scrub = s.scrub := rfl
@[simp] theorem State.inc_moverRem (k n : Nat) : (s.inc k n).moverRem = s.moverRem := rfl
@[simp] theorem State.inc_saves (k n : Nat) : (s.inc k n).saves = s.saves := rfl
@[simp] theorem State.inc_lreqs (k n : Nat) : (s.inc k n).lreqs = s.lreqs := rfl
@[simp] theorem State.inc_lresv (k n : Nat) : (s.inc k n).lresv = s.lresv := rfl
@[simp] theorem State.inc_rails (k n : Nat) : (s.inc k n).rails = s.rails := rfl
@[simp] theorem State.inc_thr (k n : Nat) : (s.inc k n).thr = s.thr := rfl
@[simp] theorem State.inc_armed (k n : Nat) : (s.inc k n).armed = s.armed := rfl
@[simp] theorem State.inc_ballastPc (k n : Nat) : (s.inc k n).ballastPc = s.ballastPc := rfl
@[simp] theorem State.inc_ballastBill (k n : Nat) : (s.inc k n).ballastBill = s.ballastBill := rfl
@[simp] theorem State.inc_time (k n : Nat) : (s.inc k n).time = s.time := rfl
@[simp] theorem State.inc_timeouts (k n : Nat) : (s.inc k n).timeouts = s.timeouts := rfl
@[simp] theorem State.inc_lateEnt (k n : Nat) : (s.inc k n).lateEnt = s.lateEnt := rfl
@[simp] theorem State.inc_wc (k n : Nat) : (s.inc k n).wc = s.wc := rfl
@[simp] theorem State.inc_wcFence (k n : Nat) : (s.inc k n).wcFence = s.wcFence := rfl
@[simp] theorem State.inc_slowRem (k n : Nat) : (s.inc k n).slowRem = s.slowRem := rfl
@[simp] theorem State.inc_patrol (k n : Nat) : (s.inc k n).patrol = s.patrol := rfl
@[simp] theorem State.inc_sparesUsed (k n : Nat) : (s.inc k n).sparesUsed = s.sparesUsed := rfl
@[simp] theorem State.inc_grps (k n : Nat) : (s.inc k n).grps = s.grps := rfl
@[simp] theorem State.inc_sends (k n : Nat) : (s.inc k n).sends = s.sends := rfl
@[simp] theorem State.inc_parcels (k n : Nat) : (s.inc k n).parcels = s.parcels := rfl
@[simp] theorem State.inc_lands (k n : Nat) : (s.inc k n).lands = s.lands := rfl
@[simp] theorem State.inc_steps (k n : Nat) : (s.inc k n).steps = s.steps := rfl
@[simp] theorem State.inc_armRecs (k n : Nat) : (s.inc k n).armRecs = s.armRecs := rfl
@[simp] theorem State.inc_landq (k n : Nat) : (s.inc k n).landq = s.landq := rfl
@[simp] theorem State.inc_qps (k n : Nat) : (s.inc k n).qps = s.qps := rfl
@[simp] theorem State.inc_rings (k n : Nat) : (s.inc k n).rings = s.rings := rfl
@[simp] theorem State.inc_pfc (k n : Nat) : (s.inc k n).pfc = s.pfc := rfl
@[simp] theorem State.inc_pfcNs (k n : Nat) : (s.inc k n).pfcNs = s.pfcNs := rfl
@[simp] theorem State.inc_ethRem (k n : Nat) : (s.inc k n).ethRem = s.ethRem := rfl
@[simp] theorem State.inc_frame (k n : Nat) : (s.inc k n).frame = s.frame := rfl
@[simp] theorem State.inc_jobs (k n : Nat) : (s.inc k n).jobs = s.jobs := rfl
@[simp] theorem State.inc_openCnt (k n : Nat) : (s.inc k n).openCnt = s.openCnt := rfl
@[simp] theorem State.inc_nonces (k n : Nat) : (s.inc k n).nonces = s.nonces := rfl
@[simp] theorem State.inc_logs (k n : Nat) : (s.inc k n).logs = s.logs := rfl
@[simp] theorem State.inc_logOpen (k n : Nat) : (s.inc k n).logOpen = s.logOpen := rfl
@[simp] theorem State.inc_slots (k n : Nat) : (s.inc k n).slots = s.slots := rfl
@[simp] theorem State.inc_running (k n : Nat) : (s.inc k n).running = s.running := rfl
@[simp] theorem State.inc_svnMin (k n : Nat) : (s.inc k n).svnMin = s.svnMin := rfl
@[simp] theorem State.inc_fwBusy (k n : Nat) : (s.inc k n).fwBusy = s.fwBusy := rfl
@[simp] theorem State.inc_att (k n : Nat) : (s.inc k n).att = s.att := rfl
@[simp] theorem State.inc_nv (k n : Nat) : (s.inc k n).nv = s.nv := rfl
@[simp] theorem State.inc_met (k n : Nat) : (s.inc k n).met = s.met := rfl
@[simp] theorem State.inc_repairs (k n : Nat) : (s.inc k n).repairs = s.repairs := rfl
@[simp] theorem State.inc_ueSeen (k n : Nat) : (s.inc k n).ueSeen = s.ueSeen := rfl
@[simp] theorem State.inc_fatal (k n : Nat) : (s.inc k n).fatal = s.fatal := rfl
@[simp] theorem State.inc_linkRetry (k n : Nat) : (s.inc k n).linkRetry = s.linkRetry := rfl
@[simp] theorem State.inc_ceNew (k n : Nat) : (s.inc k n).ceNew = s.ceNew := rfl
@[simp] theorem State.inc_warm (k n : Nat) : (s.inc k n).warm = s.warm := rfl
@[simp] theorem State.inc_powered (k n : Nat) : (s.inc k n).powered = s.powered := rfl
@[simp] theorem State.inc_rstLow (k n : Nat) : (s.inc k n).rstLow = s.rstLow := rfl
@[simp] theorem State.inc_stagedDies (k n : Nat) : (s.inc k n).stagedDies = s.stagedDies := rfl
@[simp] theorem State.inc_warmStart (k n : Nat) : (s.inc k n).warmStart = s.warmStart := rfl
@[simp] theorem State.inc_hold (k n : Nat) : (s.inc k n).hold = s.hold := rfl
@[simp] theorem State.inc_temps (k n : Nat) : (s.inc k n).temps = s.temps := rfl
@[simp] theorem State.inc_trips (k n : Nat) : (s.inc k n).trips = s.trips := rfl
@[simp] theorem State.inc_pmbMiss (k n : Nat) : (s.inc k n).pmbMiss = s.pmbMiss := rfl
@[simp] theorem State.inc_avsAt (k n : Nat) : (s.inc k n).avsAt = s.avsAt := rfl
@[simp] theorem State.inc_tap (k n : Nat) : (s.inc k n).tap = s.tap := rfl
@[simp] theorem State.inc_tags (k n : Nat) : (s.inc k n).tags = s.tags := rfl
@[simp] theorem State.inc_slowPasses (k n : Nat) : (s.inc k n).slowPasses = s.slowPasses := rfl
@[simp] theorem State.inc_deferred (k n : Nat) : (s.inc k n).deferred = s.deferred := rfl
@[simp] theorem State.inc_heldStatus (k n : Nat) : (s.inc k n).heldStatus = s.heldStatus := rfl
@[simp] theorem State.inc_heldAlert (k n : Nat) : (s.inc k n).heldAlert = s.heldAlert := rfl

/-! ## wrBit -/

@[simp] theorem State.wrBit_pending (k i : Nat) (b : Bool) : (s.wrBit k i b).pending = s.pending := rfl
@[simp] theorem State.wrBit_fresh (k i : Nat) (b : Bool) : (s.wrBit k i b).fresh = s.fresh := rfl
@[simp] theorem State.wrBit_sregs (k i : Nat) (b : Bool) : (s.wrBit k i b).sregs = s.sregs := rfl
@[simp] theorem State.wrBit_ctx (k i : Nat) (b : Bool) : (s.wrBit k i b).ctx = s.ctx := rfl
@[simp] theorem State.wrBit_cores (k i : Nat) (b : Bool) : (s.wrBit k i b).cores = s.cores := rfl
@[simp] theorem State.wrBit_mem (k i : Nat) (b : Bool) : (s.wrBit k i b).mem = s.mem := rfl
@[simp] theorem State.wrBit_marks (k i : Nat) (b : Bool) : (s.wrBit k i b).marks = s.marks := rfl
@[simp] theorem State.wrBit_grans (k i : Nat) (b : Bool) : (s.wrBit k i b).grans = s.grans := rfl
@[simp] theorem State.wrBit_staged (k i : Nat) (b : Bool) : (s.wrBit k i b).staged = s.staged := rfl
@[simp] theorem State.wrBit_active (k i : Nat) (b : Bool) : (s.wrBit k i b).active = s.active := rfl
@[simp] theorem State.wrBit_sess (k i : Nat) (b : Bool) : (s.wrBit k i b).sess = s.sess := rfl
@[simp] theorem State.wrBit_alerts (k i : Nat) (b : Bool) : (s.wrBit k i b).alerts = s.alerts := rfl
@[simp] theorem State.wrBit_alertSeq (k i : Nat) (b : Bool) : (s.wrBit k i b).alertSeq = s.alertSeq := rfl
@[simp] theorem State.wrBit_now (k i : Nat) (b : Bool) : (s.wrBit k i b).now = s.now := rfl
@[simp] theorem State.wrBit_frac (k i : Nat) (b : Bool) : (s.wrBit k i b).frac = s.frac := rfl
@[simp] theorem State.wrBit_ties (k i : Nat) (b : Bool) : (s.wrBit k i b).ties = s.ties := rfl
@[simp] theorem State.wrBit_amax (k i : Nat) (b : Bool) : (s.wrBit k i b).amax = s.amax := rfl
@[simp] theorem State.wrBit_out (k i : Nat) (b : Bool) : (s.wrBit k i b).out = s.out := rfl
@[simp] theorem State.wrBit_fuse (k i : Nat) (b : Bool) : (s.wrBit k i b).fuse = s.fuse := rfl
@[simp] theorem State.wrBit_scrub (k i : Nat) (b : Bool) : (s.wrBit k i b).scrub = s.scrub := rfl
@[simp] theorem State.wrBit_moverRem (k i : Nat) (b : Bool) : (s.wrBit k i b).moverRem = s.moverRem := rfl
@[simp] theorem State.wrBit_saves (k i : Nat) (b : Bool) : (s.wrBit k i b).saves = s.saves := rfl
@[simp] theorem State.wrBit_lreqs (k i : Nat) (b : Bool) : (s.wrBit k i b).lreqs = s.lreqs := rfl
@[simp] theorem State.wrBit_lresv (k i : Nat) (b : Bool) : (s.wrBit k i b).lresv = s.lresv := rfl
@[simp] theorem State.wrBit_rails (k i : Nat) (b : Bool) : (s.wrBit k i b).rails = s.rails := rfl
@[simp] theorem State.wrBit_thr (k i : Nat) (b : Bool) : (s.wrBit k i b).thr = s.thr := rfl
@[simp] theorem State.wrBit_armed (k i : Nat) (b : Bool) : (s.wrBit k i b).armed = s.armed := rfl
@[simp] theorem State.wrBit_ballastPc (k i : Nat) (b : Bool) : (s.wrBit k i b).ballastPc = s.ballastPc := rfl
@[simp] theorem State.wrBit_ballastBill (k i : Nat) (b : Bool) : (s.wrBit k i b).ballastBill = s.ballastBill := rfl
@[simp] theorem State.wrBit_time (k i : Nat) (b : Bool) : (s.wrBit k i b).time = s.time := rfl
@[simp] theorem State.wrBit_timeouts (k i : Nat) (b : Bool) : (s.wrBit k i b).timeouts = s.timeouts := rfl
@[simp] theorem State.wrBit_lateEnt (k i : Nat) (b : Bool) : (s.wrBit k i b).lateEnt = s.lateEnt := rfl
@[simp] theorem State.wrBit_wc (k i : Nat) (b : Bool) : (s.wrBit k i b).wc = s.wc := rfl
@[simp] theorem State.wrBit_wcFence (k i : Nat) (b : Bool) : (s.wrBit k i b).wcFence = s.wcFence := rfl
@[simp] theorem State.wrBit_slowRem (k i : Nat) (b : Bool) : (s.wrBit k i b).slowRem = s.slowRem := rfl
@[simp] theorem State.wrBit_patrol (k i : Nat) (b : Bool) : (s.wrBit k i b).patrol = s.patrol := rfl
@[simp] theorem State.wrBit_sparesUsed (k i : Nat) (b : Bool) : (s.wrBit k i b).sparesUsed = s.sparesUsed := rfl
@[simp] theorem State.wrBit_grps (k i : Nat) (b : Bool) : (s.wrBit k i b).grps = s.grps := rfl
@[simp] theorem State.wrBit_sends (k i : Nat) (b : Bool) : (s.wrBit k i b).sends = s.sends := rfl
@[simp] theorem State.wrBit_parcels (k i : Nat) (b : Bool) : (s.wrBit k i b).parcels = s.parcels := rfl
@[simp] theorem State.wrBit_lands (k i : Nat) (b : Bool) : (s.wrBit k i b).lands = s.lands := rfl
@[simp] theorem State.wrBit_steps (k i : Nat) (b : Bool) : (s.wrBit k i b).steps = s.steps := rfl
@[simp] theorem State.wrBit_armRecs (k i : Nat) (b : Bool) : (s.wrBit k i b).armRecs = s.armRecs := rfl
@[simp] theorem State.wrBit_landq (k i : Nat) (b : Bool) : (s.wrBit k i b).landq = s.landq := rfl
@[simp] theorem State.wrBit_qps (k i : Nat) (b : Bool) : (s.wrBit k i b).qps = s.qps := rfl
@[simp] theorem State.wrBit_rings (k i : Nat) (b : Bool) : (s.wrBit k i b).rings = s.rings := rfl
@[simp] theorem State.wrBit_pfc (k i : Nat) (b : Bool) : (s.wrBit k i b).pfc = s.pfc := rfl
@[simp] theorem State.wrBit_pfcNs (k i : Nat) (b : Bool) : (s.wrBit k i b).pfcNs = s.pfcNs := rfl
@[simp] theorem State.wrBit_ethRem (k i : Nat) (b : Bool) : (s.wrBit k i b).ethRem = s.ethRem := rfl
@[simp] theorem State.wrBit_frame (k i : Nat) (b : Bool) : (s.wrBit k i b).frame = s.frame := rfl
@[simp] theorem State.wrBit_jobs (k i : Nat) (b : Bool) : (s.wrBit k i b).jobs = s.jobs := rfl
@[simp] theorem State.wrBit_openCnt (k i : Nat) (b : Bool) : (s.wrBit k i b).openCnt = s.openCnt := rfl
@[simp] theorem State.wrBit_nonces (k i : Nat) (b : Bool) : (s.wrBit k i b).nonces = s.nonces := rfl
@[simp] theorem State.wrBit_logs (k i : Nat) (b : Bool) : (s.wrBit k i b).logs = s.logs := rfl
@[simp] theorem State.wrBit_logOpen (k i : Nat) (b : Bool) : (s.wrBit k i b).logOpen = s.logOpen := rfl
@[simp] theorem State.wrBit_slots (k i : Nat) (b : Bool) : (s.wrBit k i b).slots = s.slots := rfl
@[simp] theorem State.wrBit_running (k i : Nat) (b : Bool) : (s.wrBit k i b).running = s.running := rfl
@[simp] theorem State.wrBit_svnMin (k i : Nat) (b : Bool) : (s.wrBit k i b).svnMin = s.svnMin := rfl
@[simp] theorem State.wrBit_fwBusy (k i : Nat) (b : Bool) : (s.wrBit k i b).fwBusy = s.fwBusy := rfl
@[simp] theorem State.wrBit_att (k i : Nat) (b : Bool) : (s.wrBit k i b).att = s.att := rfl
@[simp] theorem State.wrBit_nv (k i : Nat) (b : Bool) : (s.wrBit k i b).nv = s.nv := rfl
@[simp] theorem State.wrBit_met (k i : Nat) (b : Bool) : (s.wrBit k i b).met = s.met := rfl
@[simp] theorem State.wrBit_repairs (k i : Nat) (b : Bool) : (s.wrBit k i b).repairs = s.repairs := rfl
@[simp] theorem State.wrBit_ueSeen (k i : Nat) (b : Bool) : (s.wrBit k i b).ueSeen = s.ueSeen := rfl
@[simp] theorem State.wrBit_fatal (k i : Nat) (b : Bool) : (s.wrBit k i b).fatal = s.fatal := rfl
@[simp] theorem State.wrBit_linkRetry (k i : Nat) (b : Bool) : (s.wrBit k i b).linkRetry = s.linkRetry := rfl
@[simp] theorem State.wrBit_ceNew (k i : Nat) (b : Bool) : (s.wrBit k i b).ceNew = s.ceNew := rfl
@[simp] theorem State.wrBit_warm (k i : Nat) (b : Bool) : (s.wrBit k i b).warm = s.warm := rfl
@[simp] theorem State.wrBit_powered (k i : Nat) (b : Bool) : (s.wrBit k i b).powered = s.powered := rfl
@[simp] theorem State.wrBit_rstLow (k i : Nat) (b : Bool) : (s.wrBit k i b).rstLow = s.rstLow := rfl
@[simp] theorem State.wrBit_stagedDies (k i : Nat) (b : Bool) : (s.wrBit k i b).stagedDies = s.stagedDies := rfl
@[simp] theorem State.wrBit_warmStart (k i : Nat) (b : Bool) : (s.wrBit k i b).warmStart = s.warmStart := rfl
@[simp] theorem State.wrBit_hold (k i : Nat) (b : Bool) : (s.wrBit k i b).hold = s.hold := rfl
@[simp] theorem State.wrBit_temps (k i : Nat) (b : Bool) : (s.wrBit k i b).temps = s.temps := rfl
@[simp] theorem State.wrBit_trips (k i : Nat) (b : Bool) : (s.wrBit k i b).trips = s.trips := rfl
@[simp] theorem State.wrBit_pmbMiss (k i : Nat) (b : Bool) : (s.wrBit k i b).pmbMiss = s.pmbMiss := rfl
@[simp] theorem State.wrBit_avsAt (k i : Nat) (b : Bool) : (s.wrBit k i b).avsAt = s.avsAt := rfl
@[simp] theorem State.wrBit_tap (k i : Nat) (b : Bool) : (s.wrBit k i b).tap = s.tap := rfl
@[simp] theorem State.wrBit_tags (k i : Nat) (b : Bool) : (s.wrBit k i b).tags = s.tags := rfl
@[simp] theorem State.wrBit_slowPasses (k i : Nat) (b : Bool) : (s.wrBit k i b).slowPasses = s.slowPasses := rfl
@[simp] theorem State.wrBit_deferred (k i : Nat) (b : Bool) : (s.wrBit k i b).deferred = s.deferred := rfl
@[simp] theorem State.wrBit_heldStatus (k i : Nat) (b : Bool) : (s.wrBit k i b).heldStatus = s.heldStatus := rfl
@[simp] theorem State.wrBit_heldAlert (k i : Nat) (b : Bool) : (s.wrBit k i b).heldAlert = s.heldAlert := rfl

/-! ## wrFld -/

@[simp] theorem State.wrFld_pending (k lo len v : Nat) : (s.wrFld k lo len v).pending = s.pending := rfl
@[simp] theorem State.wrFld_fresh (k lo len v : Nat) : (s.wrFld k lo len v).fresh = s.fresh := rfl
@[simp] theorem State.wrFld_sregs (k lo len v : Nat) : (s.wrFld k lo len v).sregs = s.sregs := rfl
@[simp] theorem State.wrFld_ctx (k lo len v : Nat) : (s.wrFld k lo len v).ctx = s.ctx := rfl
@[simp] theorem State.wrFld_cores (k lo len v : Nat) : (s.wrFld k lo len v).cores = s.cores := rfl
@[simp] theorem State.wrFld_mem (k lo len v : Nat) : (s.wrFld k lo len v).mem = s.mem := rfl
@[simp] theorem State.wrFld_marks (k lo len v : Nat) : (s.wrFld k lo len v).marks = s.marks := rfl
@[simp] theorem State.wrFld_grans (k lo len v : Nat) : (s.wrFld k lo len v).grans = s.grans := rfl
@[simp] theorem State.wrFld_staged (k lo len v : Nat) : (s.wrFld k lo len v).staged = s.staged := rfl
@[simp] theorem State.wrFld_active (k lo len v : Nat) : (s.wrFld k lo len v).active = s.active := rfl
@[simp] theorem State.wrFld_sess (k lo len v : Nat) : (s.wrFld k lo len v).sess = s.sess := rfl
@[simp] theorem State.wrFld_alerts (k lo len v : Nat) : (s.wrFld k lo len v).alerts = s.alerts := rfl
@[simp] theorem State.wrFld_alertSeq (k lo len v : Nat) : (s.wrFld k lo len v).alertSeq = s.alertSeq := rfl
@[simp] theorem State.wrFld_now (k lo len v : Nat) : (s.wrFld k lo len v).now = s.now := rfl
@[simp] theorem State.wrFld_frac (k lo len v : Nat) : (s.wrFld k lo len v).frac = s.frac := rfl
@[simp] theorem State.wrFld_ties (k lo len v : Nat) : (s.wrFld k lo len v).ties = s.ties := rfl
@[simp] theorem State.wrFld_amax (k lo len v : Nat) : (s.wrFld k lo len v).amax = s.amax := rfl
@[simp] theorem State.wrFld_out (k lo len v : Nat) : (s.wrFld k lo len v).out = s.out := rfl
@[simp] theorem State.wrFld_fuse (k lo len v : Nat) : (s.wrFld k lo len v).fuse = s.fuse := rfl
@[simp] theorem State.wrFld_scrub (k lo len v : Nat) : (s.wrFld k lo len v).scrub = s.scrub := rfl
@[simp] theorem State.wrFld_moverRem (k lo len v : Nat) : (s.wrFld k lo len v).moverRem = s.moverRem := rfl
@[simp] theorem State.wrFld_saves (k lo len v : Nat) : (s.wrFld k lo len v).saves = s.saves := rfl
@[simp] theorem State.wrFld_lreqs (k lo len v : Nat) : (s.wrFld k lo len v).lreqs = s.lreqs := rfl
@[simp] theorem State.wrFld_lresv (k lo len v : Nat) : (s.wrFld k lo len v).lresv = s.lresv := rfl
@[simp] theorem State.wrFld_rails (k lo len v : Nat) : (s.wrFld k lo len v).rails = s.rails := rfl
@[simp] theorem State.wrFld_thr (k lo len v : Nat) : (s.wrFld k lo len v).thr = s.thr := rfl
@[simp] theorem State.wrFld_armed (k lo len v : Nat) : (s.wrFld k lo len v).armed = s.armed := rfl
@[simp] theorem State.wrFld_ballastPc (k lo len v : Nat) : (s.wrFld k lo len v).ballastPc = s.ballastPc := rfl
@[simp] theorem State.wrFld_ballastBill (k lo len v : Nat) : (s.wrFld k lo len v).ballastBill = s.ballastBill := rfl
@[simp] theorem State.wrFld_time (k lo len v : Nat) : (s.wrFld k lo len v).time = s.time := rfl
@[simp] theorem State.wrFld_timeouts (k lo len v : Nat) : (s.wrFld k lo len v).timeouts = s.timeouts := rfl
@[simp] theorem State.wrFld_lateEnt (k lo len v : Nat) : (s.wrFld k lo len v).lateEnt = s.lateEnt := rfl
@[simp] theorem State.wrFld_wc (k lo len v : Nat) : (s.wrFld k lo len v).wc = s.wc := rfl
@[simp] theorem State.wrFld_wcFence (k lo len v : Nat) : (s.wrFld k lo len v).wcFence = s.wcFence := rfl
@[simp] theorem State.wrFld_slowRem (k lo len v : Nat) : (s.wrFld k lo len v).slowRem = s.slowRem := rfl
@[simp] theorem State.wrFld_patrol (k lo len v : Nat) : (s.wrFld k lo len v).patrol = s.patrol := rfl
@[simp] theorem State.wrFld_sparesUsed (k lo len v : Nat) : (s.wrFld k lo len v).sparesUsed = s.sparesUsed := rfl
@[simp] theorem State.wrFld_grps (k lo len v : Nat) : (s.wrFld k lo len v).grps = s.grps := rfl
@[simp] theorem State.wrFld_sends (k lo len v : Nat) : (s.wrFld k lo len v).sends = s.sends := rfl
@[simp] theorem State.wrFld_parcels (k lo len v : Nat) : (s.wrFld k lo len v).parcels = s.parcels := rfl
@[simp] theorem State.wrFld_lands (k lo len v : Nat) : (s.wrFld k lo len v).lands = s.lands := rfl
@[simp] theorem State.wrFld_steps (k lo len v : Nat) : (s.wrFld k lo len v).steps = s.steps := rfl
@[simp] theorem State.wrFld_armRecs (k lo len v : Nat) : (s.wrFld k lo len v).armRecs = s.armRecs := rfl
@[simp] theorem State.wrFld_landq (k lo len v : Nat) : (s.wrFld k lo len v).landq = s.landq := rfl
@[simp] theorem State.wrFld_qps (k lo len v : Nat) : (s.wrFld k lo len v).qps = s.qps := rfl
@[simp] theorem State.wrFld_rings (k lo len v : Nat) : (s.wrFld k lo len v).rings = s.rings := rfl
@[simp] theorem State.wrFld_pfc (k lo len v : Nat) : (s.wrFld k lo len v).pfc = s.pfc := rfl
@[simp] theorem State.wrFld_pfcNs (k lo len v : Nat) : (s.wrFld k lo len v).pfcNs = s.pfcNs := rfl
@[simp] theorem State.wrFld_ethRem (k lo len v : Nat) : (s.wrFld k lo len v).ethRem = s.ethRem := rfl
@[simp] theorem State.wrFld_frame (k lo len v : Nat) : (s.wrFld k lo len v).frame = s.frame := rfl
@[simp] theorem State.wrFld_jobs (k lo len v : Nat) : (s.wrFld k lo len v).jobs = s.jobs := rfl
@[simp] theorem State.wrFld_openCnt (k lo len v : Nat) : (s.wrFld k lo len v).openCnt = s.openCnt := rfl
@[simp] theorem State.wrFld_nonces (k lo len v : Nat) : (s.wrFld k lo len v).nonces = s.nonces := rfl
@[simp] theorem State.wrFld_logs (k lo len v : Nat) : (s.wrFld k lo len v).logs = s.logs := rfl
@[simp] theorem State.wrFld_logOpen (k lo len v : Nat) : (s.wrFld k lo len v).logOpen = s.logOpen := rfl
@[simp] theorem State.wrFld_slots (k lo len v : Nat) : (s.wrFld k lo len v).slots = s.slots := rfl
@[simp] theorem State.wrFld_running (k lo len v : Nat) : (s.wrFld k lo len v).running = s.running := rfl
@[simp] theorem State.wrFld_svnMin (k lo len v : Nat) : (s.wrFld k lo len v).svnMin = s.svnMin := rfl
@[simp] theorem State.wrFld_fwBusy (k lo len v : Nat) : (s.wrFld k lo len v).fwBusy = s.fwBusy := rfl
@[simp] theorem State.wrFld_att (k lo len v : Nat) : (s.wrFld k lo len v).att = s.att := rfl
@[simp] theorem State.wrFld_nv (k lo len v : Nat) : (s.wrFld k lo len v).nv = s.nv := rfl
@[simp] theorem State.wrFld_met (k lo len v : Nat) : (s.wrFld k lo len v).met = s.met := rfl
@[simp] theorem State.wrFld_repairs (k lo len v : Nat) : (s.wrFld k lo len v).repairs = s.repairs := rfl
@[simp] theorem State.wrFld_ueSeen (k lo len v : Nat) : (s.wrFld k lo len v).ueSeen = s.ueSeen := rfl
@[simp] theorem State.wrFld_fatal (k lo len v : Nat) : (s.wrFld k lo len v).fatal = s.fatal := rfl
@[simp] theorem State.wrFld_linkRetry (k lo len v : Nat) : (s.wrFld k lo len v).linkRetry = s.linkRetry := rfl
@[simp] theorem State.wrFld_ceNew (k lo len v : Nat) : (s.wrFld k lo len v).ceNew = s.ceNew := rfl
@[simp] theorem State.wrFld_warm (k lo len v : Nat) : (s.wrFld k lo len v).warm = s.warm := rfl
@[simp] theorem State.wrFld_powered (k lo len v : Nat) : (s.wrFld k lo len v).powered = s.powered := rfl
@[simp] theorem State.wrFld_rstLow (k lo len v : Nat) : (s.wrFld k lo len v).rstLow = s.rstLow := rfl
@[simp] theorem State.wrFld_stagedDies (k lo len v : Nat) : (s.wrFld k lo len v).stagedDies = s.stagedDies := rfl
@[simp] theorem State.wrFld_warmStart (k lo len v : Nat) : (s.wrFld k lo len v).warmStart = s.warmStart := rfl
@[simp] theorem State.wrFld_hold (k lo len v : Nat) : (s.wrFld k lo len v).hold = s.hold := rfl
@[simp] theorem State.wrFld_temps (k lo len v : Nat) : (s.wrFld k lo len v).temps = s.temps := rfl
@[simp] theorem State.wrFld_trips (k lo len v : Nat) : (s.wrFld k lo len v).trips = s.trips := rfl
@[simp] theorem State.wrFld_pmbMiss (k lo len v : Nat) : (s.wrFld k lo len v).pmbMiss = s.pmbMiss := rfl
@[simp] theorem State.wrFld_avsAt (k lo len v : Nat) : (s.wrFld k lo len v).avsAt = s.avsAt := rfl
@[simp] theorem State.wrFld_tap (k lo len v : Nat) : (s.wrFld k lo len v).tap = s.tap := rfl
@[simp] theorem State.wrFld_tags (k lo len v : Nat) : (s.wrFld k lo len v).tags = s.tags := rfl
@[simp] theorem State.wrFld_slowPasses (k lo len v : Nat) : (s.wrFld k lo len v).slowPasses = s.slowPasses := rfl
@[simp] theorem State.wrFld_deferred (k lo len v : Nat) : (s.wrFld k lo len v).deferred = s.deferred := rfl
@[simp] theorem State.wrFld_heldStatus (k lo len v : Nat) : (s.wrFld k lo len v).heldStatus = s.heldStatus := rfl
@[simp] theorem State.wrFld_heldAlert (k lo len v : Nat) : (s.wrFld k lo len v).heldAlert = s.heldAlert := rfl

/-! ## swr -/

@[simp] theorem State.swr_pending (se k : Nat) (v : Word) : (s.swr se k v).pending = s.pending := rfl
@[simp] theorem State.swr_fresh (se k : Nat) (v : Word) : (s.swr se k v).fresh = s.fresh := rfl
@[simp] theorem State.swr_regs (se k : Nat) (v : Word) : (s.swr se k v).regs = s.regs := rfl
@[simp] theorem State.swr_ctx (se k : Nat) (v : Word) : (s.swr se k v).ctx = s.ctx := rfl
@[simp] theorem State.swr_cores (se k : Nat) (v : Word) : (s.swr se k v).cores = s.cores := rfl
@[simp] theorem State.swr_mem (se k : Nat) (v : Word) : (s.swr se k v).mem = s.mem := rfl
@[simp] theorem State.swr_marks (se k : Nat) (v : Word) : (s.swr se k v).marks = s.marks := rfl
@[simp] theorem State.swr_grans (se k : Nat) (v : Word) : (s.swr se k v).grans = s.grans := rfl
@[simp] theorem State.swr_staged (se k : Nat) (v : Word) : (s.swr se k v).staged = s.staged := rfl
@[simp] theorem State.swr_active (se k : Nat) (v : Word) : (s.swr se k v).active = s.active := rfl
@[simp] theorem State.swr_sess (se k : Nat) (v : Word) : (s.swr se k v).sess = s.sess := rfl
@[simp] theorem State.swr_alerts (se k : Nat) (v : Word) : (s.swr se k v).alerts = s.alerts := rfl
@[simp] theorem State.swr_alertSeq (se k : Nat) (v : Word) : (s.swr se k v).alertSeq = s.alertSeq := rfl
@[simp] theorem State.swr_now (se k : Nat) (v : Word) : (s.swr se k v).now = s.now := rfl
@[simp] theorem State.swr_frac (se k : Nat) (v : Word) : (s.swr se k v).frac = s.frac := rfl
@[simp] theorem State.swr_ties (se k : Nat) (v : Word) : (s.swr se k v).ties = s.ties := rfl
@[simp] theorem State.swr_amax (se k : Nat) (v : Word) : (s.swr se k v).amax = s.amax := rfl
@[simp] theorem State.swr_out (se k : Nat) (v : Word) : (s.swr se k v).out = s.out := rfl
@[simp] theorem State.swr_fuse (se k : Nat) (v : Word) : (s.swr se k v).fuse = s.fuse := rfl
@[simp] theorem State.swr_scrub (se k : Nat) (v : Word) : (s.swr se k v).scrub = s.scrub := rfl
@[simp] theorem State.swr_moverRem (se k : Nat) (v : Word) : (s.swr se k v).moverRem = s.moverRem := rfl
@[simp] theorem State.swr_saves (se k : Nat) (v : Word) : (s.swr se k v).saves = s.saves := rfl
@[simp] theorem State.swr_lreqs (se k : Nat) (v : Word) : (s.swr se k v).lreqs = s.lreqs := rfl
@[simp] theorem State.swr_lresv (se k : Nat) (v : Word) : (s.swr se k v).lresv = s.lresv := rfl
@[simp] theorem State.swr_rails (se k : Nat) (v : Word) : (s.swr se k v).rails = s.rails := rfl
@[simp] theorem State.swr_thr (se k : Nat) (v : Word) : (s.swr se k v).thr = s.thr := rfl
@[simp] theorem State.swr_armed (se k : Nat) (v : Word) : (s.swr se k v).armed = s.armed := rfl
@[simp] theorem State.swr_ballastPc (se k : Nat) (v : Word) : (s.swr se k v).ballastPc = s.ballastPc := rfl
@[simp] theorem State.swr_ballastBill (se k : Nat) (v : Word) : (s.swr se k v).ballastBill = s.ballastBill := rfl
@[simp] theorem State.swr_time (se k : Nat) (v : Word) : (s.swr se k v).time = s.time := rfl
@[simp] theorem State.swr_timeouts (se k : Nat) (v : Word) : (s.swr se k v).timeouts = s.timeouts := rfl
@[simp] theorem State.swr_lateEnt (se k : Nat) (v : Word) : (s.swr se k v).lateEnt = s.lateEnt := rfl
@[simp] theorem State.swr_wc (se k : Nat) (v : Word) : (s.swr se k v).wc = s.wc := rfl
@[simp] theorem State.swr_wcFence (se k : Nat) (v : Word) : (s.swr se k v).wcFence = s.wcFence := rfl
@[simp] theorem State.swr_slowRem (se k : Nat) (v : Word) : (s.swr se k v).slowRem = s.slowRem := rfl
@[simp] theorem State.swr_patrol (se k : Nat) (v : Word) : (s.swr se k v).patrol = s.patrol := rfl
@[simp] theorem State.swr_sparesUsed (se k : Nat) (v : Word) : (s.swr se k v).sparesUsed = s.sparesUsed := rfl
@[simp] theorem State.swr_grps (se k : Nat) (v : Word) : (s.swr se k v).grps = s.grps := rfl
@[simp] theorem State.swr_sends (se k : Nat) (v : Word) : (s.swr se k v).sends = s.sends := rfl
@[simp] theorem State.swr_parcels (se k : Nat) (v : Word) : (s.swr se k v).parcels = s.parcels := rfl
@[simp] theorem State.swr_lands (se k : Nat) (v : Word) : (s.swr se k v).lands = s.lands := rfl
@[simp] theorem State.swr_steps (se k : Nat) (v : Word) : (s.swr se k v).steps = s.steps := rfl
@[simp] theorem State.swr_armRecs (se k : Nat) (v : Word) : (s.swr se k v).armRecs = s.armRecs := rfl
@[simp] theorem State.swr_landq (se k : Nat) (v : Word) : (s.swr se k v).landq = s.landq := rfl
@[simp] theorem State.swr_qps (se k : Nat) (v : Word) : (s.swr se k v).qps = s.qps := rfl
@[simp] theorem State.swr_rings (se k : Nat) (v : Word) : (s.swr se k v).rings = s.rings := rfl
@[simp] theorem State.swr_pfc (se k : Nat) (v : Word) : (s.swr se k v).pfc = s.pfc := rfl
@[simp] theorem State.swr_pfcNs (se k : Nat) (v : Word) : (s.swr se k v).pfcNs = s.pfcNs := rfl
@[simp] theorem State.swr_ethRem (se k : Nat) (v : Word) : (s.swr se k v).ethRem = s.ethRem := rfl
@[simp] theorem State.swr_frame (se k : Nat) (v : Word) : (s.swr se k v).frame = s.frame := rfl
@[simp] theorem State.swr_jobs (se k : Nat) (v : Word) : (s.swr se k v).jobs = s.jobs := rfl
@[simp] theorem State.swr_openCnt (se k : Nat) (v : Word) : (s.swr se k v).openCnt = s.openCnt := rfl
@[simp] theorem State.swr_nonces (se k : Nat) (v : Word) : (s.swr se k v).nonces = s.nonces := rfl
@[simp] theorem State.swr_logs (se k : Nat) (v : Word) : (s.swr se k v).logs = s.logs := rfl
@[simp] theorem State.swr_logOpen (se k : Nat) (v : Word) : (s.swr se k v).logOpen = s.logOpen := rfl
@[simp] theorem State.swr_slots (se k : Nat) (v : Word) : (s.swr se k v).slots = s.slots := rfl
@[simp] theorem State.swr_running (se k : Nat) (v : Word) : (s.swr se k v).running = s.running := rfl
@[simp] theorem State.swr_svnMin (se k : Nat) (v : Word) : (s.swr se k v).svnMin = s.svnMin := rfl
@[simp] theorem State.swr_fwBusy (se k : Nat) (v : Word) : (s.swr se k v).fwBusy = s.fwBusy := rfl
@[simp] theorem State.swr_att (se k : Nat) (v : Word) : (s.swr se k v).att = s.att := rfl
@[simp] theorem State.swr_nv (se k : Nat) (v : Word) : (s.swr se k v).nv = s.nv := rfl
@[simp] theorem State.swr_met (se k : Nat) (v : Word) : (s.swr se k v).met = s.met := rfl
@[simp] theorem State.swr_repairs (se k : Nat) (v : Word) : (s.swr se k v).repairs = s.repairs := rfl
@[simp] theorem State.swr_ueSeen (se k : Nat) (v : Word) : (s.swr se k v).ueSeen = s.ueSeen := rfl
@[simp] theorem State.swr_fatal (se k : Nat) (v : Word) : (s.swr se k v).fatal = s.fatal := rfl
@[simp] theorem State.swr_linkRetry (se k : Nat) (v : Word) : (s.swr se k v).linkRetry = s.linkRetry := rfl
@[simp] theorem State.swr_ceNew (se k : Nat) (v : Word) : (s.swr se k v).ceNew = s.ceNew := rfl
@[simp] theorem State.swr_warm (se k : Nat) (v : Word) : (s.swr se k v).warm = s.warm := rfl
@[simp] theorem State.swr_powered (se k : Nat) (v : Word) : (s.swr se k v).powered = s.powered := rfl
@[simp] theorem State.swr_rstLow (se k : Nat) (v : Word) : (s.swr se k v).rstLow = s.rstLow := rfl
@[simp] theorem State.swr_stagedDies (se k : Nat) (v : Word) : (s.swr se k v).stagedDies = s.stagedDies := rfl
@[simp] theorem State.swr_warmStart (se k : Nat) (v : Word) : (s.swr se k v).warmStart = s.warmStart := rfl
@[simp] theorem State.swr_hold (se k : Nat) (v : Word) : (s.swr se k v).hold = s.hold := rfl
@[simp] theorem State.swr_temps (se k : Nat) (v : Word) : (s.swr se k v).temps = s.temps := rfl
@[simp] theorem State.swr_trips (se k : Nat) (v : Word) : (s.swr se k v).trips = s.trips := rfl
@[simp] theorem State.swr_pmbMiss (se k : Nat) (v : Word) : (s.swr se k v).pmbMiss = s.pmbMiss := rfl
@[simp] theorem State.swr_avsAt (se k : Nat) (v : Word) : (s.swr se k v).avsAt = s.avsAt := rfl
@[simp] theorem State.swr_tap (se k : Nat) (v : Word) : (s.swr se k v).tap = s.tap := rfl
@[simp] theorem State.swr_tags (se k : Nat) (v : Word) : (s.swr se k v).tags = s.tags := rfl
@[simp] theorem State.swr_slowPasses (se k : Nat) (v : Word) : (s.swr se k v).slowPasses = s.slowPasses := rfl
@[simp] theorem State.swr_deferred (se k : Nat) (v : Word) : (s.swr se k v).deferred = s.deferred := rfl
@[simp] theorem State.swr_heldStatus (se k : Nat) (v : Word) : (s.swr se k v).heldStatus = s.heldStatus := rfl
@[simp] theorem State.swr_heldAlert (se k : Nat) (v : Word) : (s.swr se k v).heldAlert = s.heldAlert := rfl

/-! ## setCtx -/

@[simp] theorem State.setCtx_pending (c : Nat) (r : CtxRec) : (s.setCtx c r).pending = s.pending := rfl
@[simp] theorem State.setCtx_fresh (c : Nat) (r : CtxRec) : (s.setCtx c r).fresh = s.fresh := rfl
@[simp] theorem State.setCtx_regs (c : Nat) (r : CtxRec) : (s.setCtx c r).regs = s.regs := rfl
@[simp] theorem State.setCtx_sregs (c : Nat) (r : CtxRec) : (s.setCtx c r).sregs = s.sregs := rfl
@[simp] theorem State.setCtx_cores (c : Nat) (r : CtxRec) : (s.setCtx c r).cores = s.cores := rfl
@[simp] theorem State.setCtx_mem (c : Nat) (r : CtxRec) : (s.setCtx c r).mem = s.mem := rfl
@[simp] theorem State.setCtx_marks (c : Nat) (r : CtxRec) : (s.setCtx c r).marks = s.marks := rfl
@[simp] theorem State.setCtx_grans (c : Nat) (r : CtxRec) : (s.setCtx c r).grans = s.grans := rfl
@[simp] theorem State.setCtx_staged (c : Nat) (r : CtxRec) : (s.setCtx c r).staged = s.staged := rfl
@[simp] theorem State.setCtx_active (c : Nat) (r : CtxRec) : (s.setCtx c r).active = s.active := rfl
@[simp] theorem State.setCtx_sess (c : Nat) (r : CtxRec) : (s.setCtx c r).sess = s.sess := rfl
@[simp] theorem State.setCtx_alerts (c : Nat) (r : CtxRec) : (s.setCtx c r).alerts = s.alerts := rfl
@[simp] theorem State.setCtx_alertSeq (c : Nat) (r : CtxRec) : (s.setCtx c r).alertSeq = s.alertSeq := rfl
@[simp] theorem State.setCtx_now (c : Nat) (r : CtxRec) : (s.setCtx c r).now = s.now := rfl
@[simp] theorem State.setCtx_frac (c : Nat) (r : CtxRec) : (s.setCtx c r).frac = s.frac := rfl
@[simp] theorem State.setCtx_ties (c : Nat) (r : CtxRec) : (s.setCtx c r).ties = s.ties := rfl
@[simp] theorem State.setCtx_amax (c : Nat) (r : CtxRec) : (s.setCtx c r).amax = s.amax := rfl
@[simp] theorem State.setCtx_out (c : Nat) (r : CtxRec) : (s.setCtx c r).out = s.out := rfl
@[simp] theorem State.setCtx_fuse (c : Nat) (r : CtxRec) : (s.setCtx c r).fuse = s.fuse := rfl
@[simp] theorem State.setCtx_scrub (c : Nat) (r : CtxRec) : (s.setCtx c r).scrub = s.scrub := rfl
@[simp] theorem State.setCtx_moverRem (c : Nat) (r : CtxRec) : (s.setCtx c r).moverRem = s.moverRem := rfl
@[simp] theorem State.setCtx_saves (c : Nat) (r : CtxRec) : (s.setCtx c r).saves = s.saves := rfl
@[simp] theorem State.setCtx_lreqs (c : Nat) (r : CtxRec) : (s.setCtx c r).lreqs = s.lreqs := rfl
@[simp] theorem State.setCtx_lresv (c : Nat) (r : CtxRec) : (s.setCtx c r).lresv = s.lresv := rfl
@[simp] theorem State.setCtx_rails (c : Nat) (r : CtxRec) : (s.setCtx c r).rails = s.rails := rfl
@[simp] theorem State.setCtx_thr (c : Nat) (r : CtxRec) : (s.setCtx c r).thr = s.thr := rfl
@[simp] theorem State.setCtx_armed (c : Nat) (r : CtxRec) : (s.setCtx c r).armed = s.armed := rfl
@[simp] theorem State.setCtx_ballastPc (c : Nat) (r : CtxRec) : (s.setCtx c r).ballastPc = s.ballastPc := rfl
@[simp] theorem State.setCtx_ballastBill (c : Nat) (r : CtxRec) : (s.setCtx c r).ballastBill = s.ballastBill := rfl
@[simp] theorem State.setCtx_time (c : Nat) (r : CtxRec) : (s.setCtx c r).time = s.time := rfl
@[simp] theorem State.setCtx_timeouts (c : Nat) (r : CtxRec) : (s.setCtx c r).timeouts = s.timeouts := rfl
@[simp] theorem State.setCtx_lateEnt (c : Nat) (r : CtxRec) : (s.setCtx c r).lateEnt = s.lateEnt := rfl
@[simp] theorem State.setCtx_wc (c : Nat) (r : CtxRec) : (s.setCtx c r).wc = s.wc := rfl
@[simp] theorem State.setCtx_wcFence (c : Nat) (r : CtxRec) : (s.setCtx c r).wcFence = s.wcFence := rfl
@[simp] theorem State.setCtx_slowRem (c : Nat) (r : CtxRec) : (s.setCtx c r).slowRem = s.slowRem := rfl
@[simp] theorem State.setCtx_patrol (c : Nat) (r : CtxRec) : (s.setCtx c r).patrol = s.patrol := rfl
@[simp] theorem State.setCtx_sparesUsed (c : Nat) (r : CtxRec) : (s.setCtx c r).sparesUsed = s.sparesUsed := rfl
@[simp] theorem State.setCtx_grps (c : Nat) (r : CtxRec) : (s.setCtx c r).grps = s.grps := rfl
@[simp] theorem State.setCtx_sends (c : Nat) (r : CtxRec) : (s.setCtx c r).sends = s.sends := rfl
@[simp] theorem State.setCtx_parcels (c : Nat) (r : CtxRec) : (s.setCtx c r).parcels = s.parcels := rfl
@[simp] theorem State.setCtx_lands (c : Nat) (r : CtxRec) : (s.setCtx c r).lands = s.lands := rfl
@[simp] theorem State.setCtx_steps (c : Nat) (r : CtxRec) : (s.setCtx c r).steps = s.steps := rfl
@[simp] theorem State.setCtx_armRecs (c : Nat) (r : CtxRec) : (s.setCtx c r).armRecs = s.armRecs := rfl
@[simp] theorem State.setCtx_landq (c : Nat) (r : CtxRec) : (s.setCtx c r).landq = s.landq := rfl
@[simp] theorem State.setCtx_qps (c : Nat) (r : CtxRec) : (s.setCtx c r).qps = s.qps := rfl
@[simp] theorem State.setCtx_rings (c : Nat) (r : CtxRec) : (s.setCtx c r).rings = s.rings := rfl
@[simp] theorem State.setCtx_pfc (c : Nat) (r : CtxRec) : (s.setCtx c r).pfc = s.pfc := rfl
@[simp] theorem State.setCtx_pfcNs (c : Nat) (r : CtxRec) : (s.setCtx c r).pfcNs = s.pfcNs := rfl
@[simp] theorem State.setCtx_ethRem (c : Nat) (r : CtxRec) : (s.setCtx c r).ethRem = s.ethRem := rfl
@[simp] theorem State.setCtx_frame (c : Nat) (r : CtxRec) : (s.setCtx c r).frame = s.frame := rfl
@[simp] theorem State.setCtx_jobs (c : Nat) (r : CtxRec) : (s.setCtx c r).jobs = s.jobs := rfl
@[simp] theorem State.setCtx_openCnt (c : Nat) (r : CtxRec) : (s.setCtx c r).openCnt = s.openCnt := rfl
@[simp] theorem State.setCtx_nonces (c : Nat) (r : CtxRec) : (s.setCtx c r).nonces = s.nonces := rfl
@[simp] theorem State.setCtx_logs (c : Nat) (r : CtxRec) : (s.setCtx c r).logs = s.logs := rfl
@[simp] theorem State.setCtx_logOpen (c : Nat) (r : CtxRec) : (s.setCtx c r).logOpen = s.logOpen := rfl
@[simp] theorem State.setCtx_slots (c : Nat) (r : CtxRec) : (s.setCtx c r).slots = s.slots := rfl
@[simp] theorem State.setCtx_running (c : Nat) (r : CtxRec) : (s.setCtx c r).running = s.running := rfl
@[simp] theorem State.setCtx_svnMin (c : Nat) (r : CtxRec) : (s.setCtx c r).svnMin = s.svnMin := rfl
@[simp] theorem State.setCtx_fwBusy (c : Nat) (r : CtxRec) : (s.setCtx c r).fwBusy = s.fwBusy := rfl
@[simp] theorem State.setCtx_att (c : Nat) (r : CtxRec) : (s.setCtx c r).att = s.att := rfl
@[simp] theorem State.setCtx_nv (c : Nat) (r : CtxRec) : (s.setCtx c r).nv = s.nv := rfl
@[simp] theorem State.setCtx_met (c : Nat) (r : CtxRec) : (s.setCtx c r).met = s.met := rfl
@[simp] theorem State.setCtx_repairs (c : Nat) (r : CtxRec) : (s.setCtx c r).repairs = s.repairs := rfl
@[simp] theorem State.setCtx_ueSeen (c : Nat) (r : CtxRec) : (s.setCtx c r).ueSeen = s.ueSeen := rfl
@[simp] theorem State.setCtx_fatal (c : Nat) (r : CtxRec) : (s.setCtx c r).fatal = s.fatal := rfl
@[simp] theorem State.setCtx_linkRetry (c : Nat) (r : CtxRec) : (s.setCtx c r).linkRetry = s.linkRetry := rfl
@[simp] theorem State.setCtx_ceNew (c : Nat) (r : CtxRec) : (s.setCtx c r).ceNew = s.ceNew := rfl
@[simp] theorem State.setCtx_warm (c : Nat) (r : CtxRec) : (s.setCtx c r).warm = s.warm := rfl
@[simp] theorem State.setCtx_powered (c : Nat) (r : CtxRec) : (s.setCtx c r).powered = s.powered := rfl
@[simp] theorem State.setCtx_rstLow (c : Nat) (r : CtxRec) : (s.setCtx c r).rstLow = s.rstLow := rfl
@[simp] theorem State.setCtx_stagedDies (c : Nat) (r : CtxRec) : (s.setCtx c r).stagedDies = s.stagedDies := rfl
@[simp] theorem State.setCtx_warmStart (c : Nat) (r : CtxRec) : (s.setCtx c r).warmStart = s.warmStart := rfl
@[simp] theorem State.setCtx_hold (c : Nat) (r : CtxRec) : (s.setCtx c r).hold = s.hold := rfl
@[simp] theorem State.setCtx_temps (c : Nat) (r : CtxRec) : (s.setCtx c r).temps = s.temps := rfl
@[simp] theorem State.setCtx_trips (c : Nat) (r : CtxRec) : (s.setCtx c r).trips = s.trips := rfl
@[simp] theorem State.setCtx_pmbMiss (c : Nat) (r : CtxRec) : (s.setCtx c r).pmbMiss = s.pmbMiss := rfl
@[simp] theorem State.setCtx_avsAt (c : Nat) (r : CtxRec) : (s.setCtx c r).avsAt = s.avsAt := rfl
@[simp] theorem State.setCtx_tap (c : Nat) (r : CtxRec) : (s.setCtx c r).tap = s.tap := rfl
@[simp] theorem State.setCtx_tags (c : Nat) (r : CtxRec) : (s.setCtx c r).tags = s.tags := rfl
@[simp] theorem State.setCtx_slowPasses (c : Nat) (r : CtxRec) : (s.setCtx c r).slowPasses = s.slowPasses := rfl
@[simp] theorem State.setCtx_deferred (c : Nat) (r : CtxRec) : (s.setCtx c r).deferred = s.deferred := rfl
@[simp] theorem State.setCtx_heldStatus (c : Nat) (r : CtxRec) : (s.setCtx c r).heldStatus = s.heldStatus := rfl
@[simp] theorem State.setCtx_heldAlert (c : Nat) (r : CtxRec) : (s.setCtx c r).heldAlert = s.heldAlert := rfl

/-! ## setCore -/

@[simp] theorem State.setCore_pending (k : Nat) (r : CoreRec) : (s.setCore k r).pending = s.pending := rfl
@[simp] theorem State.setCore_fresh (k : Nat) (r : CoreRec) : (s.setCore k r).fresh = s.fresh := rfl
@[simp] theorem State.setCore_regs (k : Nat) (r : CoreRec) : (s.setCore k r).regs = s.regs := rfl
@[simp] theorem State.setCore_sregs (k : Nat) (r : CoreRec) : (s.setCore k r).sregs = s.sregs := rfl
@[simp] theorem State.setCore_ctx (k : Nat) (r : CoreRec) : (s.setCore k r).ctx = s.ctx := rfl
@[simp] theorem State.setCore_mem (k : Nat) (r : CoreRec) : (s.setCore k r).mem = s.mem := rfl
@[simp] theorem State.setCore_marks (k : Nat) (r : CoreRec) : (s.setCore k r).marks = s.marks := rfl
@[simp] theorem State.setCore_grans (k : Nat) (r : CoreRec) : (s.setCore k r).grans = s.grans := rfl
@[simp] theorem State.setCore_staged (k : Nat) (r : CoreRec) : (s.setCore k r).staged = s.staged := rfl
@[simp] theorem State.setCore_active (k : Nat) (r : CoreRec) : (s.setCore k r).active = s.active := rfl
@[simp] theorem State.setCore_sess (k : Nat) (r : CoreRec) : (s.setCore k r).sess = s.sess := rfl
@[simp] theorem State.setCore_alerts (k : Nat) (r : CoreRec) : (s.setCore k r).alerts = s.alerts := rfl
@[simp] theorem State.setCore_alertSeq (k : Nat) (r : CoreRec) : (s.setCore k r).alertSeq = s.alertSeq := rfl
@[simp] theorem State.setCore_now (k : Nat) (r : CoreRec) : (s.setCore k r).now = s.now := rfl
@[simp] theorem State.setCore_frac (k : Nat) (r : CoreRec) : (s.setCore k r).frac = s.frac := rfl
@[simp] theorem State.setCore_ties (k : Nat) (r : CoreRec) : (s.setCore k r).ties = s.ties := rfl
@[simp] theorem State.setCore_amax (k : Nat) (r : CoreRec) : (s.setCore k r).amax = s.amax := rfl
@[simp] theorem State.setCore_out (k : Nat) (r : CoreRec) : (s.setCore k r).out = s.out := rfl
@[simp] theorem State.setCore_fuse (k : Nat) (r : CoreRec) : (s.setCore k r).fuse = s.fuse := rfl
@[simp] theorem State.setCore_scrub (k : Nat) (r : CoreRec) : (s.setCore k r).scrub = s.scrub := rfl
@[simp] theorem State.setCore_moverRem (k : Nat) (r : CoreRec) : (s.setCore k r).moverRem = s.moverRem := rfl
@[simp] theorem State.setCore_saves (k : Nat) (r : CoreRec) : (s.setCore k r).saves = s.saves := rfl
@[simp] theorem State.setCore_lreqs (k : Nat) (r : CoreRec) : (s.setCore k r).lreqs = s.lreqs := rfl
@[simp] theorem State.setCore_lresv (k : Nat) (r : CoreRec) : (s.setCore k r).lresv = s.lresv := rfl
@[simp] theorem State.setCore_rails (k : Nat) (r : CoreRec) : (s.setCore k r).rails = s.rails := rfl
@[simp] theorem State.setCore_thr (k : Nat) (r : CoreRec) : (s.setCore k r).thr = s.thr := rfl
@[simp] theorem State.setCore_armed (k : Nat) (r : CoreRec) : (s.setCore k r).armed = s.armed := rfl
@[simp] theorem State.setCore_ballastPc (k : Nat) (r : CoreRec) : (s.setCore k r).ballastPc = s.ballastPc := rfl
@[simp] theorem State.setCore_ballastBill (k : Nat) (r : CoreRec) : (s.setCore k r).ballastBill = s.ballastBill := rfl
@[simp] theorem State.setCore_time (k : Nat) (r : CoreRec) : (s.setCore k r).time = s.time := rfl
@[simp] theorem State.setCore_timeouts (k : Nat) (r : CoreRec) : (s.setCore k r).timeouts = s.timeouts := rfl
@[simp] theorem State.setCore_lateEnt (k : Nat) (r : CoreRec) : (s.setCore k r).lateEnt = s.lateEnt := rfl
@[simp] theorem State.setCore_wc (k : Nat) (r : CoreRec) : (s.setCore k r).wc = s.wc := rfl
@[simp] theorem State.setCore_wcFence (k : Nat) (r : CoreRec) : (s.setCore k r).wcFence = s.wcFence := rfl
@[simp] theorem State.setCore_slowRem (k : Nat) (r : CoreRec) : (s.setCore k r).slowRem = s.slowRem := rfl
@[simp] theorem State.setCore_patrol (k : Nat) (r : CoreRec) : (s.setCore k r).patrol = s.patrol := rfl
@[simp] theorem State.setCore_sparesUsed (k : Nat) (r : CoreRec) : (s.setCore k r).sparesUsed = s.sparesUsed := rfl
@[simp] theorem State.setCore_grps (k : Nat) (r : CoreRec) : (s.setCore k r).grps = s.grps := rfl
@[simp] theorem State.setCore_sends (k : Nat) (r : CoreRec) : (s.setCore k r).sends = s.sends := rfl
@[simp] theorem State.setCore_parcels (k : Nat) (r : CoreRec) : (s.setCore k r).parcels = s.parcels := rfl
@[simp] theorem State.setCore_lands (k : Nat) (r : CoreRec) : (s.setCore k r).lands = s.lands := rfl
@[simp] theorem State.setCore_steps (k : Nat) (r : CoreRec) : (s.setCore k r).steps = s.steps := rfl
@[simp] theorem State.setCore_armRecs (k : Nat) (r : CoreRec) : (s.setCore k r).armRecs = s.armRecs := rfl
@[simp] theorem State.setCore_landq (k : Nat) (r : CoreRec) : (s.setCore k r).landq = s.landq := rfl
@[simp] theorem State.setCore_qps (k : Nat) (r : CoreRec) : (s.setCore k r).qps = s.qps := rfl
@[simp] theorem State.setCore_rings (k : Nat) (r : CoreRec) : (s.setCore k r).rings = s.rings := rfl
@[simp] theorem State.setCore_pfc (k : Nat) (r : CoreRec) : (s.setCore k r).pfc = s.pfc := rfl
@[simp] theorem State.setCore_pfcNs (k : Nat) (r : CoreRec) : (s.setCore k r).pfcNs = s.pfcNs := rfl
@[simp] theorem State.setCore_ethRem (k : Nat) (r : CoreRec) : (s.setCore k r).ethRem = s.ethRem := rfl
@[simp] theorem State.setCore_frame (k : Nat) (r : CoreRec) : (s.setCore k r).frame = s.frame := rfl
@[simp] theorem State.setCore_jobs (k : Nat) (r : CoreRec) : (s.setCore k r).jobs = s.jobs := rfl
@[simp] theorem State.setCore_openCnt (k : Nat) (r : CoreRec) : (s.setCore k r).openCnt = s.openCnt := rfl
@[simp] theorem State.setCore_nonces (k : Nat) (r : CoreRec) : (s.setCore k r).nonces = s.nonces := rfl
@[simp] theorem State.setCore_logs (k : Nat) (r : CoreRec) : (s.setCore k r).logs = s.logs := rfl
@[simp] theorem State.setCore_logOpen (k : Nat) (r : CoreRec) : (s.setCore k r).logOpen = s.logOpen := rfl
@[simp] theorem State.setCore_slots (k : Nat) (r : CoreRec) : (s.setCore k r).slots = s.slots := rfl
@[simp] theorem State.setCore_running (k : Nat) (r : CoreRec) : (s.setCore k r).running = s.running := rfl
@[simp] theorem State.setCore_svnMin (k : Nat) (r : CoreRec) : (s.setCore k r).svnMin = s.svnMin := rfl
@[simp] theorem State.setCore_fwBusy (k : Nat) (r : CoreRec) : (s.setCore k r).fwBusy = s.fwBusy := rfl
@[simp] theorem State.setCore_att (k : Nat) (r : CoreRec) : (s.setCore k r).att = s.att := rfl
@[simp] theorem State.setCore_nv (k : Nat) (r : CoreRec) : (s.setCore k r).nv = s.nv := rfl
@[simp] theorem State.setCore_met (k : Nat) (r : CoreRec) : (s.setCore k r).met = s.met := rfl
@[simp] theorem State.setCore_repairs (k : Nat) (r : CoreRec) : (s.setCore k r).repairs = s.repairs := rfl
@[simp] theorem State.setCore_ueSeen (k : Nat) (r : CoreRec) : (s.setCore k r).ueSeen = s.ueSeen := rfl
@[simp] theorem State.setCore_fatal (k : Nat) (r : CoreRec) : (s.setCore k r).fatal = s.fatal := rfl
@[simp] theorem State.setCore_linkRetry (k : Nat) (r : CoreRec) : (s.setCore k r).linkRetry = s.linkRetry := rfl
@[simp] theorem State.setCore_ceNew (k : Nat) (r : CoreRec) : (s.setCore k r).ceNew = s.ceNew := rfl
@[simp] theorem State.setCore_warm (k : Nat) (r : CoreRec) : (s.setCore k r).warm = s.warm := rfl
@[simp] theorem State.setCore_powered (k : Nat) (r : CoreRec) : (s.setCore k r).powered = s.powered := rfl
@[simp] theorem State.setCore_rstLow (k : Nat) (r : CoreRec) : (s.setCore k r).rstLow = s.rstLow := rfl
@[simp] theorem State.setCore_stagedDies (k : Nat) (r : CoreRec) : (s.setCore k r).stagedDies = s.stagedDies := rfl
@[simp] theorem State.setCore_warmStart (k : Nat) (r : CoreRec) : (s.setCore k r).warmStart = s.warmStart := rfl
@[simp] theorem State.setCore_hold (k : Nat) (r : CoreRec) : (s.setCore k r).hold = s.hold := rfl
@[simp] theorem State.setCore_temps (k : Nat) (r : CoreRec) : (s.setCore k r).temps = s.temps := rfl
@[simp] theorem State.setCore_trips (k : Nat) (r : CoreRec) : (s.setCore k r).trips = s.trips := rfl
@[simp] theorem State.setCore_pmbMiss (k : Nat) (r : CoreRec) : (s.setCore k r).pmbMiss = s.pmbMiss := rfl
@[simp] theorem State.setCore_avsAt (k : Nat) (r : CoreRec) : (s.setCore k r).avsAt = s.avsAt := rfl
@[simp] theorem State.setCore_tap (k : Nat) (r : CoreRec) : (s.setCore k r).tap = s.tap := rfl
@[simp] theorem State.setCore_tags (k : Nat) (r : CoreRec) : (s.setCore k r).tags = s.tags := rfl
@[simp] theorem State.setCore_slowPasses (k : Nat) (r : CoreRec) : (s.setCore k r).slowPasses = s.slowPasses := rfl
@[simp] theorem State.setCore_deferred (k : Nat) (r : CoreRec) : (s.setCore k r).deferred = s.deferred := rfl
@[simp] theorem State.setCore_heldStatus (k : Nat) (r : CoreRec) : (s.setCore k r).heldStatus = s.heldStatus := rfl
@[simp] theorem State.setCore_heldAlert (k : Nat) (r : CoreRec) : (s.setCore k r).heldAlert = s.heldAlert := rfl

/-! ## setSess -/

@[simp] theorem State.setSess_pending (i : Nat) (r : SessRec) : (s.setSess i r).pending = s.pending := rfl
@[simp] theorem State.setSess_fresh (i : Nat) (r : SessRec) : (s.setSess i r).fresh = s.fresh := rfl
@[simp] theorem State.setSess_regs (i : Nat) (r : SessRec) : (s.setSess i r).regs = s.regs := rfl
@[simp] theorem State.setSess_sregs (i : Nat) (r : SessRec) : (s.setSess i r).sregs = s.sregs := rfl
@[simp] theorem State.setSess_ctx (i : Nat) (r : SessRec) : (s.setSess i r).ctx = s.ctx := rfl
@[simp] theorem State.setSess_cores (i : Nat) (r : SessRec) : (s.setSess i r).cores = s.cores := rfl
@[simp] theorem State.setSess_mem (i : Nat) (r : SessRec) : (s.setSess i r).mem = s.mem := rfl
@[simp] theorem State.setSess_marks (i : Nat) (r : SessRec) : (s.setSess i r).marks = s.marks := rfl
@[simp] theorem State.setSess_grans (i : Nat) (r : SessRec) : (s.setSess i r).grans = s.grans := rfl
@[simp] theorem State.setSess_staged (i : Nat) (r : SessRec) : (s.setSess i r).staged = s.staged := rfl
@[simp] theorem State.setSess_active (i : Nat) (r : SessRec) : (s.setSess i r).active = s.active := rfl
@[simp] theorem State.setSess_alerts (i : Nat) (r : SessRec) : (s.setSess i r).alerts = s.alerts := rfl
@[simp] theorem State.setSess_alertSeq (i : Nat) (r : SessRec) : (s.setSess i r).alertSeq = s.alertSeq := rfl
@[simp] theorem State.setSess_now (i : Nat) (r : SessRec) : (s.setSess i r).now = s.now := rfl
@[simp] theorem State.setSess_frac (i : Nat) (r : SessRec) : (s.setSess i r).frac = s.frac := rfl
@[simp] theorem State.setSess_ties (i : Nat) (r : SessRec) : (s.setSess i r).ties = s.ties := rfl
@[simp] theorem State.setSess_amax (i : Nat) (r : SessRec) : (s.setSess i r).amax = s.amax := rfl
@[simp] theorem State.setSess_out (i : Nat) (r : SessRec) : (s.setSess i r).out = s.out := rfl
@[simp] theorem State.setSess_fuse (i : Nat) (r : SessRec) : (s.setSess i r).fuse = s.fuse := rfl
@[simp] theorem State.setSess_scrub (i : Nat) (r : SessRec) : (s.setSess i r).scrub = s.scrub := rfl
@[simp] theorem State.setSess_moverRem (i : Nat) (r : SessRec) : (s.setSess i r).moverRem = s.moverRem := rfl
@[simp] theorem State.setSess_saves (i : Nat) (r : SessRec) : (s.setSess i r).saves = s.saves := rfl
@[simp] theorem State.setSess_lreqs (i : Nat) (r : SessRec) : (s.setSess i r).lreqs = s.lreqs := rfl
@[simp] theorem State.setSess_lresv (i : Nat) (r : SessRec) : (s.setSess i r).lresv = s.lresv := rfl
@[simp] theorem State.setSess_rails (i : Nat) (r : SessRec) : (s.setSess i r).rails = s.rails := rfl
@[simp] theorem State.setSess_thr (i : Nat) (r : SessRec) : (s.setSess i r).thr = s.thr := rfl
@[simp] theorem State.setSess_armed (i : Nat) (r : SessRec) : (s.setSess i r).armed = s.armed := rfl
@[simp] theorem State.setSess_ballastPc (i : Nat) (r : SessRec) : (s.setSess i r).ballastPc = s.ballastPc := rfl
@[simp] theorem State.setSess_ballastBill (i : Nat) (r : SessRec) : (s.setSess i r).ballastBill = s.ballastBill := rfl
@[simp] theorem State.setSess_time (i : Nat) (r : SessRec) : (s.setSess i r).time = s.time := rfl
@[simp] theorem State.setSess_timeouts (i : Nat) (r : SessRec) : (s.setSess i r).timeouts = s.timeouts := rfl
@[simp] theorem State.setSess_lateEnt (i : Nat) (r : SessRec) : (s.setSess i r).lateEnt = s.lateEnt := rfl
@[simp] theorem State.setSess_wc (i : Nat) (r : SessRec) : (s.setSess i r).wc = s.wc := rfl
@[simp] theorem State.setSess_wcFence (i : Nat) (r : SessRec) : (s.setSess i r).wcFence = s.wcFence := rfl
@[simp] theorem State.setSess_slowRem (i : Nat) (r : SessRec) : (s.setSess i r).slowRem = s.slowRem := rfl
@[simp] theorem State.setSess_patrol (i : Nat) (r : SessRec) : (s.setSess i r).patrol = s.patrol := rfl
@[simp] theorem State.setSess_sparesUsed (i : Nat) (r : SessRec) : (s.setSess i r).sparesUsed = s.sparesUsed := rfl
@[simp] theorem State.setSess_grps (i : Nat) (r : SessRec) : (s.setSess i r).grps = s.grps := rfl
@[simp] theorem State.setSess_sends (i : Nat) (r : SessRec) : (s.setSess i r).sends = s.sends := rfl
@[simp] theorem State.setSess_parcels (i : Nat) (r : SessRec) : (s.setSess i r).parcels = s.parcels := rfl
@[simp] theorem State.setSess_lands (i : Nat) (r : SessRec) : (s.setSess i r).lands = s.lands := rfl
@[simp] theorem State.setSess_steps (i : Nat) (r : SessRec) : (s.setSess i r).steps = s.steps := rfl
@[simp] theorem State.setSess_armRecs (i : Nat) (r : SessRec) : (s.setSess i r).armRecs = s.armRecs := rfl
@[simp] theorem State.setSess_landq (i : Nat) (r : SessRec) : (s.setSess i r).landq = s.landq := rfl
@[simp] theorem State.setSess_qps (i : Nat) (r : SessRec) : (s.setSess i r).qps = s.qps := rfl
@[simp] theorem State.setSess_rings (i : Nat) (r : SessRec) : (s.setSess i r).rings = s.rings := rfl
@[simp] theorem State.setSess_pfc (i : Nat) (r : SessRec) : (s.setSess i r).pfc = s.pfc := rfl
@[simp] theorem State.setSess_pfcNs (i : Nat) (r : SessRec) : (s.setSess i r).pfcNs = s.pfcNs := rfl
@[simp] theorem State.setSess_ethRem (i : Nat) (r : SessRec) : (s.setSess i r).ethRem = s.ethRem := rfl
@[simp] theorem State.setSess_frame (i : Nat) (r : SessRec) : (s.setSess i r).frame = s.frame := rfl
@[simp] theorem State.setSess_jobs (i : Nat) (r : SessRec) : (s.setSess i r).jobs = s.jobs := rfl
@[simp] theorem State.setSess_openCnt (i : Nat) (r : SessRec) : (s.setSess i r).openCnt = s.openCnt := rfl
@[simp] theorem State.setSess_nonces (i : Nat) (r : SessRec) : (s.setSess i r).nonces = s.nonces := rfl
@[simp] theorem State.setSess_logs (i : Nat) (r : SessRec) : (s.setSess i r).logs = s.logs := rfl
@[simp] theorem State.setSess_logOpen (i : Nat) (r : SessRec) : (s.setSess i r).logOpen = s.logOpen := rfl
@[simp] theorem State.setSess_slots (i : Nat) (r : SessRec) : (s.setSess i r).slots = s.slots := rfl
@[simp] theorem State.setSess_running (i : Nat) (r : SessRec) : (s.setSess i r).running = s.running := rfl
@[simp] theorem State.setSess_svnMin (i : Nat) (r : SessRec) : (s.setSess i r).svnMin = s.svnMin := rfl
@[simp] theorem State.setSess_fwBusy (i : Nat) (r : SessRec) : (s.setSess i r).fwBusy = s.fwBusy := rfl
@[simp] theorem State.setSess_att (i : Nat) (r : SessRec) : (s.setSess i r).att = s.att := rfl
@[simp] theorem State.setSess_nv (i : Nat) (r : SessRec) : (s.setSess i r).nv = s.nv := rfl
@[simp] theorem State.setSess_met (i : Nat) (r : SessRec) : (s.setSess i r).met = s.met := rfl
@[simp] theorem State.setSess_repairs (i : Nat) (r : SessRec) : (s.setSess i r).repairs = s.repairs := rfl
@[simp] theorem State.setSess_ueSeen (i : Nat) (r : SessRec) : (s.setSess i r).ueSeen = s.ueSeen := rfl
@[simp] theorem State.setSess_fatal (i : Nat) (r : SessRec) : (s.setSess i r).fatal = s.fatal := rfl
@[simp] theorem State.setSess_linkRetry (i : Nat) (r : SessRec) : (s.setSess i r).linkRetry = s.linkRetry := rfl
@[simp] theorem State.setSess_ceNew (i : Nat) (r : SessRec) : (s.setSess i r).ceNew = s.ceNew := rfl
@[simp] theorem State.setSess_warm (i : Nat) (r : SessRec) : (s.setSess i r).warm = s.warm := rfl
@[simp] theorem State.setSess_powered (i : Nat) (r : SessRec) : (s.setSess i r).powered = s.powered := rfl
@[simp] theorem State.setSess_rstLow (i : Nat) (r : SessRec) : (s.setSess i r).rstLow = s.rstLow := rfl
@[simp] theorem State.setSess_stagedDies (i : Nat) (r : SessRec) : (s.setSess i r).stagedDies = s.stagedDies := rfl
@[simp] theorem State.setSess_warmStart (i : Nat) (r : SessRec) : (s.setSess i r).warmStart = s.warmStart := rfl
@[simp] theorem State.setSess_hold (i : Nat) (r : SessRec) : (s.setSess i r).hold = s.hold := rfl
@[simp] theorem State.setSess_temps (i : Nat) (r : SessRec) : (s.setSess i r).temps = s.temps := rfl
@[simp] theorem State.setSess_trips (i : Nat) (r : SessRec) : (s.setSess i r).trips = s.trips := rfl
@[simp] theorem State.setSess_pmbMiss (i : Nat) (r : SessRec) : (s.setSess i r).pmbMiss = s.pmbMiss := rfl
@[simp] theorem State.setSess_avsAt (i : Nat) (r : SessRec) : (s.setSess i r).avsAt = s.avsAt := rfl
@[simp] theorem State.setSess_tap (i : Nat) (r : SessRec) : (s.setSess i r).tap = s.tap := rfl
@[simp] theorem State.setSess_tags (i : Nat) (r : SessRec) : (s.setSess i r).tags = s.tags := rfl
@[simp] theorem State.setSess_slowPasses (i : Nat) (r : SessRec) : (s.setSess i r).slowPasses = s.slowPasses := rfl
@[simp] theorem State.setSess_deferred (i : Nat) (r : SessRec) : (s.setSess i r).deferred = s.deferred := rfl
@[simp] theorem State.setSess_heldStatus (i : Nat) (r : SessRec) : (s.setSess i r).heldStatus = s.heldStatus := rfl
@[simp] theorem State.setSess_heldAlert (i : Nat) (r : SessRec) : (s.setSess i r).heldAlert = s.heldAlert := rfl

/-! ## emit -/

@[simp] theorem State.emit_pending (o : Output) : (s.emit o).pending = s.pending := rfl
@[simp] theorem State.emit_fresh (o : Output) : (s.emit o).fresh = s.fresh := rfl
@[simp] theorem State.emit_regs (o : Output) : (s.emit o).regs = s.regs := rfl
@[simp] theorem State.emit_sregs (o : Output) : (s.emit o).sregs = s.sregs := rfl
@[simp] theorem State.emit_ctx (o : Output) : (s.emit o).ctx = s.ctx := rfl
@[simp] theorem State.emit_cores (o : Output) : (s.emit o).cores = s.cores := rfl
@[simp] theorem State.emit_mem (o : Output) : (s.emit o).mem = s.mem := rfl
@[simp] theorem State.emit_marks (o : Output) : (s.emit o).marks = s.marks := rfl
@[simp] theorem State.emit_grans (o : Output) : (s.emit o).grans = s.grans := rfl
@[simp] theorem State.emit_staged (o : Output) : (s.emit o).staged = s.staged := rfl
@[simp] theorem State.emit_active (o : Output) : (s.emit o).active = s.active := rfl
@[simp] theorem State.emit_sess (o : Output) : (s.emit o).sess = s.sess := rfl
@[simp] theorem State.emit_alerts (o : Output) : (s.emit o).alerts = s.alerts := rfl
@[simp] theorem State.emit_alertSeq (o : Output) : (s.emit o).alertSeq = s.alertSeq := rfl
@[simp] theorem State.emit_now (o : Output) : (s.emit o).now = s.now := rfl
@[simp] theorem State.emit_frac (o : Output) : (s.emit o).frac = s.frac := rfl
@[simp] theorem State.emit_ties (o : Output) : (s.emit o).ties = s.ties := rfl
@[simp] theorem State.emit_amax (o : Output) : (s.emit o).amax = s.amax := rfl
@[simp] theorem State.emit_fuse (o : Output) : (s.emit o).fuse = s.fuse := rfl
@[simp] theorem State.emit_scrub (o : Output) : (s.emit o).scrub = s.scrub := rfl
@[simp] theorem State.emit_moverRem (o : Output) : (s.emit o).moverRem = s.moverRem := rfl
@[simp] theorem State.emit_saves (o : Output) : (s.emit o).saves = s.saves := rfl
@[simp] theorem State.emit_lreqs (o : Output) : (s.emit o).lreqs = s.lreqs := rfl
@[simp] theorem State.emit_lresv (o : Output) : (s.emit o).lresv = s.lresv := rfl
@[simp] theorem State.emit_rails (o : Output) : (s.emit o).rails = s.rails := rfl
@[simp] theorem State.emit_thr (o : Output) : (s.emit o).thr = s.thr := rfl
@[simp] theorem State.emit_armed (o : Output) : (s.emit o).armed = s.armed := rfl
@[simp] theorem State.emit_ballastPc (o : Output) : (s.emit o).ballastPc = s.ballastPc := rfl
@[simp] theorem State.emit_ballastBill (o : Output) : (s.emit o).ballastBill = s.ballastBill := rfl
@[simp] theorem State.emit_time (o : Output) : (s.emit o).time = s.time := rfl
@[simp] theorem State.emit_timeouts (o : Output) : (s.emit o).timeouts = s.timeouts := rfl
@[simp] theorem State.emit_lateEnt (o : Output) : (s.emit o).lateEnt = s.lateEnt := rfl
@[simp] theorem State.emit_wc (o : Output) : (s.emit o).wc = s.wc := rfl
@[simp] theorem State.emit_wcFence (o : Output) : (s.emit o).wcFence = s.wcFence := rfl
@[simp] theorem State.emit_slowRem (o : Output) : (s.emit o).slowRem = s.slowRem := rfl
@[simp] theorem State.emit_patrol (o : Output) : (s.emit o).patrol = s.patrol := rfl
@[simp] theorem State.emit_sparesUsed (o : Output) : (s.emit o).sparesUsed = s.sparesUsed := rfl
@[simp] theorem State.emit_grps (o : Output) : (s.emit o).grps = s.grps := rfl
@[simp] theorem State.emit_sends (o : Output) : (s.emit o).sends = s.sends := rfl
@[simp] theorem State.emit_parcels (o : Output) : (s.emit o).parcels = s.parcels := rfl
@[simp] theorem State.emit_lands (o : Output) : (s.emit o).lands = s.lands := rfl
@[simp] theorem State.emit_steps (o : Output) : (s.emit o).steps = s.steps := rfl
@[simp] theorem State.emit_armRecs (o : Output) : (s.emit o).armRecs = s.armRecs := rfl
@[simp] theorem State.emit_landq (o : Output) : (s.emit o).landq = s.landq := rfl
@[simp] theorem State.emit_qps (o : Output) : (s.emit o).qps = s.qps := rfl
@[simp] theorem State.emit_rings (o : Output) : (s.emit o).rings = s.rings := rfl
@[simp] theorem State.emit_pfc (o : Output) : (s.emit o).pfc = s.pfc := rfl
@[simp] theorem State.emit_pfcNs (o : Output) : (s.emit o).pfcNs = s.pfcNs := rfl
@[simp] theorem State.emit_ethRem (o : Output) : (s.emit o).ethRem = s.ethRem := rfl
@[simp] theorem State.emit_frame (o : Output) : (s.emit o).frame = s.frame := rfl
@[simp] theorem State.emit_jobs (o : Output) : (s.emit o).jobs = s.jobs := rfl
@[simp] theorem State.emit_openCnt (o : Output) : (s.emit o).openCnt = s.openCnt := rfl
@[simp] theorem State.emit_nonces (o : Output) : (s.emit o).nonces = s.nonces := rfl
@[simp] theorem State.emit_logs (o : Output) : (s.emit o).logs = s.logs := rfl
@[simp] theorem State.emit_logOpen (o : Output) : (s.emit o).logOpen = s.logOpen := rfl
@[simp] theorem State.emit_slots (o : Output) : (s.emit o).slots = s.slots := rfl
@[simp] theorem State.emit_running (o : Output) : (s.emit o).running = s.running := rfl
@[simp] theorem State.emit_svnMin (o : Output) : (s.emit o).svnMin = s.svnMin := rfl
@[simp] theorem State.emit_fwBusy (o : Output) : (s.emit o).fwBusy = s.fwBusy := rfl
@[simp] theorem State.emit_att (o : Output) : (s.emit o).att = s.att := rfl
@[simp] theorem State.emit_nv (o : Output) : (s.emit o).nv = s.nv := rfl
@[simp] theorem State.emit_met (o : Output) : (s.emit o).met = s.met := rfl
@[simp] theorem State.emit_repairs (o : Output) : (s.emit o).repairs = s.repairs := rfl
@[simp] theorem State.emit_ueSeen (o : Output) : (s.emit o).ueSeen = s.ueSeen := rfl
@[simp] theorem State.emit_fatal (o : Output) : (s.emit o).fatal = s.fatal := rfl
@[simp] theorem State.emit_linkRetry (o : Output) : (s.emit o).linkRetry = s.linkRetry := rfl
@[simp] theorem State.emit_ceNew (o : Output) : (s.emit o).ceNew = s.ceNew := rfl
@[simp] theorem State.emit_warm (o : Output) : (s.emit o).warm = s.warm := rfl
@[simp] theorem State.emit_powered (o : Output) : (s.emit o).powered = s.powered := rfl
@[simp] theorem State.emit_rstLow (o : Output) : (s.emit o).rstLow = s.rstLow := rfl
@[simp] theorem State.emit_stagedDies (o : Output) : (s.emit o).stagedDies = s.stagedDies := rfl
@[simp] theorem State.emit_warmStart (o : Output) : (s.emit o).warmStart = s.warmStart := rfl
@[simp] theorem State.emit_hold (o : Output) : (s.emit o).hold = s.hold := rfl
@[simp] theorem State.emit_temps (o : Output) : (s.emit o).temps = s.temps := rfl
@[simp] theorem State.emit_trips (o : Output) : (s.emit o).trips = s.trips := rfl
@[simp] theorem State.emit_pmbMiss (o : Output) : (s.emit o).pmbMiss = s.pmbMiss := rfl
@[simp] theorem State.emit_avsAt (o : Output) : (s.emit o).avsAt = s.avsAt := rfl
@[simp] theorem State.emit_tap (o : Output) : (s.emit o).tap = s.tap := rfl
@[simp] theorem State.emit_tags (o : Output) : (s.emit o).tags = s.tags := rfl
@[simp] theorem State.emit_slowPasses (o : Output) : (s.emit o).slowPasses = s.slowPasses := rfl
@[simp] theorem State.emit_deferred (o : Output) : (s.emit o).deferred = s.deferred := rfl
@[simp] theorem State.emit_heldStatus (o : Output) : (s.emit o).heldStatus = s.heldStatus := rfl
@[simp] theorem State.emit_heldAlert (o : Output) : (s.emit o).heldAlert = s.heldAlert := rfl

/-! ## setByte -/

@[simp] theorem State.setByte_pending (a : Nat) (v : Byte) : (s.setByte a v).pending = s.pending := rfl
@[simp] theorem State.setByte_fresh (a : Nat) (v : Byte) : (s.setByte a v).fresh = s.fresh := rfl
@[simp] theorem State.setByte_regs (a : Nat) (v : Byte) : (s.setByte a v).regs = s.regs := rfl
@[simp] theorem State.setByte_sregs (a : Nat) (v : Byte) : (s.setByte a v).sregs = s.sregs := rfl
@[simp] theorem State.setByte_ctx (a : Nat) (v : Byte) : (s.setByte a v).ctx = s.ctx := rfl
@[simp] theorem State.setByte_cores (a : Nat) (v : Byte) : (s.setByte a v).cores = s.cores := rfl
@[simp] theorem State.setByte_marks (a : Nat) (v : Byte) : (s.setByte a v).marks = s.marks := rfl
@[simp] theorem State.setByte_grans (a : Nat) (v : Byte) : (s.setByte a v).grans = s.grans := rfl
@[simp] theorem State.setByte_staged (a : Nat) (v : Byte) : (s.setByte a v).staged = s.staged := rfl
@[simp] theorem State.setByte_active (a : Nat) (v : Byte) : (s.setByte a v).active = s.active := rfl
@[simp] theorem State.setByte_sess (a : Nat) (v : Byte) : (s.setByte a v).sess = s.sess := rfl
@[simp] theorem State.setByte_alerts (a : Nat) (v : Byte) : (s.setByte a v).alerts = s.alerts := rfl
@[simp] theorem State.setByte_alertSeq (a : Nat) (v : Byte) : (s.setByte a v).alertSeq = s.alertSeq := rfl
@[simp] theorem State.setByte_now (a : Nat) (v : Byte) : (s.setByte a v).now = s.now := rfl
@[simp] theorem State.setByte_frac (a : Nat) (v : Byte) : (s.setByte a v).frac = s.frac := rfl
@[simp] theorem State.setByte_ties (a : Nat) (v : Byte) : (s.setByte a v).ties = s.ties := rfl
@[simp] theorem State.setByte_amax (a : Nat) (v : Byte) : (s.setByte a v).amax = s.amax := rfl
@[simp] theorem State.setByte_out (a : Nat) (v : Byte) : (s.setByte a v).out = s.out := rfl
@[simp] theorem State.setByte_fuse (a : Nat) (v : Byte) : (s.setByte a v).fuse = s.fuse := rfl
@[simp] theorem State.setByte_scrub (a : Nat) (v : Byte) : (s.setByte a v).scrub = s.scrub := rfl
@[simp] theorem State.setByte_moverRem (a : Nat) (v : Byte) : (s.setByte a v).moverRem = s.moverRem := rfl
@[simp] theorem State.setByte_saves (a : Nat) (v : Byte) : (s.setByte a v).saves = s.saves := rfl
@[simp] theorem State.setByte_lreqs (a : Nat) (v : Byte) : (s.setByte a v).lreqs = s.lreqs := rfl
@[simp] theorem State.setByte_lresv (a : Nat) (v : Byte) : (s.setByte a v).lresv = s.lresv := rfl
@[simp] theorem State.setByte_rails (a : Nat) (v : Byte) : (s.setByte a v).rails = s.rails := rfl
@[simp] theorem State.setByte_thr (a : Nat) (v : Byte) : (s.setByte a v).thr = s.thr := rfl
@[simp] theorem State.setByte_armed (a : Nat) (v : Byte) : (s.setByte a v).armed = s.armed := rfl
@[simp] theorem State.setByte_ballastPc (a : Nat) (v : Byte) : (s.setByte a v).ballastPc = s.ballastPc := rfl
@[simp] theorem State.setByte_ballastBill (a : Nat) (v : Byte) : (s.setByte a v).ballastBill = s.ballastBill := rfl
@[simp] theorem State.setByte_time (a : Nat) (v : Byte) : (s.setByte a v).time = s.time := rfl
@[simp] theorem State.setByte_timeouts (a : Nat) (v : Byte) : (s.setByte a v).timeouts = s.timeouts := rfl
@[simp] theorem State.setByte_lateEnt (a : Nat) (v : Byte) : (s.setByte a v).lateEnt = s.lateEnt := rfl
@[simp] theorem State.setByte_wc (a : Nat) (v : Byte) : (s.setByte a v).wc = s.wc := rfl
@[simp] theorem State.setByte_wcFence (a : Nat) (v : Byte) : (s.setByte a v).wcFence = s.wcFence := rfl
@[simp] theorem State.setByte_slowRem (a : Nat) (v : Byte) : (s.setByte a v).slowRem = s.slowRem := rfl
@[simp] theorem State.setByte_patrol (a : Nat) (v : Byte) : (s.setByte a v).patrol = s.patrol := rfl
@[simp] theorem State.setByte_sparesUsed (a : Nat) (v : Byte) : (s.setByte a v).sparesUsed = s.sparesUsed := rfl
@[simp] theorem State.setByte_grps (a : Nat) (v : Byte) : (s.setByte a v).grps = s.grps := rfl
@[simp] theorem State.setByte_sends (a : Nat) (v : Byte) : (s.setByte a v).sends = s.sends := rfl
@[simp] theorem State.setByte_parcels (a : Nat) (v : Byte) : (s.setByte a v).parcels = s.parcels := rfl
@[simp] theorem State.setByte_lands (a : Nat) (v : Byte) : (s.setByte a v).lands = s.lands := rfl
@[simp] theorem State.setByte_steps (a : Nat) (v : Byte) : (s.setByte a v).steps = s.steps := rfl
@[simp] theorem State.setByte_armRecs (a : Nat) (v : Byte) : (s.setByte a v).armRecs = s.armRecs := rfl
@[simp] theorem State.setByte_landq (a : Nat) (v : Byte) : (s.setByte a v).landq = s.landq := rfl
@[simp] theorem State.setByte_qps (a : Nat) (v : Byte) : (s.setByte a v).qps = s.qps := rfl
@[simp] theorem State.setByte_rings (a : Nat) (v : Byte) : (s.setByte a v).rings = s.rings := rfl
@[simp] theorem State.setByte_pfc (a : Nat) (v : Byte) : (s.setByte a v).pfc = s.pfc := rfl
@[simp] theorem State.setByte_pfcNs (a : Nat) (v : Byte) : (s.setByte a v).pfcNs = s.pfcNs := rfl
@[simp] theorem State.setByte_ethRem (a : Nat) (v : Byte) : (s.setByte a v).ethRem = s.ethRem := rfl
@[simp] theorem State.setByte_frame (a : Nat) (v : Byte) : (s.setByte a v).frame = s.frame := rfl
@[simp] theorem State.setByte_jobs (a : Nat) (v : Byte) : (s.setByte a v).jobs = s.jobs := rfl
@[simp] theorem State.setByte_openCnt (a : Nat) (v : Byte) : (s.setByte a v).openCnt = s.openCnt := rfl
@[simp] theorem State.setByte_nonces (a : Nat) (v : Byte) : (s.setByte a v).nonces = s.nonces := rfl
@[simp] theorem State.setByte_logs (a : Nat) (v : Byte) : (s.setByte a v).logs = s.logs := rfl
@[simp] theorem State.setByte_logOpen (a : Nat) (v : Byte) : (s.setByte a v).logOpen = s.logOpen := rfl
@[simp] theorem State.setByte_slots (a : Nat) (v : Byte) : (s.setByte a v).slots = s.slots := rfl
@[simp] theorem State.setByte_running (a : Nat) (v : Byte) : (s.setByte a v).running = s.running := rfl
@[simp] theorem State.setByte_svnMin (a : Nat) (v : Byte) : (s.setByte a v).svnMin = s.svnMin := rfl
@[simp] theorem State.setByte_fwBusy (a : Nat) (v : Byte) : (s.setByte a v).fwBusy = s.fwBusy := rfl
@[simp] theorem State.setByte_att (a : Nat) (v : Byte) : (s.setByte a v).att = s.att := rfl
@[simp] theorem State.setByte_nv (a : Nat) (v : Byte) : (s.setByte a v).nv = s.nv := rfl
@[simp] theorem State.setByte_met (a : Nat) (v : Byte) : (s.setByte a v).met = s.met := rfl
@[simp] theorem State.setByte_repairs (a : Nat) (v : Byte) : (s.setByte a v).repairs = s.repairs := rfl
@[simp] theorem State.setByte_ueSeen (a : Nat) (v : Byte) : (s.setByte a v).ueSeen = s.ueSeen := rfl
@[simp] theorem State.setByte_fatal (a : Nat) (v : Byte) : (s.setByte a v).fatal = s.fatal := rfl
@[simp] theorem State.setByte_linkRetry (a : Nat) (v : Byte) : (s.setByte a v).linkRetry = s.linkRetry := rfl
@[simp] theorem State.setByte_ceNew (a : Nat) (v : Byte) : (s.setByte a v).ceNew = s.ceNew := rfl
@[simp] theorem State.setByte_warm (a : Nat) (v : Byte) : (s.setByte a v).warm = s.warm := rfl
@[simp] theorem State.setByte_powered (a : Nat) (v : Byte) : (s.setByte a v).powered = s.powered := rfl
@[simp] theorem State.setByte_rstLow (a : Nat) (v : Byte) : (s.setByte a v).rstLow = s.rstLow := rfl
@[simp] theorem State.setByte_stagedDies (a : Nat) (v : Byte) : (s.setByte a v).stagedDies = s.stagedDies := rfl
@[simp] theorem State.setByte_warmStart (a : Nat) (v : Byte) : (s.setByte a v).warmStart = s.warmStart := rfl
@[simp] theorem State.setByte_hold (a : Nat) (v : Byte) : (s.setByte a v).hold = s.hold := rfl
@[simp] theorem State.setByte_temps (a : Nat) (v : Byte) : (s.setByte a v).temps = s.temps := rfl
@[simp] theorem State.setByte_trips (a : Nat) (v : Byte) : (s.setByte a v).trips = s.trips := rfl
@[simp] theorem State.setByte_pmbMiss (a : Nat) (v : Byte) : (s.setByte a v).pmbMiss = s.pmbMiss := rfl
@[simp] theorem State.setByte_avsAt (a : Nat) (v : Byte) : (s.setByte a v).avsAt = s.avsAt := rfl
@[simp] theorem State.setByte_tap (a : Nat) (v : Byte) : (s.setByte a v).tap = s.tap := rfl
@[simp] theorem State.setByte_tags (a : Nat) (v : Byte) : (s.setByte a v).tags = s.tags := rfl
@[simp] theorem State.setByte_slowPasses (a : Nat) (v : Byte) : (s.setByte a v).slowPasses = s.slowPasses := rfl
@[simp] theorem State.setByte_deferred (a : Nat) (v : Byte) : (s.setByte a v).deferred = s.deferred := rfl
@[simp] theorem State.setByte_heldStatus (a : Nat) (v : Byte) : (s.setByte a v).heldStatus = s.heldStatus := rfl
@[simp] theorem State.setByte_heldAlert (a : Nat) (v : Byte) : (s.setByte a v).heldAlert = s.heldAlert := rfl

/-! ## setMark -/

@[simp] theorem State.setMark_pending (l : Nat) (m : LineMark) : (s.setMark l m).pending = s.pending := rfl
@[simp] theorem State.setMark_fresh (l : Nat) (m : LineMark) : (s.setMark l m).fresh = s.fresh := rfl
@[simp] theorem State.setMark_regs (l : Nat) (m : LineMark) : (s.setMark l m).regs = s.regs := rfl
@[simp] theorem State.setMark_sregs (l : Nat) (m : LineMark) : (s.setMark l m).sregs = s.sregs := rfl
@[simp] theorem State.setMark_ctx (l : Nat) (m : LineMark) : (s.setMark l m).ctx = s.ctx := rfl
@[simp] theorem State.setMark_cores (l : Nat) (m : LineMark) : (s.setMark l m).cores = s.cores := rfl
@[simp] theorem State.setMark_mem (l : Nat) (m : LineMark) : (s.setMark l m).mem = s.mem := rfl
@[simp] theorem State.setMark_grans (l : Nat) (m : LineMark) : (s.setMark l m).grans = s.grans := rfl
@[simp] theorem State.setMark_staged (l : Nat) (m : LineMark) : (s.setMark l m).staged = s.staged := rfl
@[simp] theorem State.setMark_active (l : Nat) (m : LineMark) : (s.setMark l m).active = s.active := rfl
@[simp] theorem State.setMark_sess (l : Nat) (m : LineMark) : (s.setMark l m).sess = s.sess := rfl
@[simp] theorem State.setMark_alerts (l : Nat) (m : LineMark) : (s.setMark l m).alerts = s.alerts := rfl
@[simp] theorem State.setMark_alertSeq (l : Nat) (m : LineMark) : (s.setMark l m).alertSeq = s.alertSeq := rfl
@[simp] theorem State.setMark_now (l : Nat) (m : LineMark) : (s.setMark l m).now = s.now := rfl
@[simp] theorem State.setMark_frac (l : Nat) (m : LineMark) : (s.setMark l m).frac = s.frac := rfl
@[simp] theorem State.setMark_ties (l : Nat) (m : LineMark) : (s.setMark l m).ties = s.ties := rfl
@[simp] theorem State.setMark_amax (l : Nat) (m : LineMark) : (s.setMark l m).amax = s.amax := rfl
@[simp] theorem State.setMark_out (l : Nat) (m : LineMark) : (s.setMark l m).out = s.out := rfl
@[simp] theorem State.setMark_fuse (l : Nat) (m : LineMark) : (s.setMark l m).fuse = s.fuse := rfl
@[simp] theorem State.setMark_scrub (l : Nat) (m : LineMark) : (s.setMark l m).scrub = s.scrub := rfl
@[simp] theorem State.setMark_moverRem (l : Nat) (m : LineMark) : (s.setMark l m).moverRem = s.moverRem := rfl
@[simp] theorem State.setMark_saves (l : Nat) (m : LineMark) : (s.setMark l m).saves = s.saves := rfl
@[simp] theorem State.setMark_lreqs (l : Nat) (m : LineMark) : (s.setMark l m).lreqs = s.lreqs := rfl
@[simp] theorem State.setMark_lresv (l : Nat) (m : LineMark) : (s.setMark l m).lresv = s.lresv := rfl
@[simp] theorem State.setMark_rails (l : Nat) (m : LineMark) : (s.setMark l m).rails = s.rails := rfl
@[simp] theorem State.setMark_thr (l : Nat) (m : LineMark) : (s.setMark l m).thr = s.thr := rfl
@[simp] theorem State.setMark_armed (l : Nat) (m : LineMark) : (s.setMark l m).armed = s.armed := rfl
@[simp] theorem State.setMark_ballastPc (l : Nat) (m : LineMark) : (s.setMark l m).ballastPc = s.ballastPc := rfl
@[simp] theorem State.setMark_ballastBill (l : Nat) (m : LineMark) : (s.setMark l m).ballastBill = s.ballastBill := rfl
@[simp] theorem State.setMark_time (l : Nat) (m : LineMark) : (s.setMark l m).time = s.time := rfl
@[simp] theorem State.setMark_timeouts (l : Nat) (m : LineMark) : (s.setMark l m).timeouts = s.timeouts := rfl
@[simp] theorem State.setMark_lateEnt (l : Nat) (m : LineMark) : (s.setMark l m).lateEnt = s.lateEnt := rfl
@[simp] theorem State.setMark_wc (l : Nat) (m : LineMark) : (s.setMark l m).wc = s.wc := rfl
@[simp] theorem State.setMark_wcFence (l : Nat) (m : LineMark) : (s.setMark l m).wcFence = s.wcFence := rfl
@[simp] theorem State.setMark_slowRem (l : Nat) (m : LineMark) : (s.setMark l m).slowRem = s.slowRem := rfl
@[simp] theorem State.setMark_patrol (l : Nat) (m : LineMark) : (s.setMark l m).patrol = s.patrol := rfl
@[simp] theorem State.setMark_sparesUsed (l : Nat) (m : LineMark) : (s.setMark l m).sparesUsed = s.sparesUsed := rfl
@[simp] theorem State.setMark_grps (l : Nat) (m : LineMark) : (s.setMark l m).grps = s.grps := rfl
@[simp] theorem State.setMark_sends (l : Nat) (m : LineMark) : (s.setMark l m).sends = s.sends := rfl
@[simp] theorem State.setMark_parcels (l : Nat) (m : LineMark) : (s.setMark l m).parcels = s.parcels := rfl
@[simp] theorem State.setMark_lands (l : Nat) (m : LineMark) : (s.setMark l m).lands = s.lands := rfl
@[simp] theorem State.setMark_steps (l : Nat) (m : LineMark) : (s.setMark l m).steps = s.steps := rfl
@[simp] theorem State.setMark_armRecs (l : Nat) (m : LineMark) : (s.setMark l m).armRecs = s.armRecs := rfl
@[simp] theorem State.setMark_landq (l : Nat) (m : LineMark) : (s.setMark l m).landq = s.landq := rfl
@[simp] theorem State.setMark_qps (l : Nat) (m : LineMark) : (s.setMark l m).qps = s.qps := rfl
@[simp] theorem State.setMark_rings (l : Nat) (m : LineMark) : (s.setMark l m).rings = s.rings := rfl
@[simp] theorem State.setMark_pfc (l : Nat) (m : LineMark) : (s.setMark l m).pfc = s.pfc := rfl
@[simp] theorem State.setMark_pfcNs (l : Nat) (m : LineMark) : (s.setMark l m).pfcNs = s.pfcNs := rfl
@[simp] theorem State.setMark_ethRem (l : Nat) (m : LineMark) : (s.setMark l m).ethRem = s.ethRem := rfl
@[simp] theorem State.setMark_frame (l : Nat) (m : LineMark) : (s.setMark l m).frame = s.frame := rfl
@[simp] theorem State.setMark_jobs (l : Nat) (m : LineMark) : (s.setMark l m).jobs = s.jobs := rfl
@[simp] theorem State.setMark_openCnt (l : Nat) (m : LineMark) : (s.setMark l m).openCnt = s.openCnt := rfl
@[simp] theorem State.setMark_nonces (l : Nat) (m : LineMark) : (s.setMark l m).nonces = s.nonces := rfl
@[simp] theorem State.setMark_logs (l : Nat) (m : LineMark) : (s.setMark l m).logs = s.logs := rfl
@[simp] theorem State.setMark_logOpen (l : Nat) (m : LineMark) : (s.setMark l m).logOpen = s.logOpen := rfl
@[simp] theorem State.setMark_slots (l : Nat) (m : LineMark) : (s.setMark l m).slots = s.slots := rfl
@[simp] theorem State.setMark_running (l : Nat) (m : LineMark) : (s.setMark l m).running = s.running := rfl
@[simp] theorem State.setMark_svnMin (l : Nat) (m : LineMark) : (s.setMark l m).svnMin = s.svnMin := rfl
@[simp] theorem State.setMark_fwBusy (l : Nat) (m : LineMark) : (s.setMark l m).fwBusy = s.fwBusy := rfl
@[simp] theorem State.setMark_att (l : Nat) (m : LineMark) : (s.setMark l m).att = s.att := rfl
@[simp] theorem State.setMark_nv (l : Nat) (m : LineMark) : (s.setMark l m).nv = s.nv := rfl
@[simp] theorem State.setMark_met (l : Nat) (m : LineMark) : (s.setMark l m).met = s.met := rfl
@[simp] theorem State.setMark_repairs (l : Nat) (m : LineMark) : (s.setMark l m).repairs = s.repairs := rfl
@[simp] theorem State.setMark_ueSeen (l : Nat) (m : LineMark) : (s.setMark l m).ueSeen = s.ueSeen := rfl
@[simp] theorem State.setMark_fatal (l : Nat) (m : LineMark) : (s.setMark l m).fatal = s.fatal := rfl
@[simp] theorem State.setMark_linkRetry (l : Nat) (m : LineMark) : (s.setMark l m).linkRetry = s.linkRetry := rfl
@[simp] theorem State.setMark_ceNew (l : Nat) (m : LineMark) : (s.setMark l m).ceNew = s.ceNew := rfl
@[simp] theorem State.setMark_warm (l : Nat) (m : LineMark) : (s.setMark l m).warm = s.warm := rfl
@[simp] theorem State.setMark_powered (l : Nat) (m : LineMark) : (s.setMark l m).powered = s.powered := rfl
@[simp] theorem State.setMark_rstLow (l : Nat) (m : LineMark) : (s.setMark l m).rstLow = s.rstLow := rfl
@[simp] theorem State.setMark_stagedDies (l : Nat) (m : LineMark) : (s.setMark l m).stagedDies = s.stagedDies := rfl
@[simp] theorem State.setMark_warmStart (l : Nat) (m : LineMark) : (s.setMark l m).warmStart = s.warmStart := rfl
@[simp] theorem State.setMark_hold (l : Nat) (m : LineMark) : (s.setMark l m).hold = s.hold := rfl
@[simp] theorem State.setMark_temps (l : Nat) (m : LineMark) : (s.setMark l m).temps = s.temps := rfl
@[simp] theorem State.setMark_trips (l : Nat) (m : LineMark) : (s.setMark l m).trips = s.trips := rfl
@[simp] theorem State.setMark_pmbMiss (l : Nat) (m : LineMark) : (s.setMark l m).pmbMiss = s.pmbMiss := rfl
@[simp] theorem State.setMark_avsAt (l : Nat) (m : LineMark) : (s.setMark l m).avsAt = s.avsAt := rfl
@[simp] theorem State.setMark_tap (l : Nat) (m : LineMark) : (s.setMark l m).tap = s.tap := rfl
@[simp] theorem State.setMark_tags (l : Nat) (m : LineMark) : (s.setMark l m).tags = s.tags := rfl
@[simp] theorem State.setMark_slowPasses (l : Nat) (m : LineMark) : (s.setMark l m).slowPasses = s.slowPasses := rfl
@[simp] theorem State.setMark_deferred (l : Nat) (m : LineMark) : (s.setMark l m).deferred = s.deferred := rfl
@[simp] theorem State.setMark_heldStatus (l : Nat) (m : LineMark) : (s.setMark l m).heldStatus = s.heldStatus := rfl
@[simp] theorem State.setMark_heldAlert (l : Nat) (m : LineMark) : (s.setMark l m).heldAlert = s.heldAlert := rfl

/-! ## setGran -/

@[simp] theorem State.setGran_pending (g : Nat) (r : Gran) : (s.setGran g r).pending = s.pending := rfl
@[simp] theorem State.setGran_fresh (g : Nat) (r : Gran) : (s.setGran g r).fresh = s.fresh := rfl
@[simp] theorem State.setGran_regs (g : Nat) (r : Gran) : (s.setGran g r).regs = s.regs := rfl
@[simp] theorem State.setGran_sregs (g : Nat) (r : Gran) : (s.setGran g r).sregs = s.sregs := rfl
@[simp] theorem State.setGran_ctx (g : Nat) (r : Gran) : (s.setGran g r).ctx = s.ctx := rfl
@[simp] theorem State.setGran_cores (g : Nat) (r : Gran) : (s.setGran g r).cores = s.cores := rfl
@[simp] theorem State.setGran_mem (g : Nat) (r : Gran) : (s.setGran g r).mem = s.mem := rfl
@[simp] theorem State.setGran_marks (g : Nat) (r : Gran) : (s.setGran g r).marks = s.marks := rfl
@[simp] theorem State.setGran_staged (g : Nat) (r : Gran) : (s.setGran g r).staged = s.staged := rfl
@[simp] theorem State.setGran_active (g : Nat) (r : Gran) : (s.setGran g r).active = s.active := rfl
@[simp] theorem State.setGran_sess (g : Nat) (r : Gran) : (s.setGran g r).sess = s.sess := rfl
@[simp] theorem State.setGran_alerts (g : Nat) (r : Gran) : (s.setGran g r).alerts = s.alerts := rfl
@[simp] theorem State.setGran_alertSeq (g : Nat) (r : Gran) : (s.setGran g r).alertSeq = s.alertSeq := rfl
@[simp] theorem State.setGran_now (g : Nat) (r : Gran) : (s.setGran g r).now = s.now := rfl
@[simp] theorem State.setGran_frac (g : Nat) (r : Gran) : (s.setGran g r).frac = s.frac := rfl
@[simp] theorem State.setGran_ties (g : Nat) (r : Gran) : (s.setGran g r).ties = s.ties := rfl
@[simp] theorem State.setGran_amax (g : Nat) (r : Gran) : (s.setGran g r).amax = s.amax := rfl
@[simp] theorem State.setGran_out (g : Nat) (r : Gran) : (s.setGran g r).out = s.out := rfl
@[simp] theorem State.setGran_fuse (g : Nat) (r : Gran) : (s.setGran g r).fuse = s.fuse := rfl
@[simp] theorem State.setGran_scrub (g : Nat) (r : Gran) : (s.setGran g r).scrub = s.scrub := rfl
@[simp] theorem State.setGran_moverRem (g : Nat) (r : Gran) : (s.setGran g r).moverRem = s.moverRem := rfl
@[simp] theorem State.setGran_saves (g : Nat) (r : Gran) : (s.setGran g r).saves = s.saves := rfl
@[simp] theorem State.setGran_lreqs (g : Nat) (r : Gran) : (s.setGran g r).lreqs = s.lreqs := rfl
@[simp] theorem State.setGran_lresv (g : Nat) (r : Gran) : (s.setGran g r).lresv = s.lresv := rfl
@[simp] theorem State.setGran_rails (g : Nat) (r : Gran) : (s.setGran g r).rails = s.rails := rfl
@[simp] theorem State.setGran_thr (g : Nat) (r : Gran) : (s.setGran g r).thr = s.thr := rfl
@[simp] theorem State.setGran_armed (g : Nat) (r : Gran) : (s.setGran g r).armed = s.armed := rfl
@[simp] theorem State.setGran_ballastPc (g : Nat) (r : Gran) : (s.setGran g r).ballastPc = s.ballastPc := rfl
@[simp] theorem State.setGran_ballastBill (g : Nat) (r : Gran) : (s.setGran g r).ballastBill = s.ballastBill := rfl
@[simp] theorem State.setGran_time (g : Nat) (r : Gran) : (s.setGran g r).time = s.time := rfl
@[simp] theorem State.setGran_timeouts (g : Nat) (r : Gran) : (s.setGran g r).timeouts = s.timeouts := rfl
@[simp] theorem State.setGran_lateEnt (g : Nat) (r : Gran) : (s.setGran g r).lateEnt = s.lateEnt := rfl
@[simp] theorem State.setGran_wc (g : Nat) (r : Gran) : (s.setGran g r).wc = s.wc := rfl
@[simp] theorem State.setGran_wcFence (g : Nat) (r : Gran) : (s.setGran g r).wcFence = s.wcFence := rfl
@[simp] theorem State.setGran_slowRem (g : Nat) (r : Gran) : (s.setGran g r).slowRem = s.slowRem := rfl
@[simp] theorem State.setGran_patrol (g : Nat) (r : Gran) : (s.setGran g r).patrol = s.patrol := rfl
@[simp] theorem State.setGran_sparesUsed (g : Nat) (r : Gran) : (s.setGran g r).sparesUsed = s.sparesUsed := rfl
@[simp] theorem State.setGran_grps (g : Nat) (r : Gran) : (s.setGran g r).grps = s.grps := rfl
@[simp] theorem State.setGran_sends (g : Nat) (r : Gran) : (s.setGran g r).sends = s.sends := rfl
@[simp] theorem State.setGran_parcels (g : Nat) (r : Gran) : (s.setGran g r).parcels = s.parcels := rfl
@[simp] theorem State.setGran_lands (g : Nat) (r : Gran) : (s.setGran g r).lands = s.lands := rfl
@[simp] theorem State.setGran_steps (g : Nat) (r : Gran) : (s.setGran g r).steps = s.steps := rfl
@[simp] theorem State.setGran_armRecs (g : Nat) (r : Gran) : (s.setGran g r).armRecs = s.armRecs := rfl
@[simp] theorem State.setGran_landq (g : Nat) (r : Gran) : (s.setGran g r).landq = s.landq := rfl
@[simp] theorem State.setGran_qps (g : Nat) (r : Gran) : (s.setGran g r).qps = s.qps := rfl
@[simp] theorem State.setGran_rings (g : Nat) (r : Gran) : (s.setGran g r).rings = s.rings := rfl
@[simp] theorem State.setGran_pfc (g : Nat) (r : Gran) : (s.setGran g r).pfc = s.pfc := rfl
@[simp] theorem State.setGran_pfcNs (g : Nat) (r : Gran) : (s.setGran g r).pfcNs = s.pfcNs := rfl
@[simp] theorem State.setGran_ethRem (g : Nat) (r : Gran) : (s.setGran g r).ethRem = s.ethRem := rfl
@[simp] theorem State.setGran_frame (g : Nat) (r : Gran) : (s.setGran g r).frame = s.frame := rfl
@[simp] theorem State.setGran_jobs (g : Nat) (r : Gran) : (s.setGran g r).jobs = s.jobs := rfl
@[simp] theorem State.setGran_openCnt (g : Nat) (r : Gran) : (s.setGran g r).openCnt = s.openCnt := rfl
@[simp] theorem State.setGran_nonces (g : Nat) (r : Gran) : (s.setGran g r).nonces = s.nonces := rfl
@[simp] theorem State.setGran_logs (g : Nat) (r : Gran) : (s.setGran g r).logs = s.logs := rfl
@[simp] theorem State.setGran_logOpen (g : Nat) (r : Gran) : (s.setGran g r).logOpen = s.logOpen := rfl
@[simp] theorem State.setGran_slots (g : Nat) (r : Gran) : (s.setGran g r).slots = s.slots := rfl
@[simp] theorem State.setGran_running (g : Nat) (r : Gran) : (s.setGran g r).running = s.running := rfl
@[simp] theorem State.setGran_svnMin (g : Nat) (r : Gran) : (s.setGran g r).svnMin = s.svnMin := rfl
@[simp] theorem State.setGran_fwBusy (g : Nat) (r : Gran) : (s.setGran g r).fwBusy = s.fwBusy := rfl
@[simp] theorem State.setGran_att (g : Nat) (r : Gran) : (s.setGran g r).att = s.att := rfl
@[simp] theorem State.setGran_nv (g : Nat) (r : Gran) : (s.setGran g r).nv = s.nv := rfl
@[simp] theorem State.setGran_met (g : Nat) (r : Gran) : (s.setGran g r).met = s.met := rfl
@[simp] theorem State.setGran_repairs (g : Nat) (r : Gran) : (s.setGran g r).repairs = s.repairs := rfl
@[simp] theorem State.setGran_ueSeen (g : Nat) (r : Gran) : (s.setGran g r).ueSeen = s.ueSeen := rfl
@[simp] theorem State.setGran_fatal (g : Nat) (r : Gran) : (s.setGran g r).fatal = s.fatal := rfl
@[simp] theorem State.setGran_linkRetry (g : Nat) (r : Gran) : (s.setGran g r).linkRetry = s.linkRetry := rfl
@[simp] theorem State.setGran_ceNew (g : Nat) (r : Gran) : (s.setGran g r).ceNew = s.ceNew := rfl
@[simp] theorem State.setGran_warm (g : Nat) (r : Gran) : (s.setGran g r).warm = s.warm := rfl
@[simp] theorem State.setGran_powered (g : Nat) (r : Gran) : (s.setGran g r).powered = s.powered := rfl
@[simp] theorem State.setGran_rstLow (g : Nat) (r : Gran) : (s.setGran g r).rstLow = s.rstLow := rfl
@[simp] theorem State.setGran_stagedDies (g : Nat) (r : Gran) : (s.setGran g r).stagedDies = s.stagedDies := rfl
@[simp] theorem State.setGran_warmStart (g : Nat) (r : Gran) : (s.setGran g r).warmStart = s.warmStart := rfl
@[simp] theorem State.setGran_hold (g : Nat) (r : Gran) : (s.setGran g r).hold = s.hold := rfl
@[simp] theorem State.setGran_temps (g : Nat) (r : Gran) : (s.setGran g r).temps = s.temps := rfl
@[simp] theorem State.setGran_trips (g : Nat) (r : Gran) : (s.setGran g r).trips = s.trips := rfl
@[simp] theorem State.setGran_pmbMiss (g : Nat) (r : Gran) : (s.setGran g r).pmbMiss = s.pmbMiss := rfl
@[simp] theorem State.setGran_avsAt (g : Nat) (r : Gran) : (s.setGran g r).avsAt = s.avsAt := rfl
@[simp] theorem State.setGran_tap (g : Nat) (r : Gran) : (s.setGran g r).tap = s.tap := rfl
@[simp] theorem State.setGran_tags (g : Nat) (r : Gran) : (s.setGran g r).tags = s.tags := rfl
@[simp] theorem State.setGran_slowPasses (g : Nat) (r : Gran) : (s.setGran g r).slowPasses = s.slowPasses := rfl
@[simp] theorem State.setGran_deferred (g : Nat) (r : Gran) : (s.setGran g r).deferred = s.deferred := rfl
@[simp] theorem State.setGran_heldStatus (g : Nat) (r : Gran) : (s.setGran g r).heldStatus = s.heldStatus := rfl
@[simp] theorem State.setGran_heldAlert (g : Nat) (r : Gran) : (s.setGran g r).heldAlert = s.heldAlert := rfl

/-! ## Reads after writes -/

@[simp] theorem State.rd_wr_self (k : Nat) (v : Word) : (s.wr k v).rd k = v := by simp [State.rd, State.wr]

theorem State.rd_wr_other (v : Word) {j k : Nat} (h : j ≠ k) : (s.wr k v).rd j = s.rd j := by
  simp [State.rd, State.wr, mapGet_mapSet_other _ _ _ _ h]

theorem State.rd_wr (j k : Nat) (v : Word) : (s.wr k v).rd j = if j = k then v else s.rd j := by
  split
  · subst_vars; simp
  · exact s.rd_wr_other v ‹_›

/-- A register does not read the session selections. -/
@[simp] theorem State.rd_swr (j se k : Nat) (v : Word) : (s.swr se k v).rd j = s.rd j := rfl

theorem State.srd_swr_self (se k : Nat) (v : Word) : (s.swr se k v).srd se k = v := by simp [State.srd, State.swr]

/-- A 64-bit pair reads as written. -/
@[simp] theorem State.rd64_wr64_self (k : Nat) (v : DWord) : (s.wr64 k v).rd64 k = v := by
  have h : (s.wr64 k v).rd k = v.setWidth 32 := by simp [State.wr64, State.rd_wr_other _ _ (show k ≠ k + 4 by omega)]
  have h' : (s.wr64 k v).rd (k + 4) = (v >>> 32).setWidth 32 := by simp [State.wr64]
  rw [State.rd64, h, h']
  ext i hi
  simp only [BitVec.getElem_append, BitVec.getElem_setWidth, BitVec.getLsbD_ushiftRight]
  split
  · simp [BitVec.getLsbD_eq_getElem hi]
  · rw [BitVec.getLsbD_eq_getElem (by omega)]; congr 1; omega

theorem State.rd_wr64_other (v : DWord) {j k : Nat} (h : j ≠ k) (h' : j ≠ k + 4) : (s.wr64 k v).rd j = s.rd j := by
  simp [State.wr64, State.rd_wr_other, h, h']

@[simp] theorem State.getCtx_setCtx_self (c : Nat) (r : CtxRec) : (s.setCtx c r).getCtx c = r := by
  simp [State.getCtx, State.setCtx]

theorem State.getCtx_setCtx_other (r : CtxRec) {b c : Nat} (h : b ≠ c) : (s.setCtx c r).getCtx b = s.getCtx b := by
  simp [State.getCtx, State.setCtx, mapGet_mapSet_other _ _ _ _ h]

@[simp] theorem State.getCore_setCore_self (c : Nat) (r : CoreRec) : (s.setCore c r).getCore c = r := by
  simp [State.getCore, State.setCore]

theorem State.getCore_setCore_other (r : CoreRec) {b c : Nat} (h : b ≠ c) : (s.setCore c r).getCore b = s.getCore b := by
  simp [State.getCore, State.setCore, mapGet_mapSet_other _ _ _ _ h]

@[simp] theorem State.getSess_setSess_self (c : Nat) (r : SessRec) : (s.setSess c r).getSess c = r := by
  simp [State.getSess, State.setSess]

theorem State.getSess_setSess_other (r : SessRec) {b c : Nat} (h : b ≠ c) : (s.setSess c r).getSess b = s.getSess b := by
  simp [State.getSess, State.setSess, mapGet_mapSet_other _ _ _ _ h]

@[simp] theorem State.byte_setByte_self (a : Nat) (v : Byte) : (s.setByte a v).byte a = v := by
  simp [State.byte, State.setByte]

theorem State.byte_setByte_other (v : Byte) {a b : Nat} (h : b ≠ a) : (s.setByte a v).byte b = s.byte b := by
  simp [State.byte, State.setByte, mapGet_mapSet_other _ _ _ _ h]

@[simp] theorem State.mark_setMark_self (l : Nat) (m : LineMark) : (s.setMark l m).mark l = m := by
  simp [State.mark, State.setMark]

theorem State.mark_setMark_other (m : LineMark) {a b : Nat} (h : b ≠ a) : (s.setMark a m).mark b = s.mark b := by
  simp [State.mark, State.setMark, mapGet_mapSet_other _ _ _ _ h]

@[simp] theorem State.gran_setGran_self (g : Nat) (r : Gran) : (s.setGran g r).gran g = r := by
  simp [State.gran, State.setGran]

theorem State.gran_setGran_other (r : Gran) {a b : Nat} (h : b ≠ a) : (s.setGran a r).gran b = s.gran b := by
  simp [State.gran, State.setGran, mapGet_mapSet_other _ _ _ _ h]

end Sys2Proof.Machine
end

