-- ==== Sys2Proof/Laws/Control.lean ====
section
/-! SUPPORT. What an entry of a session outside a frame does: the lemmas that proofs about register rows cite. -/

namespace Sys2Proof.Machine

open Sys2Proof

/-- What it takes that a session is served at once. -/
theorem State.serves_iff (s : State) (se : Nat) : s.serves se = true ↔ s.stage = 8 ∧ (s.getSess se).isOpen = true ∧ s.frame = none ∧ s.jobs = [] := by
  simp [State.serves, Option.isNone_iff_eq_none, and_assoc]

/-- With nothing under way, a job starts at once. -/
theorem State.submit_idle (s : State) (j : Job) (hf : s.frame = none) (hj : s.jobs = []) : s.submit j = s.startJob j := by
  cases s; cases hf; cases hj; rfl

/-- A frame of one entry outside a control frame applies it and answers. -/
theorem State.startFrame_one (s : State) (se port : Nat) (e : CtlEntry) :
    s.startFrame { se := se, port := port, framed := false, rest := [e] } =
      match ({ s with frame := some { se := se, port := port, framed := false, rest := [e] } } : State).applyEntry se e with
      | (t, .ok v d) => ({ t with frame := some { se := se, port := port, framed := false, rest := [], done := [{ op := e.op, addr := e.addr, value := v, data := d }] } } : State).finishFrame
          { se := se, port := port, framed := false, rest := [], done := [{ op := e.op, addr := e.addr, value := v, data := d }] } 0 0xFF [{ op := e.op, addr := e.addr, value := v, data := d }]
      | (t, .fail c v d) => t.finishFrame { se := se, port := port, framed := false, rest := [e] } c 0 [{ op := e.op, addr := e.addr, value := v, data := d }]
      | (t, .wait dl) => { t with frame := some { se := se, port := port, framed := false, rest := [e], poll := some dl } } := by
  unfold State.startFrame
  simp only [List.length_singleton, State.runFrame]
  generalize State.applyEntry _ se e = q
  obtain ⟨t, o⟩ := q
  cases o <;> rfl

/-- All that an entry outside a frame can do: it is answered, or a POLL32 waits (R441). -/
theorem State.lone_eq (s : State) (se : Nat) (e : CtlEntry) (h : s.serves se = true) :
    s.lone se e = match (s.applying se e).applyEntry se e with
      | (t, .ok v d) => if e.op = 0x20 then (t.answered se 0 v d).beginWarm 3 else t.answered se 0 v d
      | (t, .fail c v d) => if c = 0 ∧ e.op = 0x20 then (t.answered se c v d).beginWarm 3 else t.answered se c v d
      | (t, .wait dl) => { t with frame := some { se := se, port := 16 + b2n (s.getSess se).port, framed := false, rest := [e], poll := some dl } } := by
  obtain ⟨h8, ho, hf, hj⟩ := (State.serves_iff s se).1 h
  unfold State.lone
  rw [State.submit_idle s _ hf hj]
  unfold State.startJob
  simp only [ho, if_true]
  rw [State.startFrame_one]
  unfold State.applying
  generalize State.applyEntry _ se e = q
  obtain ⟨t, o⟩ := q
  cases o with
  | ok v d => by_cases h : e.op = 0x20 <;> simp [State.finishFrame, State.answered, h]
  | fail c v d => by_cases h : e.op = 0x20 <;> by_cases hc : c = 0 <;> simp [State.finishFrame, State.answered, h, hc]
  | wait dl => rfl

/-- In the READY stage every operation is dispatched by its OPCODE (R441). -/
theorem State.applyEntry_served (s : State) (se : Nat) (e : CtlEntry) (h : s.stage = 8) : s.applyEntry se e = 
  (match e.op with
    | 0x01 => s.entryRd32 se (e.addr % 2 ^ 28)
    | 0x02 => s.entryWr32 se (e.addr % 2 ^ 28) (w32 e.value)
    | 0x03 => s.entryRd64 se (e.addr % 2 ^ 28)
    | 0x04 => s.entryWr64 se (e.addr % 2 ^ 28) (w32 e.value) (w32 (e.value / 2 ^ 32))
    | 0x05 => s.entryPoll se (e.addr % 2 ^ 28) e.value e.len
    | 0x10 => s.entryDpSet se (e.addr % 4) (e.addr / 4 % 1024) e.value
    | 0x11 => s.entryDpWrite se e.data
    | 0x12 => s.entryDpRead se e.len
    | 0x20 => if isOp se then (s, .ok 0 []) else (s, .fail Err.OPERATOR_ONLY 0 [])
    | _ => (s, .fail Err.CTRL_OP_INVALID 0 [])) := by
  unfold State.applyEntry
  simp only [h]
  rfl

/-- A write that the session may make has its effect and is answered (R441). -/
theorem State.write32_eq (s : State) (se a : Nat) (v : Word) (ha : a < 2 ^ 28) (h : s.serves se = true) (hd : s.denied se a true v = false) :
    s.write32 se a v = (s.wrote se a v).2.answered se (s.wrote se a v).1 0 [] := by
  have h8 := ((State.serves_iff s se).1 h).1
  unfold State.write32
  rw [State.lone_eq s _ _ h, State.applyEntry_served (s.applying _ _) _ _ h8]
  have hm : a % 2 ^ 28 = a := Nat.mod_eq_of_lt ha
  have hv : w32 v.toNat = v := by simp [w32]
  simp only [hm, hv, State.entryWr32]
  rw [show (s.applying se { op := 2, addr := a, value := v.toNat }).denied se a true v = false from hd]
  simp only [Bool.false_eq_true, if_false]
  unfold State.wrote
  generalize State.regWrite _ se a v = q
  obtain ⟨c, t⟩ := q
  by_cases hc : c = 0
  · rw [if_pos hc]; subst hc; rfl
  · rw [if_neg hc]; simp

/-! ## Tags of frames -/

/-- A little-endian field has its length. -/
theorem toLe_length (n v : Nat) : (toLe n v).length = n := by simp [toLe]

/-- A field in network order has its length. -/
theorem beBytes_length (n v : Nat) : (beBytes n v).length = n := by simp [beBytes]

/-- The first byte of a little-endian field. -/
theorem toLe_succ (n v : Nat) : toLe (n + 1) v = byteOf v 0 :: toLe n (v / 256) := by
  unfold toLe
  rw [List.range_succ_eq_map]
  simp only [List.map_cons, List.map_map, List.cons.injEq, true_and]
  apply List.map_congr_left
  intro i _
  simp [byteOf, Function.comp, Nat.pow_succ, Nat.div_div_eq_div_mul, Nat.mul_comm]

/-- Reading a little-endian field gives its number within the width. -/
theorem leOf_toLe (n v : Nat) : leOf (toLe n v) = v % 256 ^ n := by
  induction n generalizing v with
  | zero => simp [toLe, leOf, Nat.mod_one]
  | succ n ih =>
    rw [toLe_succ, leOf, ih, pow_succ]
    simp only [byteOf, pow_zero, Nat.div_one, BitVec.toNat_ofNat]
    rw [Nat.mul_comm (256 ^ n) 256, Nat.mod_mul]

/-- A frame that ctlFrame builds verifies under its key (R438). -/
theorem tagOk_ctlFrame (key : List Byte) (type se ops index status counter : Nat) (payload : List Byte) :
    tagOk key (ctlFrame key type se ops index status counter payload) = true := by
  unfold tagOk ctlFrame
  have hl : (beBytes 1 1 ++ beBytes 1 type ++ beBytes 2 se ++ beBytes 1 ops ++ beBytes 1 index ++ beBytes 2 status ++ beBytes 8 counter).length = 16 := by
    simp [beBytes_length]
  generalize (beBytes 1 1 ++ beBytes 1 type ++ beBytes 2 se ++ beBytes 1 ops ++ beBytes 1 index ++ beBytes 2 status ++ beBytes 8 counter) = head at hl
  simp only
  have h1 : ∀ t : Nat, (head ++ toLe 16 t ++ payload).take 16 = head := fun t => by
    rw [List.append_assoc, List.take_append_of_le_length (by omega), List.take_of_length_le (by omega)]
  have h2 : ∀ t : Nat, (head ++ toLe 16 t ++ payload).drop 32 = payload := fun t => by
    rw [show 32 = (head ++ toLe 16 t).length by simp [hl, toLe_length], List.drop_left]
  have h3 : ∀ t : Nat, (ctlHead (head ++ toLe 16 t ++ payload)).tag = t % 256 ^ 16 := fun t => by
    unfold ctlHead
    simp only
    rw [List.append_assoc]
    conv in List.drop 16 _ => rw [show 16 = head.length from hl.symm, List.drop_left]
    rw [List.take_append_of_le_length (by simp [toLe_length, hl]), List.take_of_length_le (by simp [toLe_length, hl]), leOf_toLe, hl]
  rw [h1, h2, h3]
  simp only [beq_iff_eq]
  rw [Nat.mod_eq_of_lt]
  unfold kmac256
  exact Nat.mod_lt _ (by decide)

end Sys2Proof.Machine
end

