-- ==== Sys2Proof/Laws/Memory.lean ====
section
/-! SUPPORT. Laws of memory: a byte read after a write, and that every operation which writes memory keeps its canonical form. -/

namespace Sys2Proof.Machine

open Sys2Proof

/-- A fold keeps what each of its steps keeps. -/
theorem foldl_keeps {α β : Type} (P : β → Prop) (f : β → α → β) (h : ∀ b a, P b → P (f b a)) :
    ∀ (l : List α) (b : β), P b → P (l.foldl f b)
  | [], _, hb => hb
  | a :: l, b, hb => foldl_keeps P f h l (f b a) (h b a hb)

/-- A fold of updates that leave a field alone leaves it alone. -/
theorem foldl_field {α β γ : Type} (g : β → γ) (f : β → α → β) (h : ∀ b a, g (f b a) = g b) (l : List α) (b : β) :
    g (l.foldl f b) = g b := foldl_keeps (fun x => g x = g b) f (fun _ _ hx => (h _ _).trans hx) l b rfl

/-- Memory of a state is in canonical form. -/
def State.memWf (s : State) : Prop := Memory.wf s.mem = true

/-- States with the same memory. -/
theorem State.memWf_of_mem {s t : State} (h : s.memWf) (e : t.mem = s.mem) : t.memWf := by
  unfold State.memWf at *; rwa [e]

/-- The state after reset lists no byte. -/
theorem reset_memWf : State.reset.memWf := rfl

/-! ## Bytes -/

/-- A byte after a write. -/
theorem State.byte_setByte (s : State) (a b : Nat) (v : Byte) : (s.setByte a v).byte b = if b = a then v else s.byte b := by
  split
  · subst_vars; simp
  · exact s.byte_setByte_other v ‹_›

/-- Dropping entries by a test of their key: a dropped byte reads 0, every other as before. -/
theorem mapGet_filter {α : Type} (d : α) (p : Nat → Bool) (m : List (Nat × α)) (k : Nat) :
    mapGet d (m.filter fun c => p c.1) k = if p k then mapGet d m k else d := by
  induction m with
  | nil => simp [mapGet]
  | cons c m ih =>
    obtain ⟨j, v⟩ := c
    simp only [List.filter_cons]
    by_cases hj : p j
    · simp only [hj, if_true, mapGet]
      split
      · subst_vars; simp [hj]
      · exact ih
    · rw [if_neg hj, ih]
      by_cases hk : k = j
      · subst_vars; simp [hj]
      · simp [mapGet, hk]

/-- A granule written with the zeros of its fill reads 0, and every other byte as before. -/
theorem State.byte_fillGran (s : State) (g a : Nat) :
    (s.fillGran g).byte a = if (s.gran g).fill.isSome ∧ a / 2 ^ 21 = g then 0 else s.byte a := by
  unfold State.fillGran
  cases h : (s.gran g).fill with
  | none => simp
  | some d =>
    simp only [State.byte, State.setGran, Option.isSome_some, true_and]
    rw [mapGet_filter 0 (fun x => decide (x / 2 ^ 21 ≠ g)) s.mem a]
    by_cases ha : a / 2 ^ 21 = g <;> simp

/-! ## Canonical form -/

/-- Every entry below a bound, then entries from the bound on: one canonical list. -/
theorem mapWfFrom_append {α : Type} [DecidableEq α] (d : Nat → α) :
    ∀ (l m : List (Nat × α)) (lo b : Nat), lo ≤ b → mapWfFrom d lo l = true → (∀ p ∈ l, p.1 < b) → mapWfFrom d b m = true →
      mapWfFrom d lo (l ++ m) = true
  | [], m, lo, b, h, _, _, hm => mapWfFrom_mono d h m hm
  | (k, v) :: l, m, lo, b, _, hl, hk, hm => by
    simp only [mapWfFrom, Bool.and_eq_true, decide_eq_true_eq] at hl
    have hkb : k < b := hk (k, v) (List.mem_cons_self ..)
    have ih := mapWfFrom_append d l m (k + 1) b hkb hl.2 (fun p hp => hk p (List.mem_cons_of_mem _ hp)) hm
    have h3 : ¬ v = d k := by simpa using hl.1.2
    simp [mapWfFrom, hl.1.1, h3, ih]

/-- Entries of a canonical list from a key on are canonical from that key. -/
theorem mapWfFrom_from {α : Type} [DecidableEq α] (d : Nat → α) (b : Nat) :
    ∀ (m : List (Nat × α)) (lo : Nat), mapWfFrom d lo m = true → mapWfFrom d b (m.filter fun p => decide (b ≤ p.1)) = true
  | [], _, _ => rfl
  | (k, v) :: m, lo, h => by
    simp only [mapWfFrom, Bool.and_eq_true, decide_eq_true_eq] at h
    by_cases hk : b ≤ k
    · have h3 : ¬ v = d k := by simpa using h.1.2
      have hf := mapWfFrom_filter d (fun p => decide (b ≤ p.1)) m (k + 1) h.2
      simp [hk, mapWfFrom, h3, hf]
    · simpa [hk] using mapWfFrom_from d b m (k + 1) h.2

/-- A range of keys replaced by canonical entries of that range. -/
theorem mapWf_spliceKeys {α : Type} [DecidableEq α] (d : Nat → α) (lo n : Nat) (new m : List (Nat × α)) (hm : mapWf d m = true)
    (hn : mapWfFrom d lo new = true) (hb : ∀ p ∈ new, p.1 < lo + n) : mapWf d (spliceKeys lo n new m) = true := by
  unfold mapWf spliceKeys
  rw [List.append_assoc]
  refine mapWfFrom_append d _ _ 0 lo (Nat.zero_le _) (mapWfFrom_filter d _ m 0 hm) (fun p hp => ?_) ?_
  · simpa using (List.mem_filter.1 hp).2
  · exact mapWfFrom_append d _ _ lo (lo + n) (Nat.le_add_right _ _) hn hb (mapWfFrom_from d _ m 0 hm)

/-- Listed values of a rising range, without the unlisted value, are canonical. -/
theorem mapWfFrom_range (f : Nat → Byte) (a : Nat) :
    ∀ (n lo i : Nat), lo ≤ a + i →
      mapWfFrom (fun _ => (0 : Byte)) lo (((List.range' i n).filterMap fun i => if f i = 0 then none else some (a + i, f i))) = true
  | 0, _, _, _ => rfl
  | n + 1, lo, i, h => by
    simp only [List.range'_succ, List.filterMap_cons]
    by_cases hf : f i = 0
    · rw [if_pos hf]
      exact mapWfFrom_range f a n lo (i + 1) (by omega)
    · rw [if_neg hf]
      simp only [mapWfFrom, Bool.and_eq_true, decide_eq_true_eq]
      exact ⟨⟨h, by simpa using hf⟩, mapWfFrom_range f a n (a + i + 1) (i + 1) (by omega)⟩

/-- Storing a byte. -/
theorem State.setByte_memWf (s : State) (a : Nat) (v : Byte) (h : s.memWf) : (s.setByte a v).memWf :=
  mapWf_mapSet (fun _ => 0) s.mem a v h

/-- Dropping bytes. -/
theorem filter_memWf (m : List Host.Cell) (p : Host.Cell → Bool) (h : Memory.wf m = true) : Memory.wf (m.filter p) = true :=
  mapWfFrom_filter (fun _ => 0) p m 0 h

/-- Storing bytes one after another. -/
theorem State.setBytes_memWf {α : Type} (f : α → Nat) (g : α → Byte) (l : List α) (s : State) (h : s.memWf) :
    (l.foldl (fun t b => t.setByte (f b) (g b)) s).memWf :=
  foldl_keeps State.memWf _ (fun t b => t.setByte_memWf (f b) (g b)) l s h

/-- Listing a table's entries in memory. -/
theorem putAll_memWf (l m : List Host.Cell) (h : Memory.wf m = true) : Memory.wf (putAll 0 l m) = true := by
  unfold putAll
  refine foldl_keeps (fun x => Memory.wf x = true) _ ?_ l m h
  intro m p hm
  exact mapWf_mapSet (fun _ => 0) m p.1 p.2 hm

/-- Updates of marks and granules do not touch memory. -/
theorem State.setMarks_mem {α : Type} (f : α → Nat) (g : State → α → LineMark) (l : List α) (s : State) :
    (l.foldl (fun t b => t.setMark (f b) (g t b)) s).mem = s.mem := foldl_field State.mem (fun t b => t.setMark (f b) (g t b)) (fun _ _ => rfl) l s

@[simp] theorem State.poisonLine_mem (s : State) (l : Nat) : (s.poisonLine l).mem = s.mem := rfl
@[simp] theorem State.wcDrop_mem (s : State) (bs : List (Nat × Byte)) : (s.wcDrop bs).mem = s.mem := by unfold State.wcDrop; split <;> rfl
@[simp] theorem State.pushAlert_mem (s : State) (page sev : Nat) (b : Word) : (s.pushAlert page sev b).mem = s.mem := by
  unfold State.pushAlert; split
  · rfl
  · unfold State.dropAlert; rfl
@[simp] theorem State.raise_mem (s : State) (page i : Nat) : (s.raise page i).mem = s.mem := by
  unfold State.raise State.raiseBits; dsimp only; split
  · rfl
  · rw [State.pushAlert_mem]; rfl
@[simp] theorem State.moveLines_mem (s : State) (d g : Nat) : (s.moveLines d g).mem = s.mem := by
  unfold State.moveLines
  simp only [State.setGran_mem, State.inc_mem]
  refine foldl_field State.mem _ (fun t i => ?_) _ s
  exact foldl_field State.mem _ (fun _ _ => State.setMark_mem _ _ _) _ t
@[simp] theorem State.rotationEnd_mem (s : State) (d : Nat) : (s.rotationEnd d).mem = s.mem := by
  unfold State.rotationEnd; split
  · rw [State.raise_mem]; unfold State.setGens; rw [State.wr_mem]
  · rfl
@[simp] theorem State.touchGran_mem (s : State) (d g : Nat) : (s.touchGran d g).mem = s.mem := by
  unfold State.touchGran; dsimp only; split
  · rfl
  · split
    · rw [State.rotationEnd_mem, State.moveLines_mem]
    · rw [State.setGran_mem]

/-- The zeros of an admission fill. -/
theorem State.fillGran_memWf (s : State) (g : Nat) (h : s.memWf) : (s.fillGran g).memWf := by
  unfold State.fillGran
  split
  · exact h
  · exact filter_memWf _ _ h

/-- A byte of an on-die store. -/
theorem State.storeByte_memWf (s : State) (d a : Nat) (v : Byte) (h : s.memWf) : (s.storeByte d a v).memWf := by
  unfold State.storeByte
  dsimp only
  apply State.setByte_memWf
  split
  · exact h
  · refine State.memWf_of_mem ?_ (State.setMark_mem _ _ _)
    refine foldl_keeps State.memWf _ ?_ _ s h
    intro t i ht
    exact t.setByte_memWf _ _ ht

/-- Bytes of one line of a tier. -/
theorem State.tierLine_memWf (s : State) (d line : Nat) (bad : Bool) (bs : List (Nat × Byte)) (h : s.memWf) : (s.tierLine d line bad bs).memWf := by
  have h0 : (((s.fillGran (line / 2 ^ 13)).touchGran d (line / 2 ^ 13)).wcDrop bs).memWf := by
    exact State.memWf_of_mem (s.fillGran_memWf (line / 2 ^ 13) h) (by simp)
  unfold State.tierLine
  dsimp only
  generalize ((s.fillGran (line / 2 ^ 13)).touchGran d (line / 2 ^ 13)).wcDrop bs = u at h0
  split
  · refine State.setBytes_memWf Prod.fst Prod.snd bs _ (State.memWf_of_mem h0 ?_)
    refine foldl_field State.mem _ ?_ _ u
    intros; rfl
  · split
    · refine foldl_keeps State.memWf _ (fun t b ht => ?_) bs u h0
      split
      · exact State.setByte_memWf _ _ _ (State.memWf_of_mem ht rfl)
      · split
        · exact State.memWf_of_mem ht rfl
        · exact t.setByte_memWf _ _ ht
    · split
      · refine State.memWf_of_mem h0 ?_
        refine foldl_field State.mem _ ?_ _ u
        intros; rfl
      · exact State.setBytes_memWf Prod.fst Prod.snd bs u h0

/-- Bytes of the tiers at physical addresses. -/
theorem State.tierBytes_memWf (s : State) (d : Nat) (bs : List (Nat × Byte)) (h : s.memWf) : (s.tierBytes d bs).memWf := by
  refine foldl_keeps State.memWf _ (fun t u ht => ?_) _ s h
  have h0 := foldl_keeps State.memWf _ (fun v l hv => v.tierLine_memWf d l (t.unitBad d u) ((bs.filter fun b => b.1 / 512 == u).filter fun b => b.1 / 256 == l) hv)
    (((bs.filter fun b => b.1 / 512 == u).map fun b => b.1 / 256).eraseDups) t ht
  dsimp only
  split
  · refine foldl_keeps State.memWf _ (fun w i hw => ?_) _ _ h0
    exact State.memWf_of_mem hw (State.poisonLine_mem _ _)
  · exact h0

/-- Bytes at domain addresses: all of them or none. -/
theorem State.tierWrite_memWf (s t : State) (d : Nat) (bs : List (Nat × Byte)) (upd : Bool) (h : s.memWf) (ht : s.tierWrite d bs upd = .ok t) : t.memWf := by
  unfold State.tierWrite at ht
  simp only [bind, Except.bind, pure, Except.pure] at ht
  split at ht
  · cases ht
  · cases ht; exact s.tierBytes_memWf d _ h

/-- Bytes of an operand's space. -/
theorem State.spWrite_memWf (s t : State) (d sp cl core : Nat) (bs : List (Nat × Byte)) (array upd : Bool) (h : s.memWf)
    (ht : s.spWrite d sp cl core bs array upd = .ok t) : t.memWf := by
  unfold State.spWrite at ht
  split at ht
  · cases ht; exact h
  · split at ht
    · split at ht
      · cases ht; exact s.tierWrite_memWf _ d _ upd h ‹_›
      · cases ht
    · split at ht
      · cases ht
      · cases ht
        refine foldl_keeps State.memWf _ (fun u l hu => ?_) _ _ (foldl_keeps State.memWf _ (fun u b hu => u.storeByte_memWf d b.1 b.2 hu) _ s h)
        split
        · exact State.memWf_of_mem hu rfl
        · exact hu

/-- The bytes of a save area. -/
theorem State.freeRun_memWf (s : State) (d pa n : Nat) (h : s.memWf) : (s.freeRun d pa n).memWf := by
  have h0 : ((s.fillGran (pa / 2 ^ 21)).touchGran d (pa / 2 ^ 21)).memWf := State.memWf_of_mem (s.fillGran_memWf (pa / 2 ^ 21) h) (by simp)
  unfold State.freeRun
  dsimp only
  generalize (s.fillGran (pa / 2 ^ 21)).touchGran d (pa / 2 ^ 21) = u at h0
  refine mapWf_spliceKeys (fun _ => 0) pa n _ u.mem h0 ?_ ?_
  · rw [List.range_eq_range']
    exact mapWfFrom_range (fun i => (Config.freeWord (u.fresh + i)).setWidth 8) pa n pa 0 (by omega)
  · intro p hp
    obtain ⟨i, hi, he⟩ := List.mem_filterMap.1 hp
    have hi' : i < n := by simpa using hi
    split at he
    · cases he
    · cases he; simp only; omega

/-- A save writes its area. -/
theorem State.writeSave_memWf (s : State) (c : Nat) (h : s.memWf) : (s.writeSave c).memWf :=
  foldl_keeps State.memWf _ (fun t r ht => t.freeRun_memWf _ r.1 r.2 ht) _ s h

/-- A restore writes the stores of the claim. -/
theorem State.putSave_memWf (s : State) (c : Nat) (v : SaveRec) (h : s.memWf) : (s.putSave c v).memWf := by
  unfold State.putSave
  dsimp only
  refine foldl_keeps State.memWf _ (fun t q ht => ?_) _ _ (foldl_keeps State.memWf _ (fun t p ht => ?_) _ s h)
  · refine foldl_keeps State.memWf _ ?_ _ t ht
    intro u i hu
    exact State.memWf_of_mem hu (State.setCore_mem _ _ _)
  · exact putAll_memWf _ _ (filter_memWf _ _ ht)

/-- A scrub writes one granule of zeros. -/
theorem clearGranule_memWf (s : State) (g : Nat) (h : s.memWf) : Memory.wf (s.mem.filter fun c => decide (c.1 / 2 ^ 21 ≠ g)) = true :=
  filter_memWf _ _ h

/-- A byte of debug space. -/
theorem State.dbgPut_memWf (s : State) (a : Nat) (v : Byte) (h : s.memWf) : (s.dbgPut a v).memWf := by
  unfold State.dbgPut
  split
  · exact s.setByte_memWf a v h
  · exact State.memWf_of_mem h rfl

/-- What a reset of any kind keeps of memory. -/
theorem State.clearBlocks_memWf (s : State) (k : RstKind) (h : s.memWf) : (s.clearBlocks k).memWf := by
  unfold State.clearBlocks
  exact filter_memWf _ _ h

theorem State.clearPower_memWf (s : State) (h : s.memWf) : s.clearPower.memWf := by
  unfold State.clearPower
  exact filter_memWf _ _ h

end Sys2Proof.Machine
end

