-- ==== Sys2Proof/Laws/Shared.lean ====
section
/-! SUPPORT. What the shared operations can do, one law each: answers, events, alerts, counters, semaphores, reservations, frames, context faults and retirement. A frame law says which fields of the state an operation may change; every other field follows from it. -/

namespace Sys2Proof.Machine

open Sys2Proof

/-! ## Answers of rows -/

theorem State.commit_next (s t u : State) : s.commit t = .next u ↔ u = { t with pending := s.pending } := by
  simp [State.commit, eq_comm]

/-- A row whose condition does not hold changes nothing. -/
theorem State.whenever_false (s t : State) : s.whenever false t = .next s := rfl

/-- A row whose condition holds has its effect. -/
theorem State.whenever_true (s t : State) : s.whenever true t = s.commit t := rfl

/-- A row of an absent unit faults. -/
theorem State.onUnit_false (s t : State) : s.onUnit false t = .fault .noSuchUnit := rfl

/-- A row of a unit the module has. -/
theorem State.onUnit_true (s t : State) : s.onUnit true t = s.commit t := rfl

/-- A stream row runs the front end on a command of its own opcode, or of none. -/
theorem streamRow_own (op : Nat) (c : Ctx) (w : Cmd) (s : State) (h : w.opcode = op ∨ (opInfo w.opcode).isSome = false) :
    streamRow op c w s = s.commit (s.frontEnd c.toNat w) := by
  unfold streamRow
  rw [if_neg]
  rintro ⟨h1, h2⟩
  cases h with
  | inl h => exact h1 h
  | inr h => rw [h] at h2; cases h2

/-- A stream row stops on the listed opcode of another row. -/
theorem streamRow_other (op : Nat) (c : Ctx) (w : Cmd) (s : State) (h : w.opcode ≠ op) (h2 : (opInfo w.opcode).isSome = true) :
    streamRow op c w s = .refused .wrongOpcode := by
  unfold streamRow
  rw [if_pos ⟨h, h2⟩]

/-! ## Events and the alert queue -/

/-- A state with the registers and the alert queue of another. -/
def State.withEvents (s u : State) : State := { u with regs := s.regs, alerts := s.alerts, alertSeq := s.alertSeq }

/-- Two changes of events are one. -/
theorem State.withEvents_trans (s u x : State) (hx : u.withEvents x = u) (hu : s.withEvents u = s) : s.withEvents x = s := by
  have h : s.withEvents (u.withEvents x) = s.withEvents u := by rw [hx]
  exact h.trans hu

/-- A push changes the queue, its sequence number and registers. -/
theorem State.pushAlert_frame (s : State) (page sev : Nat) (bits : Word) :
    s.withEvents (s.pushAlert page sev bits) = s := by
  unfold State.pushAlert
  split <;> rfl

/-- A push writes ERR_Q_DROPPED and EVENT of the ERR page only. -/
theorem State.rd_pushAlert (s : State) (page sev : Nat) (bits : Word) (k : Nat) (h1 : k ≠ reg pgERR Off.ERR_Q_DROPPED) (h2 : k ≠ reg pgERR Off.EVENT) :
    (s.pushAlert page sev bits).rd k = s.rd k := by
  unfold State.pushAlert
  split
  · rfl
  · exact (State.rd_wr_other _ _ h2).trans (State.rd_wr_other s _ h1)

/-- A push keeps the events that stand. -/
theorem State.event_pushAlert (s : State) (page sev : Nat) (bits : Word) (p i : Nat) (h : bit (s.rd (reg p Off.EVENT)) i = true)
    (hp : reg p Off.EVENT ≠ reg pgERR Off.ERR_Q_DROPPED) : bit ((s.pushAlert page sev bits).rd (reg p Off.EVENT)) i = true := by
  by_cases he : reg p Off.EVENT = reg pgERR Off.EVENT
  · unfold State.pushAlert
    rw [he] at h ⊢
    split
    · exact h
    · unfold State.dropAlert
      rw [State.rd_wr_self]
      simp only [bit, BitVec.getLsbD_or, Bool.or_eq_true] at h ⊢
      exact Or.inl h
  · rw [State.rd_pushAlert _ _ _ _ _ hp he]; exact h

/-- Raising events changes registers and the alert queue. -/
theorem State.raiseBits_frame (s : State) (page : Nat) (bits : Word) :
    s.withEvents (s.raiseBits page bits) = s := by
  unfold State.raiseBits
  dsimp only
  split
  · rfl
  · exact State.withEvents_trans s _ _ (State.pushAlert_frame _ _ _ _) rfl

theorem State.raise_frame (s : State) (page i : Nat) :
    s.withEvents (s.raise page i) = s := s.raiseBits_frame page _

/-- A page error changes registers and the alert queue. -/
theorem State.pageErr_frame (s : State) (page : Nat) (code : Code) (i0 i1 : Nat) (bits : Word) :
    s.withEvents (s.pageErr page code i0 i1 bits) = s := by
  unfold State.pageErr
  dsimp only
  split <;> exact State.withEvents_trans s _ _ (State.raiseBits_frame _ _ _) rfl

theorem State.invalidWrite_frame (s : State) (page : Nat) :
    s.withEvents (s.invalidWrite page) = s := s.raise_frame page _

/-- Raising events writes EVENT of the page and, on a full queue, two registers of the ERR page. -/
theorem State.rd_raiseBits (s : State) (page : Nat) (bits : Word) (k : Nat) (h0 : k ≠ reg page Off.EVENT)
    (h1 : k ≠ reg pgERR Off.ERR_Q_DROPPED) (h2 : k ≠ reg pgERR Off.EVENT) : (s.raiseBits page bits).rd k = s.rd k := by
  unfold State.raiseBits
  dsimp only
  split
  · exact State.rd_wr_other _ _ h0
  · rw [State.rd_pushAlert _ _ _ _ _ h1 h2, State.rd_wr_other _ _ h0]

theorem State.rd_raise (s : State) (page i k : Nat) (h0 : k ≠ reg page Off.EVENT)
    (h1 : k ≠ reg pgERR Off.ERR_Q_DROPPED) (h2 : k ≠ reg pgERR Off.EVENT) : (s.raise page i).rd k = s.rd k := s.rd_raiseBits page _ k h0 h1 h2

/-- The events raised stand. -/
theorem State.event_raiseBits (s : State) (page : Nat) (bits : Word) (i : Nat) (h : bit bits i = true ∨ bit (s.rd (reg page Off.EVENT)) i = true)
    (hp : reg page Off.EVENT ≠ reg pgERR Off.ERR_Q_DROPPED) : bit ((s.raiseBits page bits).rd (reg page Off.EVENT)) i = true := by
  have hw : bit ((s.wr (reg page Off.EVENT) (s.rd (reg page Off.EVENT) ||| bits)).rd (reg page Off.EVENT)) i = true := by
    rw [State.rd_wr_self]
    simp only [bit, BitVec.getLsbD_or, Bool.or_eq_true] at h ⊢
    exact h.symm
  unfold State.raiseBits
  dsimp only
  split
  · exact hw
  · exact State.event_pushAlert _ _ _ _ _ _ hw hp

/-- The event of a single raise stands. -/
theorem State.event_raise (s : State) (page i : Nat) (hi : i < 32) (hp : reg page Off.EVENT ≠ reg pgERR Off.ERR_Q_DROPPED) :
    bit ((s.raise page i).rd (reg page Off.EVENT)) i = true := by
  refine State.event_raiseBits s page _ i (Or.inl ?_) hp
  interval_cases i <;> rfl

/-! ## Fields that events leave alone -/

@[simp] theorem State.raiseBits_mem (s : State) (page : Nat) (bits : Word) : (s.raiseBits page bits).mem = s.mem := (congrArg State.mem (s.raiseBits_frame page bits) :)
@[simp] theorem State.raise_ctx (s : State) (page i : Nat) : (s.raise page i).ctx = s.ctx := (congrArg State.ctx (s.raise_frame page i) :)
@[simp] theorem State.raise_cores (s : State) (page i : Nat) : (s.raise page i).cores = s.cores := (congrArg State.cores (s.raise_frame page i) :)
@[simp] theorem State.raise_marks (s : State) (page i : Nat) : (s.raise page i).marks = s.marks := (congrArg State.marks (s.raise_frame page i) :)
@[simp] theorem State.raise_grans (s : State) (page i : Nat) : (s.raise page i).grans = s.grans := (congrArg State.grans (s.raise_frame page i) :)
@[simp] theorem State.raise_met (s : State) (page i : Nat) : (s.raise page i).met = s.met := (congrArg State.met (s.raise_frame page i) :)
@[simp] theorem State.raise_now (s : State) (page i : Nat) : (s.raise page i).now = s.now := (congrArg State.now (s.raise_frame page i) :)
@[simp] theorem State.raise_warm (s : State) (page i : Nat) : (s.raise page i).warm = s.warm := (congrArg State.warm (s.raise_frame page i) :)
@[simp] theorem State.raise_fatal (s : State) (page i : Nat) : (s.raise page i).fatal = s.fatal := (congrArg State.fatal (s.raise_frame page i) :)
@[simp] theorem State.raise_rails (s : State) (page i : Nat) : (s.raise page i).rails = s.rails := (congrArg State.rails (s.raise_frame page i) :)
@[simp] theorem State.pageErr_mem (s : State) (page : Nat) (code : Code) (i0 i1 : Nat) (bits : Word) :
    (s.pageErr page code i0 i1 bits).mem = s.mem := (congrArg State.mem (s.pageErr_frame page code i0 i1 bits) :)
@[simp] theorem State.pageErr_ctx (s : State) (page : Nat) (code : Code) (i0 i1 : Nat) (bits : Word) :
    (s.pageErr page code i0 i1 bits).ctx = s.ctx := (congrArg State.ctx (s.pageErr_frame page code i0 i1 bits) :)
@[simp] theorem State.pageErr_met (s : State) (page : Nat) (code : Code) (i0 i1 : Nat) (bits : Word) :
    (s.pageErr page code i0 i1 bits).met = s.met := (congrArg State.met (s.pageErr_frame page code i0 i1 bits) :)
@[simp] theorem State.pageErr_now (s : State) (page : Nat) (code : Code) (i0 i1 : Nat) (bits : Word) :
    (s.pageErr page code i0 i1 bits).now = s.now := (congrArg State.now (s.pageErr_frame page code i0 i1 bits) :)
@[simp] theorem State.pageErr_warm (s : State) (page : Nat) (code : Code) (i0 i1 : Nat) (bits : Word) :
    (s.pageErr page code i0 i1 bits).warm = s.warm := (congrArg State.warm (s.pageErr_frame page code i0 i1 bits) :)
@[simp] theorem State.pageErr_fatal (s : State) (page : Nat) (code : Code) (i0 i1 : Nat) (bits : Word) :
    (s.pageErr page code i0 i1 bits).fatal = s.fatal := (congrArg State.fatal (s.pageErr_frame page code i0 i1 bits) :)

/-! ## Counters and semaphores -/

/-- A counted corrected error: its counter and the sum of the second. -/
theorem State.countCE_frame (s : State) (k n : Nat) : { s.countCE k n with regs := s.regs, ceNew := s.ceNew } = s := rfl

/-- A signal adds to its semaphore, saturating. -/
theorem State.sem_signal (s : State) (c n k : Nat) (h : semKey c n ≠ reg (pgCTX c) Off.CTX_STREAM_STATUS) :
    (s.signal c n k).sem c n = satAdd (s.sem c n) k := by
  unfold State.signal State.sem
  dsimp only
  split
  · rw [State.wrBit, State.rd_wr_other _ _ h, State.rd_wr_self]
  · rw [State.rd_wr_self]

/-- A state with the registers of another. -/
def State.withRegs (s u : State) : State := { u with regs := s.regs }

/-- A signal changes registers only. -/
theorem State.signal_frame (s : State) (c n k : Nat) : s.withRegs (s.signal c n k) = s := by
  unfold State.signal
  dsimp only
  split <;> rfl

@[simp] theorem State.signal_mem (s : State) (c n k : Nat) : (s.signal c n k).mem = s.mem := (congrArg State.mem (s.signal_frame c n k) :)
@[simp] theorem State.signal_ctx (s : State) (c n k : Nat) : (s.signal c n k).ctx = s.ctx := (congrArg State.ctx (s.signal_frame c n k) :)
@[simp] theorem State.signalCmd_mem (s : State) (c : Nat) (w : Cmd) : (s.signalCmd c w).mem = s.mem := by unfold State.signalCmd; split <;> simp

/-! ## Reservations -/

/-- A state with the requests, grants, passes, tie pointers and registers of another. -/
def State.withGrants (s u : State) : State := { u with lreqs := s.lreqs, lresv := s.lresv, cores := s.cores, ties := s.ties, regs := s.regs }

/-- Two changes of grants are one. -/
theorem State.withGrants_trans (s u x : State) (hx : u.withGrants x = u) (hu : s.withGrants u = s) : s.withGrants x = s := by
  have h : s.withGrants (u.withGrants x) = s.withGrants u := by rw [hx]
  exact h.trans hu

/-- A grant that passes learn of changes the records of cores. -/
theorem State.markGranted_frame (s : State) (us : List LUnit) : s.withGrants (s.markGranted us) = s := by
  refine foldl_keeps (fun t : State => s.withGrants t = s) _ (fun t u ht => ?_) us s rfl
  refine State.withGrants_trans s t _ ?_ ht
  split <;> rfl

/-- A core that keeps its reservation takes what it covers. -/
theorem State.coverArrays_frame (s : State) : s.withGrants s.coverArrays = s := by
  unfold State.coverArrays
  dsimp only
  split
  · rfl
  · exact State.withGrants_trans s _ _ (State.markGranted_frame _ _) rfl

/-- The tie rule moves its pointer. -/
theorem State.tieGrant_frame (s : State) (arb n : Nat) (req : List (Nat × Nat)) : s.withGrants (s.tieGrant arb n req).2 = s := by
  unfold State.tieGrant
  dsimp only
  split <;> rfl

/-- A granted request leaves the queue. -/
theorem State.grantReq_frame (s : State) (h : LReq) : s.withGrants (s.grantReq h) = s := by
  unfold State.grantReq
  refine State.withGrants_trans s _ _ (State.coverArrays_frame _) (State.withGrants_trans s _ _ (State.markGranted_frame _ _) ?_)
  exact State.withGrants_trans s _ _ rfl (State.tieGrant_frame _ _ _ _)

/-- A peak is a register. -/
theorem State.notePeak_frame (s : State) (a n : Nat) : s.withGrants (s.notePeak a n) = s := by
  unfold State.notePeak; split <;> rfl

/-- Requests that fit are granted. -/
theorem State.grantRun_frame (a n : Nat) (s : State) : s.withGrants (State.grantRun a n s) = s := by
  induction n generalizing s with
  | zero => rfl
  | succ n ih =>
    unfold State.grantRun
    split
    · split
      · exact State.withGrants_trans s _ _ (ih _) (State.withGrants_trans s _ _ (State.notePeak_frame _ _ _) (State.grantReq_frame _ _))
      · rfl
    · rfl

/-- Asking for current queues requests, and grants those that need not wait. -/
theorem State.askUnits_frame (s : State) (us : List LUnit) : s.withGrants (s.askUnits us) = s := by
  unfold State.askUnits
  dsimp only
  refine foldl_keeps (fun t : State => s.withGrants t = s) _ (fun t a ht => State.withGrants_trans s t _ (State.grantRun_frame _ _ _) ht) _ _ ?_
  exact State.withGrants_trans s _ _ (State.coverArrays_frame _) rfl

@[simp] theorem State.askUnits_mem (s : State) (us : List LUnit) : (s.askUnits us).mem = s.mem := (congrArg State.mem (s.askUnits_frame us) :)
@[simp] theorem State.askUnits_ctx (s : State) (us : List LUnit) : (s.askUnits us).ctx = s.ctx := (congrArg State.ctx (s.askUnits_frame us) :)

/-- A state with the reservations and rails of another. -/
def State.withUnits (s u : State) : State := { u with lreqs := s.lreqs, lresv := s.lresv, rails := s.rails }

/-- A release changes requests, grants and the debts of rails. -/
theorem State.releaseUnits_frame (s : State) (p : LUnit → Bool) (bill : Option Nat) :
    s.withUnits (s.releaseUnits p bill) = s := by
  unfold State.releaseUnits
  dsimp only
  split
  · rfl
  · refine foldl_keeps (fun t : State => s.withUnits t = s) _ ?_ _ _ rfl
    intro t a ht
    exact ht

@[simp] theorem State.releaseUnits_mem (s : State) (p : LUnit → Bool) (bill : Option Nat) : (s.releaseUnits p bill).mem = s.mem := (congrArg State.mem (s.releaseUnits_frame p bill) :)
@[simp] theorem State.releaseUnits_regs (s : State) (p : LUnit → Bool) (bill : Option Nat) : (s.releaseUnits p bill).regs = s.regs := (congrArg State.regs (s.releaseUnits_frame p bill) :)
@[simp] theorem State.releaseUnits_ctx (s : State) (p : LUnit → Bool) (bill : Option Nat) : (s.releaseUnits p bill).ctx = s.ctx := (congrArg State.ctx (s.releaseUnits_frame p bill) :)
@[simp] theorem State.releaseCmd_mem (s : State) (c id : Nat) : (s.releaseCmd c id).mem = s.mem := s.releaseUnits_mem _ _
@[simp] theorem State.releaseCmd_regs (s : State) (c id : Nat) : (s.releaseCmd c id).regs = s.regs := s.releaseUnits_regs _ _
@[simp] theorem State.releaseCmd_ctx (s : State) (c id : Nat) : (s.releaseCmd c id).ctx = s.ctx := s.releaseUnits_ctx _ _

/-! ## Frames sent -/

/-- A state with the sending records of another. -/
def State.withSent (s u : State) : State := { u with regs := s.regs, out := s.out, ethRem := s.ethRem, met := s.met }

/-- Two changes of the sending records are one. -/
theorem State.withSent_trans (s u x : State) (hx : u.withSent x = u) (hu : s.withSent u = s) : s.withSent x = s := by
  have h : s.withSent (u.withSent x) = s.withSent u := by rw [hx]
  exact h.trans hu

/-- Weight of frames changes the meters. -/
theorem State.serdes_frame (s : State) (dom : Option Nat) (n : Nat) : s.withSent (s.serdes dom n) = s := by
  unfold State.serdes State.addCharge
  split
  · split <;> rfl
  · rfl

/-- A port's count of frames. -/
theorem State.countFrame_frame (s : State) (p : Nat) (tx : Bool) : s.withSent (s.countFrame p tx) = s := by
  unfold State.countFrame
  dsimp only
  split <;> rfl

/-- A frame changes the record of what is sent, the port's counts and the weight of its domain. -/
theorem State.sendFrame_frame (s : State) (port : Nat) (dom : Option Nat) (kind : String) (fields : List Nat) (data : List Byte) :
    s.withSent (s.sendFrame port dom kind fields data) = s := by
  unfold State.sendFrame
  generalize (s.portCarries port && _) = b
  cases b
  · rfl
  · exact State.withSent_trans s _ _ (rfl : State.withSent _ (State.emit _ _) = _)
      (State.withSent_trans s _ _ (State.countFrame_frame _ _ _) (s.serdes_frame _ _))

@[simp] theorem State.sendFrame_mem (s : State) (port : Nat) (dom : Option Nat) (kind : String) (fields : List Nat) (data : List Byte) :
    (s.sendFrame port dom kind fields data).mem = s.mem := (congrArg State.mem (s.sendFrame_frame port dom kind fields data) :)
@[simp] theorem State.sendFrame_ctx (s : State) (port : Nat) (dom : Option Nat) (kind : String) (fields : List Nat) (data : List Byte) :
    (s.sendFrame port dom kind fields data).ctx = s.ctx := (congrArg State.ctx (s.sendFrame_frame port dom kind fields data) :)
@[simp] theorem State.sendAbort_mem (s : State) (g : Nat) (err : Code) : (s.sendAbort g err).mem = s.mem := s.sendFrame_mem _ _ _ _ _
@[simp] theorem State.sendAbort_ctx (s : State) (g : Nat) (err : Code) : (s.sendAbort g err).ctx = s.ctx := s.sendFrame_ctx _ _ _ _ _

/-- Abort flags leave memory alone. -/
@[simp] theorem State.abortFlags_mem (s : State) (c : Nat) (code : Code) : (s.abortFlags c code).mem = s.mem := by
  unfold State.abortFlags
  refine (foldl_field State.mem _ ?_ _ _).trans ?_
  · intro t g
    split
    · rfl
    · exact State.sendAbort_mem _ _ _
  · split <;> rfl

/-- Abort flags leave the contexts' records alone. -/
@[simp] theorem State.abortFlags_ctx (s : State) (c : Nat) (code : Code) : (s.abortFlags c code).ctx = s.ctx := by
  unfold State.abortFlags
  refine (foldl_field State.ctx _ ?_ _ _).trans ?_
  · intro t g
    split
    · rfl
    · exact State.sendAbort_ctx _ _ _
  · split <;> rfl

/-! ## Context faults and retirement -/

/-- Passes stop on cores and in saved state. -/
@[simp] theorem State.stopPasses_mem (s : State) (c : Nat) : (s.stopPasses c).mem = s.mem := rfl
@[simp] theorem State.stopPasses_ctx (s : State) (c : Nat) : (s.stopPasses c).ctx = s.ctx := rfl

/-- A save that is asked for leaves memory alone. -/
@[simp] theorem State.askSave_mem (s : State) (c : Nat) : (s.askSave c).mem = s.mem := by
  unfold State.askSave; simp
@[simp] theorem State.askSave_ctx (s : State) (c : Nat) : (s.askSave c).ctx = s.ctx := by
  unfold State.askSave; simp
@[simp] theorem State.saveFault_mem (s : State) (c : Nat) : (s.saveFault c).mem = s.mem := by
  simp [State.saveFault, State.modCtx]

/-- The record of a context whose faulted state is saved. -/
theorem State.getCtx_saveFault (s : State) (c d : Nat) : (s.saveFault c).getCtx d = if d = c then { s.getCtx c with savingFault := true } else s.getCtx d := by
  have h : (s.saveFault c).ctx = (s.setCtx c { s.getCtx c with savingFault := true }).ctx := by
    simp [State.saveFault, State.modCtx, State.setCtx, State.getCtx]
  rw [State.getCtx, h]
  split
  · subst_vars; exact State.getCtx_setCtx_self _ _ _
  · exact State.getCtx_setCtx_other _ _ ‹_›

/-- A context fault leaves memory alone. -/
@[simp] theorem State.ctxFault_mem (s : State) (c : Nat) (f : Flt) : (s.ctxFault c f).mem = s.mem := by
  unfold State.ctxFault
  split
  · rfl
  · dsimp only; split <;> simp [State.modCtx]

/-- A context fault leaves every other context's record alone. -/
theorem State.getCtx_ctxFault_other (s : State) (f : Flt) {c d : Nat} (h : d ≠ c) : (s.ctxFault c f).getCtx d = s.getCtx d := by
  unfold State.ctxFault
  split
  · rfl
  · dsimp only
    split
    · rw [State.getCtx_saveFault, if_neg h, State.modCtx, State.getCtx_setCtx_other _ _ h]
      simp [State.getCtx]
    · rw [State.modCtx, State.getCtx_setCtx_other _ _ h]
      simp [State.getCtx]

/-- After a context fault the context is FAULTED. -/
theorem State.run_ctxFault (s : State) (c : Nat) (f : Flt) : ((s.ctxFault c f).getCtx c).run = .faulted := by
  unfold State.ctxFault
  split
  · assumption
  · dsimp only
    split
    · rw [State.getCtx_saveFault, if_pos rfl]; simp [State.modCtx]
    · simp [State.modCtx]

/-- A command's retirement leaves memory alone. -/
@[simp] theorem State.retireCmd_mem (s : State) (c : Nat) (l : Live) : (s.retireCmd c l).mem = s.mem := by
  unfold State.retireCmd
  dsimp only
  split <;> simp [State.modCtx]

/-- A command's retirement takes it out of its context's commands in flight, and leaves the others' records alone. -/
theorem State.getCtx_retireCmd (s : State) (c d : Nat) (l : Live) :
    (s.retireCmd c l).getCtx d = if d = c then { s.getCtx c with live := (s.getCtx c).live.filter fun x => x.id != l.id } else s.getCtx d := by
  have h : (s.retireCmd c l).ctx = (s.setCtx c { s.getCtx c with live := (s.getCtx c).live.filter fun x => x.id != l.id }).ctx := by
    unfold State.retireCmd
    dsimp only
    split <;> simp [State.modCtx]
  rw [State.getCtx, h]
  split
  · subst_vars; exact State.getCtx_setCtx_self _ _ _
  · exact State.getCtx_setCtx_other _ _ ‹_›

@[simp] theorem State.retireOne_mem (s : State) (c id : Nat) : (s.retireOne c id).mem = s.mem := by
  unfold State.retireOne
  split
  · rfl
  · split
    · simp
    · rfl

/-- The next position of a stream: loops that end there are closed. -/
theorem State.pc_moveTo (s : State) (c p : Nat) : (s.moveTo c p).pc c = BitVec.ofNat 64 (closeLoops p (s.getCtx c).stack).1 := by
  unfold State.moveTo State.setPc State.pc
  exact State.rd64_wr64_self _ _ _

@[simp] theorem State.moveTo_mem (s : State) (c p : Nat) : (s.moveTo c p).mem = s.mem := rfl

/-! ## Page order of register keys -/

/-- Two registers of different pages, or at different offsets of one page, have different keys. -/
theorem reg_ne {p q a b : Nat} (ha : a < 4096) (hb : b < 4096) (h : p ≠ q ∨ a ≠ b) : reg p a ≠ reg q b := by
  unfold reg; omega

/-- Register keys determine page and offset. -/
theorem reg_inj {p q a b : Nat} (ha : a < 4096) (hb : b < 4096) : reg p a = reg q b ↔ p = q ∧ a = b := by
  unfold reg; constructor
  · intro h; omega
  · rintro ⟨rfl, rfl⟩; rfl

/-! ## Records kept by key -/

@[simp] theorem State.getGrp_setGrp_self (s : State) (g : Nat) (r : GrpRec) : (s.setGrp g r).getGrp g = r := by simp [State.getGrp, State.setGrp]
theorem State.getGrp_setGrp_other (s : State) (r : GrpRec) {g h : Nat} (e : h ≠ g) : (s.setGrp g r).getGrp h = s.getGrp h := by
  simp [State.getGrp, State.setGrp, mapGet_mapSet_other _ _ _ _ e]
@[simp] theorem State.rail_setRail_self (s : State) (a : Nat) (r : RailRec) : (s.setRail a r).rail a = r := by simp [State.rail, State.setRail]
theorem State.rail_setRail_other (s : State) (r : RailRec) {a b : Nat} (e : b ≠ a) : (s.setRail a r).rail b = s.rail b := by
  simp [State.rail, State.setRail, mapGet_mapSet_other _ _ _ _ e]
@[simp] theorem State.getQp_setQp_self (s : State) (q : Nat) (r : QpRec) : (s.setQp q r).getQp q = r := by simp [State.getQp, State.setQp]
@[simp] theorem State.getRing_setRing_self (s : State) (q : Nat) (r : RingRec) : (s.setRing q r).getRing q = r := by simp [State.getRing, State.setRing]
@[simp] theorem State.getStep_setStep_self (s : State) (c : Nat) (r : StepRec) : (s.setStep c r).getStep c = r := by simp [State.getStep, State.setStep]

end Sys2Proof.Machine
end

