-- ==== Sys2Proof/Tests/Slice0.lean ====
section
/-! SUPPORT. The model's own tests: an ill-formed term for each check, and for each statement a state and operands that meet its hypotheses. -/

namespace Sys2Proof.Tests

open Sys2Proof Sys2Proof.Machine

set_option Elab.async false

/-! ## Ill-formed commands -/

/-- A stream command whose opcode is another row's. -/
theorem test_wf_opcode : (Instr.nop 0 ⟨1, 0, 0, 0⟩).wf = false := by decide
theorem test_wf_core : (Instr.passRetire 0 ⟨100, []⟩).wf = false := by decide
theorem test_wf_cluster : (Instr.passRetire 3000 ⟨0, []⟩).wf = false := by decide
theorem test_wf_page : (Instr.cluCntClear 0 3000 1).wf = false := by decide
theorem test_wf_engine : (Instr.engineStopped 0 7).wf = false := by decide
theorem test_wf_account : (Instr.ledgRailCeilWrite 0 13 0).wf = false := by decide
theorem test_wf_calField : (Instr.calEntryFieldWrite 0 3 0).wf = false := by decide
theorem test_wf_link : (Instr.flitRetryExhausted 2 2).wf = false := by decide
theorem test_wf_port : (Instr.linkUp 18).wf = false := by decide
theorem test_wf_pll : (Instr.pllUnlock 0).wf = false := by decide
theorem test_wf_sensor : (Instr.thermalTrip 152 0).wf = false := by decide
theorem test_wf_segment : (Instr.segSel 26).wf = false := by decide

/-- StepKeepsQueueSafe, SafeQueueRunsOut. -/
theorem test_safe_witness : ({ State.reset with pending := [.powerOn, .highz] } : State).safe = true := by decide

/-! ## Control commands -/

/-- A register file with some entries over reset. -/
def sreg (l : List (Nat × Word)) (s : State) : State := l.foldl (fun t p => t.wr p.1 p.2) s

/-- Context 0 runs a stream of four commands from offset 0; semaphore 3 holds 5, PAR1 holds 2. -/
def sRun : State :=
  ({ sreg [(reg (pgCTX 0) Off.CTX_STREAM_LEN, 128), (semKey 0 3, 5), (reg (pgCTX 0) (Off.CTX_PARn_LO + 8), 2)] State.reset with
     ctx := [(0, { run := .running })] } : State)

/-- A command of class 0 with no operands: opcode, header bits above it, operation words. -/
def ctl (op : Nat) (hdr o0 o1 : DWord) : Cmd := ⟨BitVec.ofNat 64 op ||| hdr, BitVec.allOnes 64, o0, o1⟩

/-- What admission finds of such a command. -/
def adm0 : Admitted := ⟨{}, []⟩

/-- WAIT_SEM 3, WAIT_DEC 1, SIG_SEM 3, SIG_INC 2. -/
def waitSig : DWord := 3#64 <<< 24 ||| 1#64 <<< 32 ||| 3#64 <<< 36 ||| 2#64 <<< 44

/-- ControlCommandsFrame, ControlCommandResults: one command of each opcode issues. -/
theorem test_control_nop : sRun.issues 0 (ctl 0 waitSig 0 0) adm0 = true := by decide
theorem test_control_semSet : sRun.issues 0 (ctl 1 waitSig (3 + 7 * 4294967296) 0) adm0 = true := by decide
theorem test_control_semAdd : sRun.issues 0 (ctl 2 0 (3 + 0xFFFFFFFF * 4294967296) 0) adm0 = true := by decide
theorem test_control_regSet : sRun.issues 0 (ctl 3 0 79 12) adm0 = true := by decide
theorem test_control_regAlu : sRun.issues 0 (ctl 4 0 (2 + 128 + 16384 + 9 * 4194304) 0) adm0 = true := by decide
theorem test_control_cntOp : sRun.issues 0 (ctl 5 0 (7 + 16 + 4294967296) 0) adm0 = true := by decide
theorem test_control_cmpSet : sRun.issues 0 (ctl 6 0 (7 + 8 + 192 + 65536) 4) adm0 = true := by decide

/-- LoopBeginOpensOrSkips: an immediate count of 3, a count of 0, and a count register. -/
theorem test_loop_open : sRun.ready 0 (ctl 7 0 (1 + 3 * 16777216) 0) = true ∧ sRun.admits 0 (ctl 7 0 (1 + 3 * 16777216) 0) adm0 = true := by decide
theorem test_loop_zero : sRun.admits 0 (ctl 7 0 1 0) adm0 = true ∧ sRun.room 0 64 = true := by decide
theorem test_loop_reg : sRun.admits 0 (ctl 7 0 (1 + 65536 + 131072) 0) adm0 = true ∧ (sRun.par 0 1).toNat = 2 := by decide
/-- SkipPassesOver: a SKIP of one command over a readable stream, and a NOP whose condition fails. -/
def sSkip : State :=
  { sRun with active := [(0, [⟨0x80000000, 1, 0, 1⟩])], grans := [(0, { dom := some 0 })] }
theorem test_skip : (sreg [(reg (pgCTX 0) Off.CTX_BIND, 0x80000000)] sSkip).admits 0 (ctl 8 0 1 0) adm0 = true := by decide
theorem test_skipped : sRun.cond 0 0 = true ∧ (ctl 0 (3#64 <<< 51) 0 0).condEn = true ∧ (ctl 0 (3#64 <<< 51) 0 0).condNeg = true ∧
    (ctl 0 (3#64 <<< 51) 0 0).condSel = 0 ∧ sRun.room 0 32 = true := by decide
/-- A command in flight. -/
def live0 : Live := { id := 0, off := 0, w := ctl 0 0 0 0, left := 1 }
/-- WaitsHoldTheStream: a semaphore below WAIT_DEC, a fence and a STREAM_END behind a command in flight, a condition not met. -/
theorem test_hold_sem : (sRun.sem 0 4).toNat < (ctl 0 (4#64 <<< 24 ||| 1#64 <<< 32) 0 0).waitDec := by decide
theorem test_hold_live : (({ sRun with ctx := [(0, { run := .running, live := [live0] })] } : State).getCtx 0).live ≠ [] ∧
    (ctl 0 (1#64 <<< 56) 0 0).fence = true ∧ sRun.admits 0 (ctl 10 0 0 0) adm0 = true := by decide
theorem test_hold_cond : sRun.admits 0 (ctl 9 0 8 0) adm0 = true ∧ sRun.cond 0 0 = (ctl 9 0 8 0).opBit 3 := by decide
/-- WaitsEnd, StreamEndSetsIdle. -/
theorem test_wait_cond : sRun.issues 0 (ctl 9 0 0 0) adm0 = true ∧ sRun.cond 0 0 ≠ (ctl 9 0 0 0).opBit 3 := by decide
theorem test_wait_ends : (({ sRun with ctx := [(0, { run := .running, held := some (ctl 0 waitSig 0 0, .sem) })] } : State).setCtx 0
    { run := .running }).issues 0 (ctl 0 waitSig 0 0) adm0 = true := by decide
theorem test_streamEnd : sRun.ready 0 (ctl 10 0 0 0) = true ∧ sRun.admits 0 (ctl 10 0 0 0) adm0 = true ∧ (sRun.getCtx 0).live = [] := by decide

/-! ## Engine commands of clusters -/

/-- Bytes of the descriptors at 0x1000: 0 to 2 and 6 to 11 are FP32 elements of the cluster store, 3 and 4 weights and a row in E4M3 of the core store, 5 a mask descriptor at 0x4000, 12 a row of four FP32, 13 an FP32 element at 0x5000 of memory, 14 384 bytes at 0x8000. -/
def dsc (i : Nat) : List Host.Cell :=
  match i with
  | 0 => [(0x1008, 1), (0x1010, 1), (0x1014, 1), (0x1018, 1), (0x101C, 1), (0x1020, 1)]
  | 1 => [(0x1080, 64), (0x1088, 1), (0x1090, 1), (0x1094, 1), (0x1098, 1), (0x109C, 1), (0x10A0, 1)]
  | 2 => [(0x1100, 128), (0x1108, 1), (0x1110, 1), (0x1114, 1), (0x1118, 1), (0x111C, 1), (0x1120, 1)]
  | 3 => [(0x1188, 14), (0x1190, 16), (0x1194, 4), (0x1198, 1), (0x119C, 1), (0x11A0, 1), (0x11A8, 16)]
  | 4 => [(0x1200, 64), (0x1208, 14), (0x1210, 16), (0x1214, 1), (0x1218, 1), (0x121C, 1), (0x1220, 1), (0x1228, 16)]
  | 5 => [(0x1281, 64), (0x1290, 1), (0x1294, 1), (0x1298, 1), (0x129C, 1), (0x12A0, 1)]
  | 6 => [(0x1300, 192), (0x1308, 1), (0x1310, 1), (0x1314, 1), (0x1318, 1), (0x131C, 1), (0x1320, 1)]
  | 7 => [(0x1381, 1), (0x1388, 1), (0x1390, 1), (0x1394, 1), (0x1398, 1), (0x139C, 1), (0x13A0, 1)]
  | 8 => [(0x1400, 64), (0x1401, 1), (0x1408, 1), (0x1410, 1), (0x1414, 1), (0x1418, 1), (0x141C, 1), (0x1420, 1)]
  | 9 => [(0x1480, 128), (0x1481, 1), (0x1488, 1), (0x1490, 1), (0x1494, 1), (0x1498, 1), (0x149C, 1), (0x14A0, 1)]
  | 10 => [(0x1500, 192), (0x1501, 1), (0x1508, 1), (0x1510, 1), (0x1514, 1), (0x1518, 1), (0x151C, 1), (0x1520, 1)]
  | 11 => [(0x1581, 2), (0x1588, 1), (0x1590, 17), (0x1594, 1), (0x1598, 1), (0x159C, 1), (0x15A0, 1)]
  | 12 => [(0x1600, 128), (0x1601, 2), (0x1608, 1), (0x1610, 4), (0x1614, 1), (0x1618, 1), (0x161C, 1), (0x1620, 1)]
  | 13 => [(0x1681, 80), (0x1690, 1), (0x1694, 1), (0x1698, 1), (0x169C, 1), (0x16A0, 1)]
  | 14 => [(0x1701, 128), (0x1708, 40), (0x1710, 128), (0x1711, 1), (0x1714, 1), (0x1718, 1), (0x171C, 1), (0x1720, 1)]
  | _ => []

/-- Context 0 of domain 0 runs with a claim of core 0 and all of the store of cluster 0; its image: a unit set of one core and the descriptors listed. -/
def sImg (ds : List Nat) : State :=
  { sreg [(reg (pgCTX 0) Off.CTX_BIND, 0x80000000), (reg (pgCLU 0) Off.CLU_PART, 0x400), (reg (pgCTX 0) Off.CTX_UNITSET_BASE_LO, 0x800),
      (reg (pgCTX 0) Off.CTX_DESC_BASE_LO, 0x1000), (reg (pgCTX 0) Off.CTX_DESC_COUNT, 16), (reg (pgCTX 0) Off.CTX_CLAIM_CL, 0x10000),
      (reg (pgCTX 0) Off.CTX_CLAIM_CORE, 0x20000100)] sSkip with
    mem := [(0x802, 1), (0x805, 1)] ++ ds.flatMap dsc ++ [(0x4000, 1), (0x4008, 1)] }

/-- An engine command: opcode, engine class and current class, slots, operation words. -/
def eng (op ec ic : Nat) (slots o0 o1 : DWord) : Cmd := ⟨BitVec.ofNat 64 (op + 256 * ec + 4096 * ic), slots, o0, o1⟩

/-- What admission finds, if it accepts. -/
def admOf (s : State) (w : Cmd) : Admitted := match s.admission 0 (s.pc 0).toNat w with | .ok x => x.1 | .error _ => adm0

def wAdd : Cmd := eng 0x20 2 2 0xFFFF000200010000 0 0
theorem test_vector : (sImg [0, 1, 2]).ready 0 wAdd = true ∧ (sImg [0, 1, 2]).admits 0 wAdd (admOf (sImg [0, 1, 2]) wAdd) = true := by decide +kernel
theorem test_vector_alone : ((sImg [0, 1, 2]).getCtx 0).live.all (fun l => l.w.eclass != 2) = true ∧ (sImg [0, 1, 2]).room 0 32 = true := by decide +kernel
/-- ArrayCommandsQueue: one row over a core; a pass of no rows with its status register; a tile drain of one row. -/
def wPass : Cmd := eng 0x10 1 5 0xFFFFFFFF00040003 1 0
def wPass0 : Cmd := eng 0x10 1 5 0xFFFFFFFF00040003 0 0x0000800000000000
def wDrain : Cmd := eng 0x11 1 9 0xFFFF000CFFFFFFFF 1 0
theorem test_pass : (sImg [3, 4]).admitsChain 0 wPass (admOf (sImg [3, 4]) wPass) 0 = true ∧ (sImg [3, 4]).room 0 32 = true ∧
    ((sImg [3, 4]).instances 0 wPass (admOf (sImg [3, 4]) wPass)).length = 1 := by decide +kernel
theorem test_pass_empty : (sImg [3, 4]).admitsChain 0 wPass0 (admOf (sImg [3, 4]) wPass0) 0 = true ∧ wPass0.op 0 24 = 0 ∧ wPass0.opBit 111 = true := by decide +kernel
theorem test_drain : (sImg [12]).ready 0 wDrain = true ∧ (sImg [12]).admitsChain 0 wDrain (admOf (sImg [12]) wDrain) 0 = true := by decide +kernel
/-- MoverRouterCommandsCompute. -/
def wMove : Cmd := eng 0x40 3 1 0xFFFF0001FFFF0000 0 0
def wZero : Cmd := eng 0x41 3 1 0xFFFF0002FFFFFFFF 0 0
def wWalk : Cmd := eng 0x42 3 1 0xFFFFFFFF00060005 0 0
def wRoute : Cmd := eng 0x50 4 3 0xFFFF0006FFFF0000 0 0
theorem test_move : (sImg [0, 1]).admits 0 wMove (admOf (sImg [0, 1]) wMove) = true ∧ (sImg [0, 1]).issueWait 0 wMove (admOf (sImg [0, 1]) wMove) = none := by decide +kernel
theorem test_zero : (sImg [2]).admits 0 wZero (admOf (sImg [2]) wZero) = true ∧ (sImg [2]).issueWait 0 wZero (admOf (sImg [2]) wZero) = none := by decide +kernel
theorem test_walk : (sImg [5, 6, 7, 8, 9]).admits 0 wWalk (admOf (sImg [5, 6, 7, 8, 9]) wWalk) = true ∧ (sImg [5, 6, 7, 8, 9]).issueWait 0 wWalk (admOf (sImg [5, 6, 7, 8, 9]) wWalk) = none := by decide +kernel
theorem test_route : (sImg [0, 6, 7, 8, 9, 10, 11]).admits 0 wRoute (admOf (sImg [0, 6, 7, 8, 9, 10, 11]) wRoute) = true ∧ (sImg [0, 6, 7, 8, 9, 10, 11]).issueWait 0 wRoute (admOf (sImg [0, 6, 7, 8, 9, 10, 11]) wRoute) = none := by decide +kernel
/-- ClusterRetiresTakeTheOldest: a command in flight with its current, over the image of its descriptors. -/
def flies (ds : List Nat) (w : Cmd) : Live := (sImg ds).clusterLive 0 w (admOf (sImg ds) w)
def sFlies (ds : List Nat) (w : Cmd) : State := { sImg ds with ctx := [(0, { run := .running, live := [flies ds w] })] }
theorem test_vector_retire : (sFlies [0, 1, 2] wAdd).engineRuns 0 .vector = true ∧
    (sFlies [0, 1, 2] wAdd).oldestGranted 0 (fun y => y.w.eclass == 2) = some (flies [0, 1, 2] wAdd) ∧
    (((sFlies [0, 1, 2] wAdd).runVector 0 (flies [0, 1, 2] wAdd)).getCtx 0).held = none ∧
    (((sFlies [0, 1, 2] wAdd).runVector 0 (flies [0, 1, 2] wAdd)).getCtx 0).run = .running := by decide +kernel
theorem test_move_retire : (sFlies [0, 1] wMove).engineRuns 0 .mover = true ∧
    (sFlies [0, 1] wMove).oldestGranted 0 (fun y => (y.w.opcode == 0x40 || y.w.opcode == 0x41) && y.w.op 0 2 == 0) = some (flies [0, 1] wMove) ∧
    (((sFlies [0, 1] wMove).runMove 0 (flies [0, 1] wMove)).getCtx 0).run = .running := by decide +kernel
theorem test_walk_retire : (sFlies [5, 6, 7, 8, 9] wWalk).engineRuns 0 .maskWalk = true ∧
    (sFlies [5, 6, 7, 8, 9] wWalk).oldestGranted 0 (fun y => y.w.opcode == 0x42 && y.w.op 80 2 == 0) = some (flies [5, 6, 7, 8, 9] wWalk) ∧
    (((sFlies [5, 6, 7, 8, 9] wWalk).runWalk 0 (flies [5, 6, 7, 8, 9] wWalk)).1.getCtx 0).run = .running := by decide +kernel
def routeDs : List Nat := [0, 6, 7, 8, 9, 10, 11]
theorem test_route_retire : (sFlies routeDs wRoute).engineRuns 0 .router = true ∧
    (sFlies routeDs wRoute).oldestGranted 0 (fun y => (sFlies routeDs wRoute).routerHolds 0 y) = some (flies routeDs wRoute) ∧
    (((sFlies routeDs wRoute).runRoute 0 (flies routeDs wRoute)).getCtx 0).run = .running ∧
    ∀ p ∈ ((sFlies routeDs wRoute).runRoute 0 (flies routeDs wRoute)).ctx, p.2.held = none ∧ p.2.live.all (fun y => !(y.w.eclass == 4 && y.waits)) = true := by
  decide +kernel
/-- VectorLanesFollowSignRules. -/
theorem test_lanes : f32IsNaN 0x7FC00001 = true ∧ f32IsNaN 0x3F800000 = false ∧ 0x3F800000 / 2 ^ 23 % 256 ≠ 0 := by decide +kernel

/-! ## Commands of the update die, the exchange and the control units -/

def okS (e : Except Flt State) : Bool := match e with | .ok _ => true | .error _ => false

/-- Context 0 with calendar entry 5 for a step start, group slot 2 of two members under identifier 7, parcel entry 3, checkpoint ring 0, schedule slot 0 staged, an update tensor entry of four BF16 with its copy's all-gather entry, and update program 0. -/
def sExch (ds : List Nat) : State :=
  sreg [(calReg 5 Off.CAL_ENT_ACTION, 1), (grpReg 2 Off.COLL_GRP_ID, 0x80000007), (grpReg 2 Off.COLL_GRP_SIZE, 2),
    (grpReg 2 Off.COLL_GRP_PORTS, 1), (pclReg 3 Off.COLL_PCL_CFG, 0x80000002), (ringReg 256 Off.MGMT_RING_CFG, 0x80000000),
    (ringReg 256 Off.MGMT_RING_CTRL, 1), (ringReg 256 Off.MGMT_RING_SIZE, 1), (wreg 0 pgSCHD Off.SCHD_CTX, 0x80000000),
    (updReg 0 Off.UPD_CTX_TT_COUNT, 1), (updReg 0 Off.UPD_CTX_TT_BASE_LO, 0x6000), (grpReg 2 Off.COLL_GRP_TT_COUNT, 1),
    (grpReg 2 Off.COLL_GRP_TT_BASE_LO, 0x7000), (wreg 0 pgUPD Off.UPD_PROG_CTRL, 0x80000000)]
    { sImg ds with
      mem := (sImg ds).mem ++ [(0x6000, 4), (0x600C, 1), (0x6020, 7), (0x7000, 4), (0x7008, 1), (0x7009, 1)]
      steps := [(0, { sched := [⟨0, 0, 0, []⟩] })] }

def noOps : DWord := BitVec.allOnes 64
def wUpd : Cmd := eng 0x60 5 7 noOps 0 0
def wSch : Cmd := eng 0x61 5 7 noOps 0 0
def wTwin : Cmd := eng 0x90 9 0 noOps 7 0
def wCal : Cmd := eng 0xA0 10 0 noOps (5 + 4096 + 262144) 0
def wVote : Cmd := eng 0x72 6 8 noOps 7 0
def wRs : Cmd := eng 0x70 6 8 0xFFFFFFFFFFFF000D (7 + 3 * 1048576) 0
def wAg : Cmd := eng 0x71 6 8 0xFFFFFFFFFFFF000D (7 + 3 * 1048576) 0
def wPcl : Cmd := eng 0x78 7 8 0xFFFFFFFFFFFF000D 3 0
def wCk : Cmd := eng 0xB0 11 8 0xFFFFFFFFFFFF000D 0 0
def wSnap : Cmd := eng 0x80 8 0 0xFFFF000EFFFFFFFF 0 0

/-- CommandsThatActAtIssue. -/
theorem test_updTensor : (sExch []).issues 0 wUpd adm0 = true ∧ okS (((sExch []).issued 0 wUpd).armTensor 0 0 0) = true := by decide +kernel
theorem test_updSchedule : (sExch []).issues 0 wSch adm0 = true ∧ okS (((sExch []).issued 0 wSch).schedule 0 0) = true := by decide +kernel
theorem test_twinArm : (sExch []).issues 0 wTwin adm0 = true ∧ ((sExch []).getStep 0).twin = none ∧
    okS (((sExch []).issued 0 wTwin).twinArm 0 7) = true := by decide +kernel
theorem test_calSet : (sExch []).issues 0 wCal adm0 = true ∧ okS (((sExch []).issued 0 wCal).calSet 0 wCal) = true := by decide +kernel
/-- CommandsThatFly: the group's window is closed. -/
theorem test_vote : (sExch []).issues 0 wVote adm0 = true ∧ ((sExch []).issued 0 wVote).slotFor 0 7 = some 2 ∧
    ((sExch []).getGrp 2).winOpen = false := by decide +kernel
theorem test_rsSend : (sExch [13]).issues 0 wRs (admOf (sExch [13]) wRs) = true := by decide +kernel
theorem test_agSend : (sExch [13]).issues 0 wAg (admOf (sExch [13]) wAg) = true := by decide +kernel
theorem test_parcelSend : (sExch [13]).issues 0 wPcl (admOf (sExch [13]) wPcl) = true := by decide +kernel
theorem test_ckptPush : (sExch [13]).issues 0 wCk (admOf (sExch [13]) wCk) = true := by decide +kernel
theorem test_metSnapshot : (sExch [14]).issues 0 wSnap (admOf (sExch [14]) wSnap) = true := by decide +kernel

/-- An operand of one FP32 element at 0x5000 of memory. -/
def opnd0 : Opnd := ⟨0, 0, 0x5000, [1, 1, 1, 1], [1, 0, 0, 0], 0, 0, false, false, false, 0, false, false, false, false, 0, false, 0, 0, 0, 0, 0⟩
/-- CommandsThatFly: no fabric command waits, the parcel and the push have their current, and the push finds its ring and an open checkpoint. -/
def flown0 (s : State) (w : Cmd) : State := ((s.issued 0 w).flyOther 0 0 w (some opnd0)).1
def sCk : State := { sExch [13] with rings := [(256, { ckpt := some { n := 0, step := 0, cur := false } })] }
theorem test_pcl_ok : (sExch [13]).noneWaits 0 = true ∧ (flown0 (sExch [13]) wPcl).waitsCurrent 0 0 none = false ∧
    bit ((flown0 (sExch [13]) wPcl).rd (pclReg 3 Off.COLL_PCL_STATE)) 2 = false ∧ (flown0 (sExch [13]) wPcl).pclOf 0 3 = true ∧
    (flown0 (sExch [13]) wPcl).qpState ((flown0 (sExch [13]) wPcl).pclQp 3) ≠ 2 := by decide +kernel
theorem test_ckpt_ok : (flown0 sCk wCk).waitsCurrent 0 0 none = false ∧ (flown0 sCk wCk).ringRuns 256 = true ∧ (flown0 sCk wCk).ringCtx 256 = 0 ∧
    (match (flown0 sCk wCk).seqBytes 0 opnd0 false with | .ok bs => bs.length | .error _ => 99) = 4 := by decide +kernel
theorem test_snap_room : (sExch [14]).met.snaps.length < 16 ∧ ((sExch [14]).instances 0 wSnap (admOf (sExch [14]) wSnap)).length = 1 := by decide +kernel
/-- FlyingCommandsEnd: a send that is done, one that waits for log records, a vote with its window open, a queued report. -/
def send0 : SendRec := { ctx := 0, id := some 0, off := 0, slot := 2, tensor := 0, rs := true, o := opnd0 }
theorem test_sendRetire : ({ sExch [] with sends := [{ send0 with done := true }] } : State).sends.find?
    (fun z => z.ctx == 0 && z.done && z.id.isSome) = some { send0 with done := true } := by decide +kernel
theorem test_sendWait : ({ sExch [] with sends := [{ send0 with waitLog := true }] } : State).logUsed < 65536 := by decide +kernel
/-- A vote of slot 2 by the command in flight, with its window open, and one whose group an abort has decided. -/
def sVote (g : GrpRec) : State := { sExch [] with grps := [(2, g)], steps := [(0, { votes := [(0, 2)] })], ctx := [(0, { run := .running, live := [live0] })] }
theorem test_voteSend : (sVote { winOpen := true }).voteNext 0 = some (0, 2) ∧ (sVote { winOpen := true }).voteReady 0 = true ∧
    ((sVote { winOpen := true }).getStep 0).twin = none := by decide +kernel
theorem test_voteOver : (sVote { shut := true }).voteNext 0 = some (0, 2) ∧ (sVote { shut := true }).voteReady 0 = true := by decide +kernel
def sSnap : State := { sExch [] with met := { running := true, snaps := [⟨0, 0, opnd0, 0⟩] }, ctx := [(0, { run := .running, live := [live0] })] }
theorem test_snapDone : sSnap.metRuns = true ∧ (∀ p ∈ sSnap.ctx, p.2.held = none) ∧ (sSnap.getCtx 0).live = [live0] ∧ live0.left = 1 := by decide +kernel

/-! ## Arrays -/

/-- A lone pass of one row by context 0 that overwrites tile 0, with its current granted. -/
def pass0 : Pass :=
  { ctx := 0, id := 0, isPass := true, off := 0, w := eng 0x10 1 5 0 1 0, step := 0, a := none, b := none, c := none, d := none, next := 0,
    chain := none, pos := 0, tail := true, granted := true, phase := .load, loaded := true, wts := [], win := 0, replays := 0, stat := 0,
    ovf := none, nans := [], smax := [], ssum := [], refs := [], stall := 0 }

/-- Core 0 of cluster 0 with a queue and an array. -/
def sCore (queue air : List Pass) : State := { sRun with cores := [(0, { queue := queue, air := air })] }

/-- PassesLoadAndIssue. -/
theorem test_weightLoad : coreExists 0 0 = true ∧ ((sCore [{ pass0 with loaded := false }] []).getCore 0).queue = [{ pass0 with loaded := false }] ∧
    (sCore [{ pass0 with loaded := false }] []).engineRuns 0 .array = true := by decide +kernel
theorem test_stopped : ({ sCore [pass0] [] with ctx := [] } : State).engineRuns 0 .array = false := by decide +kernel
theorem test_passIssue : (sCore [pass0] []).passReady 0 0 pass0 = true := by decide +kernel
/-- PassesReplayAndRetire. -/
theorem test_hazard : ((sCore [{ pass0 with stall := 1 }] []).getCore 0).clear { pass0 with stall := 1 } = true ∧
    (sCore [] []).engineRuns 0 .array = true := by decide +kernel
/-- Its one row has left the array, without an overflow or with one. -/
def swept (e : Option Int) : Pass := { pass0 with phase := .flush, rows := [⟨List.replicate 4 { q := 5 }, e, 0, false⟩] }
theorem test_replay : (sCore [] [swept (some 90)]).replayDue 0 0 = some (swept (some 90)) ∧ (sCore [] [swept (some 90)]).frozenPass 0 0 (swept (some 90)) = false := by
  decide +kernel
theorem test_passRetire : ((sCore [] [swept none]).getCore 0).air.find? (fun x => x.isPass && (sCore [] [swept none]).passDone 0 0 x) = some (swept none) ∧
    (sCore [] [swept none]).frozenPass 0 0 (swept none) = false ∧ (swept none).dest ≠ .drain ∧
    (match ((sCore [] [swept none]).countFreeze 0 0 []).commitRows 0 0 (swept none) 1 with | .ok u => u.2.nans == [] | .error _ => false) = true := by decide +kernel
/-- A tile drain of one row of tile 0 with no output descriptor. -/
def drain0 : Pass := { pass0 with isPass := false, w := eng 0x11 1 9 0 1 0 }
theorem test_drainRetire : readsPoison ((sCore [] [drain0]).getCore 0) drain0 ((sCore [] [drain0]).domOf 0) = false ∧
    (match (sCore [] [drain0]).runTileDrain 0 0 drain0 with | .ok _ => true | .error _ => false) = true := by decide +kernel

/-! ## Register entries, polls and the data port -/

/-- READY, with the operator's session 4096 and session 0 of domain 0 open. -/
def sServe : State :=
  sreg [(reg pgRST Off.RST_STAGE, 8)] { State.reset with sess := [(0, { isOpen := true }), (4096, { isOpen := true })] }

/-- RegisterEntriesReadAndWrite: an operator's accesses of TIME_UNTRUST_NS and its neighbour; a tenant's refused ones. -/
theorem test_entries : sServe.serves 4096 = true ∧ sServe.denied 4096 (reg pgTIME 0x040) true 0 = false ∧ reg pgTIME 0x040 % 8 = 0 ∧
    sServe.denied 0 (reg pgTIME 0x040) true 0 = true ∧ sServe.denied 0 (reg pgTIME 0x040) false 0 = true := by decide +kernel
/-- PollsWaitAndEnd: a value that is there, one that is not, and a wait whose time is over. -/
theorem test_poll : sServe.regValue 4096 (reg pgRST Off.RST_STAGE) &&& 15 = 8 ∧ sServe.regValue 4096 (reg pgRST Off.RST_STAGE) &&& 15 ≠ 9 := by decide +kernel
def poll0 : CtlEntry := { op := 5, len := 1, addr := reg pgRST Off.RST_STAGE, value := 15 * 2 ^ 32 + 9 }
def sPoll : State := { sServe with frame := some { se := 4096, port := 16, framed := false, rest := [poll0], poll := some 0 } }
theorem test_poll_wait : sPoll.pollAt.isSome = true ∧ sPoll.pollHolds 4096 (reg pgRST Off.RST_STAGE) poll0.value = false ∧
    sPoll.pollHolds 4096 (reg pgRST Off.RST_STAGE) (15 * 2 ^ 32 + 8) = true := by decide +kernel
/-- DataPortAndWarmReset: the staging area's first eight bytes. -/
def sPort : State := { sServe with sess := [(0, { isOpen := true }), (4096, { isOpen := true, dpSpace := 2 })] }
theorem test_dp : sPort.dpBad 4096 8 = false ∧ (sPort.dpReadRuns 4096 (lineRuns 0 8)).2 = none ∧
    (sPort.dpWriteRuns 4096 [1, 2, 3, 4, 5, 6, 7, 8] (lineRuns 0 8)).2 = (8, none) ∧ sPort.dpBad 4096 7 = true ∧ isOp 4096 = true ∧ isOp 0 = false := by
  decide +kernel
/-- WideReadsLatch. -/
theorem test_latch : sServe.denied 4096 (reg pgTIME Off.TIME_NOW_LO) false 0 = false ∧ sServe.denied 4096 (reg pgMET 0x048) false 0 = false ∧
    sServe.metPair 0 0x048 = some 0 := by decide +kernel
/-- SelectionsArePerSession. -/
theorem test_selection : pageOf pgTIME = some (.time, 0) ∧ isSel .time Off.TIME_TS_SEL = true ∧
    sServe.mayWrite 4096 (reg pgTIME Off.TIME_TS_SEL) 3 = true ∧ sServe.freeSlot 4096 = some 1 := by decide +kernel

/-! ## Sessions, frames, alerts and the common header -/

/-- Both host ports have their link. -/
def sPorts : State := sreg [(ethReg 16 Off.ETH_STATE, 1), (ethReg 17 Off.ETH_STATE, 1)] sServe
def rx0 : Rx := ⟨16, false, false⟩
/-- SessionsOpenServeAndClose: an OPEN of the operator role, and a CLOSE and an empty REQUEST of session 4096, each tagged under its key. -/
def openFrame0 : List Byte := ctlFrame (cmdKey 1024 16 0) 2 4096 0 0 0 1 (List.replicate 16 0)
def closeFrame0 : List Byte := ctlFrame (keyBytes 0) 4 4096 0 0 0 1 []
def askFrame0 : List Byte := ctlFrame (keyBytes 0) 0 4096 0 0 0 1 []
theorem test_rx : (sPorts.rxFrame rx0).2 = true ∧ sPorts.stage = 8 ∧ sPorts.frame = none ∧ sPorts.jobs = [] := by decide +kernel
theorem test_open : (ctlHead openFrame0).type = 2 ∧ (ctlHead openFrame0).version = 1 ∧ (ctlHead openFrame0).ops = 0 ∧ openFrame0.length = 48 ∧
    (ctlHead openFrame0).counter = 1 ∧ sPorts.roleOk (ctlHead openFrame0).se = true ∧ sPorts.freeSlot 4096 = some 1 ∧
    roleOf (ctlHead openFrame0).se = 1024 ∧ sPorts.cmdGen 1024 = 0 := by decide +kernel
theorem test_open_tag : tagOk (cmdKey 1024 16 0) openFrame0 = true := tagOk_ctlFrame _ _ _ _ _ _ _ _
theorem test_close : (ctlHead closeFrame0).type = 4 ∧ (ctlHead closeFrame0).se = 4096 ∧ closeFrame0.length = 32 ∧
    (sPorts.getSess 4096).isOpen = true ∧ (sPorts.getSess 4096).key = 0 ∧ (sPorts.getSess 4096).counter.toNat < (ctlHead closeFrame0).counter := by decide +kernel
theorem test_close_tag : tagOk (keyBytes 0) closeFrame0 = true := tagOk_ctlFrame _ _ _ _ _ _ _ _
theorem test_request : (ctlHead askFrame0).type = 0 ∧ ctlEntries (ctlHead askFrame0).ops (askFrame0.drop 32) = some [] ∧ sizesOk [] = true := by decide +kernel
theorem test_request_tag : tagOk (keyBytes 0) askFrame0 = true := tagOk_ctlFrame _ _ _ _ _ _ _ _
/-- SessionsEndAndAlertsGo: an entry waits, ALERT_CFG of session 4096 is enabled, and 2^40 ns have passed. -/
def alert0 : Alert := { seq := 7, time := 0, page := pgTIME, sev := 1, slot := 0, event := 1, code := 0, info0 := 0 }
def sAlert : State := { sServe.swr 4096 (reg pgERR Off.ERR_ALERT_CFG) 1 with alerts := [alert0], now := 2 ^ 42 }
theorem test_alert : (sAlert.alertEntries 4096).getLast? = some alert0 ∧ bit (sAlert.srd 4096 (reg pgERR Off.ERR_ALERT_CFG)) 0 = true ∧
    fld (sAlert.rd (reg pgMGMT Off.MGMT_SESSION_IDLE)) 0 12 * 10 ^ 9 ≤ sAlert.now.toNat - (sAlert.getSess 4096).lastAt ∧
    sServe.mayWrite 4096 (reg pgMGMT Off.MGMT_SESS_CTRL) 1 = true := by decide +kernel
/-- HeaderWrites: the TIME page and a repair request of a core. -/
theorem test_header : pageOf pgTIME = some (.time, 0) ∧ sServe.pagePresent .time 0 = true ∧ sServe.mayWrite 4096 (reg pgTIME Off.EVENT) 1 = true ∧
    sServe.mayWrite 4096 (reg pgTIME Off.EVENT_FORCE) 1 = true ∧ sServe.mayWrite 4096 (reg pgTIME Off.LOCK) 1 = true ∧
    sServe.mayWrite 4096 (reg pgERR Off.ERR_Q_ACK_HI) 0 = true ∧ sServe.mayWrite 4096 (reg pgERR Off.ERR_REPAIR_REQ) 3 = true ∧ sServe.alerts.length < 240 := by
  decide +kernel

/-! ## Counter clears, binding and classes -/

/-- Context 0 of domain 0 is IDLE, its page and every unit's page reached by the operator's session 4096. -/
def sOp : State :=
  { sreg [(reg (pgCTX 0) Off.CTX_BIND, 0x80000000), (reg (pgCTX 0) Off.CTX_PRIO, 2), (reg (pgCLU 0) Off.CLU_PART, 0x400)] sServe with ctx := [(0, { run := .idle })] }
/-- CounterClearsOfPages. -/
theorem test_clear_pages : sOp.mayWrite 4096 (reg pgLEDG Off.LEDG_CNT_CLEAR) 1 = true ∧ sOp.mayWrite 4096 (reg pgCAL Off.CAL_CNT_CLEAR) 1 = true ∧
    sOp.mayWrite 4096 (reg pgTEMP Off.TEMP_CNT_CLEAR) 1 = true := by decide +kernel
/-- CounterClearsOfUnits: unit 0 of each kind. -/
theorem test_clear_units : sOp.mayWrite 4096 (reg (pgHBM 0) Off.HBM_CNT_CLEAR) 1 = true ∧ sOp.pagePresent .hbm 0 = true ∧ sOp.pagePresent .eth 0 = true ∧
    cluExists 0 = true ∧ sOp.cluUse 0 ≠ .off ∧ sOp.coreEnabled 0 0 = true ∧ sOp.mayWrite 4096 (reg (pgCLU 0) Off.CORE_CNT_CLEAR) 1 = true := by decide +kernel
/-- CounterClearsOfUnits: the tenant's session 0 owns context 0. -/
theorem test_clear_ctx : sOp.mayWrite 0 (reg (pgCTX 0) Off.CTX_NAN_STATUS) 1 = true ∧ sOp.mayWrite 0 (reg (pgCTX 0) Off.CTX_SAT_COUNT) 1 = true ∧
    sOp.mayWrite 0 (reg (pgCTX 0) Off.CTX_ACC_REPLAY_COUNT) 1 = true := by decide +kernel
/-- BindingsAndPartitions: an IDLE context and a RUNNING one. -/
def sBusy : State := { sOp with ctx := [(0, { run := .running })], cores := [(0, { queue := [pass0] })] }
theorem test_bind : isOp 4096 = true ∧ sOp.mayWrite 4096 (reg (pgCTX 0) Off.CTX_BIND) 0 = true ∧ sOp.holdsPartition 0 = false ∧
    sOp.cluEnabled 0 = true ∧ sOp.coreIdle 0 0 = true ∧ sBusy.holdsPartition 0 = true ∧ sBusy.coreIdle 0 0 = false ∧
    sOp.mayWrite 4096 (reg (pgCLU 0) Off.CLU_PART) 0 = true ∧ sOp.mayWrite 4096 (reg (pgCLU 0) Off.CORE_ROW_MAP) 0 = true ∧ cluExists 3000 = false := by decide +kernel
/-- PriorityClasses: within the maximum, above a lowered one, and the lowering. -/
theorem test_class : sOp.mayWrite 0 (reg (pgCTX 0) Off.CTX_PRIO) 3 = true ∧ fld (3 : Word) 0 2 ≤ sOp.classMax (sOp.domOf 0) ∧
    (sOp.wr (wreg 0 pgGLOB Off.GLOB_DOM_CLASS_MAX) 1).classMax 0 < fld (3 : Word) 0 2 ∧ sOp.mayWrite 4096 (reg pgGLOB Off.GLOB_DOM_CLASS_MAX) 1 = true := by
  decide +kernel

/-! ## Run control -/

/-- Context 0 of domain 0 in a run state, with a claim of core 0 of cluster 0 and a save area at 0x10000. -/
def sCtx (r : CtxRec) : State :=
  { sreg [(reg (pgCTX 0) Off.CTX_CLAIM_CL, 0x10000), (reg (pgCTX 0) Off.CTX_CLAIM_CORE, 0x20000100), (reg (pgCTX 0) Off.CTX_SAVE_BASE_LO, 0x10000),
      (reg (pgCTX 0) Off.CTX_STREAM_LEN, 128), (reg (pgCTX 0) Off.CTX_RESTART_PC_LO, 64)] sOp with
    ctx := [(0, r)], active := [(0, [⟨0x80000000, 4, 0, 1⟩])], grans := [(0, { dom := some 0 }), (1, { dom := some 0 })] }
/-- ReplayStartsAContext. -/
theorem test_replay_start : (sCtx { run := .idle }).mayWrite 0 (reg (pgCTX 0) Off.CTX_CTRL) 1 = true ∧ (sCtx { run := .idle }).mayReplay 0 = true ∧
    (sCtx { run := .idle }).replayGrps 0 = [] ∧ (sCtx { run := .idle }).claimBad 0 = false ∧ (sCtx { run := .idle }).rivals 0 = [] ∧
    ((sCtx { run := .idle }).getStep 0).votes = [] ∧ (sCtx { run := .running }).replayAnswer 0 ≠ 0 := by decide +kernel
/-- PreemptAndResume, RestartAndRelease. -/
theorem test_runCtrl : (sCtx { run := .running }).mayWrite 0 (reg (pgCTX 0) Off.CTX_RUN_CTRL) 1 = true ∧
    (sCtx { run := .saved, byPreempt := true, saveValid := true }).mayWrite 0 (reg (pgCTX 0) Off.CTX_RUN_CTRL) 2 = true ∧
    (sCtx { run := .saved, byPreempt := true, saveValid := true }).rivals 0 = [] ∧
    (sCtx { run := .faulted }).mayWrite 0 (reg (pgCTX 0) Off.CTX_RUN_CTRL) 4 = true ∧ (sCtx { run := .faulted }).restartPcOk 0 = true ∧
    ((sCtx { run := .faulted }).freeClaim 0).claimBad 0 = false ∧ (sCtx { run := .faulted }).mayWrite 0 (reg (pgCTX 0) Off.CTX_RUN_CTRL) 8 = true ∧
    (sCtx { run := .faulted }).routerQuiet 0 = true := by decide +kernel
/-- ClaimsAndStops. -/
theorem test_grant : ((sCtx { run := .ready }).tieGrant 0x20000 16384 (sCtx { run := .ready }).waiting).1 = some 0 := by decide +kernel
theorem test_stop : engineOf (3 : BitVec 3).toNat = some .vector ∧ (sCtx { run := .stopping, engines := [.vector] }).mayStop 0 .vector = true ∧
    (((sCtx { run := .stopping, engines := [.vector] }).stopEngine 0 .vector).getCtx 0).run = .stopping ∧ engineOf 7 = none := by decide +kernel
/-- SavesAndRestores: an area that translates, one that does not (context 0 without a region), and one with a poisoned line. -/
theorem test_save : (sCtx { run := .saving }).saveAreaFault 0 true = false ∧ ({ sCtx { run := .saving } with active := [] } : State).saveAreaFault 0 true = true ∧
    (sCtx { run := .saving }).storePoison 0 = false ∧ (sCtx { run := .saving }).waitsCurrent 0 (2 ^ 64) none = false ∧ (sCtx { run := .saving }).saveFrozen 0 = false ∧
    (sCtx { run := .restoring }).saveAreaPoison 0 = false ∧ (sCtx { run := .restoring }).routerQuiet 0 = true ∧
    ({ sCtx { run := .restoring } with marks := [(0x400, { poison := true })] } : State).saveAreaPoison 0 = true := by decide +kernel

/-! ## The current ledger -/

def sRail (r : RailRec) (t : ThrRec) : State := { sreg [(reg pgLEDG Off.LEDG_LSTEP_STATE, 1), (railReg 0 Off.LEDG_RAIL_ACCOUNT, 200000)] sServe with rails := [(0, r)], thr := t }
/-- LedgerTickBoundsAccounts. -/
theorem test_noneWaits : ∀ c, State.reset.noneWaits c = true := by intro c; rfl
/-- LstepAndThrottle: each condition holds somewhere. -/
theorem test_lstep : (sRail { age := 100000, still := 500 } {}).lstep 0 = true ∧ (sRail { age := 100000, still := 500 } {}).leadTicks ≤ 100000 ∧
    (sRail { age := 100000, still := 500 } {}).lstepHeld 0 = false ∧ ((sRail { age := 100000, still := 500 } {}).rail 0).leadDone = false := by decide +kernel
theorem test_throttle : 50 ≤ (sRail {} { low := 5000000 }).thr.low ∧ (sRail {} { low := 5000000 }).thr.held = false ∧
    (sRail {} { throttled := true, high := 5000, toggles := 1000 }).thr.throttled = true ∧
    bit ((sRail {} { throttled := true, high := 5000, toggles := 1000 }).rd (reg pgLEDG Off.EVENT)) 3 = false := by decide +kernel
/-- ProfilesAndCeilings: a lead that has passed, a last hold that has passed, ceilings in and out of range. -/
theorem test_profile : (sRail { prof := some 0 } {}).profNext 0 = some (0, false) ∧ (sRail { prof := some 0, seg := some 0 } {}).profNext 0 = some (1, true) ∧
    (sRail {} {}).profNext 0 = none := by decide +kernel
theorem test_ceil : (sRail {} {}).mayWrite 4096 (railReg 0 Off.LEDG_RAIL_CEIL) 130000 = true ∧ (sRail {} {}).locked pgLEDG = false ∧
    inOff 120000 (fld (130000 : Word) 0 20) (ceilMax 0) = true ∧ fld (130000 : Word) 0 20 < (sRail {} {}).account 0 ∧
    inOff 120000 (fld (100 : Word) 0 20) (ceilMax 0) = false := by decide +kernel

/-! ## The event calendar -/

/-- Entry 0, enabled and due at 5 ns with an action and a target; context 0 as given. -/
def sCal (a tgt period : Word) (r : CtxRec) : State :=
  { sreg [(calReg 0 Off.CAL_ENT_CTRL, 1), (calReg 0 Off.CAL_ENT_INSTANT_LO, 5), (calReg 0 Off.CAL_ENT_ACTION, a), (calReg 0 Off.CAL_ENT_TARGET, tgt), (calReg 0 Off.CAL_ENT_PERIOD, period),
      (calReg 0 Off.CAL_ENT_OWNER, 1024), (reg pgLEDG Off.LEDG_PROF_CFG, 1),
      (grpReg 0 Off.COLL_GRP_ID, 0x80000000), (grpReg 0 Off.COLL_GRP_CFG, 1), (ringReg 256 Off.MGMT_RING_CFG, 0x80000000)] (sCtx r) with now := 7 }
/-- DispatchKeepsTheCalendar: a periodic entry. -/
theorem test_cal_due : (sCal 1 0 1000 { run := .idle }).calDue 0 = true ∧ (sCal 1 0 1000 { run := .idle }).calNext 0 = true := by decide +kernel
/-- CalendarActionsRun: a start at once, a start to hold, and an entry that is the operator's for each other action. -/
theorem test_cal_start : (sCal 1 0 0 { run := .idle }).calAction 0 = 1 ∧ (sCal 1 0 0 { run := .idle }).calOwner 0 = none ∧
    (sCal 1 0 0 { run := .idle }).mayReplay 0 = true ∧ (sCal 1 0 0 { run := .running }).mayReplay 0 = false := by decide +kernel
/-- Entry 0 is the operator's, is the next to dispatch and holds action a. -/
def goes (s : State) (a : Nat) : Bool := s.calNext 0 && s.calAction 0 == a && s.calOwner 0 == none
theorem test_cal_goes : goes (sCal 1 0 0 { run := .idle }) 1 = true ∧ goes (sCal 2 0 0 {}) 2 = true ∧ goes (sCal 7 9 0 {}) 7 = true := by decide +kernel
theorem test_cal_windows : goes (sCal 3 0 0 { run := .idle }) 3 = true ∧ ((sCal 3 0 0 { run := .idle }).calAdvance 0).slotsOfGroup 0 = [0] := by decide +kernel
theorem test_cal_commit : goes (sCal 4 0 0 { run := .idle, stepPending := true }) 4 = true ∧ goes (sCal 6 0 0 { run := .saved, byPreempt := true }) 6 = true := by decide +kernel
theorem test_cal_ring : goes (sCal 5 0 0 { run := .idle }) 5 = true ∧ (sCal 5 0 0 { run := .idle }).ringRuns 256 = false ∧
    (sreg [(ringReg 256 Off.MGMT_RING_CTRL, 1), (ringReg 256 Off.MGMT_RING_DEPTH, 2)] (sCal 5 0 0 { run := .idle })).ringRuns 256 = true := by decide +kernel
theorem test_cal_scrub : (sCal 7 9 0 {}).calTarget 0 = 9 ∧ (sCal 7 9 0 {}).domSession 9 = false ∧ (∀ p ∈ (sCal 7 9 0 {}).boundCtxs, p.2 ≠ 9) := by decide +kernel
/-- HeldStartsAndEntryWrites. -/
theorem test_cal_missed : goes (sCal 1 0 0 { run := .running, heldStart := some (0, 5) }) 1 = true := by decide +kernel
theorem test_cal_held : (sCal 1 0 0 { run := .idle, heldStart := some (0, 5) }).mayReplay 0 = true ∧ calField 3 = none := by decide +kernel
theorem test_cal_write : (sCal 1 0 0 { run := .idle }).mayWrite 4096 (reg pgCAL Off.CAL_ENT_CTRL) 1 = true ∧ (sCal 1 0 0 { run := .idle }).calValid 0 = true ∧
    (sCal 0 0 0 { run := .idle }).calValid 0 = false ∧ calField 1 = some Off.CAL_ENT_ACTION ∧
    (sCal 1 0 0 { run := .idle }).mayWrite 4096 (reg pgCAL Off.CAL_ENT_ACTION) 9 = true := by decide +kernel

/-! ## Fabric time -/

/-- Fabric time has reached 3 s; TIME_CFG and TIME_STATE as given, a master 9 selected. -/
def sTime (cfg st : Word) (r : TimeRec) : State :=
  { sreg [(tReg Off.TIME_CFG, cfg), (tReg Off.TIME_STATE, st), (ptpReg Off.PTP_STATE, 1), (ptpReg Off.PTP_MASTER_LO, 9), (tReg Off.TIME_TOD_NEXT_LO, 3),
      (tReg Off.TIME_PPS_OUT_CFG, 3)] sPorts with now := 3000000000, time := r, timeouts := [(5, { due := 60 })] }
def ptpA : PtpMsg := ⟨false, 0, fld ((sTime 0 0 {}).rd (ptpReg Off.PTP_CFG)) 0 8, 9, 4, 0, false, 6, 3000000040, 0, 5⟩
def rxA : Rx := { rx0 with port := 16 }
/-- PtpDisciplinesTime: the message's port is in use and delivers it. -/
theorem test_ptp : ((sTime 0 2 {}).rxFrame rxA).2 = true ∧ ((sTime 0 2 {}).rxFrame rxA).1.tSrc = false ∧ ptpInRange ptpA = true ∧
    ((sTime 0 2 {}).rxFrame rxA).1.tState = 2 ∧ ptpInRange { ptpA with logInterval := 5 } = false ∧
    (sTime 0 2 { delayAt := some (4, 7), sync2 := some (4, 9), lastSync := some (8, 6), pdelay := some (4, 9, 8, 0) }).time.delayAt = some (4, 7) ∧
    bit ((sTime 0 2 {}).rd (ptpReg Off.PTP_CFG)) 10 = false ∧ bit ((sreg [(ptpReg Off.PTP_CFG, 0x400)] (sTime 0 2 {})).rd (ptpReg Off.PTP_CFG)) 10 = true := by decide +kernel
/-- SourcesHoldoverAndTimeouts: a source lost by silence, holdover, silent and moving PPS. -/
theorem test_lost : (sTime 0 2 {}).lossDue = true ∧ (sTime 0 2 {}).tState = 2 ∧ (sTime 0 3 {}).tState = 3 ∧ (sTime 4 2 { noMaster := some 0 }).failoverDue = true ∧
    (sTime 0 3 { back := true }).lossDue = true ∧ (sTime 0 3 { back := true }).tState = 3 := by decide +kernel
theorem test_pps : (sTime 1 6 { ppsLast := some 900000000 }).ppsQuiet = true ∧ (sTime 1 6 { ppsLast := some 2000000000 }).tSrc = true ∧
    bit ((sTime 1 6 {}).rd (tReg Off.TIME_STATE)) 2 = true := by decide +kernel
/-- SourcesHoldoverAndTimeouts: PPS_OUT, a timeout and the time of day. -/
theorem test_ppsOut : (sTime 0 0 {}).ppsOutDue = true ∧ (sTime 0 0 { ppsOut := true }).ppsOutOver = true ∧
    (sTime 0 0 {}).timeouts.find? (fun q => q.1 == (5 : BitVec 40).toNat) = some (5, { due := 60 }) ∧
    (sTime 0 0 {}).mayWrite 4096 (tReg Off.TIME_TOD_NEXT_HI) 1 = true ∧ (sTime 0 0 {}).mayWrite 4096 (tReg Off.TIME_TOD_NEXT_LO) 2 = true := by decide +kernel

/-! ## Collectives -/

/-- Context 0 in step 0 with an open window of slot 2 (group 7, rank 0 of 2) that holds an instance of tensor 3: one chunk of 16 bytes at 0x2000. -/
def inst0 : Inst := { tensor := 3, e := { elems := 8, kind := 0, op := 0, rmode := 0, destUpd := false, fmt := 1, chunk := 0, sem := 9, upd := 0, salt := 0, record := 0, dest := 0x2000, cap := 0, lenTab := 0, rsv := 0 } }
def sGrp (i : Inst) : State :=
  let t := sCtx { run := .running, stepPending := true }
  { sreg [(grpReg 2 Off.COLL_GRP_ID, 0x80000007), (grpReg 2 Off.COLL_GRP_SIZE, 1), (grpReg 2 Off.COLL_GRP_PORTS, 1), (ethReg 16 Off.ETH_STATE, 1), (ethReg 0 Off.ETH_STATE, 1),
      (grpReg 2 Off.COLL_GRP_TIMEOUT, 100)] t with
    grps := [(2, { winOpen := true, insts := [i] })], timeouts := [(deadKey false 2 3, { due := 5, fired := true }), (deadKey true 2 3, { due := 5, fired := true }), (deadKey true 2 0xFFFF, { due := 5, fired := true })] }
/-- A frame of group 7 of a kind, with its CRC. -/
def gw (kind op flags seq : Nat) (data : List Byte) : Gw := { kind := kind, op := op, flags := flags, group := 7, seq := seq, src := 1, len := data.length, err := 0x305, data := data }
def crcOf (f : Gw) : DWord := crc64 (f.header ++ f.data)
def wOf (s : State) (f : Gw) : State := (s.rxFrame rx0).1.serdes ((s.rxFrame rx0).1.groupDom (f.group % 2 ^ 20)) f.bytes.length
/-- CollectiveFramesAct: the window takes the frame, and the instance takes its chunk. -/
theorem test_gw : ((sGrp inst0).rxFrame rx0).2 = true ∧ (wOf (sGrp inst0) (gw 1 0 0 3 [1, 2])).slotsOfGroup 7 = [2] ∧
    ((wOf (sGrp inst0) (gw 1 0 0 3 [1, 2])).step' 0).toNat = 0 ∧ (wOf (sGrp inst0) (gw 1 0 0 3 [1, 2])).grpAttempt 2 = 0 := by decide +kernel
theorem test_gw_inst : (wOf (sGrp inst0) (gw 1 0 0 3 [1, 2])).inst 2 3 = some inst0 ∧
    inst0.e.first ((sGrp inst0).grpN 2) ((sGrp inst0).grpRank 2) ≤ 0 ∧ 0 < inst0.e.first ((sGrp inst0).grpN 2) ((sGrp inst0).grpRank 2 + 1) ∧
    (sGrp inst0).wantChunks 2 inst0.e = 1 := by decide +kernel
/-- DeadlinesStepsAndChunks. -/
theorem test_deadline : (sGrp inst0).timedOut (deadKey false 2 3) = true ∧ (sGrp inst0).timedOut (deadKey true 2 0xFFFF) = true := by decide +kernel
def sDec (b : Bool) : State := { sGrp inst0 with steps := [(0, { decision := some b, commit := true })], landq := [⟨2, 3, 0, 0, 0, 0, 0, [1], none⟩, ⟨2, 3, 0, 7, 0, 0, 0, [1], none⟩] }
/-- A chunk of the pipe that has its current, and the step's burst. -/
theorem test_engaged : ({ sDec true with landq := [⟨2, 3, 0, 0, 0, 0, 0, [1], some 0⟩] } : State).pipeWaits 0 = false ∧ (sDec true).burstFits 0 = true ∧
    ((sDec true).getGrp 2).aborted = false ∧ (sDec false).getStep 0 = { decision := some false, commit := true } := by decide +kernel
/-- A RESULT, a NOTICE and an ABORT of the open window; no send of the slot is under way. -/
theorem test_gw_quiet : (∀ x ∈ (wOf (sGrp inst0) (gw 2 0 0 3 [])).sends, x.slot = 2 → x.done = true) ∧ ((wOf (sGrp inst0) (gw 2 0 0 3 [])).getGrp 2).aborted = false ∧
    ((wOf (sGrp inst0) (gw 3 4 0 3 [])).getGrp 2).unresolved = false := by decide +kernel
theorem test_resolve : ((sDec true).getCtx 0).stepPending = true ∧ ((sDec true).getStep 0).commit = true ∧ (sDec true).inst 2 3 = some inst0 := by decide +kernel
theorem test_epoch : sOp.mayWrite 4096 (reg pgUPD Off.UPD_CTX_EPOCH) 1 = true ∧ sOp.mayWrite 4096 (reg pgUPD Off.UPD_PROG_CTRL) 1 = true := by decide +kernel

/-! ## Parcels and queue pairs -/

/-- Slot 2 holds group 7; landing 3 of the slot takes parcels of rank 1 and has one request; a parcel of entry 3 waits for its grant of landing 3; QP 0 is READY on port 16 with a request out since 0; region 1 holds 64 bytes at 0x1000. -/
def opB : Opnd := { opnd0 with base := 0x2000, fmt := 0, count := [1, 1, 1, 1] }
def sPcl (g : Option Nat) : State :=
  { sreg [(pclReg 3 Off.COLL_LND_CFG, 0x80000002), (pclReg 3 Off.COLL_LND_SRC, 1), (pclReg 3 Off.COLL_PCL_CFG, 0x80000002), (pclReg 3 Off.COLL_PCL_PEER, 0x30000), (pclReg 3 Off.COLL_PCL_CAP, 64),
      (pclReg 3 Off.COLL_PCL_QP, 0x10000), (semKey 0 0, 2), (qpReg 0 Off.MGMT_QP_CFG, 0x80000010), (qpReg 0 Off.MGMT_QP_STATE, 1), (reg pgCOLL Off.COLL_LAND_MAX, 4),
      (wreg 1 pgMGMT Off.MGMT_MR_CFG, 0x80000400), (wreg 1 pgMGMT Off.MGMT_MR_BASE_LO, 0x1000), (wreg 1 pgMGMT Off.MGMT_MR_LEN_LO, 64)] (sGrp inst0) with
    lands := [(3, { pend := 1, occ := [0] })], parcels := [⟨3, 0, 5, opB, g⟩], qps := [(0, { outs := 1, rate := 100 })], now := 10000000000000 }
theorem test_pcl : ((sPcl none).rxFrame rx0).2 = true ∧ (sPcl none).landValid 3 = true ∧ (sPcl none).landSlot 3 = 2 ∧ (sPcl none).slotsOfGroup 7 = [2] ∧
    (sPcl none).pclLanding 3 = 3 ∧ (sPcl none).pclSlot 3 = 2 := by decide +kernel
theorem test_pcl_bytes : (match (sPcl none).seqBytes 0 opB false with | .ok bs => bs.length | .error _ => 99) = 4 := by decide +kernel
theorem test_land : ((sPcl none).tieGrant 0x40000 4096 [(3, (sPcl none).ctxClass ((sPcl none).grpCtx ((sPcl none).landSlot 3)))]).1 = some 3 ∧
    (sPcl none).sem 0 0 ≠ 0 ∧ fld ((sPcl none).rd (pclReg 3 Off.COLL_LND_SEMS)) 8 8 = 0 := by decide +kernel
/-- RdmaAndQueuePairs. -/
theorem test_rdma : ((sPcl none).rxFrame rx0).1.qpState 0 = 1 ∧ ((sPcl none).rxFrame rx0).1.qpPort 0 = 16 ∧ (sPcl none).scrub = [] ∧
    (match (sPcl none).tierWrite 0 [(0x1000, 1)] with | .ok t => t.mem.length | .error _ => 0) ≠ 0 := by decide +kernel
theorem test_qp : (sPcl none).qpLate 0 = true ∧ (sPcl none).qpLimit 0 = fld (resetReg (qpReg 0 Off.MGMT_QP_TIMER)) 5 3 ∧ ((sPcl none).getQp 0).rate < 1048576 ∧
    (sPcl none).mayWrite 4096 (reg pgMGMT Off.MGMT_QP_CFG) 0 = true := by decide +kernel

/-! ## Rings and ports -/

/-- Ingest ring 0 of four-byte records runs on QP 0 and checkpoint ring 0 (256) has a closed checkpoint with one write out. -/
def ring0 : RingRec := { asked := 1, producer := 4 }
def ckpt0 : Ckpt := { n := 0, step := 0, cur := false, unacked := [none] }
def sRing (g : RingRec) : State :=
  let t := sPcl none
  { sreg [(ringReg 0 Off.MGMT_RING_CFG, 0x80000000), (ringReg 0 Off.MGMT_RING_CTRL, 0xA0001), (ringReg 0 Off.MGMT_RING_SIZE, 4), (ringReg 0 Off.MGMT_RING_DEPTH, 0x40003),
      (ringReg 0 Off.MGMT_RING_LBASE_LO, 0x3000), (ringReg 0 Off.MGMT_RING_SEMS, 0x040005)] t with rings := [(0, g), (256, { ckpt := some ckpt0 })] }
/-- RingsRun. -/
theorem test_ring : (sRing ring0).ringRuns 0 = true ∧ (sRing ring0).ringSlots 0 = 4 ∧ (sRing ring0).qpState ((sRing ring0).ringQp 0) = 1 ∧
    (match (sRing ring0).tierWrite 0 [(0x3000, 1)] with | .ok _ => true | .error _ => false) = true ∧
    (sRing { landed := 2, freed := 1 }).sem 0 (fld ((sRing ring0).rd (ringReg 0 Off.MGMT_RING_SEMS)) 8 8) ≠ 0 ∧
    (match (sRing ring0).tierWrite 0 [(0x30000000, 1)] with | .ok _ => true | .error _ => false) = false := by decide +kernel
theorem test_ring_write : (sRing ring0).mayWrite 4096 (reg pgMGMT Off.MGMT_RING_CTRL) 0 = true ∧ ((sRing ring0).getRing 256).ckpt = some ckpt0 ∧
    ((sRing ring0).getRing 256).closing = [] ∧ ckptAcked [ckpt0, { ckpt0 with n := 1, unacked := [] }] ≠ none ∧ ckptAcked [{ ckpt0 with unacked := [] }] = none := by decide +kernel
/-- PortsLinkAndPause: port 16 is linked, port 3 is not. -/
theorem test_port : (sPcl none).portsLive 3 = true ∧ (sPcl none).portPresent 3 = true ∧ (sPcl none).linkUp 3 = false ∧ (sPcl none).linkUp 16 = true ∧
    bit ((sreg [(ethReg 16 Off.ETH_STATE, 9)] (sPcl none)).rd (ethReg 16 Off.ETH_STATE)) 3 = true := by decide +kernel

/-! ## Memory -/

/-- Context 0 runs; regions map granules 0 to 3; an entry buffered since 0 for unit 9; granule 5 awaits domain 0's fill; patrol of stack 0 is on. -/
def sMem : State :=
  let t := sCtx { run := .running, stepPending := true }
  { sreg [(reg (pgHBM 0) Off.HBM_PATROL_CFG, 0x10000), (reg (pgHBM 0) Off.HBM_STATE, 2), (wreg 0 pgGLOB Off.GLOB_DOM_XLAT_COUNT, 1)] t with
    mem := [(0x2000, 7), (0xA00001, 3)], wc := [{ unit := 9, dom := 0, bytes := [(4608, 5)] }], now := 5000,
    grans := [(0, { dom := some 0 }), (1, { dom := some 0 }), (5, { fill := some 0 })], staged := [(0, ⟨0x80000000, 2, 8, 1⟩)] }
/-- TierAccesses. -/
theorem test_mem_read : sMem.accesses 0 = true ∧ (match sMem.xlateRuns 0 0x2000 8 false false with | .ok ps => ps | .error _ => []) = [(0x2000, 8)] ∧
    (sMem.dieReads 0 [] [(0x2000, 8)]).2 = none ∧ (sMem.dieReads 0 [(0x400, 3 * 2 ^ 20 + 5)] [(0x2000, 8)]).2 ≠ none := by decide +kernel
theorem test_mem_held : sMem.accessWaits [0x2000] = false ∧ (sMem.wr (reg (pgHBM (sMem.stackOf 0x2000)) Off.HBM_CTRL) 1).accessWaits [0x2000] = true := by decide +kernel
/-- Every stack and the packages ONLINE, with the scrub engine's current granted. -/
def scrubs (s : State) : State :=
  { sreg ((reg pgSLOW Off.SLOW_STATE, 2) :: (List.range 16).map fun i => (reg (pgHBM i) Off.HBM_STATE, 2)) s with
    lresv := { acct := 11, ix := 0, iclass := 15 } :: (List.range 16).map fun i => { acct := 10, ix := i, iclass := 11 } }
theorem test_mem_fill : (scrubs sMem).scrubRuns false = true ∧ (scrubs sMem).scrubRuns true = true ∧ sMem.scrubRuns false = false := by decide +kernel
theorem test_mem_quiesce : sMem.quiesceHolds [0x2000, 0x2001] = false ∧
    (sMem.wr (reg (pgHBM (sMem.stackOf 0x2000)) Off.HBM_CTRL) 1).quiesceHolds [0x2000] = true := by decide +kernel
theorem test_mem_write : (match sMem.writePlaces 0 0x2000 [1, 2] false with | .ok bs => bs | .error _ => []) = [(0x2000, 1), (0x2001, 2)] ∧
    (match sMem.writePlaces 0 0x40000000 [1, 2] false with | .ok _ => true | .error _ => false) = false := by decide +kernel
theorem test_mem_patrol : sMem.paBacked 0 = true ∧ sMem.patrolRuns (16 * 2 ^ 21) = sMem.patrolRuns (16 * 2 ^ 21) ∧ (sMem.gran 5).fill = some 0 := by decide +kernel
/-- TablesAndStacks: a good staged table, and one that starts with an invalid entry. -/
theorem test_table : sMem.mayWrite 4096 (reg pgGLOB Off.GLOB_DOM_XLAT_CTRL) 1 = true ∧ sMem.firstBad none 0 (sMem.stagedTable 0) = none ∧
    ({ sMem with staged := [] } : State).firstBad none 0 (({ sMem with staged := [] } : State).stagedTable 0) = some 0 := by decide +kernel
theorem test_stack : sMem.mayWrite 4096 (reg (pgHBM 0) Off.HBM_CTRL) 1 = true ∧ sMem.pagePresent .hbm 0 = true ∧ sMem.pagePresent .stkRepair 0 = true ∧
    sMem.mayWrite 4096 (reg (pgSTK_REPAIR 0) Off.STK_REPAIR_CTRL) (setBit 0x100 31 true) = true := by decide +kernel

/-! ## Security -/

/-- Domain 0 maps granules 0 to 3 at generation 0; domain 9 has released granule 20; W of domain 0 as given. -/
def sKey (k : Word) : State :=
  let t := sCtx { run := .idle }
  { sreg [(keyReg 0 Off.KEY_DOM_MEM_GEN, k)] t with
    scrub := [9], grans := [(0, { dom := some 0 }), (1, { dom := some 0 }), (20, { dom := some 9, released := some 9 })], mem := [(41943045, 3)],
    slots := [(2, { ok := true, svn := 3 })], nv := some { unit := 2, bits := 2 }, fwBusy := some (3, { ok := true }), att := [(4096, { busy := true })] }
/-- SecurityRows. -/
theorem test_rotate : (sKey 0).rotating 0 = false ∧ (sKey 0).mapped 0 = [0, 1, 2, 3] ∧ (sKey 0xC001).rotating 0 = true ∧ (sKey 0).mayWrite 4096 (reg pgKEY Off.KEY_DOM_CTRL) 1 = true ∧
    (sKey 0).releasedOf 9 = [20] ∧ (scrubs (sKey 0xC001)).scrubRuns false = true ∧ (sKey 0xC001).fillWork false = false ∧ (sKey 0xC001).toMove 0 false = [0, 1, 2, 3] ∧
    (sKey 0xC001).moveWork false = true ∧ (sKey 0).moveWork false = false ∧ (sKey 0).fillWork false = false := by decide +kernel
theorem test_fw : (sKey 0).mayWrite 4096 (reg pgSEC Off.SEC_FW_CTRL) 258 = true ∧ ((sKey 0).slotOf 2).ok = true ∧ (sKey 0).fusedMin 2 = 0 ∧
    (sKey 0).mayWrite 4096 (reg pgATT Off.ATT_CTRL) 1 = true ∧ (sKey 0).mayWrite 4096 (reg pgDBG Off.DBG_CTRL) 1 = true ∧ (sKey 0).serves 0 = true := by decide +kernel

/-! ## Errors and metrology -/

/-- A damaged word: kind and error pattern. -/
def dmg (k : StoreKind) (pat : Nat) : Damage := ⟨k, 0, 0, 5, pat⟩
/-- The link from die 1 to the I/O die waits for the n-th resend; metrology runs, at one whole second. -/
def sErr (n : Nat) : State :=
  { State.reset with linkRetry := if n = 0 then [] else [(24, n)], met := { running := true, tot := { time := 1000000 }, copyB := some (4, {}) } }
/-- ErrorsAndMetrology. -/
theorem test_links : linkExists 8 2 = true ∧ linkExists 1 8 = true ∧ linkExists 1 2 = false ∧ mapGet 0 (sErr 9).linkRetry 24 = 9 ∧ (sErr 9).fatal = none ∧
    damage64 false (2 ^ 20) = .corrected ∧ damage64 false (7 * 2 ^ 20) = .fresh := by decide +kernel
/-- A flit of class 2 on the crossbar against one of class 1, and against one of class 3. -/
def flit0 (cls : BitVec 2) : Flit := { own := ⟨0, 0, 2⟩, others := [⟨3, 1, cls⟩], words := 2, errs := [0, 2 ^ 20] }
theorem test_crossbar : ((sErr 0).crossbar 2 (flit0 1)).1 = true ∧ ((sErr 0).crossbar 2 (flit0 3)).1 = false ∧ xbarIndex ⟨3, 1, 3⟩ ≠ xbarIndex ⟨0, 0, 2⟩ ∧
    ((flitCodewords (flit0 1)).map (damage64 false)).length = 4 := by decide +kernel
theorem test_words : Damage.exists' (dmg .coreStore 0) = true ∧ Damage.exists' ⟨.cluStore, 3000, 0, 0, 0⟩ = false ∧ (storeRead32 false 4).kind = .corrected ∧
    (storeRead32 false 3).kind = .fresh ∧ (storeRead32 true 0).kind = .marker ∧ (storeRead32 false 0).kind = .clean ∧ damage64 true 0 = .marker := by decide +kernel
theorem test_metrology : (sErr 0).metRuns = true ∧ (sErr 0).met.tot.time % 1000000 = 0 ∧ (sErr 0).met.tot.time ≠ 0 ∧ (sErr 0).met.clockFault = false ∧
    State.reset.metRuns = false ∧ mapWf (fun _ => 0) (sErr 0).met.tot.work = true ∧ (List.replicate 13 (⟨7000, 1000, false⟩ : MetIn)).length = 13 := by decide +kernel

/-! ## Resets and start-up -/

/-- The module in a stage of its start, with a granule's byte in memory and one in a cluster store. -/
def sStage (n : Nat) : State := { State.reset.setStage n with mem := [(5, 9), (2 ^ 53 + 1, 7), (2 ^ 56, 3)], powered := true }
/-- Sixteen conversions: ten of 5, six of 4. -/
def conv16 : List (BitVec 4) := List.replicate 10 5 ++ List.replicate 6 4
/-- The slot of the boot ROM holds version 0 where 5 is burned, and nothing is staged. -/
def sBad : State := { sStage 3 with svnMin := [(1, 5)] }
/-- ResetsAndStart. -/
theorem test_reset_pins : State.reset.rstLow = false ∧ State.reset.powered = false ∧ (sStage 8).powered = true ∧ conv16.length = 16 ∧ strapCode conv16 = 5 := by decide +kernel
/-- A warm-class reset that an eFuse pulse holds, and stages whose current is granted or not. -/
theorem test_waits : ({ sStage 8 with nv := some { unit := 2, bits := 1 } } : State).nv ≠ none ∧ (sStage 5).startWaits none = false ∧
    ({ sStage 5 with lreqs := [{ acct := 10, ix := 400, prio := 0, dom := 1024, units := [{ acct := 10, ix := 400, iclass := 12 }] }] } : State).startWaits none = true := by
  decide +kernel
theorem test_stages : (sStage 1).stage = 1 ∧ (sStage 6).stage = 6 ∧ (sStage 6).stagedDies.length = (0 : BitVec 3).toNat ∧ (sStage 10).temps = [] ∧ (sStage 3).warmStart = false := by decide +kernel
theorem test_warm_due : ({ sStage 8 with warm := some 3 } : State).accountsZero = true ∧ ({ sStage 8 with fatal := some 0, now := 300000 } : State).fatalDue = true ∧
    (sStage 8).fatalDue = false ∧ bit ((sreg [(rstReg Off.RST_WDT_CFG, 21)] (sStage 8)).rd (rstReg Off.RST_WDT_CFG)) 0 = true := by decide +kernel
theorem test_boot : (sBad.bootLoad sBad.bootUnits).2.isSome = true ∧ sBad.stage = 3 ∧ bit ((sreg [(reg pgCLK Off.CLK_LOCK, 0x1FFFFFF#32)] (sStage 8)).rd (reg pgCLK Off.CLK_LOCK)) 19 = true := by decide +kernel
/-- Every unit's slot holds a valid image. -/
def sSlots : State := { sStage 3 with slots := (List.range 7).map fun u => (u, { ok := true, svn := 1 }) }
theorem test_boot_none : (sSlots.bootLoad sSlots.bootUnits).2 = none ∧ sSlots.stage = 3 ∧ sSlots.warmStart = false := by decide +kernel

/-! ## Sensors, regulators and test access -/

/-- A module in a stage, its debug port enabled, polls on, one account capped by a cool sensor, one reading above the hot limit. -/
def sHeat (n : Nat) : State :=
  { sreg [(reg pgDBG Off.DBG_CTRL, 1)] (sStage n) with rails := [(2, { caps := [40] })], temps := [(137, 1400)], trips := [7] }
/-- SensorsRegulatorsTap. -/
theorem test_sensors : (sHeat 8).sensorPresent 136 = true ∧ tripAt 3 ≤ (1840#16).toInt ∧ (1#16).toInt < tripClear 3 ∧ (sHeat 8).stage = 8 ∧ (sHeat 8).warmStart = false ∧
    (sHeat 8).throttleAt ≤ (1680#16).toInt ∧ ((sHeat 8).rail 2).caps ≠ [] ∧ (sHeat 8).temp 40 < (sHeat 8).throttleAt - (sHeat 8).hystOf ∧
    ({ sHeat 8 with fuse := { grade := 2 } } : State).sensorPresent 145 = false := by decide +kernel
theorem test_regulators : bit ((sHeat 8).rd (reg pgPMB Off.PMB_CFG)) 0 = true ∧ (List.replicate 13 (none : Option PmbAns)).length = 13 ∧
    (sHeat 8).avsOpen 8 = true ∧ (sHeat 6).avsOpen 3 = false ∧ (sHeat 8).avsLimits 8 = (700, 800) ∧ (sHeat 8).avsAt = [] ∧ (sHeat 8).rd (pmbReg 8 Off.PMB_AVS_TARGET) = 0 := by decide +kernel
theorem test_tap : (sHeat 8).rstLow = false ∧ (sHeat 8).allQuiesced = false ∧ (sHeat 8).fuse.prodClosed = true ∧ tapListed 0xFF = false ∧ tapListed 2 = true ∧ (sHeat 8).tapActs 2 = true ∧
    bit ((sHeat 8).rd (reg pgDBG Off.DBG_CTRL)) 0 = true ∧ (reg pgERR Off.ERR_CE_THRESH) % 4 = 0 ∧ dbgStore (2 ^ 53) = true ∧ dbgStore 0 = false ∧ 2 ^ 53 + 1 ≤ tileBase := by decide +kernel

end Sys2Proof.Tests
end

section
/-! PROOFS. Register entries of a served session: RD32, RD64, WR32, WR64 and REGISTER_WRITE (R14, R434, R441). -/

namespace Sys2Proof.Machine

open Sys2Proof

/-- A lone entry that succeeds is answered with its value and data (R441). -/
theorem State.lone_ok {s t : State} {se v : Nat} {d : List Byte} {e : CtlEntry} (h : s.serves se = true) (hop : e.op ≠ 0x20)
    (ht : (s.applying se e).applyEntry se e = (t, .ok v d)) : s.lone se e = t.answered se 0 v d := by
  rw [State.lone_eq s se e h, ht]
  exact if_neg hop

/-- A lone entry that fails is answered with its code (R441). -/
theorem State.lone_fail {s t : State} {se v : Nat} {c : Code} {d : List Byte} {e : CtlEntry} (h : s.serves se = true) (hop : e.op ≠ 0x20)
    (ht : (s.applying se e).applyEntry se e = (t, .fail c v d)) : s.lone se e = t.answered se c v d := by
  rw [State.lone_eq s se e h, ht]
  exact if_neg fun hc => hop hc.2

/-- The module of a served session applies its entries in the READY stage. -/
theorem State.stage_applying {s : State} {se : Nat} {e : CtlEntry} (h : s.serves se = true) : (s.applying se e).stage = 8 := ((s.serves_iff se).1 h).1

/-- An entry under way changes nothing about which accesses are refused. -/
@[simp] theorem State.denied_applying (s : State) (se se' a : Nat) (e : CtlEntry) (wr : Bool) (v : Word) :
    (s.applying se' e).denied se a wr v = s.denied se a wr v := rfl

/-- A control address has 28 bits (R12). -/
theorem caddr_mod (a : CAddr) : a.toNat % 2 ^ 28 = a.toNat := Nat.mod_eq_of_lt a.isLt

/-- A register's number is the register. -/
@[simp] theorem w32_toNat (v : Word) : w32 v.toNat = v := by simp [w32]

/-- A read of one register is logged for the domains that it touches (R483). -/
theorem State.reading_word (s : State) (se a : Nat) : s.reading se a 4 =
    (s.applying se { op := 1, addr := a }).logReg se a 4 ((s.applying se { op := 1, addr := a }).touched se a false 0) := by
  simp [State.reading]

/-- A read of a pair is logged for the domains that either half touches (R483). -/
theorem State.reading_pair (s : State) (se a : Nat) : s.reading se a 8 = (s.applying se { op := 3, addr := a }).logReg se a 8
    ((s.applying se { op := 3, addr := a }).touched se a false 0 ++ (s.applying se { op := 3, addr := a }).touched se (a + 4) false 0) := rfl

/-- RD32 of a permitted register answers its value, with the effect that reading has (R306, R441, R483). -/
theorem State.lone_rd32 (s : State) (se : Nat) (a : CAddr) (h : s.serves se = true) (hd : s.denied se a.toNat false 0 = false) :
    s.lone se { op := 1, addr := a.toNat } =
      ((s.reading se a.toNat 4).readEffect se a.toNat).answered se 0 ((s.reading se a.toNat 4).regValue se a.toNat).toNat [] := by
  refine State.lone_ok h (by simp) ?_
  rw [State.applyEntry_served (s.applying _ _) _ _ (State.stage_applying h)]
  simp only [caddr_mod, State.entryRd32, State.denied_applying, hd, Bool.false_eq_true, if_false, State.readOne, State.reading_word]

/-- RD64 of a permitted pair answers both halves, read one after the other in one cycle (R441, R483). -/
theorem State.lone_rd64 (s : State) (se : Nat) (a : CAddr) (h : s.serves se = true) (h8 : a.toNat % 8 = 0)
    (hl : s.denied se a.toNat false 0 = false) (hh : s.denied se (a.toNat + 4) false 0 = false) :
    s.lone se { op := 3, addr := a.toNat } =
      let r := s.reading se a.toNat 8
      let p := r.readEffect se a.toNat
      (p.readEffect se (a.toNat + 4)).answered se 0 ((r.regValue se a.toNat).toNat + (p.regValue se (a.toNat + 4)).toNat * 2 ^ 32) [] := by
  refine State.lone_ok h (by simp) ?_
  rw [State.applyEntry_served (s.applying _ _) _ _ (State.stage_applying h)]
  simp only [caddr_mod, State.entryRd64, State.denied_applying, h8, hl, hh, ne_eq, not_true_eq_false, Bool.or_self, Bool.false_eq_true, if_false,
    State.readOne, State.reading_pair]

/-- WR64 of a permitted pair, neither of whose halves is refused, writes both halves in one cycle (R441, R483). -/
theorem State.lone_wr64 (s : State) (se : Nat) (a : CAddr) (u : DWord) (h : s.serves se = true) (h8 : a.toNat % 8 = 0) {t t' : State}
    (hl : s.denied se a.toNat true (w32 u.toNat) = false) (hh : s.denied se (a.toNat + 4) true (w32 (u.toNat / 2 ^ 32)) = false)
    (hw : let q := s.applying se { op := 4, addr := a.toNat, value := u.toNat }
      (q.logReg se a.toNat 8 (q.touched se a.toNat true (w32 u.toNat) ++ q.touched se (a.toNat + 4) true (w32 (u.toNat / 2 ^ 32)))).regWrite
        se a.toNat (w32 u.toNat) = (0, t))
    (hz : t.regWrite se (a.toNat + 4) (w32 (u.toNat / 2 ^ 32)) = (0, t')) :
    s.lone se { op := 4, addr := a.toNat, value := u.toNat } = t'.answered se 0 0 [] := by
  refine State.lone_ok h (by simp) ?_
  rw [State.applyEntry_served (s.applying _ _) _ _ (State.stage_applying h)]
  simp only at hw
  simp only [caddr_mod, State.entryWr64, State.denied_applying, h8, hl, hh, hw, hz, ne_eq, not_true_eq_false, Bool.or_self, Bool.false_eq_true,
    if_false, and_self, if_true]

/-- A refused RD32 is answered DOMAIN_ACCESS_DENIED and changes nothing (R434). -/
theorem State.lone_rd32_denied (s : State) (se : Nat) (a : CAddr) (h : s.serves se = true) (hd : s.denied se a.toNat false 0 = true) :
    s.lone se { op := 1, addr := a.toNat } = s.answered se Err.DOMAIN_ACCESS_DENIED 0 [] := by
  refine State.lone_fail (t := s.applying se { op := 1, addr := a.toNat }) h (by simp) ?_
  rw [State.applyEntry_served (s.applying _ _) _ _ (State.stage_applying h)]
  simp only [caddr_mod, State.entryRd32]
  exact if_pos hd

/-- A refused WR32 is answered DOMAIN_ACCESS_DENIED and changes nothing (R434). -/
theorem State.write32_denied (s : State) (se : Nat) (a : CAddr) (v : Word) (h : s.serves se = true) (hd : s.denied se a.toNat true v = true) :
    s.write32 se a.toNat v = s.answered se Err.DOMAIN_ACCESS_DENIED 0 [] := by
  refine State.lone_fail (t := s.applying se { op := 2, addr := a.toNat, value := v.toNat }) h (by simp) ?_
  rw [State.applyEntry_served (s.applying _ _) _ _ (State.stage_applying h)]
  simp only [caddr_mod, w32_toNat, State.entryWr32]
  exact if_pos hd

/-- Settles O23: each entry is a lone entry of the session, and its equation gives its answer. -/
theorem registerEntriesReadAndWrite : Obligations.RegisterEntriesReadAndWrite := by
  unfold Obligations.RegisterEntriesReadAndWrite
  intro s se a v u x k go r p q w z h
  refine ⟨fun hd => congrArg s.commit (s.lone_rd32 x a h hd), fun h8 hl hh => congrArg s.commit (s.lone_rd64 x a h h8 hl hh),
    fun hd => congrArg s.commit (s.write32_eq x k v a.isLt h hd), fun h8 hl hh hw hz => ?_,
    fun hd => congrArg s.commit (s.lone_rd32_denied x a h hd), fun hd => congrArg s.commit (s.write32_denied x a v h hd), rfl⟩
  exact congrArg s.commit (s.lone_wr64 x a u h h8 hl hh (Prod.ext hw rfl) (Prod.ext hz rfl))

end Sys2Proof.Machine
end

section
/-! SUPPORT. What a register write of a served session leaves: the page that its address names, the state in which it has its effect, and the answer (R14 to R17, R434, R441, R483, R588). -/

namespace Sys2Proof.Machine

open Sys2Proof

/-! ## Pages and addresses -/

@[simp] theorem reg_div (p : Nat) {o : Nat} (h : o < 4096) : reg p o / 4096 = p := by unfold reg; omega
@[simp] theorem reg_mod (p : Nat) {o : Nat} (h : o < 4096) : reg p o % 4096 = o := by unfold reg; omega

/-- The pages of the clusters and of the contexts have 16-bit indices. -/
theorem pgCLU_lt (cl : Cluster) : pgCLU cl.toNat < 2 ^ 16 := by have := cl.isLt; unfold pgCLU; omega
theorem pgCTX_lt (c : Ctx) : pgCTX c.toNat < 2 ^ 16 := by have := c.isLt; unfold pgCTX; omega

/-- Registers of one page have different keys at different offsets. -/
@[simp] theorem reg_same_page (p a b : Nat) : reg p a = reg p b ↔ a = b := Nat.add_left_cancel_iff

/-- Page indices have 16 bits (R588). -/
theorem reg_lt {p o : Nat} (hp : p < 2 ^ 16) (ho : o < 4096) : reg p o < 2 ^ 28 := by unfold reg; omega

/-- No page index belongs to two kinds (R588). -/
theorem pageSpan_disjoint : ∀ j ∈ pageKinds, ∀ k ∈ pageKinds, j ≠ k →
    (pageSpan j).1 + (pageSpan j).2 ≤ (pageSpan k).1 ∨ (pageSpan k).1 + (pageSpan k).2 ≤ (pageSpan j).1 := by decide

/-- Every kind of page is listed. -/
theorem mem_pageKinds (k : PageKind) : k ∈ pageKinds := by cases k <;> decide

/-- A page of a kind lies at the kind's first index and its own number (R588). -/
theorem pageOf_span (k : PageKind) {i : Nat} (hi : i < (pageSpan k).2) : pageOf ((pageSpan k).1 + i) = some (k, i) := by
  have hmem : (pageSpan k).1 ≤ (pageSpan k).1 + i ∧ (pageSpan k).1 + i < (pageSpan k).1 + (pageSpan k).2 := by omega
  unfold pageOf
  cases hf : pageKinds.find? fun j => decide ((pageSpan j).1 ≤ (pageSpan k).1 + i) && decide ((pageSpan k).1 + i < (pageSpan j).1 + (pageSpan j).2) with
  | none => exact absurd (List.find?_eq_none.1 hf k (mem_pageKinds k)) (by simpa using hmem)
  | some j =>
    have hj : (pageSpan j).1 ≤ (pageSpan k).1 + i ∧ (pageSpan k).1 + i < (pageSpan j).1 + (pageSpan j).2 := by simpa using List.find?_some hf
    have hjk : j = k := by
      by_contra hne
      rcases pageSpan_disjoint j (mem_pageKinds j) k (mem_pageKinds k) hne with h | h <;> omega
    simp [hjk]

theorem pageOf_pgCLU {n : Nat} (h : n < 3000) : pageOf (pgCLU n) = some (.clu, n) := pageOf_span .clu h
theorem pageOf_pgCTX (c : Ctx) : pageOf (pgCTX c.toNat) = some (.ctx, c.toNat) := pageOf_span .ctx c.isLt

/-! ## The state in which a write has its effect -/

/-- The state in which a session's write of a register has its effect: its entry is under way and an operator's access is logged (R441, R483). -/
def State.hearing (s : State) (se a : Nat) (v : Word) : State :=
  let t := s.applying se { op := 2, addr := a, value := v.toNat }
  t.logReg se a 4 (t.touched se a true v)

theorem State.wrote_eq (s : State) (se a : Nat) (v : Word) : s.wrote se a v = (s.hearing se a v).regWrite se a v := rfl

/-- A state with the entry under way and the access logs of another. -/
def State.withEntry (s u : State) : State := { u with frame := s.frame, logs := s.logs, logOpen := s.logOpen }

/-- Two changes of the entry are one. -/
theorem State.withEntry_trans (s u x : State) (hx : u.withEntry x = u) (hu : s.withEntry u = s) : s.withEntry x = s := by
  have h : s.withEntry (u.withEntry x) = s.withEntry u := by rw [hx]
  exact h.trans hu

/-- A logged access changes the access logs. -/
theorem State.logOp_frame (s : State) (se d kind len addr : Nat) : s.withEntry (s.logOp se d kind len addr) = s := by
  unfold State.logOp
  split
  · unfold State.logAccess; dsimp only; split <;> rfl
  · rfl

/-- The entry of a write and its log are all that differs before the write has its effect. -/
theorem State.hearing_frame (s : State) (se a : Nat) (v : Word) : s.withEntry (s.hearing se a v) = s :=
  foldl_keeps (fun t : State => s.withEntry t = s) _ (fun _ _ ht => State.withEntry_trans s _ _ (State.logOp_frame _ _ _ _ _ _) ht) _ _ rfl

section
variable (s : State) (se a : Nat) (v : Word)

@[simp] theorem State.hearing_regs : (s.hearing se a v).regs = s.regs := (congrArg State.regs (s.hearing_frame se a v) :)
@[simp] theorem State.hearing_sregs : (s.hearing se a v).sregs = s.sregs := (congrArg State.sregs (s.hearing_frame se a v) :)
@[simp] theorem State.hearing_ctx : (s.hearing se a v).ctx = s.ctx := (congrArg State.ctx (s.hearing_frame se a v) :)
@[simp] theorem State.hearing_mem : (s.hearing se a v).mem = s.mem := (congrArg State.mem (s.hearing_frame se a v) :)
@[simp] theorem State.hearing_alerts : (s.hearing se a v).alerts = s.alerts := (congrArg State.alerts (s.hearing_frame se a v) :)
@[simp] theorem State.hearing_alertSeq : (s.hearing se a v).alertSeq = s.alertSeq := (congrArg State.alertSeq (s.hearing_frame se a v) :)
@[simp] theorem State.hearing_fuse : (s.hearing se a v).fuse = s.fuse := (congrArg State.fuse (s.hearing_frame se a v) :)
@[simp] theorem State.hearing_lresv : (s.hearing se a v).lresv = s.lresv := (congrArg State.lresv (s.hearing_frame se a v) :)
@[simp] theorem State.hearing_repairs : (s.hearing se a v).repairs = s.repairs := (congrArg State.repairs (s.hearing_frame se a v) :)

@[simp] theorem State.rd_hearing (k : Nat) : (s.hearing se a v).rd k = s.rd k := by simp [State.rd]
@[simp] theorem State.srd_hearing (x k : Nat) : (s.hearing se a v).srd x k = s.srd x k := by simp [State.srd]
@[simp] theorem State.getCtx_hearing (c : Nat) : (s.hearing se a v).getCtx c = s.getCtx c := by simp [State.getCtx]
@[simp] theorem State.sel_hearing (x page o : Nat) : (s.hearing se a v).sel x page o = s.sel x page o := by simp [State.sel]
@[simp] theorem State.locked_hearing (page : Nat) : (s.hearing se a v).locked page = s.locked page := by simp [State.locked]
@[simp] theorem State.cluUse_hearing (n : Nat) : (s.hearing se a v).cluUse n = s.cluUse n := by simp [State.cluUse]
@[simp] theorem State.cluEnabled_hearing (n : Nat) : (s.hearing se a v).cluEnabled n = s.cluEnabled n := by simp [State.cluEnabled]

@[simp] theorem State.pagePresent_hearing (k : PageKind) (i : Nat) : (s.hearing se a v).pagePresent k i = s.pagePresent k i := by
  simp [State.pagePresent]

end

/-! ## The answer -/

/-- What a command leaves whose write has been carried out: the entry is answered, and the queue of waiting commands is the machine's own. -/
def State.replied (s w : State) (se : Nat) : State := { w.answered se 0 0 [] with pending := s.pending }

section
variable (s w : State) (se : Nat)

@[simp] theorem State.replied_ctx : (s.replied w se).ctx = w.ctx := rfl
@[simp] theorem State.replied_mem : (s.replied w se).mem = w.mem := rfl
@[simp] theorem State.replied_alerts : (s.replied w se).alerts = w.alerts := rfl
@[simp] theorem State.replied_repairs : (s.replied w se).repairs = w.repairs := rfl
@[simp] theorem State.rd_replied (k : Nat) : (s.replied w se).rd k = w.rd k := rfl
@[simp] theorem State.getCtx_replied (c : Nat) : (s.replied w se).getCtx c = w.getCtx c := rfl

end

/-- A row of a page that the module has is carried out. -/
theorem State.onPage_true (s : State) {b : Bool} (hb : b = true) (t : State) : s.onPage b t = s.commit t := by rw [hb]; rfl

/-- A row of a page that the module does not have changes nothing (R17, R589). -/
theorem State.onPage_false (s : State) {b : Bool} (hb : b = false) (t : State) : s.onPage b t = .next s := by rw [hb]; rfl

/-- A row that a session may write answers what the write of the register leaves (R441). -/
theorem State.commit_put {s w : State} {se : SessIx} {p o : Nat} {v : Word} (h : s.mayWrite se (reg p o) v = true) (hp : p < 2 ^ 16) (ho : o < 4096)
    (hw : (s.hearing se.toNat (reg p o) v).regWrite se.toNat (reg p o) v = (0, w)) : s.commit (s.put se p o v) = .next (s.replied w se.toNat) := by
  simp only [State.mayWrite, Bool.and_eq_true, Bool.not_eq_true'] at h
  unfold State.put
  rw [State.write32_eq s _ _ v (reg_lt hp ho) h.1 h.2, State.wrote_eq, hw]
  rfl

/-- A session that may write a register is served. -/
theorem State.serves_of_mayWrite {s : State} {se : SessIx} {a : Nat} {v : Word} (h : s.mayWrite se a v = true) : s.serves se.toNat = true := by
  simp only [State.mayWrite, Bool.and_eq_true] at h
  exact h.1

@[simp] theorem State.withRegs_wr (s u : State) (k : Nat) (v : Word) : s.withRegs (u.wr k v) = s.withRegs u := rfl
@[simp] theorem State.withRegs_self (s : State) : s.withRegs s = s := rfl

/-- A state with what a register write may differ in taken from another: registers, the answer, the access logs, and no entry under way. -/
def State.withReply (s u : State) : State := { u with
  regs := s.regs, sregs := s.sregs, out := s.out, logs := s.logs, logOpen := s.logOpen, frame := none, pending := s.pending }

/-- Between entries nothing is to be taken. -/
theorem State.withReply_self {s : State} (h : s.frame = none) : s.withReply s = s := by cases s; cases h; rfl

/-- A write whose effect is on registers alone changes registers, the answer and the access logs. -/
theorem State.onlyRegs_replied {s w : State} {se : SessIx} {a : Nat} {v : Word} (h : s.mayWrite se a v = true)
    (hw : (s.hearing se.toNat a v).withRegs w = s.hearing se.toNat a v) : s.onlyRegs (s.replied w se.toNat) := by
  obtain ⟨-, -, hf, -⟩ := (s.serves_iff _).1 (State.serves_of_mayWrite h)
  calc s.withReply w = s.withReply ((s.hearing se.toNat a v).withRegs w) := rfl
    _ = s.withReply (s.hearing se.toNat a v) := by rw [hw]
    _ = s.withReply (s.withEntry (s.hearing se.toNat a v)) := rfl
    _ = s := by rw [State.hearing_frame, State.withReply_self hf]

/-- A write that raises events changes registers, the alert queue, the answer and the access logs. -/
theorem State.onlyRegs_replied_events {s w : State} {se : SessIx} {a : Nat} {v : Word} (h : s.mayWrite se a v = true)
    (hw : (s.hearing se.toNat a v).withEvents w = s.hearing se.toNat a v) :
    s.onlyRegs { s.replied w se.toNat with alerts := s.alerts, alertSeq := s.alertSeq } := by
  refine State.onlyRegs_replied (w := { w with alerts := s.alerts, alertSeq := s.alertSeq }) h ?_
  rw [← s.hearing_alerts se.toNat a v, ← s.hearing_alertSeq se.toNat a v]
  exact hw

/-- Registers and the records of contexts. -/
theorem State.onlyRegs_ctx {s t : State} (h : s.onlyRegs t) : s.onlyRegs { t with ctx := s.ctx } :=
  congrArg (fun x : State => ({ x with ctx := s.ctx } : State)) (show ({ t with
    regs := s.regs, sregs := s.sregs, out := s.out, logs := s.logs, logOpen := s.logOpen } : State) = s from h)

/-! ## Which effect a write has -/

/-- A write of a header register of a present page, unless the row is read-only or locked (R14, R16, R430). -/
theorem State.regWrite_header {s : State} {p i o : Nat} {k : PageKind} {r : RegRow} (se : Nat) (v : Word) (hp : pageOf p = some (k, i))
    (hpres : s.pagePresent k i = true) (ho : o < 0x40) (hrow : hdrRows.find? (·.covers o) = some r) (hro : r.acc ≠ .ro) (hrwl : r.acc ≠ .rwl)
    (hmet : metWritable o = true) : s.regWrite se (reg p o) v = (0, s.headerWrite p o v) := by
  have ho' : o < 4096 := by omega
  simp [State.regWrite, ho', hp, hpres, hmet, regRow, ho, hrow, hro, hrwl]

/-- A locked register takes no write (R16). -/
theorem State.regWrite_locked {s : State} {p i o : Nat} {k : PageKind} {r : RegRow} (se : Nat) (v : Word) (hp : pageOf p = some (k, i))
    (hpres : s.pagePresent k i = true) (ho : o < 4096) (hrow : regRow k o = some r) (hrwl : r.acc = .rwl) (hlock : s.locked p = true)
    (hmet : k ≠ .met) : s.regWrite se (reg p o) v = (0, s) := by
  simp [State.regWrite, ho, hp, hpres, hmet, hrow, hrwl, hlock]

section
variable {s : State} {o : Nat} {r : RegRow} (se : Nat) (v : Word)

/-- A write of the ERR page (R539). -/
theorem State.regWrite_err (ho : 0x40 ≤ o) (ho' : o < 4096) (hrow : regRow .err o = some r) (hro : r.acc ≠ .ro) (hrwl : r.acc ≠ .rwl)
    (hsel : isSel .err o = false) : s.regWrite se (reg pgERR o) v = (0, s.writeErr se o v) := by
  simp [State.regWrite, ho', show pageOf pgERR = some (.err, 0) from pageOf_span .err (i := 0) (by decide), State.pagePresent, hrow, hro, hrwl,
    Nat.not_lt.2 ho, hsel, isCntClear]

/-- A write of the LEDG page (R299, R300). -/
theorem State.regWrite_ledg (ho : 0x40 ≤ o) (ho' : o < 4096) (hrow : regRow .ledg o = some r) (hro : r.acc ≠ .ro) (hlock : s.locked pgLEDG = false)
    (hsel : isSel .ledg o = false) : s.regWrite se (reg pgLEDG o) v = (0, s.writeLedg o v) := by
  simp [State.regWrite, ho', show pageOf pgLEDG = some (.ledg, 0) from pageOf_span .ledg (i := 0) (by decide), State.pagePresent, hrow, hro, hlock,
    Nat.not_lt.2 ho, hsel, isCntClear]

/-- A write of a window of the CAL page: the entry is the one that CAL_SEL of the session selects (R324). -/
theorem State.regWrite_cal (ho : 0x44 ≤ o) (ho' : o ≤ 0x68) (hrow : regRow .cal o = some r) (hro : r.acc ≠ .ro) (hrwl : r.acc ≠ .rwl) :
    s.regWrite se (reg pgCAL o) v = (0, s.writeCal se (s.sel se pgCAL Off.CAL_SEL) o v) := by
  have h1 : o < 4096 := by omega
  have h2 : ¬ o < 0x40 := by omega
  have h3 : isSel .cal o = false := by simp only [isSel, Off.CAL_SEL, beq_eq_false_iff_ne]; omega
  have h4 : windowSel .cal o = some Off.CAL_SEL := by simp [windowSel, inOff, ho, ho']
  simp [State.regWrite, h1, show pageOf pgCAL = some (.cal, 0) from pageOf_span .cal (i := 0) (by decide), State.pagePresent, hrow, hro, hrwl,
    h2, h3, isCntClear, State.window, h4]

/-- A write of a context's page (R277). -/
theorem State.regWrite_ctx (c : Ctx) (ho : 0x40 ≤ o) (ho' : o < 4096) (hrow : regRow .ctx o = some r) (hro : r.acc ≠ .ro) (hrwl : r.acc ≠ .rwl) :
    s.regWrite se (reg (pgCTX c.toNat) o) v = s.writeCtx se c.toNat o v := by
  simp [State.regWrite, ho', pageOf_pgCTX, State.pagePresent, hrow, hro, hrwl, Nat.not_lt.2 ho, isSel, isCntClear]

/-- A write of the page of a cluster in use (R103, R154). -/
theorem State.regWrite_clu {n : Nat} (hn : n < 3000) (huse : s.cluUse n ≠ .off) (ho : 0x40 ≤ o) (ho' : o < 4096) (hrow : regRow .clu o = some r)
    (hro : r.acc ≠ .ro) (hrwl : r.acc = .rwl → s.locked (pgCLU n) = false) (hsel : isSel .clu o = false) :
    s.regWrite se (reg (pgCLU n) o) v = (0, s.writeClu n (s.window se .clu (pgCLU n) o) o v) := by
  by_cases h : r.acc = .rwl <;>
    simp [State.regWrite, ho', pageOf_pgCLU hn, State.pagePresent, huse, hrow, hro, h, hrwl, Nat.not_lt.2 ho, hsel, isCntClear]

end

end Sys2Proof.Machine
end

section
/-! PROOFS. Writes of the common header and of the ERR page (R16, R430, R431, R523, R528, R529). -/

namespace Sys2Proof.Machine

open Sys2Proof

/-! ## EVENT (R431) -/

/-- Clearing a bit that is clear changes nothing. -/
theorem setBit_false_of_clear {n : Nat} (x : BitVec n) (i : Nat) (h : bit x i = false) : setBit x i false = x := by
  have h' : x.getLsbD i = false := h
  refine BitVec.eq_of_getLsbD_eq fun j hj => ?_
  rcases eq_or_ne i j with rfl | hij
  · simp [setBit, h']
  · simp only [setBit, Bool.false_eq_true, if_false, BitVec.getLsbD_and, BitVec.getLsbD_not, BitVec.getLsbD_ofNat,
      Nat.testBit_two_pow_of_ne hij, Bool.and_false, Bool.not_false, hj, decide_true, Bool.and_true]

section
variable (s : State) (p : Nat) (v : Word)

/-- A write of EVENT clears the bits written 1, and with ERROR the error record (R431). -/
theorem State.headerWrite_event : s.headerWrite p Off.EVENT v = if bit v evError
    then (s.wr (reg p Off.EVENT) (s.rd (reg p Off.EVENT) &&& ~~~v)).clearErr p else s.wr (reg p Off.EVENT) (s.rd (reg p Off.EVENT) &&& ~~~v) := by
  unfold State.headerWrite
  exact if_pos rfl

theorem State.headerWrite_event_frame : s.withRegs (s.headerWrite p Off.EVENT v) = s := by
  rw [State.headerWrite_event]
  split <;> simp [State.clearErr, State.clearRegs, State.wrBit]

/-- EVENT after its write: ERROR is clear already when the record is cleared with it. -/
theorem State.rd_headerWrite_event : (s.headerWrite p Off.EVENT v).rd (reg p Off.EVENT) = s.rd (reg p Off.EVENT) &&& ~~~v := by
  rw [State.headerWrite_event]
  split
  · rename_i hv
    have hclear : bit (s.rd (reg p Off.EVENT) &&& ~~~v) evError = false := by
      simp only [bit, BitVec.getLsbD_and, BitVec.getLsbD_not] at hv ⊢
      simp [hv]
    simp [State.clearErr, State.clearRegs, State.wrBit, State.rd_wr, setBit_false_of_clear _ _ hclear]
  · exact State.rd_wr_self _ _ _

/-- The error record after a write of EVENT (R431). -/
theorem State.rd_headerWrite_record {o : Nat} (ho : o ∈ [Off.ERR_CODE, Off.ERR_INFO0, Off.ERR_INFO1]) :
    (s.headerWrite p Off.EVENT v).rd (reg p o) = if bit v evError then 0 else s.rd (reg p o) := by
  rw [State.headerWrite_event]
  have hoff : o = Off.ERR_CODE ∨ o = Off.ERR_INFO0 ∨ o = Off.ERR_INFO1 := by simpa using ho
  split
  · rcases hoff with rfl | rfl | rfl <;> simp [State.clearErr, State.clearRegs, State.wrBit, State.rd_wr]
  · rcases hoff with rfl | rfl | rfl <;> simp [State.rd_wr]

/-- Every other register after a write of EVENT. -/
theorem State.rd_headerWrite_event_other {r : Nat} (hr : r ∉ [reg p Off.EVENT, reg p Off.ERR_CODE, reg p Off.ERR_INFO0, reg p Off.ERR_INFO1]) :
    (s.headerWrite p Off.EVENT v).rd r = s.rd r := by
  simp only [List.mem_cons, List.not_mem_nil, or_false, not_or] at hr
  obtain ⟨h0, h1, h2, h3⟩ := hr
  rw [State.headerWrite_event]
  split <;> simp [State.clearErr, State.clearRegs, State.wrBit, State.rd_wr, h0, h1, h2, h3]

end

/-! ## EVENT_FORCE and LOCK (R16, R430, R528) -/

section
variable (s : State) (p : Nat) (v : Word)

theorem State.headerWrite_force : s.headerWrite p Off.EVENT_FORCE v = s.raiseBits p v := by
  simp [State.headerWrite]

theorem State.headerWrite_lock : s.headerWrite p Off.LOCK 1 = s.wr (reg p Off.LOCK) 1 := by
  simp [State.headerWrite, bit]

/-- An entry that finds a place is pushed (R529). -/
theorem State.pushAlert_room {sev : Nat} (h : s.alerts.length < alertLimit sev) :
    s.pushAlert p sev v = { s with alerts := s.alerts ++ [s.alertOf p sev v], alertSeq := s.alertSeq + 1 } := if_pos h

/-- While the alert queue has room for a NOTICE, enabled events that rise push one entry, and nothing is dropped (R528, R529). -/
theorem State.raiseBits_room (h : s.alerts.length < 240) : s.raiseBits p v =
    let rose := v &&& ~~~s.rd (reg p Off.EVENT) &&& s.rd (reg p Off.EVENT_EN)
    let t := s.wr (reg p Off.EVENT) (s.rd (reg p Off.EVENT) ||| v)
    if rose = 0 then t
    else { t with alerts := s.alerts ++ [t.alertOf p (if bit rose evError then 1 else 0) rose], alertSeq := s.alertSeq + 1 } := by
  have hlimit (b : Bool) : s.alerts.length < alertLimit (if b then 1 else 0) := by cases b <;> simp [alertLimit] <;> omega
  unfold State.raiseBits
  dsimp only
  split
  · rfl
  · exact State.pushAlert_room (s.wr (reg p Off.EVENT) (s.rd (reg p Off.EVENT) ||| v)) p _ (hlimit _)

/-- While the alert queue has room, events raised write EVENT of their page alone. -/
theorem State.rd_raiseBits_room (h : s.alerts.length < 240) (k : Nat) :
    (s.raiseBits p v).rd k = if k = reg p Off.EVENT then s.rd (reg p Off.EVENT) ||| v else s.rd k := by
  rw [State.raiseBits_room s p v h, ← State.rd_wr]
  dsimp only
  split <;> rfl

/-- Without an enabled event that rises the alert queue is as before (R528). -/
theorem State.raiseBits_alerts_quiet (h : s.alerts.length < 240) (hq : v &&& ~~~s.rd (reg p Off.EVENT) &&& s.rd (reg p Off.EVENT_EN) = 0) :
    (s.raiseBits p v).alerts = s.alerts := by
  rw [State.raiseBits_room s p v h]
  simp only [hq, if_true]
  rfl

/-- Enabled events that rise push one entry, which names them (R528, R529). -/
theorem State.raiseBits_alerts_rose (h : s.alerts.length < 240) (hr : v &&& ~~~s.rd (reg p Off.EVENT) &&& s.rd (reg p Off.EVENT_EN) ≠ 0) :
    ∃ e, (s.raiseBits p v).alerts = s.alerts ++ [e] ∧ e.seq = s.alertSeq ∧ e.page = p ∧
      e.event = v &&& ~~~s.rd (reg p Off.EVENT) &&& s.rd (reg p Off.EVENT_EN) := by
  rw [State.raiseBits_room s p v h]
  simp only [if_neg hr]
  exact ⟨_, rfl, rfl, rfl, rfl⟩

end

/-! ## The ERR page (R523, R529) -/

/-- No domain owns a register of the ERR page: an access of it leaves no entry in an access log (R483). -/
theorem State.hearing_err (s : State) (se : Nat) {o : Nat} (ho : o < 4096) (v : Word) :
    s.hearing se (reg pgERR o) v = s.applying se { op := 2, addr := reg pgERR o, value := v.toNat } := by
  simp [State.hearing, State.touched, ho, show pageOf pgERR = some (.err, 0) from pageOf_span .err (i := 0) (by decide), State.entryOwner,
    State.logReg]

/-- GO of ERR_REPAIR_REQ that names a unit of the module, while the list has room (R523). -/
theorem State.repairRequest_go (s : State) (v : Word) (hgo : bit v 0 = true) (hkind : fld v 1 2 ≠ 3) (hclu : fld v 6 9 < 375)
    (hcore : fld v 15 7 < 100) (hroom : s.repairs.length < 512) : s.repairRequest v =
      ({ s with repairs := s.repairs ++ [{ kind := fld v 1 2, clu := fld v 3 3 * 375 + fld v 6 9, core := fld v 15 7, row := fld v 22 4 }] } : State).raise
        pgERR 3 := by
  simp [State.repairRequest, hgo, hkind, Nat.not_le.2 hclu, Nat.not_le.2 hcore, Nat.not_le.2 hroom]

@[simp] theorem State.raise_repairs (s : State) (page i : Nat) : (s.raise page i).repairs = s.repairs := (congrArg State.repairs (s.raise_frame page i) :)

/-! ## The obligation -/

section
variable {s : State} {se : SessIx} {page : BitVec 16} {k : PageKind} {i : Nat} {v : Word}

/-- A header row of a present page that a session may write answers what the header leaves. -/
theorem State.commit_put_header {o : Nat} {r : RegRow} (h : s.mayWrite se (reg page.toNat o) v = true) (hp : pageOf page.toNat = some (k, i))
    (hpres : s.pagePresent k i = true) (ho : o < 0x40) (hrow : hdrRows.find? (·.covers o) = some r) (hro : r.acc ≠ .ro) (hrwl : r.acc ≠ .rwl)
    (hmet : metWritable o = true) :
    s.commit (s.put se page.toNat o v) = .next (s.replied ((s.hearing se.toNat (reg page.toNat o) v).headerWrite page.toNat o v) se.toNat) :=
  State.commit_put h page.isLt (by omega) (State.regWrite_header _ v hp (by simpa using hpres) ho hrow hro hrwl hmet)

end

/-- Settles O30: each row is a header write or a write of the ERR page, and the reads after it give its effect. -/
theorem headerWrites : Obligations.HeaderWrites := by
  unfold Obligations.HeaderWrites
  intro s se page k i v p frame rose hp hpres
  refine ⟨fun h => ⟨_, State.commit_put_header h hp hpres (by decide) rfl (by decide) (by decide) rfl, ?_⟩,
    fun h hroom => ⟨_, State.commit_put_header h hp hpres (by decide) rfl (by decide) (by decide) rfl, ?_⟩,
    fun h hmet => ⟨_, State.commit_put_header h hp hpres (by decide) rfl (by decide) (by decide) rfl, ?_⟩,
    fun h => ?_, fun h hgo hkind hclu hcore hroom => ?_⟩
  · refine ⟨by simp [State.rd_headerWrite_event, p], ⟨State.onlyRegs_replied h (State.headerWrite_event_frame _ _ _), fun r hr => ?_⟩, fun o ho => ?_⟩
    · exact (State.rd_headerWrite_event_other _ _ _ hr).trans (State.rd_hearing _ _ _ _ r)
    · simp [State.rd_headerWrite_record _ _ _ ho, evError, p]
  · rw [State.headerWrite_force]
    have hroom' : (s.hearing se.toNat (reg page.toNat Off.EVENT_FORCE) v).alerts.length < 240 := by simpa using hroom
    refine ⟨by simp [State.rd_raiseBits_room _ _ _ hroom', p], ⟨State.onlyRegs_replied_events h (State.raiseBits_frame _ _ _), fun r hr => ?_⟩,
      fun hq => ?_, fun hr => ?_⟩
    · have hr' : r ≠ reg page.toNat Off.EVENT := by simpa using hr
      exact (State.rd_raiseBits_room _ _ _ hroom' r).trans (by simp [hr'])
    · exact (State.raiseBits_alerts_quiet _ page.toNat v hroom' (by simpa using hq)).trans (State.hearing_alerts _ _ _ _)
    · simpa using State.raiseBits_alerts_rose _ page.toNat v hroom' (by simpa using hr)
  · rw [State.headerWrite_lock]
    refine ⟨by simp [p], ⟨State.onlyRegs_replied h (State.withRegs_wr _ _ _ _), fun r hr => ?_⟩, fun o row y w ho hrow hrwl => ?_⟩
    · have hr' : r ≠ reg page.toNat Off.LOCK := by simpa using hr
      simp [State.rd_wr_other _ _ hr']
    · have hpres' : (s.hearing se.toNat (reg page.toNat Off.LOCK) 1).pagePresent k i = true := by simpa using hpres
      exact State.regWrite_locked y w hp hpres' ho hrow hrwl (by simp [State.locked, bit, p]) hmet
  · refine ⟨_, State.commit_put h (by decide) (by decide) (State.regWrite_err _ v (by decide) (by decide) rfl (by decide) (by decide) rfl), ?_, ?_⟩
    · simp [State.writeErr, State.ackAlerts]
    · obtain ⟨-, -, hf, -⟩ := (s.serves_iff _).1 (State.serves_of_mayWrite h)
      rw [State.hearing_err _ _ (by decide)]
      cases s; cases hf; rfl
  · refine ⟨_, State.commit_put h (by decide) (by decide) (State.regWrite_err _ v (by decide) (by decide) rfl (by decide) (by decide) rfl), ?_⟩
    have hw (u : State) : u.writeErr se.toNat Off.ERR_REPAIR_REQ v = u.repairRequest v := by simp [State.writeErr]
    rw [hw, State.repairRequest_go _ v hgo hkind hclu hcore (by simpa using hroom)]
    exact ⟨State.event_raise _ pgERR 3 (by decide) (by decide), by simp⟩

end Sys2Proof.Machine
end

section
/-! PROOFS. Bindings of contexts, assignments of clusters and rows mapped out (R17, R103, R254, R256). -/

namespace Sys2Proof.Machine

open Sys2Proof

/-! ## Fields of masked words -/

/-- A mask that keeps the low bits keeps the field that they hold. -/
theorem fld_and_mask {n : Nat} (v m : BitVec n) (len : Nat) (h : m.toNat % 2 ^ len = 2 ^ len - 1) : fld (v &&& m) 0 len = fld v 0 len := by
  simp only [fld, pow_zero, Nat.div_one, BitVec.toNat_and, Nat.and_mod_two_pow, h, Nat.and_two_pow_sub_one_eq_mod, Nat.mod_mod]

/-- A mask keeps the bits that it holds. -/
theorem bit_and_mask {n : Nat} (v m : BitVec n) (i : Nat) (h : bit m i = true) : bit (v &&& m) i = bit v i := by
  have h' : m.getLsbD i = true := h
  simp [bit, BitVec.getLsbD_and, h']

/-! ## Writes that store one word, and writes that are refused (R14, R431) -/

/-- A write that stores one word changes no other register. -/
theorem State.commit_put_stores {s : State} {se : SessIx} {p o key : Nat} {v w : Word} (h : s.mayWrite se (reg p o) v = true) (hp : p < 2 ^ 16)
    (ho : o < 4096) (hw : (s.hearing se.toNat (reg p o) v).regWrite se.toNat (reg p o) v = (0, (s.hearing se.toNat (reg p o) v).wr key w)) :
    ∃ t, s.commit (s.put se p o v) = .next t ∧ t.rd key = w ∧ s.onlyRegs t ∧ ∀ r, r ≠ key → t.rd r = s.rd r :=
  ⟨_, State.commit_put h hp ho hw, by simp, State.onlyRegs_replied h (by simp), fun r hr => by simp [State.rd_wr_other _ _ hr]⟩

/-- A write that is refused sets INVALID_WRITE of its page, and changes no other register. -/
theorem State.commit_put_refused {s : State} {se : SessIx} {p o : Nat} {v : Word} (h : s.mayWrite se (reg p o) v = true) (hp : p < 2 ^ 16) (ho : o < 4096)
    (hw : (s.hearing se.toNat (reg p o) v).regWrite se.toNat (reg p o) v = (0, (s.hearing se.toNat (reg p o) v).invalidWrite p))
    (hroom : s.alerts.length < 240) :
    ∃ t, s.commit (s.put se p o v) = .next t ∧ bit (t.rd (reg p Off.EVENT)) evInvalid = true ∧
      (s.onlyRegs { t with alerts := s.alerts, alertSeq := s.alertSeq, ctx := s.ctx } ∧ ∀ r, r ≠ reg p Off.EVENT → t.rd r = s.rd r) ∧ t.ctx = s.ctx := by
  have hroom' : (s.hearing se.toNat (reg p o) v).alerts.length < 240 := by simpa using hroom
  refine ⟨_, State.commit_put h hp ho hw, ?_, ⟨?_, fun r hr => ?_⟩, ?_⟩
  · exact State.event_raise _ p evInvalid (by decide) (reg_ne (by decide) (by decide) (Or.inr (by decide)))
  · exact State.onlyRegs_ctx (State.onlyRegs_replied_events h (State.invalidWrite_frame _ _))
  · exact (State.rd_raiseBits_room _ p _ hroom' r).trans (by simp [hr])
  · exact (State.raise_ctx _ p evInvalid).trans (State.hearing_ctx _ _ _ _)

/-! ## What the three writes do -/

@[simp] theorem State.rd_setCtx (s : State) (c : Nat) (r : CtxRec) (k : Nat) : (s.setCtx c r).rd k = s.rd k := rfl

/-- A change of a context's record is a change of the records of contexts. -/
theorem State.replied_setCtx (s w : State) (se c : Nat) (r : CtxRec) :
    ({ s.replied (w.setCtx c r) se with ctx := s.ctx } : State) = { s.replied w se with ctx := s.ctx } := rfl

/-- Domains that a write of CLU_PART concerns: the one that holds the cluster, and the one that gets it (R256). -/
def partDomains (old v : Word) : List Nat := (if bit old 10 then [fld old 0 10] else []) ++ (if bit v 10 then [fld v 0 10] else [])

section
variable (s : State) (v : Word)

theorem State.writeCtx_bind (se c : Nat) (h : isOp se = true) : s.writeCtx se c Off.CTX_BIND v = (0, s.bindCtx c v) := by
  simp [State.writeCtx, h]

/-- A context with no stream is bound or unbound (R254). -/
theorem State.bindCtx_free (c : Nat) (h : (s.getCtx c).run = .unbound ∨ (s.getCtx c).run = .idle) : s.bindCtx c v =
    (s.wr (reg (pgCTX c) Off.CTX_BIND) (v &&& 0x800003FF#32)).setCtx c { s.getCtx c with run := if bit v 31 then .idle else .unbound } := if_pos h

/-- A context with a stream stays bound as it is (R254). -/
theorem State.bindCtx_held (c : Nat) (h1 : (s.getCtx c).run ≠ .unbound) (h2 : (s.getCtx c).run ≠ .idle) : s.bindCtx c v = s.invalidWrite (pgCTX c) :=
  if_neg (by simp [h1, h2])

theorem State.writeClu_part (cl x : Nat) : s.writeClu cl x Off.CLU_PART v = s.setPart cl v := by
  simp [State.writeClu]

theorem State.writeClu_rowMap (cl x : Nat) (h : s.coreEnabled cl x = true) : s.writeClu cl x Off.CORE_ROW_MAP v = s.setRowMap cl x v := by
  simp [State.writeClu, inOff, Off.CORE_ROW_MAP, h]

/-- A cluster is assigned where no context of a domain concerned holds its partition and, to a domain, only if it is enabled (R256). -/
theorem State.setPart_free (cl : Nat) (hheld : (partDomains (s.rd (reg (pgCLU cl) Off.CLU_PART)) v).any s.holdsPartition = false)
    (hen : bit v 10 = true → s.cluEnabled cl = true) : s.setPart cl v = s.wr (reg (pgCLU cl) Off.CLU_PART) (v &&& 0x7FF#32) := by
  have hen' : (bit v 10 && !s.cluEnabled cl) = false := by
    cases hb : bit v 10
    · rfl
    · simp [hen hb]
  rw [partDomains] at hheld
  simp only [State.setPart, hheld, hen', Bool.or_self, Bool.false_eq_true, if_false]

/-- A cluster whose partition is held stays assigned as it is (R256). -/
theorem State.setPart_held (cl : Nat) (hheld : (partDomains (s.rd (reg (pgCLU cl) Off.CLU_PART)) v).any s.holdsPartition = true) :
    s.setPart cl v = s.invalidWrite (pgCLU cl) := by
  rw [partDomains] at hheld
  simp only [State.setPart, hheld, Bool.true_or, if_true]

/-- A row of an idle core is mapped out while the page is not locked (R103). -/
theorem State.setRowMap_idle (cl core : Nat) (hlock : s.locked (pgCLU cl) = false) (hidle : s.coreIdle cl core = true) :
    s.setRowMap cl core v = s.wr (wreg core (pgCLU cl) Off.CORE_ROW_MAP) (v &&& 0x1F#32) := by
  rw [State.locked] at hlock
  simp only [State.setRowMap, hlock, hidle, Bool.not_true, Bool.false_eq_true, if_false]

/-- The row map of a core at work stays as it is (R103). -/
theorem State.setRowMap_busy (cl core : Nat) (hlock : s.locked (pgCLU cl) = false) (hidle : s.coreIdle cl core = false) :
    s.setRowMap cl core v = s.invalidWrite (pgCLU cl) := by
  rw [State.locked] at hlock
  simp only [State.setRowMap, hlock, hidle, Bool.not_false, Bool.false_eq_true, if_false, if_true]

/-- The row map of the core that CLU_CORE_SEL of the session selects (R103). -/
theorem State.window_rowMap (se page : Nat) : s.window se .clu page Off.CORE_ROW_MAP = s.sel se page Off.CLU_CORE_SEL := by
  simp [State.window, windowSel, inOff, Off.CORE_ROW_MAP]

section
variable (se a : Nat) (w : Word)

@[simp] theorem State.holdsPartition_hearing : (s.hearing se a w).holdsPartition = s.holdsPartition :=
  (congrArg State.holdsPartition (s.hearing_frame se a w) :)
@[simp] theorem State.coreIdle_hearing (cl core : Nat) : (s.hearing se a w).coreIdle cl core = s.coreIdle cl core :=
  (congrArg (State.coreIdle · cl core) (s.hearing_frame se a w) :)
@[simp] theorem State.coreEnabled_hearing (cl core : Nat) : (s.hearing se a w).coreEnabled cl core = s.coreEnabled cl core :=
  (congrArg (State.coreEnabled · cl core) (s.hearing_frame se a w) :)

end

end

/-! ## The obligation -/

section
variable {s : State} {se : SessIx} {v : Word}

/-- A write of CTX_BIND is carried out by bindCtx (R254). -/
theorem State.regWrite_bind (hop : isOp se.toNat = true) (c : Ctx) (u : State) :
    u.regWrite se.toNat (reg (pgCTX c.toNat) Off.CTX_BIND) v = (0, u.bindCtx c.toNat v) :=
  (State.regWrite_ctx _ v c (by decide) (by decide) rfl (by decide) (by decide)).trans (u.writeCtx_bind v _ _ hop)

/-- CTX_BIND of a context with no stream binds or unbinds it (R254). -/
theorem State.ctxBind_effect {c : Ctx} (hop : isOp se.toNat = true) (h : s.mayWrite se (reg (pgCTX c.toNat) Off.CTX_BIND) v = true)
    (hrun : (s.getCtx c.toNat).run = .unbound ∨ (s.getCtx c.toNat).run = .idle) :
    ∃ t, s.commit (s.putCtx se c Off.CTX_BIND v) = .next t ∧
      t.ctxDom c.toNat = (if bit v 31 then some (fld v 0 10) else none) ∧ (t.getCtx c.toNat).run = (if bit v 31 then .idle else .unbound) ∧
      (s.onlyRegs { t with ctx := s.ctx } ∧ ∀ r, r ≠ reg (pgCTX c.toNat) Off.CTX_BIND → t.rd r = s.rd r) ∧
      ∀ d, d ≠ c.toNat → t.getCtx d = s.getCtx d := by
  refine ⟨_, State.commit_put h (pgCTX_lt c) (by decide) (State.regWrite_bind hop c _), ?_⟩
  rw [State.bindCtx_free _ v _ (by simpa using hrun)]
  have hbit : bit (v &&& 0x800003FF#32) 31 = bit v 31 := bit_and_mask _ _ _ rfl
  have hfld : fld (v &&& 0x800003FF#32) 0 10 = fld v 0 10 := fld_and_mask _ _ _ rfl
  refine ⟨by simp [State.ctxDom, hbit, hfld], by simp, ⟨?_, fun r hr => by simp [State.rd_wr_other _ _ hr]⟩, fun d hd => ?_⟩
  · rw [State.replied_setCtx]
    exact State.onlyRegs_ctx (State.onlyRegs_replied h (State.withRegs_wr _ _ _ _))
  · exact (State.getCtx_setCtx_other _ _ hd).trans (by simp [State.getCtx])

variable {cl : Cluster}

/-- A write of CLU_PART of a cluster in use is carried out by setPart (R256). -/
theorem State.regWrite_part (hn : cl.toNat < 3000) {u : State} (huse : u.cluUse cl.toNat ≠ .off) :
    u.regWrite se.toNat (reg (pgCLU cl.toNat) Off.CLU_PART) v = (0, u.setPart cl.toNat v) := by
  rw [State.regWrite_clu _ v hn huse (by decide) (by decide) rfl (by decide) (fun h => by cases h) rfl, State.writeClu_part]

/-- A write of CORE_ROW_MAP of an enabled core is carried out by setRowMap (R103). -/
theorem State.regWrite_rowMap (hn : cl.toNat < 3000) {u : State} (huse : u.cluUse cl.toNat ≠ .off)
    (hcore : u.coreEnabled cl.toNat (u.sel se.toNat (pgCLU cl.toNat) Off.CLU_CORE_SEL) = true) (hlock : u.locked (pgCLU cl.toNat) = false) :
    u.regWrite se.toNat (reg (pgCLU cl.toNat) Off.CORE_ROW_MAP) v =
      (0, u.setRowMap cl.toNat (u.sel se.toNat (pgCLU cl.toNat) Off.CLU_CORE_SEL) v) := by
  rw [State.regWrite_clu _ v hn huse (by decide) (by decide) rfl (by decide) (fun _ => hlock) rfl, State.window_rowMap, State.writeClu_rowMap _ _ _ _ hcore]

end

/-- Settles O34: a write that takes effect stores its word, one that is refused raises INVALID_WRITE alone, and an absent page takes none. -/
theorem bindingsAndPartitions : Obligations.BindingsAndPartitions := by
  unfold Obligations.BindingsAndPartitions
  intro s se c cl v x p old core named frame refused
  have hn (hex : cluExists cl = true) : cl.toNat < 3000 := by simpa [cluExists] using hex
  refine ⟨fun hop h => ⟨State.ctxBind_effect hop h, fun h1 h2 => State.commit_put_refused h (pgCTX_lt c) (by decide) ?_⟩,
    fun hex huse h => ?_, fun hex huse h hcore hlock => ?_, fun hex => ⟨s.onPage_false hex _, s.onPage_false hex _⟩⟩
  · rw [State.regWrite_bind hop c, State.bindCtx_held _ v _ (by simpa using h1) (by simpa using h2)]
  · have hw := State.regWrite_part (se := se) (v := v) (hn hex) (u := s.hearing se.toNat (reg p Off.CLU_PART) v) (by simpa using huse)
    have hgo : exec (.cluPartWrite se cl v) s = s.commit (s.put se p Off.CLU_PART v) := s.onPage_true hex _
    have hnamed : (partDomains ((s.hearing se.toNat (reg p Off.CLU_PART) v).rd (reg p Off.CLU_PART)) v).any
        (s.hearing se.toNat (reg p Off.CLU_PART) v).holdsPartition = named.any s.holdsPartition := by
      simp only [State.rd_hearing, State.holdsPartition_hearing]
      rfl
    refine ⟨fun hheld hen => ?_, fun hheld hroom => ?_⟩ <;> rw [hgo]
    · rw [State.setPart_free _ _ _ (hnamed.trans hheld) (by simpa using hen)] at hw
      obtain ⟨t, ht, hk, hregs, hr⟩ := State.commit_put_stores h (pgCLU_lt cl) (by decide) hw
      exact ⟨t, ht, hk, ⟨State.onlyRegs_ctx hregs, hr⟩⟩
    · rw [State.setPart_held _ _ _ (hnamed.trans hheld)] at hw
      exact State.commit_put_refused h (pgCLU_lt cl) (by decide) hw hroom
  · have hlock' : (s.hearing se.toNat (reg p Off.CORE_ROW_MAP) v).locked p = false := (State.locked_hearing _ _ _ _ _).trans hlock
    have hw := State.regWrite_rowMap (se := se) (v := v) (hn hex) (u := s.hearing se.toNat (reg p Off.CORE_ROW_MAP) v) (by simpa using huse)
      (by simpa using hcore) hlock'
    have hgo : exec (.coreRowMapWrite se cl v) s = s.commit (s.put se p Off.CORE_ROW_MAP v) := s.onPage_true hex _
    refine ⟨fun hidle => ?_, fun hidle hroom => ?_⟩ <;> rw [hgo]
    · rw [State.sel_hearing, State.setRowMap_idle _ _ _ _ hlock' (by simpa using hidle)] at hw
      obtain ⟨t, ht, hk, hregs, hr⟩ := State.commit_put_stores h (pgCLU_lt cl) (by decide) hw
      exact ⟨t, ht, hk, ⟨State.onlyRegs_ctx hregs, hr⟩⟩
    · rw [State.sel_hearing, State.setRowMap_busy _ _ _ _ hlock' (by simpa using hidle)] at hw
      exact State.commit_put_refused h (pgCLU_lt cl) (by decide) hw hroom

end Sys2Proof.Machine
end

section
/-! PROOFS. Ramp profiles and ceilings of the ledger's accounts (R17, R281, R292, R297). -/

namespace Sys2Proof.Machine

open Sys2Proof

/-! ## Events and the registers beyond a page's header (R430, R431) -/

/-- EVENT of no page is the counter of dropped entries. -/
theorem event_ne_dropped (p : Nat) : reg p Off.EVENT ≠ reg pgERR Off.ERR_Q_DROPPED := reg_ne (by decide) (by decide) (Or.inr (by decide))

/-- A register beyond its page's header is none of a header. -/
theorem ne_header {k : Nat} (p : Nat) {o : Nat} (hk : 0x40 ≤ k % 4096) (ho : o < 0x40) : k ≠ reg p o := by
  rintro rfl
  rw [reg_mod p (by omega)] at hk
  omega

section
variable (s : State) (page : Nat) {k : Nat}

/-- Events leave the registers beyond the header alone, but for the counter of dropped entries. -/
theorem State.rd_raiseBits_body (bits : Word) (hk : 0x40 ≤ k % 4096) (hd : k ≠ reg pgERR Off.ERR_Q_DROPPED) : (s.raiseBits page bits).rd k = s.rd k :=
  s.rd_raiseBits page bits k (ne_header _ hk (by decide)) hd (ne_header _ hk (by decide))

/-- A refused write leaves the registers beyond the header alone, but for the counter of dropped entries. -/
theorem State.rd_invalidWrite_body (hk : 0x40 ≤ k % 4096) (hd : k ≠ reg pgERR Off.ERR_Q_DROPPED) : (s.invalidWrite page).rd k = s.rd k :=
  s.rd_raiseBits_body page _ hk hd

/-- A refused write sets INVALID_WRITE (R431). -/
theorem State.event_invalidWrite : bit ((s.invalidWrite page).rd (reg page Off.EVENT)) 31 = true :=
  s.event_raise page evInvalid (by decide) (event_ne_dropped page)

variable (code : Code) (i0 i1 : Nat) (bits : Word)

/-- A page error leaves the registers beyond the header alone, but for the counter of dropped entries. -/
theorem State.rd_pageErr_body (hk : 0x40 ≤ k % 4096) (hd : k ≠ reg pgERR Off.ERR_Q_DROPPED) : (s.pageErr page code i0 i1 bits).rd k = s.rd k := by
  unfold State.pageErr
  dsimp only
  rw [State.rd_raiseBits_body _ _ _ hk hd]
  split
  · rfl
  · rw [State.rd_wr_other _ _ (ne_header _ hk (by decide)), State.rd_wr_other _ _ (ne_header _ hk (by decide)),
      State.rd_wr_other _ _ (ne_header _ hk (by decide))]

/-- A page error raises its events and ERROR, and keeps those that stand (R431). -/
theorem State.event_pageErr (i : Nat) (h : bit (bits ||| BitVec.ofNat 32 (2 ^ evError)) i = true ∨ bit (s.rd (reg page Off.EVENT)) i = true) :
    bit ((s.pageErr page code i0 i1 bits).rd (reg page Off.EVENT)) i = true := by
  unfold State.pageErr
  dsimp only
  refine State.event_raiseBits _ page _ i (h.imp_right fun h => ?_) (event_ne_dropped page)
  split
  · exact h
  · simpa [State.rd_wr] using h

@[simp] theorem State.pageErr_lresv : (s.pageErr page code i0 i1 bits).lresv = s.lresv :=
  (congrArg State.lresv (s.pageErr_frame page code i0 i1 bits) :)

end

/-! ## Profiles (R292) -/

/-- When a lead or a hold that is not the last has expired, the guide's segment moves on. -/
theorem State.segmentStart_next (s : State) {a g : Nat} (h : s.profNext a = some (g, false)) :
    s.segmentStart a = s.setRail a { s.rail a with seg := some g, timer := 0 } := by
  unfold State.segmentStart
  rw [h]
  rfl

/-- When the last hold has expired, the profile ends. -/
theorem State.profileEnd_last (s : State) {a g : Nat} (h : s.profNext a = some (g, true)) :
    s.profileEnd a = s.setRail a { s.rail a with prof := none, seg := none, guide := 0, timer := 0 } := by
  unfold State.profileEnd
  rw [h]
  rfl

/-- With no lead or hold expired, no segment starts. -/
theorem State.segmentStart_none (s : State) {a : Nat} (h : s.profNext a = none) : s.segmentStart a = s := by
  unfold State.segmentStart
  rw [h]

/-- With no lead or hold expired, no profile ends. -/
theorem State.profileEnd_none (s : State) {a : Nat} (h : s.profNext a = none) : s.profileEnd a = s := by
  unfold State.profileEnd
  rw [h]

/-! ## Ceilings (R281, R297) -/

/-- A plain write of a register with one checked field: a reserved encoding keeps the field and is refused (R17). -/
theorem State.plainWrite_one {s : State} {k : PageKind} {page o x key lo len : Nat} {ok : Nat → Bool} (v : Word)
    (hrules : s.fieldRules k o x (s.rd key) (v &&& maskAt k o) = [(lo, len, ok)]) : s.plainWrite k page o x key v =
      if ok (fld (v &&& maskAt k o) lo len) then s.wr key (v &&& maskAt k o)
      else (s.wr key (setFld (v &&& maskAt k o) lo len (fld (s.rd key) lo len))).invalidWrite page := by
  simp only [State.plainWrite, hrules, applyRules]
  split <;> simp

/-- The offset of the ceiling of an account (R300). -/
def ceilOff (b : Nat) : Nat := Off.LEDG_RAIL_CEIL + 0x40 * b

/-- The ceilings of the 13 accounts are read-write registers of 20 bits under LOCK (R300). -/
theorem ceilRow : ∀ b < 13, (regRow .ledg (ceilOff b)).map (fun r => (r.acc, r.mask)) = some (.rwl, 0xFFFFF) := by decide

/-- The range of an account's ceiling (R281). -/
def ceilOk (b : Nat) (v : Word) : Bool := inOff (if b < 8 then 120000 else 0) (fld v 0 20) (ceilMax b)

section
variable {b : Nat} (hb : b < 13)
include hb

theorem maskAt_ceil : maskAt .ledg (ceilOff b) = 0xFFFFF#32 := by
  obtain ⟨r, hr, hacc⟩ := Option.map_eq_some_iff.1 (ceilRow b hb)
  have hmask : r.mask = 0xFFFFF := congrArg Prod.snd hacc
  simp [maskAt, hr, hmask, zeroBits, w32]

/-- The range of a ceiling is the one rule of its register (R281). -/
theorem State.fieldRules_ceil (s : State) (x : Nat) (old v : Word) :
    s.fieldRules .ledg (ceilOff b) x old v = [(0, 20, fun n => inOff (if b < 8 then 120000 else 0) n (ceilMax b))] := by
  show ledgRules (ceilOff b) = _
  interval_cases b <;> rfl

/-- A ceiling in its range is stored; one outside it keeps the ceiling that stands, and is refused (R17, R281). -/
theorem State.plainWrite_ceil (s : State) (v : Word) : s.plainWrite .ledg pgLEDG (ceilOff b) 0 (reg pgLEDG (ceilOff b)) v =
    if ceilOk b v then s.wr (reg pgLEDG (ceilOff b)) (v &&& 0xFFFFF#32)
    else (s.wr (reg pgLEDG (ceilOff b)) (setFld (v &&& 0xFFFFF#32) 0 20 (fld (s.rd (reg pgLEDG (ceilOff b))) 0 20))).invalidWrite pgLEDG := by
  have hfld : fld (v &&& 0xFFFFF#32) 0 20 = fld v 0 20 := fld_and_mask _ _ _ rfl
  rw [State.plainWrite_one v (s.fieldRules_ceil hb 0 _ _), maskAt_ceil hb, hfld]
  rfl

/-- A ceiling of a compute account below its account raises CEILING_BELOW_ACCOUNT (R297). -/
theorem State.writeLedg_ceil {s t : State} {v : Word} (ht : s.plainWrite .ledg pgLEDG (ceilOff b) 0 (reg pgLEDG (ceilOff b)) v = t) :
    s.writeLedg (ceilOff b) v = if b < 8 ∧ t.ceil b < t.account b then t.pageErr pgLEDG Err.CEILING_BELOW_ACCOUNT b 0 0x40#32 else t := by
  have hclear : ceilOff b ≠ Off.LEDG_CNT_CLEAR := by unfold ceilOff Off.LEDG_RAIL_CEIL Off.LEDG_CNT_CLEAR; omega
  have honly : ledgComputeOnly (ceilOff b) = false := by interval_cases b <;> rfl
  have hprof : inOff 0x800 (ceilOff b) 0xBFF = false := by interval_cases b <;> rfl
  have hrail : (inOff 0x100 (ceilOff b) 0x2FF && ceilOff b % 0x40 == 0) = decide (b < 8) := by interval_cases b <;> rfl
  have hacct : (ceilOff b - 0x100) / 0x40 = b := by unfold ceilOff Off.LEDG_RAIL_CEIL; omega
  simp only [State.writeLedg, ht, hclear, honly, hprof, hrail, hacct, if_false, Bool.false_and, Bool.false_eq_true, Bool.and_eq_true, decide_eq_true_eq]

end

/-- A stored ceiling is the field written. -/
theorem toNat_ceil (v : Word) : (v &&& 0xFFFFF#32).toNat = fld v 0 20 := by
  have h : (0xFFFFF#32).toNat = 2 ^ 20 - 1 := rfl
  rw [BitVec.toNat_and, h, Nat.and_two_pow_sub_one_eq_mod]
  simp [fld]

/-- A refused ceiling is the field that stands. -/
theorem toNat_ceil_kept (v old : Word) : (setFld (v &&& 0xFFFFF#32) 0 20 (fld old 0 20)).toNat = fld old 0 20 := by
  have h1 : (v &&& 0xFFFFF#32).toNat < 2 ^ 20 := by rw [toNat_ceil]; exact Nat.mod_lt _ (by decide)
  have h2 : fld old 0 20 < 2 ^ 20 := Nat.mod_lt _ (by decide)
  simp only [setFld, BitVec.toNat_ofNat]
  omega

/-- The ceiling of an account is its register (R300). -/
theorem State.ceil_eq (s : State) (b : Nat) : s.ceil b = (s.rd (reg pgLEDG (ceilOff b))).toNat := rfl

@[simp] theorem State.ceil_replied (s w : State) (se a : Nat) : (s.replied w se).ceil a = w.ceil a := rfl

/-- An account depends on its register, its scale and the reservations (R282, R284). -/
theorem State.account_congr {s t : State} (a : Nat) (hacc : t.rd (railReg a Off.LEDG_RAIL_ACCOUNT) = s.rd (railReg a Off.LEDG_RAIL_ACCOUNT))
    (hscale : t.rd (railReg a Off.LEDG_RAIL_SCALE) = s.rd (railReg a Off.LEDG_RAIL_SCALE)) (hres : t.lresv = s.lresv) : t.account a = s.account a := by
  have hscaled : t.scaled a = s.scaled a := by funext c; simp [State.scaled, hscale]
  simp only [State.account, hacc, State.work, State.workOf, hscaled, hres]

/-- A ceiling does not move its account at once (R297). -/
theorem State.account_wr_ceil (s : State) (b : Nat) (w : Word) : (s.wr (reg pgLEDG (ceilOff b)) w).account b = s.account b := by
  refine State.account_congr b (State.rd_wr_other s w ?_) (State.rd_wr_other s w ?_) rfl <;> simp [railReg, ceilOff]

/-- A register of an account lies beyond the header of the LEDG page. -/
theorem railReg_body {a : Nat} (ha : a < 13) {o : Nat} (ho : 0x100 ≤ o) (ho' : o < 0x140) :
    0x40 ≤ railReg a o % 4096 ∧ railReg a o ≠ reg pgERR Off.ERR_Q_DROPPED := by
  unfold railReg
  rw [reg_mod pgLEDG (show o + 0x40 * a < 4096 by omega)]
  exact ⟨by omega, reg_ne (by omega) (by decide) (Or.inl (by decide))⟩

section
variable (s : State) (page : Nat) (code : Code) (i0 i1 : Nat) (bits : Word) {a : Nat} (ha : a < 13)
include ha

/-- An error of a page moves no account and no ceiling. -/
theorem State.rd_railReg_pageErr {o : Nat} (ho : 0x100 ≤ o) (ho' : o < 0x140) : (s.pageErr page code i0 i1 bits).rd (railReg a o) = s.rd (railReg a o) :=
  s.rd_pageErr_body page code i0 i1 bits (railReg_body ha ho ho').1 (railReg_body ha ho ho').2

theorem State.account_pageErr : (s.pageErr page code i0 i1 bits).account a = s.account a :=
  State.account_congr a (s.rd_railReg_pageErr page code i0 i1 bits ha (by decide) (by decide))
    (s.rd_railReg_pageErr page code i0 i1 bits ha (by decide) (by decide)) (by simp)

theorem State.ceil_pageErr : (s.pageErr page code i0 i1 bits).ceil a = s.ceil a :=
  congrArg BitVec.toNat (s.rd_railReg_pageErr page code i0 i1 bits ha (by decide) (by decide))

end

section
variable {s : State} {se : SessIx} {b : Nat} {v : Word} (hb : b < 13) (h : s.mayWrite se (reg pgLEDG (ceilOff b)) v = true)
  (hlock : s.locked pgLEDG = false)
include hb h hlock

/-- A ceiling that a session may write on an unlocked page is written by writeLedg. -/
theorem State.commit_put_ceil : s.commit (s.put se pgLEDG (ceilOff b) v) =
    .next (s.replied ((s.hearing se.toNat (reg pgLEDG (ceilOff b)) v).writeLedg (ceilOff b) v) se.toNat) := by
  obtain ⟨r, hr, hacc⟩ := Option.map_eq_some_iff.1 (ceilRow b hb)
  have hro : r.acc ≠ .ro := by rw [show r.acc = .rwl from congrArg Prod.fst hacc]; decide
  have hoff : 0x40 ≤ ceilOff b ∧ ceilOff b < 4096 := by unfold ceilOff Off.LEDG_RAIL_CEIL; omega
  have hsel : isSel .ledg (ceilOff b) = false := by interval_cases b <;> rfl
  exact State.commit_put h (by decide) hoff.2 (State.regWrite_ledg _ v hoff.1 hoff.2 hr hro (by simpa using hlock) hsel)

/-- A ceiling in its range is taken; below its account it raises CEILING_BELOW_ACCOUNT, and the account moves only at its slew (R297). -/
theorem State.ceil_taken (hok : ceilOk b v = true) : ∃ t, s.commit (s.put se pgLEDG (ceilOff b) v) = .next t ∧ t.ceil b = fld v 0 20 ∧
    t.account b = s.account b ∧
    (b < 8 → fld v 0 20 < s.account b → bit (t.rd (reg pgLEDG Off.EVENT)) 6 = true ∧ bit (t.rd (reg pgLEDG Off.EVENT)) 30 = true) ∧
    (8 ≤ b ∨ s.account b ≤ fld v 0 20 → s.onlyRegs t ∧ ∀ r, r ≠ reg pgLEDG (ceilOff b) → t.rd r = s.rd r) := by
  have hnew : (v &&& 0xFFFFF#32).toNat = fld v 0 20 := toNat_ceil v
  generalize hu : s.hearing se.toNat (reg pgLEDG (ceilOff b)) v = u
  have hacc : (u.wr (reg pgLEDG (ceilOff b)) (v &&& 0xFFFFF#32)).account b = s.account b := by
    rw [State.account_wr_ceil, ← hu]
    exact State.account_congr b (by simp) (by simp) (by simp)
  have hceil : (u.wr (reg pgLEDG (ceilOff b)) (v &&& 0xFFFFF#32)).ceil b = fld v 0 20 := (congrArg BitVec.toNat (State.rd_wr_self _ _ _)).trans hnew
  have hw := State.commit_put_ceil hb h hlock
  rw [hu, State.writeLedg_ceil hb ((State.plainWrite_ceil hb u v).trans (if_pos hok)), hacc, hceil] at hw
  by_cases hlow : b < 8 ∧ fld v 0 20 < s.account b
  · rw [if_pos hlow] at hw
    refine ⟨_, hw, (State.ceil_pageErr _ _ _ _ _ _ hb).trans hceil, (State.account_pageErr _ _ _ _ _ _ hb).trans hacc, fun _ _ => ⟨?_, ?_⟩,
      fun hhigh => absurd hlow (by omega)⟩
    · exact State.event_pageErr _ _ _ _ _ _ 6 (Or.inl (by decide))
    · exact State.event_pageErr _ _ _ _ _ _ 30 (Or.inl (by decide))
  · rw [if_neg hlow] at hw
    refine ⟨_, hw, hceil, hacc, fun h1 h2 => absurd ⟨h1, h2⟩ hlow, fun _ => ⟨?_, fun r hr => ?_⟩⟩
    · rw [← hu]
      exact State.onlyRegs_replied h (State.withRegs_wr _ _ _ _)
    · rw [State.rd_replied, State.rd_wr_other _ _ hr, ← hu, State.rd_hearing]

/-- A ceiling outside its range is refused (R17). -/
theorem State.ceil_refused (hok : ceilOk b v = false) : ∃ t, s.commit (s.put se pgLEDG (ceilOff b) v) = .next t ∧
    t.ceil b = fld (s.rd (reg pgLEDG (ceilOff b))) 0 20 ∧ bit (t.rd (reg pgLEDG Off.EVENT)) 31 = true := by
  generalize hu : s.hearing se.toNat (reg pgLEDG (ceilOff b)) v = u
  have hold : u.rd (reg pgLEDG (ceilOff b)) = s.rd (reg pgLEDG (ceilOff b)) := by rw [← hu, State.rd_hearing]
  have hbody : 0x40 ≤ reg pgLEDG (ceilOff b) % 4096 ∧ reg pgLEDG (ceilOff b) ≠ reg pgERR Off.ERR_Q_DROPPED :=
    railReg_body hb (o := Off.LEDG_RAIL_CEIL) (by decide) (by decide)
  have hw := State.commit_put_ceil hb h hlock
  rw [hu, State.writeLedg_ceil hb ((State.plainWrite_ceil hb u v).trans (if_neg (by simp [hok]))), hold] at hw
  generalize hx : (u.wr (reg pgLEDG (ceilOff b)) (setFld (v &&& 0xFFFFF#32) 0 20 (fld (s.rd (reg pgLEDG (ceilOff b))) 0 20))).invalidWrite pgLEDG = x at hw
  have hceil : x.ceil b = fld (s.rd (reg pgLEDG (ceilOff b))) 0 20 := by
    rw [State.ceil_eq, ← hx, State.rd_invalidWrite_body _ _ hbody.1 hbody.2, State.rd_wr_self, toNat_ceil_kept]
  have hevent : bit (x.rd (reg pgLEDG Off.EVENT)) 31 = true := by
    rw [← hx]
    exact State.event_invalidWrite _ _
  by_cases hlow : b < 8 ∧ x.ceil b < x.account b
  · rw [if_pos hlow] at hw
    refine ⟨_, hw, ?_, ?_⟩
    · rw [State.ceil_replied, State.ceil_pageErr _ _ _ _ _ _ hb, hceil]
    · rw [State.rd_replied]
      exact State.event_pageErr _ _ _ _ _ _ 31 (Or.inr hevent)
  · rw [if_neg hlow] at hw
    refine ⟨_, hw, ?_, ?_⟩
    · rw [State.ceil_replied, hceil]
    · rw [State.rd_replied]
      exact hevent

end

/-- Settles O43: a profile row has its effect when its time is over, and a ceiling is checked against its range and its account. -/
theorem profilesAndCeilings : Obligations.ProfilesAndCeilings := by
  unfold Obligations.ProfilesAndCeilings
  intro s se rail acct v g a b k ok
  refine ⟨fun h => ⟨_, congrArg s.commit (s.segmentStart_next h), ?_, rfl⟩, fun h => ⟨_, congrArg s.commit (s.profileEnd_last h), ?_, rfl⟩,
    fun h => ⟨congrArg s.commit (s.segmentStart_none h), congrArg s.commit (s.profileEnd_none h)⟩, fun hb h hlock => ?_, fun hb => ?_⟩
  · exact s.rail_setRail_self a _
  · exact s.rail_setRail_self a _
  · have hgo : exec (.ledgRailCeilWrite se acct v) s = s.commit (s.put se pgLEDG (ceilOff b) v) := s.onPage_true (decide_eq_true hb) _
    rw [hgo]
    exact ⟨State.ceil_taken hb h hlock, State.ceil_refused hb h hlock⟩
  · exact s.onPage_false (decide_eq_false (Nat.not_lt.2 hb)) _

end Sys2Proof.Machine
end

section
/-! PROOFS. Held step starts and the entries of the event calendar (R17, R316, R317, R319, R320). -/

namespace Sys2Proof.Machine

open Sys2Proof

/-! ## Held starts (R320) -/

/-- A held start begins once its context may replay: it counts late, and the floor of its entry is armed. -/
theorem State.heldStep_begins (s : State) {c : Nat} {h : Nat × Nat} (hheld : (s.getCtx c).heldStart = some h) (hmay : s.mayReplay c = true) :
    s.heldStep c = ((((s.setCtx c { s.getCtx c with heldStart := none }).inc (reg pgCAL Off.CAL_LATE)).raise pgCAL 0).beginReplay c).armFloor c h.1 := by
  unfold State.heldStep
  rw [hheld]
  exact if_pos hmay

/-- Without a held start, or while its context may not replay, nothing starts. -/
theorem State.heldStep_waits (s : State) {c : Nat} (h : (s.getCtx c).heldStart = none ∨ s.mayReplay c = false) : s.heldStep c = s := by
  unfold State.heldStep
  cases hheld : (s.getCtx c).heldStart with
  | none => rfl
  | some x =>
    have hmay : s.mayReplay c = false := h.resolve_left (by simp [hheld])
    exact if_neg (by simp [hmay])

/-! ## Registers of calendar entries (R324) -/

@[simp] theorem calReg_same_entry (e a b : Nat) : calReg e a = calReg e b ↔ a = b := by simp [calReg, wreg]

theorem calReg_ne_entry {e f a b : Nat} (h : e ≠ f) (ha : a < 4096) (hb : b < 4096) : calReg e a ≠ calReg f b := by
  simp only [calReg, wreg, reg]
  omega

/-- A register of an entry lies beyond the header of the CAL page. -/
theorem calReg_body (e : Nat) {o : Nat} (ho : 0x40 ≤ o) (ho' : o < 4096) : 0x40 ≤ calReg e o % 4096 ∧ calReg e o ≠ reg pgERR Off.ERR_Q_DROPPED := by
  simp only [calReg, wreg, reg, Off.ERR_Q_DROPPED, pgERR]
  omega

/-- A written bit reads as written. -/
theorem bit_setBit_zero (w : Word) (b : Bool) : bit (setBit w 0 b) 0 = b := by
  cases b <;> simp [bit, setBit]

/-- Validity of an entry depends on its action, target and period (R317). -/
theorem State.calValid_congr {s t : State} {e : Nat} (ha : t.rd (calReg e Off.CAL_ENT_ACTION) = s.rd (calReg e Off.CAL_ENT_ACTION))
    (ht : t.rd (calReg e Off.CAL_ENT_TARGET) = s.rd (calReg e Off.CAL_ENT_TARGET))
    (hp : t.rd (calReg e Off.CAL_ENT_PERIOD) = s.rd (calReg e Off.CAL_ENT_PERIOD)) : t.calValid e = s.calValid e := by
  have h1 : t.calAction e = s.calAction e := by rw [State.calAction, State.calAction, ha]
  have h2 : t.calTarget e = s.calTarget e := by rw [State.calTarget, State.calTarget, ht]
  have h3 : t.calPeriod e = s.calPeriod e := by rw [State.calPeriod, State.calPeriod, hp]
  unfold State.calValid
  rw [h1, h2, h3]

section
variable (s : State) (e : Nat)

/-- An error of the CAL page leaves the registers of entries alone. -/
theorem State.rd_calReg_pageErr (code : Code) (i0 i1 : Nat) (bits : Word) {o : Nat} (ho : 0x40 ≤ o) (ho' : o < 4096) :
    (s.pageErr pgCAL code i0 i1 bits).rd (calReg e o) = s.rd (calReg e o) :=
  s.rd_pageErr_body pgCAL code i0 i1 bits (calReg_body e ho ho').1 (calReg_body e ho ho').2

@[simp] theorem State.calEnabled_pageErr (code : Code) (i0 i1 : Nat) (bits : Word) : (s.pageErr pgCAL code i0 i1 bits).calEnabled e = s.calEnabled e :=
  congrArg (bit · 0) (s.rd_calReg_pageErr e code i0 i1 bits (by decide) (by decide))

/-- The list of late entries is no register. The fields of a state that differs in it are read by these lemmas, not by unfolding: a key such as
`calReg e o` is costly to compute with. -/
@[simp] theorem State.rd_withLate (l : List Nat) (k : Nat) : ({ s with lateEnt := l } : State).rd k = s.rd k := rfl
@[simp] theorem State.calEnabled_withLate (l : List Nat) (z : Nat) : ({ s with lateEnt := l } : State).calEnabled z = s.calEnabled z := rfl

@[simp] theorem State.withLate_ctx (l : List Nat) : ({ s with lateEnt := l } : State).ctx = s.ctx := rfl
@[simp] theorem State.withLate_mem (l : List Nat) : ({ s with lateEnt := l } : State).mem = s.mem := rfl

/-- A note of a late entry, made or not, is a change of the list of late entries. -/
theorem State.ite_withLate (p : Prop) [Decidable p] (m : List Nat) :
    ∃ l, (if p then { s with lateEnt := m } else s) = ({ s with lateEnt := l } : State) := by
  split
  · exact ⟨m, rfl⟩
  · exact ⟨s.lateEnt, rfl⟩

/-- ENABLE after it is written. -/
theorem State.calEnabled_wrEnable (z : Nat) (b : Bool) : (s.wrBit (calReg e Off.CAL_ENT_CTRL) 0 b).calEnabled z = if z = e then b else s.calEnabled z := by
  unfold State.calEnabled State.wrBit
  by_cases hz : z = e
  · rw [if_pos hz, hz, State.rd_wr_self, bit_setBit_zero]
  · rw [if_neg hz, State.rd_wr_other _ _ (calReg_ne_entry hz (by decide) (by decide))]

/-- Another register of an entry leaves ENABLE of every entry alone. -/
theorem State.calEnabled_wr_other (z : Nat) {o : Nat} (w : Word) (ho : o < 4096) (hne : Off.CAL_ENT_CTRL ≠ o) :
    (s.wr (calReg e o) w).calEnabled z = s.calEnabled z := by
  have hkey : calReg z Off.CAL_ENT_CTRL ≠ calReg e o := by
    by_cases hz : z = e
    · rw [hz]; simpa using hne
    · exact calReg_ne_entry hz (by decide) ho
  unfold State.calEnabled
  rw [State.rd_wr_other _ _ hkey]

/-! ## ENABLE (R317, R319) -/

/-- ENABLE cleared disables the entry (R319). -/
theorem State.calEnable_off :
    s.calEnable e false = { s.wrBit (calReg e Off.CAL_ENT_CTRL) 0 false with lateEnt := s.lateEnt.filter (· != e) } := rfl

/-- ENABLE of an invalid entry leaves it disabled with ENTRY_INVALID (R317). -/
theorem State.calEnable_invalid (hv : s.calValid e = false) :
    s.calEnable e true = (s.wrBit (calReg e Off.CAL_ENT_CTRL) 0 false).pageErr pgCAL Err.CAL_ENTRY_INVALID e 0 8 := by
  unfold State.calEnable
  rw [if_neg (by simp)]
  exact if_pos (by rw [hv]; rfl)

/-- ENABLE of a valid entry enables it; a past instant is noted as late (R319). -/
theorem State.calEnable_valid {w : State} (hv : s.calValid e = true) (hw : s.wrBit (calReg e Off.CAL_ENT_CTRL) 0 true = w) :
    s.calEnable e true = if w.calInstant e < w.now.toNat then { w with lateEnt := (w.lateEnt ++ [e]).eraseDups } else w := by
  subst hw
  unfold State.calEnable
  exact (if_neg (by simp)).trans (if_neg (by rw [hv]; simp))

/-- After a write of ENABLE exactly a valid entry that was to be enabled is; the other entries, contexts and memory are as before. -/
theorem State.calEnable_effect (on : Bool) :
    (∀ z, (s.calEnable e on).calEnabled z = if z = e then on && s.calValid e else s.calEnabled z) ∧
      (s.calEnable e on).ctx = s.ctx ∧ (s.calEnable e on).mem = s.mem := by
  cases on with
  | false =>
    rw [State.calEnable_off]
    exact ⟨fun z => by rw [State.calEnabled_withLate, State.calEnabled_wrEnable, Bool.false_and],
        by rw [State.withLate_ctx, State.wrBit_ctx], by rw [State.withLate_mem, State.wrBit_mem]⟩
  | true =>
    cases hv : s.calValid e with
    | false =>
      rw [State.calEnable_invalid s e hv]
      exact ⟨fun z => by rw [State.calEnabled_pageErr, State.calEnabled_wrEnable, Bool.and_false], by rw [State.pageErr_ctx, State.wrBit_ctx],
        by rw [State.pageErr_mem, State.wrBit_mem]⟩
    | true =>
      generalize hw : s.wrBit (calReg e Off.CAL_ENT_CTRL) 0 true = w
      obtain ⟨l, hl⟩ := w.ite_withLate (w.calInstant e < w.now.toNat) (w.lateEnt ++ [e]).eraseDups
      rw [s.calEnable_valid e hv hw, hl]
      exact ⟨fun z => by rw [State.calEnabled_withLate, ← hw, State.calEnabled_wrEnable, Bool.and_true], by rw [State.withLate_ctx, ← hw, State.wrBit_ctx],
        by rw [State.withLate_mem, ← hw, State.wrBit_mem]⟩

end

/-! ## The fields of an entry (R316, R317) -/

/-- The owner that a write of ACTION records: the operator, or the domain of a tenant (R316). -/
def ownerWord (se : Nat) : Word := w32 (if isOp se then 1024 else sessDomain se)

/-- What a session's write of PERIOD, ACTION or TARGET of an entry stores, before the entry is checked (R316, R317). -/
def State.calStored (s : State) (se x o : Nat) (v : Word) : State :=
  let t := s.wr (calReg x o) (v &&& maskAt .cal o)
  if o = Off.CAL_ENT_ACTION then t.wr (calReg x Off.CAL_ENT_OWNER) (ownerWord se) else t

/-- An enabled entry that has become invalid is disabled with ENTRY_INVALID (R317). -/
def State.calChecked (s : State) (x : Nat) : State :=
  if s.calEnabled x && !s.calValid x then
    ({ s.wrBit (calReg x Off.CAL_ENT_CTRL) 0 false with lateEnt := s.lateEnt.filter (· != x) } : State).pageErr pgCAL Err.CAL_ENTRY_INVALID x 0 8
  else s

/-- The fields that CAL_ENTRY_FIELD_WRITE names. -/
theorem calField_cases {f : BitVec 2} {o : Nat} (h : calField f = some o) :
    o = Off.CAL_ENT_PERIOD ∨ o = Off.CAL_ENT_ACTION ∨ o = Off.CAL_ENT_TARGET := by
  revert h
  unfold calField
  split <;> simp_all

/-- A field that an entry does not have names no register (R17). -/
theorem exec_calField_none {s : State} {se : SessIx} {f : BitVec 2} {v : Word} (h : calField f = none) :
    exec (.calEntryFieldWrite se f v) s = .next s := by
  show execCalEntryFieldWrite se f v s = _
  unfold execCalEntryFieldWrite
  rw [h]
  rfl

/-- A field of an entry is a register of the CAL page that a session may write. -/
theorem exec_calField_some {s : State} {se : SessIx} {f : BitVec 2} {o : Nat} {v : Word} (h : calField f = some o) :
    exec (.calEntryFieldWrite se f v) s = s.commit (s.put se pgCAL o v) := by
  show execCalEntryFieldWrite se f v s = _
  unfold execCalEntryFieldWrite
  rw [h]

section
variable (s : State) (se x : Nat) {o : Nat} (v : Word) (ho : o = Off.CAL_ENT_PERIOD ∨ o = Off.CAL_ENT_ACTION ∨ o = Off.CAL_ENT_TARGET)
include ho

/-- A write of a field of an entry stores it and checks the entry (R316, R317). -/
theorem State.writeCal_field : s.writeCal se x o v = (s.calStored se x o v).calChecked x := by
  have h1 : o ≠ Off.CAL_CNT_CLEAR := by rcases ho with rfl | rfl | rfl <;> decide
  have h2 : o ≠ Off.CAL_ENT_CTRL := by rcases ho with rfl | rfl | rfl <;> decide
  simp only [State.writeCal, h1, h2, if_false, State.plainWrite, State.fieldRules, applyRules, Bool.false_eq_true]
  rfl

/-- ENABLE of every entry after a field is stored. -/
theorem State.calEnabled_calStored (z : Nat) : (s.calStored se x o v).calEnabled z = s.calEnabled z := by
  unfold State.calStored
  dsimp only
  rcases ho with rfl | rfl | rfl
  · simpa using s.calEnabled_wr_other x z _ (by decide) (by decide)
  · rw [if_pos rfl, State.calEnabled_wr_other _ _ _ _ (by decide) (by decide), State.calEnabled_wr_other _ _ _ _ (by decide) (by decide)]
  · simpa using s.calEnabled_wr_other x z _ (by decide) (by decide)

end

section
variable (s : State) (x : Nat)

theorem State.calChecked_kept (h : (s.calEnabled x && !s.calValid x) = false) : s.calChecked x = s := if_neg (by simp only [h, Bool.false_eq_true, not_false_eq_true])

theorem State.calChecked_disabled (h : (s.calEnabled x && !s.calValid x) = true) : s.calChecked x =
    ({ s.wrBit (calReg x Off.CAL_ENT_CTRL) 0 false with lateEnt := s.lateEnt.filter (· != x) } : State).pageErr pgCAL Err.CAL_ENTRY_INVALID x 0 8 := if_pos h

/-- The check of an entry writes ENABLE alone among the registers of entries. -/
theorem State.rd_calChecked {o : Nat} (ho : 0x40 ≤ o) (ho' : o < 4096) (hne : o ≠ Off.CAL_ENT_CTRL) :
    (s.calChecked x).rd (calReg x o) = s.rd (calReg x o) := by
  cases hbad : s.calEnabled x && !s.calValid x with
  | false => rw [State.calChecked_kept s x hbad]
  | true =>
    rw [State.calChecked_disabled s x hbad, State.rd_calReg_pageErr _ _ _ _ _ _ ho ho', State.rd_withLate, State.wrBit,
      State.rd_wr_other _ _ (by simpa using hne)]

theorem State.calValid_calChecked : (s.calChecked x).calValid x = s.calValid x :=
  State.calValid_congr (s.rd_calChecked x (by decide) (by decide) (by decide)) (s.rd_calChecked x (by decide) (by decide) (by decide))
    (s.rd_calChecked x (by decide) (by decide) (by decide))

/-- After the check an entry is enabled if it was and is valid; the other entries, contexts and memory are as before. -/
theorem State.calChecked_effect :
    (∀ z, (s.calChecked x).calEnabled z = if z = x then s.calEnabled x && s.calValid x else s.calEnabled z) ∧
      (s.calChecked x).ctx = s.ctx ∧ (s.calChecked x).mem = s.mem := by
  cases hbad : s.calEnabled x && !s.calValid x with
  | false =>
    have hsame : (s.calEnabled x && s.calValid x) = s.calEnabled x := by
      cases he : s.calEnabled x <;> cases hv : s.calValid x <;> simp [he, hv] at hbad ⊢
    rw [State.calChecked_kept s x hbad, hsame]
    exact ⟨fun z => by split <;> simp [*], rfl, rfl⟩
  | true =>
    have hvalid : s.calValid x = false := by simpa using (Bool.and_eq_true_iff.1 hbad).2
    rw [State.calChecked_disabled s x hbad]
    exact ⟨fun z => by rw [State.calEnabled_pageErr, State.calEnabled_withLate, State.calEnabled_wrEnable, hvalid, Bool.and_false],
      by rw [State.pageErr_ctx, State.withLate_ctx, State.wrBit_ctx], by rw [State.pageErr_mem, State.withLate_mem, State.wrBit_mem]⟩

end

/-! ## What a stored field reads as (R316, R324) -/

/-- The owner of an entry whose ACTION a session wrote (R316). -/
theorem State.calOwner_of_ownerWord {s : State} {x se : Nat} (h : s.rd (calReg x Off.CAL_ENT_OWNER) = ownerWord se) :
    s.calOwner x = if isOp se then none else some (sessDomain se) := by
  rw [State.calOwner, h, ownerWord]
  have hlt : sessDomain se < 2 ^ 10 := Nat.mod_lt _ (by decide)
  have hbit : bit (w32 (sessDomain se)) 10 = false := by
    simp only [bit, w32, BitVec.getLsbD_ofNat, Nat.testBit_lt_two_pow hlt, Bool.and_false]
  have hfld : fld (w32 (sessDomain se)) 0 10 = sessDomain se := by simp only [fld, w32, BitVec.toNat_ofNat]; omega
  split
  · rfl
  · simp only [hbit, hfld, Bool.false_eq_true, if_false]

section
variable (s : State) (se x : Nat) {o : Nat} (v : Word)

theorem State.calStored_calm : (s.calStored se x o v).ctx = s.ctx ∧ (s.calStored se x o v).mem = s.mem := by
  unfold State.calStored
  dsimp only
  split
  · rw [State.wr_ctx, State.wr_ctx, State.wr_mem, State.wr_mem]; exact ⟨rfl, rfl⟩
  · rw [State.wr_ctx, State.wr_mem]; exact ⟨rfl, rfl⟩

/-- Period and target read as stored. -/
theorem State.rd_calStored (ho : o ≠ Off.CAL_ENT_ACTION) : (s.calStored se x o v).rd (calReg x o) = v &&& maskAt .cal o := by
  unfold State.calStored
  dsimp only
  rw [if_neg ho, State.rd_wr_self]

/-- A write of ACTION records the writer (R316). -/
theorem State.rd_owner_calStored : (s.calStored se x Off.CAL_ENT_ACTION v).rd (calReg x Off.CAL_ENT_OWNER) = ownerWord se := by
  unfold State.calStored
  dsimp only
  rw [if_pos rfl, State.rd_wr_self]

end

/-! ## The obligation -/

section
variable {s : State} {se : SessIx} {v : Word}

@[simp] theorem State.calEnabled_hearing (se a : Nat) (v : Word) (z : Nat) : (s.hearing se a v).calEnabled z = s.calEnabled z :=
  (congrArg (State.calEnabled · z) (s.hearing_frame se a v) :)
@[simp] theorem State.calValid_hearing (se a : Nat) (v : Word) (z : Nat) : (s.hearing se a v).calValid z = s.calValid z :=
  (congrArg (State.calValid · z) (s.hearing_frame se a v) :)
theorem State.calEnabled_replied (w : State) (se z : Nat) : (s.replied w se).calEnabled z = w.calEnabled z := rfl
theorem State.calValid_replied (w : State) (se z : Nat) : (s.replied w se).calValid z = w.calValid z := rfl

/-- A register of an entry that a session may write is written in the entry that CAL_SEL of the session selects (R324). -/
theorem State.commit_put_cal {o : Nat} {r : RegRow} (h : s.mayWrite se (reg pgCAL o) v = true) (ho : 0x44 ≤ o) (ho' : o ≤ 0x68)
    (hrow : regRow .cal o = some r) (hro : r.acc ≠ .ro) (hrwl : r.acc ≠ .rwl) : s.commit (s.put se pgCAL o v) =
      .next (s.replied ((s.hearing se.toNat (reg pgCAL o) v).writeCal se.toNat (s.sel se.toNat pgCAL Off.CAL_SEL) o v) se.toNat) :=
  State.commit_put h (by decide) (by omega) ((State.regWrite_cal _ v ho ho' hrow hro hrwl).trans (by rw [State.sel_hearing]))

/-- A write of ENABLE (R317, R319). -/
theorem State.calEntCtrl_effect (h : s.mayWrite se (reg pgCAL Off.CAL_ENT_CTRL) v = true) {x : Nat} (hx : s.sel se.toNat pgCAL Off.CAL_SEL = x) :
    ∃ t, s.commit (s.put se pgCAL Off.CAL_ENT_CTRL v) = .next t ∧
      (t.ctx = s.ctx ∧ t.mem = s.mem ∧ ∀ z, z < 4096 → z ≠ x → t.calEnabled z = s.calEnabled z) ∧
      t.calEnabled x = (bit v 0 && s.calValid x) ∧
      (bit v 0 = true → s.calValid x = false → bit (t.rd (reg pgCAL Off.EVENT)) 3 = true ∧ bit (t.rd (reg pgCAL Off.EVENT)) 30 = true) := by
  have hw (u : State) : u.writeCal se.toNat x Off.CAL_ENT_CTRL v = u.calEnable x (bit v 0) := (if_neg (by decide)).trans (if_pos rfl)
  refine ⟨_, State.commit_put_cal h (by decide) (by decide) rfl (by decide) (by decide), ?_⟩
  rw [hx, hw]
  obtain ⟨hen, hctx, hmem⟩ := (s.hearing se.toNat (reg pgCAL Off.CAL_ENT_CTRL) v).calEnable_effect x (bit v 0)
  refine ⟨⟨?_, ?_, fun z _ hz => ?_⟩, ?_, fun hon hv => ?_⟩
  · rw [State.replied_ctx, hctx, State.hearing_ctx]
  · rw [State.replied_mem, hmem, State.hearing_mem]
  · rw [State.calEnabled_replied, hen, if_neg hz, State.calEnabled_hearing]
  · rw [State.calEnabled_replied, hen, if_pos rfl, State.calValid_hearing]
  · rw [State.rd_replied, hon, State.calEnable_invalid _ _ (by rw [State.calValid_hearing, hv])]
    exact ⟨State.event_pageErr _ _ _ _ _ _ 3 (Or.inl (by decide)), State.event_pageErr _ _ _ _ _ _ 30 (Or.inl (by decide))⟩

/-- The rows of the fields take writes (R324). -/
theorem calField_row {o : Nat} (ho : o = Off.CAL_ENT_PERIOD ∨ o = Off.CAL_ENT_ACTION ∨ o = Off.CAL_ENT_TARGET) :
    0x44 ≤ o ∧ o ≤ 0x68 ∧ o ≠ Off.CAL_ENT_CTRL ∧ ∃ r, regRow .cal o = some r ∧ r.acc ≠ .ro ∧ r.acc ≠ .rwl := by
  rcases ho with rfl | rfl | rfl <;> exact ⟨by decide, by decide, by decide, _, rfl, by decide, by decide⟩

/-- A write of PERIOD, ACTION or TARGET (R316, R317). -/
theorem State.calField_effect {o : Nat} (ho : o = Off.CAL_ENT_PERIOD ∨ o = Off.CAL_ENT_ACTION ∨ o = Off.CAL_ENT_TARGET)
    (h : s.mayWrite se (reg pgCAL o) v = true) {x : Nat} (hx : s.sel se.toNat pgCAL Off.CAL_SEL = x) :
    ∃ t, s.commit (s.put se pgCAL o v) = .next t ∧
      (t.ctx = s.ctx ∧ t.mem = s.mem ∧ ∀ z, z < 4096 → z ≠ x → t.calEnabled z = s.calEnabled z) ∧
      (o = Off.CAL_ENT_PERIOD → t.calPeriod x = v.toNat) ∧
      (o = Off.CAL_ENT_TARGET → t.calTarget x = fld v 0 20) ∧
      (o = Off.CAL_ENT_ACTION → t.calOwner x = if isOp se.toNat then none else some (sessDomain se.toNat)) ∧
      t.calEnabled x = (s.calEnabled x && t.calValid x) := by
  obtain ⟨hlo, hhi, hne, r, hrow, hro, hrwl⟩ := calField_row ho
  refine ⟨_, State.commit_put_cal h hlo hhi hrow hro hrwl, ?_⟩
  rw [hx, State.writeCal_field _ _ _ _ ho]
  generalize hu : s.hearing se.toNat (reg pgCAL o) v = u
  obtain ⟨hctx', hmem'⟩ := u.calStored_calm se.toNat x (o := o) v
  obtain ⟨hen, hctx, hmem⟩ := (u.calStored se.toNat x o v).calChecked_effect x
  have henabled (z : Nat) : (u.calStored se.toNat x o v).calEnabled z = s.calEnabled z := by
    rw [State.calEnabled_calStored _ _ _ _ ho, ← hu, State.calEnabled_hearing]
  refine ⟨⟨?_, ?_, fun z _ hz => ?_⟩, ?_, ?_, ?_, ?_⟩
  · rw [State.replied_ctx, hctx, hctx', ← hu, State.hearing_ctx]
  · rw [State.replied_mem, hmem, hmem', ← hu, State.hearing_mem]
  · rw [State.calEnabled_replied, hen, if_neg hz, henabled]
  · rintro rfl
    have hmask : v &&& maskAt .cal Off.CAL_ENT_PERIOD = v := by
      rw [show maskAt .cal Off.CAL_ENT_PERIOD = BitVec.allOnes 32 by decide, BitVec.and_allOnes]
    rw [State.calPeriod, State.rd_replied, State.rd_calChecked _ _ (by decide) (by decide) hne, State.rd_calStored _ _ _ _ (by decide), hmask]
  · rintro rfl
    rw [State.calTarget, State.rd_replied, State.rd_calChecked _ _ (by decide) (by decide) hne, State.rd_calStored _ _ _ _ (by decide)]
    exact fld_and_mask _ _ _ (by decide)
  · rintro rfl
    refine State.calOwner_of_ownerWord ?_
    rw [State.rd_replied, State.rd_calChecked _ _ (by decide) (by decide) (by decide), State.rd_owner_calStored]
  · rw [State.calEnabled_replied, State.calValid_replied, hen, if_pos rfl, henabled, State.calValid_calChecked]

end

/-- Settles O46: a held start waits for its context, and a write of an entry is stored, checked and, if need be, disables the entry. -/
theorem heldStartsAndEntryWrites : Obligations.HeldStartsAndEntryWrites := by
  unfold Obligations.HeldStartsAndEntryWrites
  intro s se c h f o v y x n calm
  refine ⟨fun hheld hmay => congrArg s.commit (s.heldStep_begins hheld hmay), fun hwait => congrArg s.commit (s.heldStep_waits hwait),
    fun hw => State.calEntCtrl_effect hw rfl, fun hf hw _ => ?_, exec_calField_none⟩
  rw [exec_calField_some hf]
  exact State.calField_effect (calField_cases hf) hw rfl

end Sys2Proof.Machine
end

section
/-! PROOFS. Frames that act on an open window (R366, R370, R379, R382), and an ABORT whose signal lands on COLL_GRP_ERR (R362, R373, R379, R388). -/

namespace Sys2Proof.Machine

open Sys2Proof

/-! ## Frames of an open window -/

/-- A sound frame of an awaited kind goes to the slot whose open window it names (R366, R370, R382). -/
theorem State.receive_hit {s : State} {f : Gw} {kinds : List Nat} {g : Nat} (hversion : f.version = 1) (hrsv : f.rsv = 0)
    (hslots : s.slotsOfGroup (f.group % 2 ^ 20) ≠ []) (hkind : kinds.contains f.kind = true)
    (hhit : (s.slotsOfGroup (f.group % 2 ^ 20)).find? (fun h => (s.getGrp h).winOpen && (s.step' (s.grpCtx h)).toNat == f.step &&
      s.grpAttempt h == f.group / 2 ^ 20 % 256) = some g) :
    s.receive f (crc64 (f.header ++ f.data)) kinds = (s, some g) := by
  unfold State.receive
  have hfit : ¬ (f.version ≠ 1 || f.rsv ≠ 0 || s.slotsOfGroup (f.group % 2 ^ 20) = [] || !kinds.contains f.kind) = true := by
    simp only [hversion, hrsv, hkind, decide_eq_false hslots]; decide
  rw [if_neg (not_not.2 rfl), if_neg hfit, hhit]

/-- An ABORT that names no rank, with a code that no switch raises, aborts the group as MEMBER_ABORT (R379). -/
theorem State.abortFrame_noRank {s : State} {f : Gw} {crc : DWord} {g : Nat} (h : s.receive f crc [2] = (s, some g))
    (hrank : f.flag 4 = true) (hcode : switchCode f.err = false) :
    s.abortFrame f crc = s.abortGroup g Err.MEMBER_ABORT none (f.err + f.seq % 2 ^ 16 * 2 ^ 16) := by
  unfold State.abortFrame
  rw [h]
  simp [hrank, hcode]

/-- A frame that its port delivers is taken in the state with its weight (R446, R498). -/
theorem State.rxGw_delivered {s : State} {rx : Rx} (h : (s.rxFrame rx).2 = true) (f : Gw) (k : State → State) :
    s.rxGw rx f k = k ((s.rxFrame rx).1.serdes ((s.rxFrame rx).1.groupDom (f.group % 2 ^ 20)) f.bytes.length) := by
  unfold State.rxGw
  rw [← Prod.mk.eta (p := s.rxFrame rx), h]

/-! ## A collective whose SEM is no semaphore -/

/-- A number far past the 256 semaphores of a context: the key that SEMn of context 0 has for it is that of COLL_GRP_ERR of slot 0. -/
def straySem : Nat := (grpReg 0 Off.COLL_GRP_ERR - semKey 0 0) / 4

/-- A collective that signals it. The one byte of R362 holds no such number, and the statement bounds SEM for end notices but not for aborts. -/
def strayInst : Inst :=
  { tensor := 0, e := { elems := 8, kind := 0, op := 0, rmode := 0, destUpd := false, fmt := 1, chunk := 0, sem := straySem, upd := 0, salt := 0,
                        record := 0, dest := 0x2000, cap := 0, lenTab := 0, rsv := 0 } }

/-- The window of slot 0, of group 0 and context 0, is open and holds the collective; port 16 is up. -/
def strayState : State :=
  { regs := [(ethReg 16 Off.ETH_STATE, 1), (grpReg 0 Off.COLL_GRP_ID, 0x80000000)], grps := [(0, { winOpen := true, insts := [strayInst] })] }

/-- An ABORT of group 0 under NO_RANK. -/
def strayAbort : Gw := { kind := 2, flags := 16 }

/-- Its arrival on port 16. -/
def strayRx : Rx := ⟨16, false, false⟩

/-- The state in which it is taken. -/
def strayTaken : State :=
  (strayState.rxFrame strayRx).1.serdes ((strayState.rxFrame strayRx).1.groupDom (strayAbort.group % 2 ^ 20)) strayAbort.bytes.length

theorem rxFrame_strayState : (strayState.rxFrame strayRx).2 = true := by decide

theorem find_strayTaken : (strayTaken.slotsOfGroup (strayAbort.group % 2 ^ 20)).find? (fun h => (strayTaken.getGrp h).winOpen &&
    (strayTaken.step' (strayTaken.grpCtx h)).toNat == strayAbort.step && strayTaken.grpAttempt h == strayAbort.group / 2 ^ 20 % 256) = some 0 := by decide

/-- The abort writes MEMBER_ABORT, and the signal of the collective then adds 1 to it (R373, R379). -/
theorem rd_abortGroup_strayTaken : (strayTaken.abortGroup 0 Err.MEMBER_ABORT none 0).rd (grpReg 0 Off.COLL_GRP_ERR) = 0x4006 := by decide

/-- What the ABORT answers. -/
theorem exec_strayAbort : exec (.abortReceived strayRx strayAbort (crc64 (strayAbort.header ++ strayAbort.data))) strayState =
    strayState.commit (strayTaken.abortGroup 0 Err.MEMBER_ABORT none 0) := by
  refine congrArg strayState.commit ((State.rxGw_delivered rxFrame_strayState strayAbort _).trans ?_)
  exact State.abortFrame_noRank (State.receive_hit rfl rfl (by decide) rfl find_strayTaken) (by decide) (by decide)

/-- Refutes O49: its clause on an ABORT of an unaborted group leaves SEM of the group's open collectives unbounded, so that the signal which completes
`strayInst` falls on COLL_GRP_ERR, and the register does not hold the recorded code. -/
theorem not_collectiveFramesAct : ¬ Obligations.CollectiveFramesAct := by
  unfold Obligations.CollectiveFramesAct
  intro h
  obtain ⟨-, -, -, -, -, habort, -⟩ := h strayState strayRx strayAbort (crc64 (strayAbort.header ++ strayAbort.data)) 0 rxFrame_strayState
  obtain ⟨t, ht, -, -, -, -, herr⟩ := habort (decide_eq_true rfl) (by decide) find_strayTaken (by decide) (by decide)
  rw [exec_strayAbort, State.commit_next] at ht
  have hread : t.rd (grpReg 0 Off.COLL_GRP_ERR) = 0x4006 := by rw [ht]; exact rd_abortGroup_strayTaken
  have hcode : t.rd (grpReg 0 Off.COLL_GRP_ERR) = 0x4005 := herr
  exact absurd (hread.symm.trans hcode) (by decide)

end Sys2Proof.Machine
end

section
/-! PROOFS. Lanes of the vector engine under the sign rules (R37, R44, R137). -/

namespace Sys2Proof.Machine

open Sys2Proof

/-! ## Patterns as arithmetic inputs (R37, R44) -/

@[simp] theorem f32IsNaN_f32NaN : f32IsNaN f32NaN = true := by decide

/-- Every NaN enters as the canonical one (R37). -/
theorem f32Flush_nan {p : Nat} (h : f32IsNaN p = true) : f32Flush p = f32NaN := if_pos h

/-- A pattern that is neither a NaN nor a zero or subnormal enters as it is (R44). -/
theorem f32Flush_normal {p : Nat} (hp : p < 2 ^ 32) (hnan : f32IsNaN p = false) (hexp : p / 2 ^ 23 % 256 ≠ 0) : f32Flush p = p := by
  rw [f32Flush, hnan, if_neg Bool.false_ne_true, if_neg hexp, Nat.mod_eq_of_lt hp]

/-! ## MAX and MIN (R137) -/

section
variable {a b : Nat} (h : f32IsNaN a = true ∨ f32IsNaN b = true)
include h

/-- A NaN among two inputs is one after they have entered. -/
theorem f32IsNaN_flush_or : (f32IsNaN (f32Flush a) || f32IsNaN (f32Flush b)) = true := by
  rcases h with ha | hb
  · rw [f32Flush_nan ha, f32IsNaN_f32NaN, Bool.true_or]
  · rw [f32Flush_nan hb, f32IsNaN_f32NaN, Bool.or_true]

theorem f32Max_nan : f32Max a b = f32NaN := if_pos (f32IsNaN_flush_or h)

theorem f32Min_nan : f32Min a b = f32NaN := if_pos (f32IsNaN_flush_or h)

end

/-! ## ABS and COPYSIGN (R37, R137) -/

section
variable {a : Nat} (b : Nat)

theorem f32Abs_nan (h : f32IsNaN a = true) : f32Abs a = f32NaN := by
  simp only [f32Abs, f32Flush_nan h, f32IsNaN_f32NaN, if_true]

theorem f32CopySign_nan (h : f32IsNaN a = true) : f32CopySign a b = f32NaN := by
  simp only [f32CopySign, f32Flush_nan h, f32IsNaN_f32NaN, if_true]

variable (ha : a < 2 ^ 32) (hnan : f32IsNaN a = false) (hexp : a / 2 ^ 23 % 256 ≠ 0)
include ha hnan hexp

/-- ABS of an ordinary number clears its sign bit. -/
theorem f32Abs_normal : f32Abs a = a % 2 ^ 31 := by
  simp only [f32Abs, hnan, f32Flush_normal ha hnan hexp, Bool.false_eq_true, if_false]

/-- COPYSIGN of an ordinary number has the sign bit of the second operand. -/
theorem f32CopySign_normal (hb : b < 2 ^ 32) : f32CopySign a b = a % 2 ^ 31 + b / 2 ^ 31 * 2 ^ 31 := by
  have hsign : b / 2 ^ 31 % 2 = b / 2 ^ 31 := Nat.mod_eq_of_lt (by omega)
  simp only [f32CopySign, hnan, f32Flush_normal ha hnan hexp, hsign, Bool.false_eq_true, if_false]

end

/-! ## The obligation -/

/-- Settles O16: NaNs and ordinary numbers by what enters the lane, the four pairs of signed zeros by evaluation. -/
theorem vectorLanesFollowSignRules : Obligations.VectorLanesFollowSignRules := by
  unfold Obligations.VectorLanesFollowSignRules
  intro a b ha hb
  exact ⟨fun h => ⟨f32Max_nan h, f32Min_nan h⟩, by decide, by decide, by decide, by decide,
    fun hnan hexp => ⟨f32Abs_normal ha hnan hexp, f32CopySign_normal b ha hnan hexp hb⟩,
    fun hnan => ⟨f32Abs_nan hnan, f32CopySign_nan b hnan⟩⟩

end Sys2Proof.Machine
end

section
/-! PROOFS. Counter clears of stacks, packages, ports, clusters, cores and router units, and the counts of a context (R16, R63, R66, R103, R131, R132, R154, R187, R356, R358, R459). -/

namespace Sys2Proof.Machine

open Sys2Proof

/-! ## Registers cleared together -/

section
variable (s : State)

/-- A list of cleared registers reads 0; every other register reads as before. -/
theorem State.rd_clearRegs (ks : List Nat) (k : Nat) : (s.clearRegs ks).rd k = if k ∈ ks then 0 else s.rd k := by
  induction ks generalizing s with
  | nil => simp [State.clearRegs]
  | cons j js ih =>
    have hcons : s.clearRegs (j :: js) = (s.wr j 0).clearRegs js := rfl
    rw [hcons, ih, State.rd_wr]
    by_cases hjs : k ∈ js <;> by_cases hj : k = j <;> simp [hjs, hj]

theorem State.withRegs_clearRegs (u : State) (ks : List Nat) : s.withRegs (u.clearRegs ks) = s.withRegs u :=
  foldl_keeps (fun t : State => s.withRegs t = s.withRegs u) _ (fun t k ht => (s.withRegs_wr t k 0).trans ht) ks u rfl

/-- A state with what stands below one counted unit taken from another: fenced write-combining entries, units of the slow tier, of the ports and of the movers. -/
def State.withRemainders (s u : State) : State := { u with
  wcFence := s.wcFence, slowRem := s.slowRem, ethRem := s.ethRem, pfcNs := s.pfcNs, moverRem := s.moverRem }

/-- Clearing registers leaves the remainders. -/
theorem State.withRemainders_clearRegs (ks : List Nat) : s.withRemainders (s.clearRegs ks) = s.clearRegs ks :=
  foldl_keeps (fun t : State => s.withRemainders t = t) (fun t k => t.wr k 0) (fun _ k ht => congrArg (State.wr · k 0) ht) ks s rfl

section
variable (u : State)

theorem State.withRemainders_wcFence (m : List (Nat × Nat)) : s.withRemainders { u with wcFence := m } = s.withRemainders u := rfl
theorem State.withRemainders_slowRem (m : List (Nat × Nat)) : s.withRemainders { u with slowRem := m } = s.withRemainders u := rfl
theorem State.withRemainders_moverRem (m : List (Nat × Nat)) : s.withRemainders { u with moverRem := m } = s.withRemainders u := rfl
theorem State.withRemainders_port (m n : List (Nat × Nat)) : s.withRemainders { u with ethRem := m, pfcNs := n } = s.withRemainders u := rfl

end

/-- Remainders are as they were when a write has its effect. -/
theorem State.withRemainders_hearing (se a : Nat) (v : Word) (w : State) : (s.hearing se a v).withRemainders w = s.withRemainders w :=
  (congrArg (State.withRemainders · w) (s.hearing_frame se a v) :)

end

/-- The listed registers are cleared, no other register is changed, and beside registers at most remainders are. -/
def State.cleared (s t : State) (ks : List Nat) : Prop :=
  (∀ k ∈ ks, t.rd k = 0) ∧ (∀ k, k ∉ ks → t.rd k = s.rd k) ∧ s.onlyRegs (s.withRemainders t)

/-- A write that clears a list of registers and remainders answers the state so cleared. -/
theorem State.commit_put_clears {s w : State} {se : SessIx} {p o : Nat} {v : Word} {ks : List Nat} (h : s.mayWrite se (reg p o) v = true)
    (hp : p < 2 ^ 16) (ho : o < 4096) (hw : (s.hearing se.toNat (reg p o) v).regWrite se.toNat (reg p o) v = (0, w))
    (hclear : (s.hearing se.toNat (reg p o) v).withRemainders w =
      (s.hearing se.toNat (reg p o) v).withRemainders ((s.hearing se.toNat (reg p o) v).clearRegs ks)) :
    ∃ t, s.commit (s.put se p o v) = .next t ∧ s.cleared t ks := by
  rw [State.withRemainders_clearRegs] at hclear
  have hrd (k : Nat) : w.rd k = if k ∈ ks then 0 else s.rd k := by
    rw [← State.rd_hearing s se.toNat (reg p o) v k, ← State.rd_clearRegs, ← hclear]
    rfl
  refine ⟨_, State.commit_put h hp ho hw, fun k hk => (hrd k).trans (if_pos hk), fun k hk => (hrd k).trans (if_neg hk), ?_⟩
  show s.onlyRegs (s.replied (s.withRemainders w) se.toNat)
  rw [← State.withRemainders_hearing s se.toNat (reg p o) v, hclear]
  exact State.onlyRegs_replied h (State.withRegs_clearRegs _ _ _)

/-! ## Writes of the counter clears -/

/-- The counter clear of a page whose counters are cleared by kind (R187, R459). -/
theorem State.regWrite_cntClear {s : State} {p i o : Nat} {k : PageKind} {r : RegRow} (se : Nat) {v : Word} (hv : bit v 0 = true)
    (hp : pageOf p = some (k, i)) (hpres : s.pagePresent k i = true) (ho : 0x40 ≤ o) (ho' : o < 4096) (hrow : regRow k o = some r)
    (hro : r.acc ≠ .ro) (hrwl : r.acc ≠ .rwl) (hmet : k ≠ .met) (hsel : isSel k o = false) (hclear : isCntClear k o = true) :
    s.regWrite se (reg p o) v = (0, s.writeCounters k p) := by
  simp [State.regWrite, ho', hp, hpres, hmet, hrow, hro, hrwl, Nat.not_lt.2 ho, hsel, hclear, hv]

/-- A row of such a page that clears registers and remainders. -/
theorem State.onPage_counters_cleared {s : State} {se : SessIx} {v : Word} {b : Bool} {p i o : Nat} {k : PageKind} {r : RegRow} {ks : List Nat}
    (hb : b = true) (hv : bit v 0 = true) (h : s.mayWrite se (reg p o) v = true) (hlt : p < 2 ^ 16) (hp : pageOf p = some (k, i))
    (hpres : s.pagePresent k i = true) (ho : 0x40 ≤ o) (ho' : o < 4096) (hrow : regRow k o = some r) (hro : r.acc ≠ .ro) (hrwl : r.acc ≠ .rwl)
    (hmet : k ≠ .met) (hsel : isSel k o = false) (hcnt : isCntClear k o = true)
    (hclear : ∀ u : State, u.withRemainders (u.writeCounters k p) = u.withRemainders (u.clearRegs ks)) :
    ∃ t, s.onPage b (s.put se p o v) = .next t ∧ s.cleared t ks := by
  rw [s.onPage_true hb]
  exact State.commit_put_clears h hlt ho'
    (State.regWrite_cntClear _ hv hp (by simpa using hpres) ho ho' hrow hro hrwl hmet hsel hcnt) (hclear _)

section
variable {s : State} (se : Nat) {v : Word} (hv : bit v 0 = true)

/-- A write of the page of a stack that is present (R356). -/
theorem State.regWrite_hbm {o : Nat} {r : RegRow} (st : BitVec 4) (hpres : s.pagePresent .hbm st.toNat = true) (ho : 0x40 ≤ o) (ho' : o < 4096)
    (hrow : regRow .hbm o = some r) (hro : r.acc ≠ .ro) (hrwl : r.acc ≠ .rwl) :
    s.regWrite se (reg (pgHBM st.toNat) o) v = (0, s.writeHbm st.toNat o v) := by
  simp [State.regWrite, ho', show pageOf (pgHBM st.toNat) = some (.hbm, st.toNat) from pageOf_span .hbm st.isLt, hpres, hrow, hro, hrwl,
    Nat.not_lt.2 ho, isSel, isCntClear]

/-- A write of the window of the SLOW page: the package is the one that SLOW_SEL of the session selects (R358). -/
theorem State.regWrite_slow {o : Nat} {r : RegRow} (ho : 0x48 ≤ o) (ho' : o ≤ 0x6C) (hrow : regRow .slow o = some r) (hro : r.acc ≠ .ro)
    (hrwl : r.acc ≠ .rwl) : s.regWrite se (reg pgSLOW o) v = (0, s.writeSlow (s.sel se pgSLOW Off.SLOW_SEL) o v) := by
  have h1 : o < 4096 := by omega
  have h2 : ¬ o < 0x40 := by omega
  have h3 : isSel .slow o = false := by simp only [isSel, Off.SLOW_SEL, beq_eq_false_iff_ne]; omega
  have h4 : windowSel .slow o = some Off.SLOW_SEL := by simp [windowSel, inOff, ho, ho']
  simp [State.regWrite, h1, show pageOf pgSLOW = some (.slow, 0) from pageOf_span .slow (i := 0) (by decide), State.pagePresent, hrow, hro, hrwl,
    h2, h3, isCntClear, State.window, h4]

include hv

theorem State.writeHbm_clear (st : Nat) : s.writeHbm st Off.HBM_CNT_CLEAR v =
    { s.clearRegs (offRange (pgHBM st) 0x048 0x058 ++ offRange (pgHBM st) 0x070 0x08C) with wcFence := mapDel st s.wcFence } := by
  simp only [State.writeHbm, hv, if_true]

theorem State.writeSlow_clear (x : Nat) : s.writeSlow x Off.SLOW_CNT_CLEAR v =
    { s.clearRegs ([0x048, 0x04C, 0x050, 0x064, 0x068].map (wreg x pgSLOW)) with slowRem := mapDel (2 * x) (mapDel (2 * x + 1) s.slowRem) } := by
  simp only [State.writeSlow, hv, if_true]

theorem State.writeClu_clear (cl x : Nat) : s.writeClu cl x Off.CLU_CNT_CLEAR v =
    { s.clearRegs (offRange (pgCLU cl) 0x040 0x06C) with moverRem := s.moverRem.filter fun p => p.1 / 4 != cl } := by
  simp [State.writeClu, hv]

theorem State.writeClu_coreClear (cl x : Nat) (hcore : s.coreEnabled cl x = true) : s.writeClu cl x Off.CORE_CNT_CLEAR v =
    s.clearRegs ((List.range 14).map fun i => wreg x (pgCLU cl) (0x818 + 4 * i)) := by
  simp [State.writeClu, inOff, Off.CORE_CNT_CLEAR, hcore, hv]

theorem State.writeClu_accReplays (cl x : Nat) (hcore : s.coreEnabled cl x = true) : s.writeClu cl x Off.CORE_ACC_REPLAYS v =
    s.clearRegs [wreg x (pgCLU cl) Off.CORE_ACC_REPLAYS] := by
  simp [State.writeClu, inOff, Off.CORE_ACC_REPLAYS, hcore, hv, State.clearRegs]

end

/-! ## Counts of a context (R63, R66, R132) -/

section
variable (s : State) {v : Word} (hv : bit v 0 = true)
include hv

theorem State.writeCtx_count (se c : Nat) {o : Nat} (ho : o = Off.CTX_SAT_COUNT ∨ o = Off.CTX_ACC_REPLAY_COUNT) :
    s.writeCtx se c o v = (0, s.wr (reg (pgCTX c) o) 0) := by
  rcases ho with rfl | rfl <;> simp [State.writeCtx, show ctxFixed Off.CTX_SAT_COUNT = false from rfl,
    show ctxFixed Off.CTX_ACC_REPLAY_COUNT = false from rfl, hv]

theorem State.writeCtx_nanStatus (se c : Nat) : s.writeCtx se c Off.CTX_NAN_STATUS v =
    (0, (s.wr (reg (pgCTX c) Off.CTX_NAN_STATUS) (s.rd (reg (pgCTX c) Off.CTX_NAN_STATUS) &&& ~~~v)).wr (reg (pgCTX c) Off.CTX_NAN_COUNT) 0) := by
  simp [State.writeCtx, State.clearNan, show ctxFixed Off.CTX_NAN_STATUS = false from rfl, hv]

end

section
variable {s : State} {se : SessIx} {v : Word} {c : Ctx} (hv : bit v 0 = true)
include hv

/-- Bit 0 written to a count of a context clears the count (R66, R132). -/
theorem State.ctxCount_cleared {o : Nat} (ho : o = Off.CTX_SAT_COUNT ∨ o = Off.CTX_ACC_REPLAY_COUNT)
    (h : s.mayWrite se (reg (pgCTX c.toNat) o) v = true) :
    ∃ t, s.commit (s.putCtx se c o v) = .next t ∧ (s.onlyRegs t ∧ ∀ r, r ∉ [reg (pgCTX c.toNat) o] → t.rd r = s.rd r) ∧
      t.rd (reg (pgCTX c.toNat) o) = 0 := by
  have hoff : o < 4096 := by rcases ho with rfl | rfl <;> decide
  have hw (u : State) : u.regWrite se.toNat (reg (pgCTX c.toNat) o) v = u.writeCtx se.toNat c.toNat o v := by
    rcases ho with rfl | rfl <;> exact State.regWrite_ctx _ v c (by decide) (by decide) rfl (by decide) (by decide)
  obtain ⟨t, ht, hk, hregs, hr⟩ := State.commit_put_stores h (pgCTX_lt c) hoff ((hw _).trans (State.writeCtx_count _ hv _ _ ho))
  exact ⟨t, ht, ⟨hregs, fun r hne => hr r (by simpa using hne)⟩, hk⟩

/-- Clearing FIRED re-arms the trap and zeroes the count (R63, R66). -/
theorem State.nanStatus_cleared (h : s.mayWrite se (reg (pgCTX c.toNat) Off.CTX_NAN_STATUS) v = true) :
    ∃ t, s.commit (s.putCtx se c Off.CTX_NAN_STATUS v) = .next t ∧
      (s.onlyRegs t ∧ ∀ r, r ∉ [reg (pgCTX c.toNat) Off.CTX_NAN_STATUS, reg (pgCTX c.toNat) Off.CTX_NAN_COUNT] → t.rd r = s.rd r) ∧
      t.rd (reg (pgCTX c.toNat) Off.CTX_NAN_STATUS) = s.rd (reg (pgCTX c.toNat) Off.CTX_NAN_STATUS) &&& ~~~v ∧
      t.rd (reg (pgCTX c.toNat) Off.CTX_NAN_COUNT) = 0 := by
  refine ⟨_, State.commit_put h (pgCTX_lt c) (by decide) ((State.regWrite_ctx _ v c (by decide) (by decide) rfl (by decide) (by decide)).trans
    (State.writeCtx_nanStatus _ hv _ _)), ⟨State.onlyRegs_replied h (by simp), fun r hr => ?_⟩, by simp [State.rd_wr], by simp⟩
  have hr' : r ≠ reg (pgCTX c.toNat) Off.CTX_NAN_STATUS ∧ r ≠ reg (pgCTX c.toNat) Off.CTX_NAN_COUNT := by simpa using hr
  simp [State.rd_wr, hr']

end

/-! ## Rows of a cluster's page -/

/-- The window of a core is that of the core which CLU_CORE_SEL of the session selects (R103). -/
theorem State.window_core (s : State) (se page : Nat) {o : Nat} (ho : inOff 0x800 o 0x8FF = true) :
    s.window se .clu page o = s.sel se page Off.CLU_CORE_SEL := by
  simp [State.window, windowSel, ho]

/-- A row of the page of a cluster in use that clears registers and remainders. -/
theorem State.onPage_clu_clears {s : State} {se : SessIx} {v : Word} {cl : Cluster} {o : Nat} {r : RegRow} {ks : List Nat} (hex : cluExists cl = true)
    (huse : s.cluUse cl.toNat ≠ .off) (h : s.mayWrite se (reg (pgCLU cl.toNat) o) v = true) (ho : 0x40 ≤ o) (ho' : o < 4096)
    (hrow : regRow .clu o = some r) (hro : r.acc ≠ .ro) (hrwl : r.acc ≠ .rwl) (hsel : isSel .clu o = false)
    (hclear : ∀ u : State, u.coreEnabled cl.toNat = s.coreEnabled cl.toNat →
      u.withRemainders (u.writeClu cl.toNat (s.window se.toNat .clu (pgCLU cl.toNat) o) o v) = u.withRemainders (u.clearRegs ks)) :
    ∃ t, s.onPage (cluExists cl) (s.putClu se cl o v) = .next t ∧ s.cleared t ks := by
  have hn : cl.toNat < 3000 := by simpa [cluExists] using hex
  have hwin (a : Nat) : (s.hearing se.toNat a v).window se.toNat .clu (pgCLU cl.toNat) o = s.window se.toNat .clu (pgCLU cl.toNat) o := by
    simp only [State.window, State.sel_hearing]
  rw [s.onPage_true hex]
  refine State.commit_put_clears h (pgCLU_lt cl) ho' (State.regWrite_clu _ v hn (by simpa using huse) ho ho' hrow hro (fun hl => absurd hl hrwl) hsel) ?_
  rw [hwin]
  exact hclear _ (funext fun _ => State.coreEnabled_hearing _ _ _ _ _ _)

/-! ## The obligation -/

/-- Settles O33: each clear zeroes its list of registers and drops the remainders of its unit. -/
theorem counterClearsOfUnits : Obligations.CounterClearsOfUnits := by
  unfold Obligations.CounterClearsOfUnits
  intro s se v st p cl x' hv x c pk core gone cx only may
  refine ⟨fun h hpres => ?hbm, fun h => ?slow, fun hp h hpres => ?eth, fun hex huse => ?cluster, State.nanStatus_cleared hv,
    State.ctxCount_cleared hv (Or.inl rfl), State.ctxCount_cleared hv (Or.inr rfl)⟩
  case hbm =>
    refine State.commit_put_clears h (by have := st.isLt; unfold pgHBM; omega) (by decide)
      (State.regWrite_hbm _ st (by simpa using hpres) (by decide) (by decide) rfl (by decide) (by decide)) ?_
    rw [State.writeHbm_clear hv]
    exact State.withRemainders_wcFence _ _ _
  case slow =>
    refine State.commit_put_clears h (by decide) (by decide) (State.regWrite_slow _ (by decide) (by decide) rfl (by decide) (by decide)) ?_
    rw [State.sel_hearing, State.writeSlow_clear hv]
    exact State.withRemainders_slowRem _ _ _
  case eth =>
    exact State.onPage_counters_cleared (decide_eq_true hp) hv h (by unfold pgETH; omega) (pageOf_span .eth hp) hpres (by decide) (by decide) rfl
      (by decide) (by decide) (by decide) rfl rfl fun _ => State.withRemainders_port _ _ _ _
  case cluster =>
    refine ⟨fun h => ?clu, fun h => ?rte, fun h hcore => ?core, fun h hcore => ?replays⟩
    case clu =>
      refine State.onPage_clu_clears hex huse h (by decide) (by decide) rfl (by decide) (by decide) rfl fun u _ => ?_
      rw [State.writeClu_clear hv]
      exact State.withRemainders_moverRem _ _ _
    case rte =>
      have hn : c < 3000 := by simpa [cluExists] using hex
      exact State.onPage_counters_cleared hex hv h (by unfold pgRTE; omega) (pageOf_span .rte hn) (decide_eq_true huse) (by decide) (by decide) rfl
        (by decide) (by decide) (by decide) rfl rfl fun _ => rfl
    case core =>
      refine State.onPage_clu_clears hex huse h (by decide) (by decide) rfl (by decide) (by decide) rfl fun u hu => ?_
      rw [s.window_core _ _ (o := Off.CORE_CNT_CLEAR) rfl, State.writeClu_coreClear hv _ _ (by rw [hu]; exact hcore)]
    case replays =>
      refine State.onPage_clu_clears hex huse h (by decide) (by decide) rfl (by decide) (by decide) rfl fun u hu => ?_
      rw [s.window_core _ _ (o := Off.CORE_ACC_REPLAYS) rfl, State.writeClu_accReplays hv _ _ (by rw [hu]; exact hcore)]

end Sys2Proof.Machine
end

section
/-! PROOFS. Weight loads and issues of passes (R75, R78, R93, R162). -/

namespace Sys2Proof.Machine

open Sys2Proof

/-- An event of a unit that the module has commits its effect. -/
theorem State.onUnit_exists (s : State) {b : Bool} (hb : b = true) (t : State) : s.onUnit b t = s.commit t := by rw [hb]; rfl

section
variable {s u : State} {cl core : Nat} {errs : List Damage} {p : Pass} {q : List Pass}

/-- The shadow load of the first pass of a queue latches what it reads, on a core that the ledger does not freeze (R75, R81, R162). -/
theorem State.weightLoad_latches {ws : List Val} {ix : List Nat} (hfirst : (s.getCore (coreKey cl core)).queue.find? Pass.isPass = some p)
    (hload : p.loaded = false) (hskip : s.allSkipped p = false) (hruns : s.engineRuns p.ctx .array = true) (hfrozen : s.coreFrozen cl core = false)
    (hdamage : s.passDamage cl core errs = (u, none)) (hlatch : u.latchWeights p = .ok (ws, ix)) :
    s.weightLoad cl core errs = u.modCore (coreKey cl core) fun r => r.setPass { p with loaded := true, wts := ws, idx := ix } := by
  simp [State.weightLoad, hfirst, hload, hskip, hruns, hfrozen, hdamage, hlatch]

/-- A context whose arrays have stopped loads no weights. -/
theorem State.weightLoad_stopped (hfirst : (s.getCore (coreKey cl core)).queue.find? Pass.isPass = some p)
    (hruns : s.engineRuns p.ctx .array = false) : s.weightLoad cl core errs = s := by
  simp [State.weightLoad, hfirst, hruns]

/-- A ready pass at the head of a queue issues, after the correction of what it reads (R78, R518). -/
theorem State.passIssue_ready (hqueue : (s.getCore (coreKey cl core)).queue = p :: q) (hready : s.passReady cl core p = true)
    (hdamage : s.passDamage cl core errs = (u, none)) : s.passIssue cl core errs = u.issueOnCore cl core p := by
  simp [State.passIssue, hqueue, hready, hdamage]

/-- A head that is not ready stays where it is. -/
theorem State.passIssue_waits (hqueue : (s.getCore (coreKey cl core)).queue = p :: q) (hready : s.passReady cl core p = false) :
    s.passIssue cl core errs = s := by
  simp [State.passIssue, hqueue, hready]

/-- No pass of a context whose arrays have stopped is ready (R93). -/
theorem State.passReady_stopped (hruns : s.engineRuns p.ctx .array = false) : s.passReady cl core p = false := by
  simp [State.passReady, hruns]

end

/-- Settles O21: a load sets the record of its pass alone, a ready head is issued, and a stopped array does neither. -/
theorem passesLoadAndIssue : Obligations.PassesLoadAndIssue := by
  unfold Obligations.PassesLoadAndIssue
  intro s cl core errs p q ws ix u key hcore
  refine ⟨fun hfirst hload hskip hruns hfrozen hdamage hlatch => ?load, fun hqueue hruns hpass => ⟨?stoppedLoad, ?stoppedIssue⟩,
    fun hqueue hready hdamage => ?issue⟩
  case load =>
    refine ⟨_, (s.onUnit_exists hcore _).trans (congrArg s.commit (State.weightLoad_latches hfirst hload hskip hruns hfrozen hdamage hlatch)), rfl,
      fun k hk => ?_, ?_⟩
    · exact u.getCore_setCore_other _ hk
    · exact u.getCore_setCore_self key _
  case stoppedLoad =>
    have hfirst : (s.getCore key).queue.find? Pass.isPass = some p := by rw [hqueue, List.find?_cons_of_pos hpass]
    exact (s.onUnit_exists hcore _).trans (congrArg s.commit (State.weightLoad_stopped hfirst hruns))
  case stoppedIssue =>
    exact (s.onUnit_exists hcore _).trans (congrArg s.commit (State.passIssue_waits hqueue (State.passReady_stopped hruns)))
  case issue =>
    exact (s.onUnit_exists hcore _).trans (congrArg s.commit (State.passIssue_ready hqueue hready hdamage))

end Sys2Proof.Machine
end

section
/-! SUPPORT. What the retire of a pass leaves of memory and of the registers in the windows of cores (R12, R103, R130, R231, R254). -/

namespace Sys2Proof.Machine

open Sys2Proof

/-! ## Keys of a window's registers (R12, R13) -/

section
variable (w p : Nat) {a b : Nat}

/-- Registers of one window and page have different keys at different offsets. -/
theorem wreg_ne (h : a ≠ b) : wreg w p a ≠ wreg w p b := by simpa [wreg] using h

theorem wreg_add_ne (h : a + 4 ≠ b) : wreg w p a + 4 ≠ wreg w p b := by unfold wreg reg; omega

end

/-! ## What a retire leaves of the registers of a window (R12, R103) -/

/-- Memory and the registers that a selection register presents are as before: their keys lie above every control address (R12). -/
def State.keepsWindows (s t : State) : Prop := t.mem = s.mem ∧ ∀ k, 2 ^ 28 ≤ k → t.rd k = s.rd k

theorem wreg_ge (w p o : Nat) : 2 ^ 28 ≤ wreg w p o := by unfold wreg; omega

/-- The pages of the module's 16,384 contexts hold no register of a window (R254, R588). -/
theorem reg_pgCTX_lt {c o : Nat} (hc : c < 16384) (ho : o < 4096) : reg (pgCTX c) o < 2 ^ 28 := reg_lt (by unfold pgCTX; omega) ho

theorem semKey_lt {c n : Nat} (hc : c < 16384) (hn : n < 256) : semKey c n < 2 ^ 28 := reg_pgCTX_lt hc (by unfold Off.CTX_SEMn; omega)

theorem Cmd.sigSem_lt (w : Cmd) : w.sigSem < 256 := Nat.mod_lt _ (by decide)

section
variable {s t u : State}

theorem State.keepsWindows_of_eq (hmem : t.mem = s.mem) (hregs : t.regs = s.regs) : s.keepsWindows t :=
  ⟨hmem, fun k _ => congrArg (mapGet (resetReg k) · k) hregs⟩

theorem State.keepsWindows_trans (hst : s.keepsWindows t) (htu : t.keepsWindows u) : s.keepsWindows u :=
  ⟨htu.1.trans hst.1, fun k hk => (htu.2 k hk).trans (hst.2 k hk)⟩

theorem State.keepsWindows_wr (s : State) {j : Nat} (v : Word) (hj : j < 2 ^ 28) : s.keepsWindows (s.wr j v) :=
  ⟨rfl, fun _ hk => s.rd_wr_other v (by omega)⟩

theorem State.keepsWindows_wr64 (s : State) {j : Nat} (v : DWord) (hj : j + 4 < 2 ^ 28) : s.keepsWindows (s.wr64 j v) :=
  ⟨rfl, fun _ hk => s.rd_wr64_other v (by omega) (by omega)⟩

/-- A pair reads as both its halves do (R13). -/
theorem State.rd64_congr {k : Nat} (hlow : t.rd k = s.rd k) (hhigh : t.rd (k + 4) = s.rd (k + 4)) : t.rd64 k = s.rd64 k := by
  rw [State.rd64, State.rd64, hlow, hhigh]

theorem State.keepsWindows_rd (h : s.keepsWindows t) (w p o : Nat) : t.rd (wreg w p o) = s.rd (wreg w p o) := h.2 _ (wreg_ge w p o)

theorem State.keepsWindows_rd64 (h : s.keepsWindows t) (w p o : Nat) : t.rd64 (wreg w p o) = s.rd64 (wreg w p o) :=
  State.rd64_congr (h.2 _ (wreg_ge w p o)) (h.2 _ (Nat.le_add_right_of_le (wreg_ge w p o)))

/-- A counter of 64 bits beside a register just written: the register holds what was written, and the counter one more. -/
theorem State.inc64_wr (s : State) {j k : Nat} (v : Word) (hlow : k ≠ j) (hhigh : k + 4 ≠ j) :
    ((s.wr j v).inc64 k).mem = s.mem ∧ ((s.wr j v).inc64 k).rd j = v ∧ ((s.wr j v).inc64 k).rd64 k = satAdd (s.rd64 k) 1 := by
  refine ⟨rfl, ?_, ?_⟩
  · exact (State.rd_wr64_other _ _ hlow.symm hhigh.symm).trans (s.rd_wr_self _ _)
  · exact (State.rd64_wr64_self _ _ _).trans (congrArg (satAdd · 1) (State.rd64_congr (s.rd_wr_other _ hlow) (s.rd_wr_other _ hhigh)))

end

section
variable (s : State) {c : Nat} (hc : c < 16384)
include hc

theorem State.keepsWindows_setPar {n : Nat} (hn : n < 64) (v : DWord) : s.keepsWindows (s.setPar c n v) := by
  have hnote : s.keepsWindows (s.notePar c n) := by
    unfold State.notePar
    split
    · exact s.keepsWindows_wr _ (reg_pgCTX_lt hc (by decide))
    · exact State.keepsWindows_of_eq rfl rfl
  have hkey : reg (pgCTX c) (Off.CTX_PARn_LO + 8 * n) + 4 < 2 ^ 28 := by unfold reg pgCTX Off.CTX_PARn_LO; omega
  exact State.keepsWindows_trans hnote (State.keepsWindows_wr64 _ _ hkey)

theorem State.keepsWindows_signal {n : Nat} (hn : n < 256) (k : Nat) : s.keepsWindows (s.signal c n k) := by
  have hsem : s.keepsWindows (s.wr (semKey c n) (satAdd (s.sem c n) k)) := s.keepsWindows_wr _ (semKey_lt hc hn)
  unfold State.signal
  dsimp only
  split
  · exact State.keepsWindows_trans hsem (State.keepsWindows_wr _ _ (reg_pgCTX_lt hc (by decide)))
  · exact hsem

theorem State.keepsWindows_retireCmd (l : Live) : s.keepsWindows (s.retireCmd c l) := by
  unfold State.retireCmd
  dsimp only
  generalize hleft : (s.modCtx c fun r => { r with live := r.live.filter fun x => x.id != l.id }).releaseCmd c l.id = t
  have ht : s.keepsWindows t := by
    subst hleft
    exact State.keepsWindows_of_eq (State.releaseCmd_mem _ _ _) (State.releaseCmd_regs _ _ _)
  split
  · exact ht
  · exact State.keepsWindows_trans ht (State.keepsWindows_signal _ hc (Cmd.sigSem_lt l.w) _)

theorem State.keepsWindows_retireOne (id : Nat) : s.keepsWindows (s.retireOne c id) := by
  unfold State.retireOne
  split
  · exact State.keepsWindows_of_eq rfl rfl
  · split
    · exact s.keepsWindows_retireCmd hc _
    · exact State.keepsWindows_of_eq rfl rfl

end

/-- The current of an operation is released without a write. -/
theorem State.keepsWindows_releaseOp (s : State) (cl core : Nat) (p : Pass) : s.keepsWindows (s.releaseOp cl core p) := by
  unfold State.releaseOp
  dsimp only
  split
  · split
    · exact State.keepsWindows_of_eq rfl rfl
    · exact State.keepsWindows_of_eq (State.releaseUnits_mem _ _ _) (State.releaseUnits_regs _ _ _)
  · exact State.keepsWindows_of_eq (State.releaseUnits_mem _ _ _) (State.releaseUnits_regs _ _ _)

/-- The registers of a core as a pass on it retires: its status word, and the count of passes (R103, R130). -/
def State.notePass (s : State) (cl core : Nat) (p : Pass) : State :=
  (s.wr (wreg core (pgCLU cl) Off.CORE_ACC_STATUS) p.statusWord).inc64 (wreg core (pgCLU cl) Off.CORE_PASSES_LO)

/-- The status of a retired pass in its context's summary and in its command in flight (R132, R235). -/
def State.mergeStatus (s : State) (p : Pass) : State :=
  let sk := reg (pgCTX p.ctx) Off.CTX_ACC_SUMMARY
  (s.wr sk (s.rd sk ||| BitVec.ofNat 32 (b2n (fld p.statusWord 0 4 ≠ 0) + fld p.statusWord 4 4 * 2))).modCtx p.ctx fun r =>
    { r with live := r.live.map fun l => if l.id == p.id then l.merge p.statusWord else l }

section
variable (s : State) (cl core : Nat) {p : Pass}

/-- A pass with a destination other than DRAIN has no statistics to store (R87). -/
theorem State.storeStats_of_not_drain (hdest : p.dest ≠ .drain) : s.storeStats cl core p = s := by
  simp [State.storeStats, hdest]

theorem State.passNaNs_nil (hnans : p.nans = []) : s.passNaNs cl core p = s := by
  simp [State.passNaNs, State.nanEvents, hnans]

theorem State.keepsWindows_mergeStatus (hc : p.ctx < 16384) : s.keepsWindows (s.mergeStatus p) :=
  State.keepsWindows_trans (s.keepsWindows_wr _ (reg_pgCTX_lt hc (by decide))) (State.keepsWindows_of_eq rfl rfl)

/-- A pass of a context of the module that retires writes the registers of its core alone among those of a window (R130, R132, R231, R235, R254). -/
theorem State.keepsWindows_retirePass (hc : p.ctx < 16384) (hdest : p.dest ≠ .drain) (hnans : p.nans = []) :
    ((s.releaseOp cl core p).notePass cl core p).keepsWindows (s.retirePass cl core p) := by
  unfold State.retirePass
  rw [s.storeStats_of_not_drain cl core hdest, State.passNaNs_nil _ cl core hnans]
  refine State.keepsWindows_trans (State.keepsWindows_trans (State.keepsWindows_mergeStatus _ hc) ?report) (State.keepsWindows_retireOne _ hc _)
  case report =>
    split
    · split
      · exact State.keepsWindows_setPar _ hc (Nat.mod_lt _ (by decide)) _
      · exact State.keepsWindows_of_eq rfl rfl
    · exact State.keepsWindows_of_eq rfl rfl

end

/-! ## The registers of a core at PASS_RETIRE (R82, R103, R130) -/

theorem State.notePass_registers (s : State) (cl core : Nat) (p : Pass) : (s.notePass cl core p).mem = s.mem ∧
    (s.notePass cl core p).rd (wreg core (pgCLU cl) Off.CORE_ACC_STATUS) = p.statusWord ∧
    (s.notePass cl core p).rd64 (wreg core (pgCLU cl) Off.CORE_PASSES_LO) = satAdd (s.rd64 (wreg core (pgCLU cl) Off.CORE_PASSES_LO)) 1 :=
  s.inc64_wr _ (wreg_ne _ _ (by decide)) (wreg_add_ne _ _ (by decide))

/-- A pass of a context of the module that retires leaves its status word and one more pass, and no memory is written (R103, R130). -/
theorem State.retirePass_registers (s : State) (cl core : Nat) {p : Pass} (hc : p.ctx < 16384) (hdest : p.dest ≠ .drain) (hnans : p.nans = []) :
    (s.retirePass cl core p).mem = s.mem ∧ (s.retirePass cl core p).rd (wreg core (pgCLU cl) Off.CORE_ACC_STATUS) = p.statusWord ∧
    (s.retirePass cl core p).rd64 (wreg core (pgCLU cl) Off.CORE_PASSES_LO) = satAdd (s.rd64 (wreg core (pgCLU cl) Off.CORE_PASSES_LO)) 1 := by
  have hkeep := s.keepsWindows_retirePass cl core hc hdest hnans
  have hrelease := s.keepsWindows_releaseOp cl core p
  obtain ⟨hmem, hstatus, hpasses⟩ := (s.releaseOp cl core p).notePass_registers cl core p
  rw [State.keepsWindows_rd64 hrelease] at hpasses
  exact ⟨(hkeep.1.trans hmem).trans hrelease.1, (State.keepsWindows_rd hkeep _ _ _).trans hstatus, (State.keepsWindows_rd64 hkeep _ _ _).trans hpasses⟩

/-- Frozen cycles are counted in the counters of their three causes (R82). -/
theorem State.countFreeze_other (s : State) (cl core : Nat) (frz : List Freeze) {k : Nat} (hdrain : k ≠ wreg core (pgCLU cl) Off.CORE_FREEZE_DRAIN)
    (hfeed : k ≠ wreg core (pgCLU cl) Off.CORE_FREEZE_FEED) (hweight : k ≠ wreg core (pgCLU cl) Off.CORE_FREEZE_WEIGHT) :
    (s.countFreeze cl core frz).mem = s.mem ∧ (s.countFreeze cl core frz).rd k = s.rd k := by
  unfold State.countFreeze
  refine foldl_keeps (fun t : State => t.mem = s.mem ∧ t.rd k = s.rd k) _ (fun t f ht => ?_) frz s ⟨rfl, rfl⟩
  have hinc {j : Nat} (hj : k ≠ j) (n : Nat) : (t.inc j n).mem = s.mem ∧ (t.inc j n).rd k = s.rd k := ⟨ht.1, (t.rd_wr_other _ hj).trans ht.2⟩
  split
  · exact hinc hdrain _
  · split
    · exact hinc hfeed _
    · split
      · exact hinc hweight _
      · exact ht

/-- The count of passes is no counter of frozen cycles (R82, R103). -/
theorem State.countFreeze_passes (s : State) (cl core : Nat) (frz : List Freeze) : (s.countFreeze cl core frz).mem = s.mem ∧
    (s.countFreeze cl core frz).rd64 (wreg core (pgCLU cl) Off.CORE_PASSES_LO) = s.rd64 (wreg core (pgCLU cl) Off.CORE_PASSES_LO) := by
  obtain ⟨hmem, hlow⟩ := s.countFreeze_other cl core frz (wreg_ne core (pgCLU cl) (a := Off.CORE_PASSES_LO) (by decide))
    (wreg_ne _ _ (by decide)) (wreg_ne _ _ (by decide))
  obtain ⟨-, hhigh⟩ := s.countFreeze_other cl core frz (wreg_add_ne core (pgCLU cl) (a := Off.CORE_PASSES_LO) (by decide))
    (wreg_add_ne _ _ (by decide)) (wreg_add_ne _ _ (by decide))
  exact ⟨hmem, State.rd64_congr hlow hhigh⟩

/-- Rows written to a tile, or handed on, change no memory and no register, and the pass keeps its context and its destination (R74). -/
theorem State.commitRows_keeps {s u : State} {cl core : Nat} {p q : Pass} {v : Nat} (h : s.commitRows cl core p v = .ok (u, q)) (hdest : p.dest ≠ .drain) :
    s.keepsWindows u ∧ q.ctx = p.ctx ∧ q.dest = p.dest := by
  unfold State.commitRows at h
  dsimp only at h
  split at h
  case h_1 | h_2 | h_3 => cases h; exact ⟨State.keepsWindows_of_eq rfl rfl, rfl, rfl⟩
  case h_4 hdrain => exact absurd hdrain hdest

end Sys2Proof.Machine
end

section
/-! PROOFS. Hazard waits, replays, and retires of passes and tile drains (R77, R81, R95, R103, R115, R130, R225), and a retire whose signal lands on CORE_ACC_STATUS. -/

namespace Sys2Proof.Machine

open Sys2Proof

/-! ## Hazard waits and replays -/

/-- The cycles that an operation waited at issue, added to the counter of each cause that held it (R77, R85, R95, R103). -/
def State.countStalls (s : State) (cl core stall : Nat) (n : StallCycles) : State :=
  let t := if stall % 2 = 1 then s.inc (wreg core (pgCLU cl) Off.CORE_HAZARD_STALLS) n.tile.toNat else s
  if 2 ≤ stall then t.inc (wreg core (pgCLU cl) Off.CORE_ISSUE_STALLS) n.issue.toNat else t

section
variable (s : State) (cl core : Nat) (n : StallCycles)

theorem State.withRegs_inc (u : State) (k m : Nat) : s.withRegs (u.inc k m) = s.withRegs u := s.withRegs_wr u k _

/-- Cycles of a wait are counted in registers. -/
theorem State.countStalls_frame (stall : Nat) : s.withRegs (s.countStalls cl core stall n) = s := by
  unfold State.countStalls
  split <;> split <;> simp only [State.withRegs_inc, State.withRegs_self]

@[simp] theorem State.countStalls_getCore (stall k : Nat) : (s.countStalls cl core stall n).getCore k = s.getCore k :=
  (congrArg (State.getCore · k) (s.countStalls_frame cl core n stall) :)

theorem State.rd_countStalls_tile {stall : Nat} (h : stall % 2 = 1) : (s.countStalls cl core stall n).rd (wreg core (pgCLU cl) Off.CORE_HAZARD_STALLS) =
    satAdd (s.rd (wreg core (pgCLU cl) Off.CORE_HAZARD_STALLS)) n.tile.toNat := by
  unfold State.countStalls
  rw [if_pos h]
  split
  · exact (State.rd_wr_other _ _ (wreg_ne _ _ (by decide))).trans (s.rd_wr_self _ _)
  · exact s.rd_wr_self _ _

theorem State.rd_countStalls_issue {stall : Nat} (h : 2 ≤ stall) : (s.countStalls cl core stall n).rd (wreg core (pgCLU cl) Off.CORE_ISSUE_STALLS) =
    satAdd (s.rd (wreg core (pgCLU cl) Off.CORE_ISSUE_STALLS)) n.issue.toNat := by
  unfold State.countStalls
  dsimp only
  rw [if_pos h]
  refine (State.rd_wr_self _ _ _).trans (congrArg (satAdd · _) ?_)
  split
  · exact s.rd_wr_other _ (wreg_ne _ _ (by decide))
  · rfl

end

section
variable {s : State} {cl core : Nat} {p : Pass} {l : List Pass}

/-- The wait of a head is over: the counter of each cause that held it takes its cycles, and the head goes on (R77, R95, R103). -/
theorem State.hazardEnd_goes (n : StallCycles) (hqueue : (s.getCore (coreKey cl core)).queue = p :: l) (hstall : p.stall ≠ 0)
    (hclear : (s.getCore (coreKey cl core)).clear p = true) (hruns : s.engineRuns p.ctx (if p.isPass then .array else .tileDrain) = true) :
    s.hazardEnd cl core n = (s.countStalls cl core p.stall n).modCore (coreKey cl core) CoreRec.settle := by
  simp only [State.hazardEnd, hqueue]
  rw [if_pos (by simp [hstall, hclear, hruns])]
  rfl

/-- A replay that is due runs on a core that the ledger does not freeze (R115, R298). -/
theorem State.accReplay_due (hdue : s.replayDue cl core = some p) (hruns : s.engineRuns p.ctx .array = true)
    (hfrozen : s.frozenPass cl core p = false) : s.accReplay cl core = s.replay cl core p := by
  simp [State.accReplay, hdue, hruns, hfrozen]

end

/-! ## Retires -/

section
variable {s u v : State} {cl core : Nat} {p q : Pass}

/-- The oldest finished pass of an array retires once its rows are written (R78, R82). -/
theorem State.passRetire_retires (frz : List Freeze)
    (hdone : (s.getCore (coreKey cl core)).air.find? (fun x => x.isPass && s.passDone cl core x) = some p) (hruns : s.engineRuns p.ctx .array = true)
    (hfrozen : s.frozenPass cl core p = false) (hrows : (s.countFreeze cl core frz).commitRows cl core p p.m = .ok (u, q)) :
    s.passRetire cl core frz = (u.retirePass cl core q).modCore (coreKey cl core) CoreRec.proceed := by
  simp [State.passRetire, State.finishPass, hdone, hruns, hfrozen, hrows]

/-- A tile drain that meets no damage and no poison retires once its rows are written (R97, R225). -/
theorem State.drainRetire_retires {errs : List Damage} (hdrain : (s.getCore (coreKey cl core)).air.find? (fun x => !x.isPass) = some p)
    (hruns : s.engineRuns p.ctx .tileDrain = true) (hfrozen : s.coreFrozen cl core = false) (hdamage : s.passDamage cl core errs = (v, none))
    (hpoison : readsPoison (v.getCore (coreKey cl core)) p (v.domOf p.ctx) = false) (hrows : v.runTileDrain cl core p = .ok (u, q)) :
    s.drainRetire cl core errs = (u.retireDrain cl core q).modCore (coreKey cl core) CoreRec.proceed := by
  simp [State.drainRetire, hdrain, hruns, hfrozen, hdamage, hpoison, hrows]

/-- On a core that the ledger freezes no pass retires (R81). -/
theorem State.passRetire_frozen (frz : List Freeze) (hfrozen : s.coreFrozen cl core = true) : s.passRetire cl core frz = s := by
  unfold State.passRetire
  split <;> simp [State.frozenPass, hfrozen]

/-- On a core that the ledger freezes no tile drain retires (R81). -/
theorem State.drainRetire_frozen (errs : List Damage) (hfrozen : s.coreFrozen cl core = true) : s.drainRetire cl core errs = s := by
  unfold State.drainRetire
  dsimp only
  split <;> simp [hfrozen]

end

/-! ## The rows of passes in flight -/

/-- A record of a core that changes last leaves what is committed its memory, its contexts and its registers. -/
theorem State.commit_modCore (s t : State) (k : Nat) (f : CoreRec → CoreRec) : ∃ r, s.commit (t.modCore k f) = .next r ∧
    r.getCore k = f (t.getCore k) ∧ r.mem = t.mem ∧ r.ctx = t.ctx ∧ (∀ j, r.rd j = t.rd j) ∧ ∀ j, r.rd64 j = t.rd64 j :=
  ⟨_, rfl, t.getCore_setCore_self k _, rfl, rfl, fun _ => rfl, fun _ => rfl⟩

/-- What O22 says, with the bound of R254 on the context of a pass that retires: the other rows need none. -/
theorem passesReplayAndRetire_of_context (s : State) (cl : Cluster) (core : CoreIx) (n : StallCycles) (errs : List Damage) (frz : List Freeze)
    (p q : Pass) (l : List Pass) (u v : State) (hcore : coreExists cl core = true) :
    let key := coreKey cl.toNat core.toNat
    let reg' (off : Nat) := wreg core.toNat (pgCLU cl.toNat) off
    ((s.getCore key).queue = p :: l → p.stall ≠ 0 → (s.getCore key).clear p = true →
      s.engineRuns p.ctx (if p.isPass then .array else .tileDrain) = true → ∃ t, exec (.hazardWaitEnd cl core n) s = .next t ∧
        t.getCore key = (s.getCore key).settle ∧ t.mem = s.mem ∧ t.ctx = s.ctx ∧
        (p.stall % 2 = 1 → t.rd (reg' Off.CORE_HAZARD_STALLS) = satAdd (s.rd (reg' Off.CORE_HAZARD_STALLS)) n.tile.toNat) ∧
        (2 ≤ p.stall → t.rd (reg' Off.CORE_ISSUE_STALLS) = satAdd (s.rd (reg' Off.CORE_ISSUE_STALLS)) n.issue.toNat)) ∧
    (s.replayDue cl.toNat core.toNat = some p → s.engineRuns p.ctx .array = true → s.frozenPass cl.toNat core.toNat p = false →
      exec (.accReplay cl core) s = .next { s.replay cl.toNat core.toNat p with pending := s.pending }) ∧
    (p.ctx < 16384 → (s.getCore key).air.find? (fun x => x.isPass && s.passDone cl.toNat core.toNat x) = some p → s.engineRuns p.ctx .array = true →
      s.frozenPass cl.toNat core.toNat p = false → p.dest ≠ .drain →
      (s.countFreeze cl.toNat core.toNat frz).commitRows cl.toNat core.toNat p p.m = .ok (u, q) → q.nans = [] →
      ∃ t, exec (.passRetire cl ⟨core, frz⟩) s = .next t ∧
        t.mem = s.mem ∧ t.rd (reg' Off.CORE_ACC_STATUS) = q.statusWord ∧
        t.rd64 (reg' Off.CORE_PASSES_LO) = satAdd (s.rd64 (reg' Off.CORE_PASSES_LO)) 1) ∧
    ((s.getCore key).air.find? (fun x => !x.isPass) = some p → s.engineRuns p.ctx .tileDrain = true → s.coreFrozen cl.toNat core.toNat = false →
      s.passDamage cl.toNat core.toNat errs = (v, none) → readsPoison (v.getCore key) p (v.domOf p.ctx) = false →
      v.runTileDrain cl.toNat core.toNat p = .ok (u, q) →
      exec (.tileDrainRetire cl ⟨core, errs⟩) s =
        .next { (u.retireDrain cl.toNat core.toNat q).modCore key CoreRec.proceed with pending := s.pending }) ∧
    (s.coreFrozen cl.toNat core.toNat = true → exec (.passRetire cl ⟨core, frz⟩) s = .next s ∧ exec (.tileDrainRetire cl ⟨core, errs⟩) s = .next s) := by
  intro key reg'
  have run {t t' : State} (h : t = t') : s.onUnit (coreExists cl core) t = s.commit t' := h ▸ s.onUnit_exists hcore t
  refine ⟨fun hqueue hstall hclear hruns => ?hazard, fun hdue hruns hfrozen => run (State.accReplay_due hdue hruns hfrozen),
    fun hctx hdone hruns hfrozen hdest hrows hnans => ?retire,
    fun hdrain hruns hfrozen hdamage hpoison hrows => run (State.drainRetire_retires hdrain hruns hfrozen hdamage hpoison hrows),
    fun hfrozen => ⟨run (State.passRetire_frozen frz hfrozen), run (State.drainRetire_frozen errs hfrozen)⟩⟩
  case hazard =>
    have hframe := s.countStalls_frame cl.toNat core.toNat n p.stall
    obtain ⟨t, ht, hget, hmem, hctx, hrd, -⟩ := s.commit_modCore (s.countStalls cl.toNat core.toNat p.stall n) key CoreRec.settle
    refine ⟨t, (run (State.hazardEnd_goes n hqueue hstall hclear hruns)).trans ht, ?_, hmem.trans (congrArg State.mem hframe :),
      hctx.trans (congrArg State.ctx hframe :), fun h => ?_, fun h => ?_⟩
    · rw [hget, State.countStalls_getCore]
    · rw [hrd, State.rd_countStalls_tile _ _ _ _ h]
    · rw [hrd, State.rd_countStalls_issue _ _ _ _ h]
  case retire =>
    obtain ⟨hrowsKeep, hqctx, hqdest⟩ := State.commitRows_keeps hrows hdest
    obtain ⟨hfreezeMem, hfreezePasses⟩ := s.countFreeze_passes cl.toNat core.toNat frz
    obtain ⟨hretireMem, hstatus, hpasses⟩ := u.retirePass_registers cl.toNat core.toNat (hqctx ▸ hctx) (hqdest ▸ hdest) hnans
    rw [State.keepsWindows_rd64 hrowsKeep, hfreezePasses] at hpasses
    obtain ⟨t, ht, -, hmem, -, hrd, hrd64⟩ := s.commit_modCore (u.retirePass cl.toNat core.toNat q) key CoreRec.proceed
    exact ⟨t, (run (State.passRetire_retires frz hdone hruns hfrozen hrows)).trans ht, hmem.trans (hretireMem.trans (hrowsKeep.1.trans hfreezeMem)),
      (hrd _).trans hstatus, (hrd64 _).trans hpasses⟩

/-! ## A pass of a context that the module does not have -/

/-- A number far past the 16,384 contexts of R254: the keys of the registers of its page are those of the window of core 0 of cluster 0. -/
def strayCtx : Nat := 2 ^ 16 + pgCLU 0 - pgCTX 0

/-- A pass of one row that overwrites tile 0, with SIG_SEM 34 and SIG_INC 1. -/
def straySignal : Cmd := ⟨BitVec.ofNat 64 (0x10 + 34 * 2 ^ 36 + 2 ^ 44), 0, 1, 0⟩

/-- The semaphore that it signals is CORE_ACC_STATUS of the core. -/
theorem semKey_strayCtx : semKey strayCtx straySignal.sigSem = wreg 0 (pgCLU 0) Off.CORE_ACC_STATUS := by decide

/-- Its one row has left the array. -/
def strayPass : Pass :=
  { ctx := strayCtx, id := 0, isPass := true, off := 0, w := straySignal, step := 0, a := none, b := none, c := none, d := none, next := 0,
    chain := none, pos := 0, tail := true, granted := true, phase := .flush, loaded := true, wts := [], win := 0, replays := 0, stat := 0,
    ovf := none, nans := [], smax := [], ssum := [], refs := [], stall := 0, rows := [⟨List.replicate 4 { q := 5 }, none, 0, false⟩] }

/-- The pass stands in the array of core 0, and its command is in flight. -/
def straySweep : State :=
  { ctx := [(strayCtx, { run := .running, live := [{ id := 0, off := 0, w := straySignal, left := 1 }] })], cores := [(0, { air := [strayPass] })] }

/-- The pass writes its row, its status word is 0, and the signal of its command adds 1 to it (R130, R231). -/
theorem commitRows_straySweep : ∃ u q, (straySweep.countFreeze 0 0 []).commitRows 0 0 strayPass strayPass.m = .ok (u, q) ∧ q.nans = [] ∧
    q.statusWord = 0 ∧ (u.retirePass 0 0 q).rd (semKey strayCtx straySignal.sigSem) = 1 := ⟨_, _, rfl, by decide, by decide, by decide⟩

/-- Refutes O22: its clause on PASS_RETIRE does not bound the context of the pass, and the signal of `strayPass`, of a context that the module does not
have, falls on CORE_ACC_STATUS. -/
theorem not_passesReplayAndRetire : ¬ Obligations.PassesReplayAndRetire := by
  unfold Obligations.PassesReplayAndRetire
  intro h
  obtain ⟨u, q, hrows, hnans, hword, hread⟩ := commitRows_straySweep
  have hdone : (straySweep.getCore 0).air.find? (fun x => x.isPass && straySweep.passDone 0 0 x) = some strayPass := by decide
  have hruns : straySweep.engineRuns strayPass.ctx .array = true := by decide
  have hfrozen : straySweep.frozenPass 0 0 strayPass = false := by decide
  obtain ⟨-, -, hretire, -, -⟩ := h straySweep 0 0 ⟨0, 0⟩ [] [] strayPass q [] u u (by decide)
  obtain ⟨t, ht, -, hstatus, -⟩ := hretire hdone hruns hfrozen (by decide) hrows hnans
  obtain ⟨t', ht', -, -, -, hrd, -⟩ := straySweep.commit_modCore (u.retirePass 0 0 q) (coreKey 0 0) CoreRec.proceed
  have hexec : exec (.passRetire 0 ⟨0, []⟩) straySweep = .next t' :=
    (congrArg straySweep.commit (State.passRetire_retires [] hdone hruns hfrozen hrows)).trans ht'
  have hsame : t = t' := Host.Outcome.next.inj (ht.symm.trans hexec)
  have hstatus' : t'.rd (wreg 0 (pgCLU 0) Off.CORE_ACC_STATUS) = q.statusWord := hsame ▸ hstatus
  rw [hrd, ← semKey_strayCtx, hread, hword] at hstatus'
  exact absurd hstatus' (by decide)

end Sys2Proof.Machine
end

section
/-! SUPPORT. Issue of the commands of a cluster's engines: what the front end takes, the clusters of a partition, the current that units ask for, and what joins the commands in flight (R215, R216, R231, R233, R242, R248, R278, R285). -/

namespace Sys2Proof.Machine

open Sys2Proof

/-! ## What the front end takes (R231, R233, R248) -/

/-- A well-formed stream row runs the front end. -/
theorem streamRow_wf {op : Nat} {c : Ctx} {w : Cmd} {s : State} (h : opcodeOk op w = true) : streamRow op c w s = s.commit (s.frontEnd c.toNat w) := by
  refine streamRow_own op c w s ?_
  simpa only [opcodeOk, Bool.or_eq_true, decide_eq_true_eq, Bool.not_eq_true'] using h

section
variable {s : State} {c : Nat} {w : Cmd} {a : Admitted}

/-- What it takes that the front end of a context takes a command now. -/
theorem State.ready_iff : s.ready c w = true ↔ (s.getCtx c).run = .running ∧ (s.getCtx c).held = none ∧ (s.getCtx c).chainLeft = 0 ∧
    (w.condEn && s.cond c w.condSel == w.condNeg) = false ∧ w.waitDec ≤ (s.sem c w.waitSem).toNat ∧ (w.fence = false ∨ (s.getCtx c).live = []) := by
  unfold State.ready
  generalize (w.condEn && s.cond c w.condSel == w.condNeg) = skips
  simp [Option.isNone_iff_eq_none, and_assoc]

theorem State.admits_iff : s.admits c w a = true ↔ s.admission c (s.pc c).toNat w = .ok (a, 0) := by
  unfold State.admits
  split
  case h_1 x hx => simp [hx, Prod.ext_iff]
  case h_2 f hf => simp [hf]

/-- Checks 1 to 7 accept listed opcodes of their own engine class only (R221, R248). -/
theorem State.admitFirst_class {off : Nat} (h : s.admitFirst c off w = .ok a) : ∃ ic, opInfo w.opcode = some (w.eclass, ic) := by
  unfold State.admitFirst at h
  dsimp only at h
  split at h
  · cases h
  · next ec ic hinfo =>
    split at h
    · cases h
    · split at h
      · cases h
      · next hclass => exact ⟨ic, by rw [hinfo, not_not.1 hclass]⟩

/-- An admitted command has the engine class of its opcode (R221, R248). -/
theorem State.admits_class (h : s.admits c w a = true) : ∃ ic, opInfo w.opcode = some (w.eclass, ic) := by
  rw [State.admits_iff] at h
  unfold State.admission at h
  cases hfirst : s.admitFirst c (s.pc c).toNat w with
  | error f => rw [hfirst] at h; cases h
  | ok b => exact State.admitFirst_class hfirst

/-- A command that the front end takes and admission accepts, and that has nothing more to wait for, issues (R233). -/
theorem State.frontEnd_issue (hready : s.ready c w = true) (hadmits : s.admits c w a = true) (hloop : w.opcode ≠ 7) (hwait : s.issueWait c w a = none) :
    s.frontEnd c w = s.issue c (s.pc c).toNat w a none := by
  obtain ⟨hrun, hheld, hchain, hcond, hsem, hfence⟩ := State.ready_iff.1 hready
  have htry : s.frontEnd c w = s.tryIssue c w := by
    simp only [State.frontEnd, hrun, hheld, hchain, decide_true, Bool.true_and, hcond]
    rfl
  have hpass : (w.fence && decide ((s.getCtx c).live ≠ [])) = false := by rcases hfence with h | h <;> simp [h]
  rw [htry]
  simp only [State.tryIssue, hchain, Nat.lt_irrefl, if_false, not_lt.2 hsem, decide_false, Bool.and_false, Bool.false_eq_true, hpass,
    State.admits_iff.1 hadmits, hloop, false_and, hwait, if_true]

end

/-! ## The state in which an admitted command reaches its engine (R231, R242) -/

/-- A pair of registers of a page reads as both its halves do (R13). -/
theorem State.rd64_congr_page {s t : State} {p o : Nat} (hlow : t.rd (reg p o) = s.rd (reg p o)) (hhigh : t.rd (reg p (o + 4)) = s.rd (reg p (o + 4))) :
    t.rd64 (reg p o) = s.rd64 (reg p o) :=
  have hkey : reg p (o + 4) = reg p o + 4 := (Nat.add_assoc _ _ _).symm
  State.rd64_congr hlow (hkey ▸ hhigh)

section
variable (s : State) (c : Nat) (w : Cmd)

/-- A register of a page is neither half of a pair at another place of the page (R13). -/
theorem reg_ne_pair (p : Nat) {a b : Nat} (hlow : a ≠ b) (hhigh : a ≠ b + 4) : reg p a ≠ reg p b ∧ reg p a ≠ reg p b + 4 := by
  unfold reg; omega

/-- The issue cycle leaves the registers of a context below its semaphores alone, apart from its count of issued commands (R231, R252). -/
theorem State.rd_beginIssue {o : Nat} (ho : o < Off.CTX_SEMn) (hlow : o ≠ Off.CTX_ISSUED_LO) (hhigh : o ≠ Off.CTX_ISSUED_LO + 4) :
    (s.beginIssue c w).rd (reg (pgCTX c) o) = s.rd (reg (pgCTX c) o) := by
  have hsem : reg (pgCTX c) o ≠ semKey c w.waitSem := fun h => by
    rw [semKey, reg_same_page] at h
    omega
  obtain ⟨hlow', hhigh'⟩ := reg_ne_pair (pgCTX c) hlow hhigh
  unfold State.beginIssue State.inc64
  rw [State.rd_wr64_other _ _ hlow' hhigh']
  split
  · rfl
  · exact s.rd_wr_other _ hsem

/-- An issued command has moved the registers of its context below the semaphores only by its position and its count (R231, R242). -/
theorem State.rd_issued {o : Nat} (ho : o < Off.CTX_SEMn) (hissued : o ≠ Off.CTX_ISSUED_LO ∧ o ≠ Off.CTX_ISSUED_LO + 4)
    (hpc : o ≠ Off.CTX_PC_LO ∧ o ≠ Off.CTX_PC_LO + 4) : (s.issued c w).rd (reg (pgCTX c) o) = s.rd (reg (pgCTX c) o) := by
  obtain ⟨hlow, hhigh⟩ := reg_ne_pair (pgCTX c) hpc.1 hpc.2
  unfold State.issued State.moveTo State.setPc
  dsimp only
  rw [State.rd_wr64_other _ _ hlow hhigh]
  exact s.rd_beginIssue c w ho hissued.1 hissued.2

theorem State.streamLen_issued : (s.issued c w).streamLen c = s.streamLen c :=
  congrArg BitVec.toNat (s.rd_issued c w (by decide) (by decide) (by decide))

theorem State.step'_issued : (s.issued c w).step' c = s.step' c :=
  State.rd64_congr_page (s.rd_issued c w (by decide) (by decide) (by decide)) (s.rd_issued c w (by decide) (by decide) (by decide))

@[simp] theorem State.beginIssue_ctx : (s.beginIssue c w).ctx = s.ctx := by
  unfold State.beginIssue
  dsimp only
  split <;> rfl

/-- The loops that end behind an issued command are closed, and no other context changes (R242). -/
theorem State.getCtx_issued (d : Nat) : (s.issued c w).getCtx d =
    if d = c then { s.getCtx c with stack := (closeLoops ((s.pc c).toNat + 32) (s.getCtx c).stack).2 } else s.getCtx d := by
  have hbegin (e : Nat) : (s.beginIssue c w).getCtx e = s.getCtx e := congrArg (mapGet ({} : CtxRec) · e) (s.beginIssue_ctx c w)
  have hmove : (s.issued c w).getCtx d = ((s.beginIssue c w).setCtx c
      { (s.beginIssue c w).getCtx c with stack := (closeLoops ((s.pc c).toNat + 32) ((s.beginIssue c w).getCtx c).stack).2 }).getCtx d := rfl
  rw [hmove, hbegin]
  split
  · subst_vars; exact State.getCtx_setCtx_self _ _ _
  · exact (State.getCtx_setCtx_other _ _ ‹_›).trans (hbegin d)

theorem State.pc_issued : (s.issued c w).pc c = BitVec.ofNat 64 (s.nextPc c ((s.pc c).toNat + 32)) := by
  rw [State.issued, State.pc_moveTo, State.getCtx, State.beginIssue_ctx]
  rfl

theorem State.withRegs_beginIssue : s.withRegs (s.beginIssue c w) = s := by
  unfold State.beginIssue
  dsimp only
  split <;> rfl

/-- A state with what an issue may change taken from another: registers, the records of contexts, and what asks for current. -/
def State.withIssue (s u : State) : State := { u with
  regs := s.regs, ctx := s.ctx, lreqs := s.lreqs, lresv := s.lresv, cores := s.cores, ties := s.ties, pending := s.pending }

theorem State.withIssue_issued : s.withIssue (s.issued c w) = s := by
  have hmove (t : State) (p : Nat) : s.withIssue (t.moveTo c p) = s.withIssue (s.withRegs t) := rfl
  rw [State.issued, hmove, State.withRegs_beginIssue]
  rfl

end

section
variable {s : State} {c : Nat} {w : Cmd}

/-- A stream that goes on inside its length stands at the next command (R239, R242). -/
theorem State.pc_issued_toNat (hroom : s.room c ((s.pc c).toNat + 32) = true) :
    ((s.issued c w).pc c).toNat = s.nextPc c ((s.pc c).toNat + 32) := by
  have hlen : s.nextPc c ((s.pc c).toNat + 32) < s.streamLen c := of_decide_eq_true hroom
  have hword : s.streamLen c < 2 ^ 32 := BitVec.isLt _
  rw [State.pc_issued, BitVec.toNat_ofNat, Nat.mod_eq_of_lt (by omega)]

/-- A stream that stands inside its length does not overrun it (R239). -/
theorem State.overrun_inside (h : (s.pc c).toNat < s.streamLen c) : s.overrun c = s := by
  simp [State.overrun, h]

end

/-! ## The clusters of a command (R215, R216, R278) -/

section
variable {s : State}

/-- A partition lists clusters of the module. -/
theorem State.partition_lt {d cl : Nat} (h : cl ∈ s.partition d) : cl < 3000 := by
  obtain ⟨⟨k, v⟩, -, hkey⟩ := List.mem_filterMap.1 h
  dsimp only at hkey
  split at hkey
  · next hpart =>
    simp only [Bool.and_eq_true, decide_eq_true_eq] at hpart
    have hcl := Option.some.inj hkey
    omega
  · cases hkey

theorem State.physClu_lt (c rank : Nat) : s.physClu c rank < 3000 := by
  unfold State.physClu
  rw [List.getD_eq_getElem?_getD]
  cases h : (s.partition (s.domOf c))[rank]? with
  | none => decide
  | some cl => exact State.partition_lt (List.mem_of_getElem? h)

/-- The instances of a command stand on clusters of the module. -/
theorem State.instances_cl_lt {c : Nat} {w : Cmd} {a : Admitted} {y : InstOps} (h : y ∈ s.instances c w a) : y.cl < 3000 := by
  unfold State.instances at h
  split at h
  · obtain ⟨i, -, h⟩ := List.mem_flatMap.1 h
    obtain ⟨k, -, rfl⟩ := List.mem_map.1 h
    exact State.physClu_lt c _
  · split at h
    · obtain ⟨i, -, rfl⟩ := List.mem_map.1 h
      exact State.physClu_lt c _
    · rw [List.mem_singleton.1 h]
      exact Nat.succ_pos 2999

end

/-! ## Units that ask for their current (R285) -/

/-- A unit has its current or asks for it. -/
def State.asks (s : State) (u : LUnit) : Prop := u ∈ s.lresv ∨ ∃ q ∈ s.lreqs, u ∈ q.units

/-- The requests of units that ask together: one for each account and contender (R285). -/
def requestsOf (us : List LUnit) : List LReq :=
  (us.map fun u => (u.acct, u.ix)).eraseDups.map fun k =>
    let mine := us.filter fun u => u.acct == k.1 && u.ix == k.2
    { acct := k.1, ix := k.2, prio := (mine.head?.map LUnit.prio).getD 0, dom := (mine.head?.map LUnit.dom).getD 1024, units := mine }

theorem mem_requestsOf {us : List LUnit} {u : LUnit} (h : u ∈ us) : ∃ q ∈ requestsOf us, u ∈ q.units := by
  refine ⟨_, List.mem_map_of_mem (List.mem_eraseDups.2 (List.mem_map_of_mem h)), ?_⟩
  exact List.mem_filter.2 ⟨h, by simp⟩

section
variable {s : State}

/-- Units of compute accounts wait for a tick: they only join the queue, where a core may already cover them (R285, R287). -/
theorem State.askUnits_compute {us : List LUnit} (h : ∀ u ∈ us, u.acct < 8) :
    s.askUnits us = State.coverArrays { s with lreqs := s.lreqs ++ requestsOf us } := by
  have hnone : ((us.map fun u => (u.acct, u.ix)).eraseDups.map Prod.fst).eraseDups.filter (fun a => decide (8 ≤ a)) = [] := by
    refine List.filter_eq_nil_iff.2 fun a ha => ?_
    obtain ⟨k, hk, rfl⟩ := List.mem_map.1 (List.mem_eraseDups.1 ha)
    obtain ⟨u, hu, rfl⟩ := List.mem_map.1 (List.mem_eraseDups.1 hk)
    simpa using h u hu
  unfold State.askUnits
  dsimp only
  rw [hnone]
  rfl

/-- Passes that learn of a grant stand in the records of cores. -/
theorem State.markGranted_cores (us : List LUnit) : ({ s.markGranted us with cores := s.cores } : State) = s := by
  refine foldl_keeps (fun t : State => ({ t with cores := s.cores } : State) = s) _ (fun t u ht => ?_) us s rfl
  split
  · exact ht
  · exact ht

/-- A core that covers units writes no register. -/
theorem State.coverArrays_regs (s : State) : s.coverArrays.regs = s.regs := by
  unfold State.coverArrays
  dsimp only
  split
  · rfl
  · exact (congrArg State.regs (State.markGranted_cores _) :)

/-- A unit that a core covers has its current, and any other asks on (R285). -/
theorem State.asks_coverArrays {u : LUnit} (h : s.asks u) : s.coverArrays.asks u := by
  unfold State.coverArrays
  dsimp only
  split
  · exact h
  · have hcores := State.markGranted_cores (s := { s with
      lreqs := (s.lreqs.map fun r => { r with units := r.units.filter fun u => !s.covers u }).filter fun r => !r.units.isEmpty,
      lresv := s.lresv ++ s.lreqs.flatMap fun r => r.units.filter s.covers }) (s.lreqs.flatMap fun r => r.units.filter s.covers)
    unfold State.asks
    rw [(congrArg State.lresv hcores :), (congrArg State.lreqs hcores :)]
    rcases h with hresv | ⟨q, hq, hu⟩
    · exact Or.inl (List.mem_append_left _ hresv)
    · cases hcov : s.covers u with
      | true => exact Or.inl (List.mem_append_right _ (List.mem_flatMap.2 ⟨q, hq, List.mem_filter.2 ⟨hu, hcov⟩⟩))
      | false =>
        have hrest : u ∈ q.units.filter fun u => !s.covers u := List.mem_filter.2 ⟨hu, by rw [hcov]; rfl⟩
        refine Or.inr ⟨_, List.mem_filter.2 ⟨List.mem_map_of_mem hq, ?_⟩, hrest⟩
        simpa using List.ne_nil_of_mem hrest

section
variable {us : List LUnit} (h : ∀ u ∈ us, u.acct < 8)
include h

theorem State.askUnits_regs : (s.askUnits us).regs = s.regs := by
  rw [State.askUnits_compute h, State.coverArrays_regs]

theorem State.asks_askUnits {u : LUnit} (hu : u ∈ us) : (s.askUnits us).asks u := by
  rw [State.askUnits_compute h]
  obtain ⟨q, hq, hmem⟩ := mem_requestsOf hu
  exact State.asks_coverArrays (Or.inr ⟨q, List.mem_append_right _ hq, hmem⟩)

end

end

/-! ## A command joins those in flight (R216, R285) -/

/-- The command in flight that a cluster command becomes (R216, R229, R364). -/
def State.liveAt (s : State) (c off : Nat) (w : Cmd) (insts : List InstOps) : Live :=
  { id := (s.getCtx c).nextId, off := off, w := w, left := 1, clus := (insts.map InstOps.cl).eraseDups, insts := insts,
    par := s.parRead c w, step := s.step' c }

/-- A cluster command in flight whose instances have not asked for their current; its router units, if any, start (R187, R216). -/
def State.joined (s : State) (c off : Nat) (w : Cmd) (insts : List InstOps) : State :=
  let t := s.modCtx c fun r => { r with nextId := (s.getCtx c).nextId + 1, live := r.live ++ [s.liveAt c off w insts] }
  if w.eclass = 4 then t.routerStart (insts.map InstOps.cl) else t

/-- The units of a cluster command's instances (R284, R285). -/
def State.instUnits (s : State) (c id : Nat) (w : Cmd) (insts : List InstOps) : List LUnit :=
  insts.map fun x => s.cluUnit c id x.cl none (moverOf w) w

section
variable (s : State) (c off : Nat) (w : Cmd) (insts : List InstOps)

theorem State.issueCluster_eq : s.issueCluster c off w insts =
    (s.joined c off w insts).askUnits ((s.joined c off w insts).instUnits c (s.getCtx c).nextId w insts) := rfl

theorem State.joined_ctx : (s.joined c off w insts).ctx = (s.setCtx c
    { s.getCtx c with nextId := (s.getCtx c).nextId + 1, live := (s.getCtx c).live ++ [s.liveAt c off w insts] }).ctx := by
  unfold State.joined
  dsimp only
  split
  · exact foldl_field State.ctx (fun (t : State) k => t.wr k 0) (fun _ _ => rfl) _ _
  · rfl

/-- A command that joins changes the record of its context alone among the contexts' records (R216). -/
theorem State.getCtx_issueCluster (d : Nat) : (s.issueCluster c off w insts).getCtx d = if d = c then
    { s.getCtx c with nextId := (s.getCtx c).nextId + 1, live := (s.getCtx c).live ++ [s.liveAt c off w insts] } else s.getCtx d := by
  rw [State.issueCluster_eq, State.getCtx, State.askUnits_ctx, State.joined_ctx]
  split
  · subst_vars; exact State.getCtx_setCtx_self _ _ _
  · exact State.getCtx_setCtx_other _ _ ‹_›

/-- A command that joins changes nothing else but registers and what asks for current. -/
theorem State.withIssue_issueCluster (r : State) : r.withIssue (s.issueCluster c off w insts) = r.withIssue s := by
  have hjoined : r.withIssue (s.joined c off w insts) = r.withIssue s := by
    unfold State.joined
    dsimp only
    split
    · exact foldl_keeps (fun t : State => r.withIssue t = r.withIssue s) (fun t k => t.wr k 0) (fun _ _ ht => ht) _ _ rfl
    · rfl
  rw [State.issueCluster_eq, ← hjoined]
  exact (congrArg r.withIssue (State.askUnits_frame (s.joined c off w insts) _) :)

/-- A command that joins writes no register of a context's page (R187, R588). -/
theorem State.rd_joined (hcl : ∀ y ∈ insts, y.cl < 3000) {o : Nat} (ho : o < 4096) :
    (s.joined c off w insts).rd (reg (pgCTX c) o) = s.rd (reg (pgCTX c) o) := by
  unfold State.joined
  dsimp only
  split
  · refine (State.rd_clearRegs _ _ _).trans (if_neg ?_)
    rw [List.mem_map]
    rintro ⟨cl, hmem, hkey⟩
    obtain ⟨y, hy, rfl⟩ := List.mem_map.1 hmem
    have hlt := hcl y hy
    exact reg_ne (by decide) ho (Or.inl (by unfold pgRTE pgCTX; omega)) hkey
  · rfl

/-- The router units of a router command that joins start with no phase read (R187). -/
theorem State.rd_joined_router (hclass : w.eclass = 4) {y : InstOps} (hy : y ∈ insts) :
    (s.joined c off w insts).rd (reg (pgRTE y.cl) Off.RTE_STATE) = 0 := by
  unfold State.joined
  dsimp only
  rw [if_pos hclass]
  exact (State.rd_clearRegs _ _ _).trans (if_pos (List.mem_map_of_mem (List.mem_map_of_mem hy)))

end

section
variable {s : State} {c id : Nat} {w : Cmd} {insts : List InstOps} (hcl : ∀ y ∈ insts, y.cl < 3000)
include hcl

/-- The units of clusters belong to the compute accounts 0 to 7 (R282, R284). -/
theorem State.instUnits_acct : ∀ u ∈ s.instUnits c id w insts, u.acct < 8 := by
  intro u hu
  obtain ⟨y, hy, rfl⟩ := List.mem_map.1 hu
  exact Nat.div_lt_of_lt_mul (hcl y hy)

theorem State.rd_issueCluster {off : Nat} (k : Nat) : (s.issueCluster c off w insts).rd k = (s.joined c off w insts).rd k := by
  rw [State.issueCluster_eq]
  exact congrArg (mapGet (resetReg k) · k) (State.askUnits_regs (State.instUnits_acct hcl))

theorem State.rd_page_issueCluster {off o : Nat} (ho : o < 4096) :
    (s.issueCluster c off w insts).rd (reg (pgCTX c) o) = s.rd (reg (pgCTX c) o) :=
  (State.rd_issueCluster hcl _).trans (s.rd_joined c off w insts hcl ho)

theorem State.pc_issueCluster {off : Nat} : (s.issueCluster c off w insts).pc c = s.pc c :=
  State.rd64_congr_page (State.rd_page_issueCluster hcl (by decide)) (State.rd_page_issueCluster hcl (by decide))

theorem State.streamLen_issueCluster {off : Nat} : (s.issueCluster c off w insts).streamLen c = s.streamLen c :=
  congrArg BitVec.toNat (State.rd_page_issueCluster hcl (by decide))

/-- The instances of a cluster command have their current or ask for it, under the number of the command (R216, R285). -/
theorem State.asks_issueCluster {off : Nat} {y : InstOps} (hy : y ∈ insts) : ∃ u : LUnit, u.owner = some (c, (s.getCtx c).nextId) ∧
    u.acct * 375 + u.ix = y.cl ∧ (s.issueCluster c off w insts).asks u := by
  refine ⟨(s.joined c off w insts).cluUnit c (s.getCtx c).nextId y.cl none (moverOf w) w, rfl, Nat.div_add_mod' y.cl 375, ?_⟩
  exact State.asks_askUnits (State.instUnits_acct hcl) (List.mem_map_of_mem hy)

end

/-! ## A cluster command issues -/

section
variable {s : State} {c : Nat} {w : Cmd} {a : Admitted}

/-- Opcodes up to 0x0A are those of engine class 0 (R221). -/
theorem opInfo_control {op ec ic : Nat} (h : opInfo op = some (ec, ic)) (hec : ec ≠ 0) : 0x0A < op := by
  by_contra hop
  unfold opInfo at h
  rw [if_pos (not_lt.1 hop)] at h
  cases h
  exact hec rfl

/-- What it takes that a command issues in its row. -/
theorem State.issues_iff : s.issues c w a = true ↔ s.ready c w = true ∧ s.admits c w a = true ∧ s.room c ((s.pc c).toNat + 32) = true := by
  simp [State.issues, and_assoc]

/-- The instances of an admitted command of a cluster's engine reach their engine, and the stream goes on inside its length (R216, R233, R239). -/
theorem State.frontEnd_cluster (hissues : s.issues c w a = true) (hclass : w.eclass = 2 ∨ w.eclass = 3 ∨ w.eclass = 4) (hwait : s.issueWait c w a = none) :
    s.frontEnd c w = (s.issued c w).issueCluster c (s.pc c).toNat w (s.instances c w a) := by
  obtain ⟨hready, hadmits, hroom⟩ := State.issues_iff.1 hissues
  obtain ⟨ic, hinfo⟩ := State.admits_class hadmits
  have hop : 0x0A < w.opcode := opInfo_control hinfo (by omega)
  have hcl : ∀ y ∈ s.instances c w a, y.cl < 3000 := fun y => State.instances_cl_lt
  have hinside : (((s.issued c w).issueCluster c (s.pc c).toNat w (s.instances c w a)).pc c).toNat <
      ((s.issued c w).issueCluster c (s.pc c).toNat w (s.instances c w a)).streamLen c := by
    rw [State.pc_issueCluster hcl, State.streamLen_issueCluster hcl, State.pc_issued_toNat hroom, State.streamLen_issued]
    exact of_decide_eq_true hroom
  rw [State.frontEnd_issue hready hadmits (by omega) hwait, State.issue]
  dsimp only
  rw [if_neg (by omega), if_neg (by omega), if_neg (by omega)]
  rcases hclass with h | h | h <;> simp only [h] <;> exact State.overrun_inside hinside

/-- A cluster command that issues moves its stream on, joins the commands in flight of its context, and asks for the current of its instances; its
router units, if any, start (R187, R216, R242, R285). -/
theorem State.clusterCommand_issues (hissues : s.issues c w a = true) (hclass : w.eclass = 2 ∨ w.eclass = 3 ∨ w.eclass = 4)
    (hwait : s.issueWait c w a = none) : ∃ t, s.commit (s.frontEnd c w) = .next t ∧
      (t.pc c).toNat = s.nextPc c ((s.pc c).toNat + 32) ∧
      (t.getCtx c).live = (s.getCtx c).live ++ [s.clusterLive c w a] ∧ (∀ d, d ≠ c → t.getCtx d = s.getCtx d) ∧
      ({ t with regs := s.regs, ctx := s.ctx, lreqs := s.lreqs, lresv := s.lresv, cores := s.cores, ties := s.ties } : State) = s ∧
      (∀ y ∈ s.instances c w a, ∃ u : LUnit, u.owner = some (c, (s.getCtx c).nextId) ∧ u.acct * 375 + u.ix = y.cl ∧
        (u ∈ t.lresv ∨ ∃ q ∈ t.lreqs, u ∈ q.units)) ∧
      (w.eclass = 4 → ∀ y ∈ s.instances c w a, t.rd (reg (pgRTE y.cl) Off.RTE_STATE) = 0) := by
  obtain ⟨-, -, hroom⟩ := State.issues_iff.1 hissues
  have hcl : ∀ y ∈ s.instances c w a, y.cl < 3000 := fun y => State.instances_cl_lt
  have hown : (s.issued c w).getCtx c = { s.getCtx c with stack := (closeLoops ((s.pc c).toNat + 32) (s.getCtx c).stack).2 } :=
    (s.getCtx_issued c w c).trans (if_pos rfl)
  have hlive : (s.issued c w).liveAt c (s.pc c).toNat w (s.instances c w a) = s.clusterLive c w a := by
    rw [State.liveAt, hown, State.step'_issued]
    rfl
  rw [State.frontEnd_cluster hissues hclass hwait]
  refine ⟨_, rfl, ?pc, ?live, fun d hd => ?others, ?frame, fun y hy => ?units, fun hrouter y hy => ?router⟩
  case pc => exact (congrArg BitVec.toNat (State.pc_issueCluster hcl)).trans (State.pc_issued_toNat hroom)
  case live =>
    refine (congrArg CtxRec.live ((State.getCtx_issueCluster _ c _ w _ c).trans (if_pos rfl))).trans ?_
    rw [hlive, hown]
  case others =>
    refine (State.getCtx_issueCluster _ c _ w _ d).trans ((if_neg hd).trans ?_)
    exact (s.getCtx_issued c w d).trans (if_neg hd)
  case frame => exact (State.withIssue_issueCluster _ c _ w _ s).trans (s.withIssue_issued c w)
  case units =>
    have hasks := State.asks_issueCluster (s := s.issued c w) (c := c) (w := w) hcl (off := (s.pc c).toNat) hy
    rw [hown] at hasks
    exact hasks
  case router => exact (State.rd_issueCluster hcl _).trans (State.rd_joined_router _ c _ w _ hrouter hy)

end

end Sys2Proof.Machine
end

section
/-! PROOFS. The commands of the vector engine, the movers, the mask walks and the router units at issue (R136, R150, R171, R180, R187, R194, R216, R221, R226, R285). -/

namespace Sys2Proof.Machine

open Sys2Proof

section
variable {c : Ctx} {w : Cmd}

/-- A well-formed vector row runs the front end (R221). -/
theorem exec_vector_wf : ∀ i ∈ [Instr.add c w, .sub c w, .mul c w, .fma c w, .max c w, .min c w, .abs c w, .neg c w, .copysign c w, .cmpEq c w,
    .cmpLt c w, .cmpLe c w, .select c w, .cvt c w, .rsum c w, .rsumsq c w, .rmax c w, .rmin c w, .ramax c w, .exp2 c w, .log2 c w, .rsqrt c w,
    .rcp c w, .tanh c w, .sigmoid c w, .gelu c w, .silu c w, .rmsnorm c w, .layernorm c w, .smfin c w, .stmerge c w, .rope c w],
    i.wf = true → ∀ s, exec i s = s.commit (s.frontEnd c.toNat w) := by
  simp only [List.forall_mem_cons, List.not_mem_nil, false_implies, implies_true, and_true]
  and_intros <;> exact fun h _ => streamRow_wf h

/-- A well-formed row of a mover or of the router units runs the front end (R221). -/
theorem exec_mover_router_wf : ∀ i ∈ [Instr.move c w, .zero c w, .maskWalk c w, .route c w],
    i.wf = true → ∀ s, exec i s = s.commit (s.frontEnd c.toNat w) := by
  simp only [List.forall_mem_cons, List.not_mem_nil, false_implies, implies_true, and_true]
  and_intros <;> exact fun h _ => streamRow_wf h

end

/-- The opcodes 0x20 to 0x3F are those of engine class 2 (R221). -/
theorem opInfo_vector {op : Nat} (hlow : 0x20 ≤ op) (hhigh : op ≤ 0x3F) : opInfo op = some (2, 2) := by
  unfold opInfo
  rw [if_neg (by omega), if_pos ⟨hlow, hhigh⟩]

/-- Movers and mask walks are of engine class 3, the router units of class 4 (R221). -/
theorem opInfo_mover_router : ∀ op ∈ [0x40, 0x41, 0x42, 0x50], (opInfo op).map Prod.fst = some (if op = 0x50 then 4 else 3) := by decide

section
variable {s : State} {c : Nat} {w : Cmd} {a : Admitted}

/-- An admitted command has the engine class that is listed for its opcode. -/
theorem State.admits_eclass {ec : Nat} (h : s.admits c w a = true) (hinfo : (opInfo w.opcode).map Prod.fst = some ec) : w.eclass = ec := by
  obtain ⟨ic, hic⟩ := State.admits_class h
  rw [hic] at hinfo
  exact Option.some.inj hinfo

/-- A vector operation waits only for another one of its context (R136). -/
theorem State.issueWait_vector (hclass : w.eclass = 2) (hop : 0x0A < w.opcode) (halone : ((s.getCtx c).live.all fun l => l.w.eclass != 2) = true) :
    s.issueWait c w a = none := by
  have hnone : ((s.getCtx c).live.any fun l => l.w.eclass == 2) = false := by simpa using halone
  unfold State.issueWait
  dsimp only
  rw [if_neg (by omega), if_neg (by omega), if_pos hclass, hnone]
  rfl

end

/-- Settles O14: a vector row is a cluster command that waits for no other vector operation. -/
theorem vectorCommandsCompute : Obligations.VectorCommandsCompute := by
  unfold Obligations.VectorCommandsCompute
  intro s c w a i x pc hrow hwf hlow hhigh hissues halone
  obtain ⟨-, hadmits, -⟩ := State.issues_iff.1 hissues
  have hclass : w.eclass = 2 := State.admits_eclass hadmits (congrArg (Option.map Prod.fst) (opInfo_vector hlow hhigh))
  obtain ⟨t, ht, hpc, hlive, hothers, hframe, hunits, -⟩ :=
    State.clusterCommand_issues hissues (Or.inl hclass) (State.issueWait_vector hclass (by omega) halone)
  exact ⟨t, (exec_vector_wf i hrow hwf s).trans ht, hpc, hlive, hothers, hframe, hunits⟩

/-- Settles O15: each of the four rows is a cluster command, and a router command starts its units. -/
theorem moverRouterCommandsCompute : Obligations.MoverRouterCommandsCompute := by
  unfold Obligations.MoverRouterCommandsCompute
  intro s c w a i x pc hrow hwf hop hissues hwait
  obtain ⟨-, hadmits, -⟩ := State.issues_iff.1 hissues
  have hclass : w.eclass = if w.opcode = 0x50 then 4 else 3 := State.admits_eclass hadmits (opInfo_mover_router w.opcode hop)
  have hcluster : w.eclass = 2 ∨ w.eclass = 3 ∨ w.eclass = 4 := by split at hclass <;> simp [hclass]
  obtain ⟨t, ht, hpc, hlive, hothers, hframe, hunits, hrouter⟩ := State.clusterCommand_issues hissues hcluster hwait
  exact ⟨t, (exec_mover_router_wf i hrow hwf s).trans ht, hpc, hlive, hothers, hframe, hunits, fun h => hrouter (hclass.trans (if_pos h))⟩

end Sys2Proof.Machine
end

section
/-! PROOFS. Retires of the vector engine, the movers and the router units of a cluster: what a command that retires leaves, and the router operations that wait behind one (R136, R137, R150, R176, R180, R194, R196, R231, R285). -/

namespace Sys2Proof.Machine

open Sys2Proof

/-! ## What a retired command leaves -/

/-- Memory and the records of cores and of contexts are as before. -/
def State.keepsRecords (s t : State) : Prop := t.mem = s.mem ∧ t.cores = s.cores ∧ t.ctx = s.ctx

/-- Memory and the records of cores are as before, and the command has left those in flight of its context (R231). -/
def State.loses (s : State) (c : Nat) (l : Live) (t : State) : Prop :=
  t.mem = s.mem ∧ t.cores = s.cores ∧ (t.getCtx c).live = (s.getCtx c).live.filter fun y => y.id != l.id

section
variable {s t u : State}

theorem State.keepsRecords_refl (s : State) : s.keepsRecords s := ⟨rfl, rfl, rfl⟩

theorem State.keepsRecords_trans (hst : s.keepsRecords t) (htu : t.keepsRecords u) : s.keepsRecords u :=
  ⟨htu.1.trans hst.1, htu.2.1.trans hst.2.1, htu.2.2.trans hst.2.2⟩

/-- A fold of updates that each keep the records keeps them. -/
theorem State.keepsRecords_foldl {α : Type} (f : State → α → State) (h : ∀ (t : State) (a : α), t.keepsRecords (f t a)) (l : List α) (s : State) :
    s.keepsRecords (l.foldl f s) :=
  foldl_keeps s.keepsRecords f (fun t a ht => State.keepsRecords_trans ht (h t a)) l s s.keepsRecords_refl

theorem State.getCtx_of_keepsRecords (h : s.keepsRecords t) (c : Nat) : t.getCtx c = s.getCtx c := congrArg (mapGet ({} : CtxRec) · c) h.2.2

end

section
variable (s : State) (c : Nat)

theorem State.keepsRecords_setPar (n : Nat) (v : DWord) : s.keepsRecords (s.setPar c n v) := by
  unfold State.setPar State.notePar
  split <;> exact ⟨rfl, rfl, rfl⟩

/-- Lanes are counted in registers, the open part of the count from the model's free values (R154). -/
theorem State.keepsRecords_countVector (l : Live) : s.keepsRecords (s.countVector l) := by
  unfold State.countVector
  refine State.keepsRecords_foldl _ (fun t cl => ?_) l.clus s
  exact ⟨rfl, rfl, rfl⟩

/-- A walk's counts are written to parameter registers (R196). -/
theorem State.keepsRecords_setPars (ps : List (Nat × DWord)) : s.keepsRecords (ps.foldl (fun u p => u.setPar c p.1 p.2) s) := by
  refine State.keepsRecords_foldl _ (fun t p => ?_) ps s
  exact t.keepsRecords_setPar c p.1 p.2

/-- Router operations are counted in registers (R187). -/
theorem State.keepsRecords_countRoutes (clus : List Nat) :
    s.keepsRecords (clus.foldl (fun t cl => t.inc64 (reg (pgRTE cl) Off.RTE_OPS_LO)) s) := by
  refine State.keepsRecords_foldl _ (fun t cl => ?_) clus s
  exact ⟨rfl, rfl, rfl⟩

@[simp] theorem State.signal_cores (n k : Nat) : (s.signal c n k).cores = s.cores := (congrArg State.cores (s.signal_frame c n k) :)

@[simp] theorem State.releaseCmd_cores (id : Nat) : (s.releaseCmd c id).cores = s.cores :=
  (congrArg State.cores (s.releaseUnits_frame _ none) :)

@[simp] theorem State.retireCmd_cores (l : Live) : (s.retireCmd c l).cores = s.cores := by
  unfold State.retireCmd
  dsimp only
  split <;> simp [State.modCtx]

/-- A retirement changes the record of its context alone among the contexts' records (R231). -/
theorem State.retireCmd_ctx (l : Live) : (s.retireCmd c l).ctx =
    mapSet {} s.ctx c { s.getCtx c with live := (s.getCtx c).live.filter fun y => y.id != l.id } := by
  unfold State.retireCmd
  dsimp only
  split
  · exact State.releaseCmd_ctx _ _ _
  · exact (State.signal_ctx _ _ _ _).trans (State.releaseCmd_ctx _ _ _)

end

/-- A command that retires where the records are kept leaves the commands in flight (R231, R285). -/
theorem State.loses_retireCmd {s t : State} (h : s.keepsRecords t) (c : Nat) (l : Live) : s.loses c l (t.retireCmd c l) := by
  refine ⟨(t.retireCmd_mem c l).trans h.1, (t.retireCmd_cores c l).trans h.2.1, ?_⟩
  rw [State.getCtx_retireCmd, if_pos rfl, State.getCtx_of_keepsRecords h]

/-! ## Router operations that wait (R180) -/

section
variable {α : Type} (d : α) {m : List (Nat × α)} {k : Nat}

theorem mem_of_mem_mapDel {p : Nat × α} (h : p ∈ mapDel k m) : p ∈ m := by
  induction m with
  | nil => exact h
  | cons q m ih =>
    unfold mapDel at h
    split at h
    · exact List.mem_cons_of_mem _ (ih h)
    · rcases List.mem_cons.1 h with rfl | h
      · exact List.mem_cons_self
      · exact List.mem_cons_of_mem _ (ih h)

theorem mem_mapPut_imp {p : Nat × α} {v : α} (h : p ∈ mapPut k v m) : p = (k, v) ∨ p ∈ m := by
  induction m with
  | nil => exact Or.inl (List.mem_singleton.1 h)
  | cons q m ih =>
    unfold mapPut at h
    split at h
    · exact List.mem_cons.1 h
    · split at h
      · exact (List.mem_cons.1 h).imp_right (List.mem_cons_of_mem _)
      · rcases List.mem_cons.1 h with rfl | h
        · exact Or.inr List.mem_cons_self
        · exact (ih h).imp_right (List.mem_cons_of_mem _)

/-- The entries of a table after a write: the one written, and earlier ones. -/
theorem mem_mapSet_imp [DecidableEq α] {p : Nat × α} {v : α} (h : p ∈ mapSet d m k v) : p = (k, v) ∨ p ∈ m := by
  unfold mapSet at h
  split at h
  · exact Or.inr (mem_of_mem_mapDel h)
  · exact mem_mapPut_imp h

/-- What a key reads is the default or stands in an entry. -/
theorem mapGet_eq_or_mem (m : List (Nat × α)) (k : Nat) : mapGet d m k = d ∨ (k, mapGet d m k) ∈ m := by
  induction m with
  | nil => exact Or.inl rfl
  | cons q m ih =>
    unfold mapGet
    split
    · subst_vars; exact Or.inr List.mem_cons_self
    · exact ih.imp_right (List.mem_cons_of_mem _)

end

/-- A context that holds no command at issue and has no router operation that waits for its units. -/
def CtxRec.routerIdle (r : CtxRec) : Prop := r.held = none ∧ r.live.all (fun y => !(y.w.eclass == 4 && y.waits)) = true

section
variable {s t : State}

/-- With no context that waits for router units, freed ones go to none (R180). -/
theorem State.routerNext_idle (h : ∀ p ∈ s.ctx, p.2.routerIdle) : s.routerNext = s := by
  have hnone : s.routerWaiters = [] := by
    refine List.filterMap_eq_nil_iff.2 fun p hp => ?_
    obtain ⟨hheld, hlive⟩ := h p hp
    have hagain : (p.2.live.any fun l => l.w.eclass == 4 && l.waits && !s.routerBusy l.clus) = false := by
      rw [List.any_eq_false]
      intro l hl hwait
      have := List.all_eq_true.1 hlive l hl
      simp_all
    simp [hheld, hagain]
  rw [State.routerNext, hnone]
  rfl

/-- A command that retires makes no router operation wait. -/
theorem State.routerIdle_retireCmd (h : ∀ p ∈ s.ctx, p.2.routerIdle) (c : Nat) (l : Live) : ∀ p ∈ (s.retireCmd c l).ctx, p.2.routerIdle := by
  have hc : (s.getCtx c).routerIdle := by
    rcases mapGet_eq_or_mem {} s.ctx c with hempty | hmem
    · rw [State.getCtx, hempty]; exact ⟨rfl, rfl⟩
    · exact h _ hmem
  intro p hp
  rw [State.retireCmd_ctx] at hp
  rcases mem_mapSet_imp _ hp with rfl | hp
  · refine ⟨hc.1, List.all_eq_true.2 fun y hy => ?_⟩
    exact List.all_eq_true.1 hc.2 y (List.mem_filter.1 hy).1
  · exact h p hp

end

/-! ## The retires -/

section
variable {s : State} {c mv : Nat} {l : Live}

/-- A vector operation that ends without a fault retires; with no command held behind it, none issues (R136, R154). -/
theorem State.vectorRetire_retires (hl : s.oldestGranted c (fun y => y.w.eclass == 2) = some l) (hrun : ((s.runVector c l).getCtx c).run ≠ .faulted)
    (hheld : ((s.runVector c l).getCtx c).held = none) : s.vectorRetire c = ((s.runVector c l).countVector l).retireCmd c l := by
  have hheld' : ((((s.runVector c l).countVector l).retireCmd c l).getCtx c).held = none := by
    rw [State.getCtx_retireCmd, if_pos rfl, State.getCtx_of_keepsRecords (State.keepsRecords_countVector _ l)]
    exact hheld
  simp only [State.vectorRetire, hl, if_neg hrun, hheld']

/-- A move or zero that ends without a fault retires (R150). -/
theorem State.moveRetire_retires (hl : s.oldestGranted c (fun y => (y.w.opcode == 0x40 || y.w.opcode == 0x41) && y.w.op 0 2 == mv) = some l)
    (hrun : ((s.runMove c l).getCtx c).run ≠ .faulted) : s.moveRetire c mv = (s.runMove c l).retireCmd c l := by
  simp only [State.moveRetire, hl, State.retireDone, if_neg hrun]

/-- A mask walk that ends without a fault retires once its parameter registers are written (R196). -/
theorem State.walkRetire_retires (hl : s.oldestGranted c (fun y => y.w.opcode == 0x42 && y.w.op 80 2 == mv) = some l)
    (hrun : ((s.runWalk c l).1.getCtx c).run ≠ .faulted) :
    s.walkRetire c mv = ((s.runWalk c l).2.foldl (fun u p => u.setPar c p.1 p.2) (s.runWalk c l).1).retireCmd c l := by
  simp only [State.walkRetire, hl, if_neg hrun]

/-- A router operation that ends without a fault retires, and its units go to none where none waits for them (R176, R180, R187). -/
theorem State.routeRetire_retires (hl : s.oldestGranted c (fun y => s.routerHolds c y) = some l) (hrun : ((s.runRoute c l).getCtx c).run ≠ .faulted)
    (hidle : ∀ p ∈ (s.runRoute c l).ctx, p.2.routerIdle) :
    s.routeRetire c = (l.clus.foldl (fun t cl => t.inc64 (reg (pgRTE cl) Off.RTE_OPS_LO)) (s.runRoute c l)).retireCmd c l := by
  obtain ⟨-, -, hctx⟩ := (s.runRoute c l).keepsRecords_countRoutes l.clus
  simp only [State.routeRetire, hl, if_neg hrun]
  exact State.routerNext_idle (State.routerIdle_retireCmd (hctx ▸ hidle) c l)

/-- A context with no command in flight has no oldest one. -/
theorem State.oldestGranted_nil (hlive : (s.getCtx c).live = []) (f : Live → Bool) : s.oldestGranted c f = none := by
  simp [State.oldestGranted, State.oldest, hlive]

end

/-! ## The obligation -/

section
variable {s t u : State} {b : Bool}

/-- A row whose condition holds and whose effect loses a command answers a state that has lost it. -/
theorem State.whenever_loses {c : Nat} {l : Live} (hb : b = true) (h : u.loses c l t) : ∃ r, s.whenever b t = .next r ∧ u.loses c l r :=
  ⟨{ t with pending := s.pending }, by rw [hb]; rfl, h⟩

/-- A row without an effect answers the state as it is. -/
theorem State.whenever_self (h : t = s) : s.whenever b t = .next s := by
  subst h
  cases b <;> rfl

end

/-- Settles O17: each retire ends in the retirement of the oldest command of its engine, and what comes before that keeps the records. -/
theorem clusterRetiresTakeTheOldest : Obligations.ClusterRetiresTakeTheOldest := by
  unfold Obligations.ClusterRetiresTakeTheOldest
  intro s c mv l x gone
  refine ⟨fun hruns hl hheld hrun => ?vector, fun hruns hl hrun => ?move, fun hruns hl hrun => ?walk, fun hruns hl hidle hrun => ?route, fun hlive => ?none⟩
  case vector =>
    refine State.whenever_loses hruns ?_
    rw [State.vectorRetire_retires hl hrun hheld]
    exact State.loses_retireCmd (State.keepsRecords_countVector _ l) x l
  case move =>
    refine State.whenever_loses hruns ?_
    rw [State.moveRetire_retires hl hrun]
    exact State.loses_retireCmd (State.keepsRecords_refl _) x l
  case walk =>
    refine State.whenever_loses hruns ?_
    rw [State.walkRetire_retires hl hrun]
    exact State.loses_retireCmd (State.keepsRecords_setPars _ x _) x l
  case route =>
    refine State.whenever_loses hruns ?_
    rw [State.routeRetire_retires hl hrun hidle]
    exact State.loses_retireCmd (State.keepsRecords_countRoutes _ l.clus) x l
  case none =>
    have hnone : ∀ f, s.oldestGranted c.toNat f = none := State.oldestGranted_nil hlive
    exact ⟨State.whenever_self (by rw [State.vectorRetire, hnone]), State.whenever_self (by rw [State.moveRetire, hnone]),
      State.whenever_self (by rw [State.walkRetire, hnone]), State.whenever_self (by rw [State.routeRetire, hnone])⟩

end Sys2Proof.Machine
end

section
/-! SUPPORT. What run control leaves of memory and of the contexts' records: context faults, claims asked for and freed, and router operations that start again (R180, R238, R255, R264, R266, R267, R273, R431). -/

namespace Sys2Proof.Machine

open Sys2Proof

/-! ## The records of the other contexts -/

/-- Memory is as before, and so is the record of every context but c. -/
structure State.keepsOthers (s : State) (c : Nat) (t : State) : Prop where
  mem : t.mem = s.mem
  getCtx : ∀ d, d ≠ c → t.getCtx d = s.getCtx d
  entries : ∀ p ∈ t.ctx, p.1 ≠ c → p ∈ s.ctx

section
variable {s t u : State} {c : Nat}

theorem State.keepsOthers_of_eq (hmem : t.mem = s.mem) (hctx : t.ctx = s.ctx) : s.keepsOthers c t :=
  ⟨hmem, fun d _ => congrArg (mapGet ({} : CtxRec) · d) hctx, fun _ hp _ => hctx ▸ hp⟩

theorem State.keepsOthers_refl (s : State) (c : Nat) : s.keepsOthers c s := State.keepsOthers_of_eq rfl rfl

theorem State.keepsOthers.trans (hst : s.keepsOthers c t) (htu : t.keepsOthers c u) : s.keepsOthers c u :=
  ⟨htu.mem.trans hst.mem, fun d hd => (htu.getCtx d hd).trans (hst.getCtx d hd), fun p hp hc => hst.entries p (htu.entries p hp hc) hc⟩

theorem State.keepsOthers_setCtx (s : State) (c : Nat) (r : CtxRec) : s.keepsOthers c (s.setCtx c r) := by
  refine ⟨rfl, fun d hd => State.getCtx_setCtx_other _ _ hd, fun p hp hc => ?_⟩
  rcases mem_mapSet_imp _ hp with rfl | hold
  · exact absurd rfl hc
  · exact hold

theorem State.keepsOthers_modCtx (s : State) (c : Nat) (f : CtxRec → CtxRec) : s.keepsOthers c (s.modCtx c f) := State.keepsOthers_setCtx _ _ _

theorem State.keepsOthers.modCtx (h : s.keepsOthers c t) (f : CtxRec → CtxRec) : s.keepsOthers c (t.modCtx c f) :=
  h.trans (t.keepsOthers_modCtx c f)

@[simp] theorem State.getCtx_modCtx_self (s : State) (c : Nat) (f : CtxRec → CtxRec) : (s.modCtx c f).getCtx c = f (s.getCtx c) :=
  State.getCtx_setCtx_self _ _ _

/-- A context fault changes the record of its context alone (R273). -/
theorem State.keepsOthers_ctxFault (s : State) (c : Nat) (f : Flt) : s.keepsOthers c (s.ctxFault c f) := by
  refine ⟨s.ctxFault_mem c f, fun d hd => s.getCtx_ctxFault_other f hd, ?_⟩
  unfold State.ctxFault
  split
  · exact fun p hp _ => hp
  · dsimp only
    generalize hstopped : State.releaseUnits _ _ none = t
    have ht : s.keepsOthers c t := by subst hstopped; exact State.keepsOthers_of_eq (by simp) (by simp)
    split
    · exact ((ht.modCtx _).trans (State.keepsOthers_of_eq (State.askSave_mem _ _) (State.askSave_ctx _ _))).modCtx _ |>.entries
    · exact (ht.modCtx _).entries

/-- The end of a step changes the record of its context alone (R238). -/
theorem State.keepsOthers_endStep (s : State) (c : Nat) : s.keepsOthers c (s.endStep c) := by
  have hstaged : s.keepsOthers c (State.modStep { s with
      armRecs := s.armRecs.filter fun a => a.ctx != c, amax := s.amax.filter fun x => x.1.1 != c, armed := s.armed.filter (· != c) } c
      fun r => { r with decision := none, commit := false, unresolved := false, digests := [], flushes := [] }) := State.keepsOthers_of_eq rfl rfl
  exact hstaged.trans (State.keepsOthers_setCtx _ _ _)

end

/-! ## Router operations that start again (R180) -/

/-- A context with no router operation that waits for its units: none held at issue, and none to start again. -/
def CtxRec.routerQuiet (r : CtxRec) : Prop := (∀ w, r.held = some (w, .engine) → w.eclass ≠ 4) ∧ ∀ l ∈ r.live, l.w.eclass = 4 → l.waits = false

/-- A round that serves the router operations of c alone: it moves tie pointers, registers of router units and the commands in flight of c. -/
structure State.servesRouter (s : State) (c : Nat) (t : State) : Prop where
  others : s.keepsOthers c t
  marks : t.marks = s.marks
  saves : t.saves = s.saves
  rd : ∀ k, k % 4096 ≠ Off.RTE_STATE → t.rd k = s.rd k
  own : { t.getCtx c with live := (s.getCtx c).live } = s.getCtx c

section
variable {s t u : State} {c : Nat}

theorem State.routerQuiet_others (h : s.routerQuiet c = true) {p : Nat × CtxRec} (hp : p ∈ s.ctx) (hc : p.1 ≠ c) : p.2.routerQuiet := by
  have hentry := List.all_eq_true.1 h p hp
  rw [if_neg hc, Bool.not_eq_true', Bool.or_eq_false_iff] at hentry
  obtain ⟨hheld, hlive⟩ := hentry
  refine ⟨fun w hw => ?_, fun l hl hclass => ?_⟩
  · rw [hw] at hheld
    simpa using hheld
  · simpa [hclass] using List.any_eq_false.1 hlive l hl

/-- A context whose record is quiet takes part in no round of the router units. -/
theorem State.routerWaiters_mem (h : ∀ p ∈ s.ctx, p.1 ≠ c → p.2.routerQuiet) {q : Nat × Nat} (hq : q ∈ s.routerWaiters) : q.1 = c := by
  obtain ⟨p, hp, hwaits⟩ := List.mem_filterMap.1 hq
  dsimp only at hwaits
  rw [Option.ite_none_right_eq_some] at hwaits
  obtain ⟨hgo, hpq⟩ := hwaits
  by_contra hne
  obtain ⟨hheld, hlive⟩ := h p hp fun hpc => hne ((congrArg Prod.fst (Option.some.inj hpq)).symm.trans hpc)
  rcases (Bool.or_eq_true _ _).mp hgo with hagain | hissue
  · obtain ⟨l, hl, hwait⟩ := List.any_eq_true.1 ((Bool.and_eq_true _ _).mp hagain).2
    simp only [Bool.and_eq_true, beq_iff_eq] at hwait
    rw [hlive l hl hwait.1.1] at hwait
    exact absurd hwait.1.2 (by decide)
  · split at hissue
    · next w hw =>
      simp only [Bool.and_eq_true, beq_iff_eq] at hissue
      exact hheld w hw hissue.1.1
    · cases hissue

/-- A state with the tie pointers of another. -/
def State.withTies (s u : State) : State := { u with ties := s.ties }

/-- The tie rule moves its pointers. -/
theorem State.tieGrant_ties (s : State) (arb n : Nat) (req : List (Nat × Nat)) : s.withTies (s.tieGrant arb n req).2 = s := by
  unfold State.tieGrant
  dsimp only
  split <;> rfl

/-- The tie rule grants a contender (R260). -/
theorem State.tieGrant_mem {arb n i : Nat} {req : List (Nat × Nat)} (h : s.tieGrant arb n req = (some i, t)) : ∃ k, (i, k) ∈ req := by
  unfold State.tieGrant at h
  dsimp only at h
  split at h
  · cases h
  · next hpick =>
    cases h
    have hmem := List.min?_mem hpick
    have hcand : i ∈ (req.filter fun r => r.2 == req.foldl (fun m r => max m r.2) 0).map Prod.fst := by
      split at hmem
      · exact hmem
      · exact (List.mem_filter.1 hmem).1
    obtain ⟨r, hr, rfl⟩ := List.mem_map.1 hcand
    exact ⟨r.2, (List.mem_filter.1 hr).1⟩

theorem State.servesRouter_ties (h : s.withTies t = s) : s.servesRouter c t :=
  have hctx : t.ctx = s.ctx := (congrArg State.ctx h :)
  { others := State.keepsOthers_of_eq (congrArg State.mem h :) hctx
    marks := (congrArg State.marks h :)
    saves := (congrArg State.saves h :)
    rd := fun k _ => (congrArg (State.rd · k) h :)
    own := (congrArg (fun m => ({ mapGet {} m c with live := (s.getCtx c).live } : CtxRec)) hctx :) }

theorem State.servesRouter.trans (hst : s.servesRouter c t) (htu : t.servesRouter c u) : s.servesRouter c u where
  others := hst.others.trans htu.others
  marks := htu.marks.trans hst.marks
  saves := htu.saves.trans hst.saves
  rd k hk := (htu.rd k hk).trans (hst.rd k hk)
  own := (congrArg (fun r : CtxRec => { r with live := (s.getCtx c).live }) htu.own :).trans hst.own

/-- A context served takes its units: one of its operations starts again, and a held command that is not to go on stays (R180). -/
theorem State.servesRouter_routerTake (hheld : (s.getCtx c).held = none ∨ (s.getCtx c).run ≠ .running) : s.servesRouter c (s.routerTake c) := by
  have hstay : s.resumeHeld c .engine = s := by
    unfold State.resumeHeld
    dsimp only
    split
    · next w k hw => exact if_neg fun hgo => hheld.elim (fun hnone => by rw [hnone] at hw; cases hw) fun hrun => hrun hgo.2
    · rfl
  unfold State.routerTake
  split
  · next l _ =>
    have hframe : s.withRegs (s.routerStart l.clus) = s := s.withRegs_clearRegs s _
    have hctx : (s.routerStart l.clus).ctx = s.ctx := (congrArg State.ctx hframe :)
    have hstart : s.keepsOthers c (s.routerStart l.clus) := State.keepsOthers_of_eq (congrArg State.mem hframe :) hctx
    refine ⟨hstart.modCtx _, (congrArg State.marks hframe :), (congrArg State.saves hframe :),
      fun k hk => (State.rd_clearRegs _ _ _).trans (if_neg ?_), ?_⟩
    · intro hmem
      obtain ⟨cl, -, rfl⟩ := List.mem_map.1 hmem
      exact hk (reg_mod _ (by decide))
    · rw [State.getCtx_modCtx_self]
      exact (congrArg (fun m => ({ mapGet {} m c with live := (s.getCtx c).live } : CtxRec)) hctx :)
  · rw [hstay]
    exact State.servesRouter_ties rfl

/-- Where no other context waits for router units, and none of c's commands is held for them, the rounds serve the operations of c alone (R180). -/
theorem State.servesRouter_routerRound (n : Nat) (hquiet : ∀ p ∈ s.ctx, p.1 ≠ c → p.2.routerQuiet)
    (hheld : (s.getCtx c).held = none ∨ (s.getCtx c).run ≠ .running) : s.servesRouter c (State.routerRound n s) := by
  induction n generalizing s with
  | zero => exact State.servesRouter_ties rfl
  | succ n ih =>
    have hties := s.tieGrant_ties 0x30000 16384 s.routerWaiters
    unfold State.routerRound
    split
    · next d t hgrant =>
      rw [hgrant] at hties
      obtain ⟨k, hk⟩ := State.tieGrant_mem hgrant
      obtain rfl : d = c := State.routerWaiters_mem hquiet hk
      have hsame : s.getCtx = t.getCtx := (congrArg State.getCtx hties :).symm
      have hpicked : s.servesRouter d t := State.servesRouter_ties hties
      have htaken : s.servesRouter d (t.routerTake d) :=
        hpicked.trans (State.servesRouter_routerTake (hsame ▸ hheld))
      have hheld' : ((t.routerTake d).getCtx d).held = (s.getCtx d).held := (congrArg CtxRec.held htaken.own :)
      have hrun' : ((t.routerTake d).getCtx d).run = (s.getCtx d).run := (congrArg CtxRec.run htaken.own :)
      exact htaken.trans (ih (fun p hp hd => hquiet p (htaken.others.entries p hp hd) hd) (by rwa [hheld', hrun']))
    · next t hgrant =>
      rw [hgrant] at hties
      exact State.servesRouter_ties hties

/-- Units that are free again go to the operations of c alone. -/
theorem State.servesRouter_routerNext (hquiet : ∀ p ∈ s.ctx, p.1 ≠ c → p.2.routerQuiet)
    (hheld : (s.getCtx c).held = none ∨ (s.getCtx c).run ≠ .running) : s.servesRouter c s.routerNext :=
  State.servesRouter_routerRound _ hquiet hheld

end

/-! ## Claims (R255, R264, R266) -/

/-- The words that place claims are as before: bindings, claim registers, and the partitions of the domains. -/
structure State.sameClaims (s t : State) : Prop where
  rd : ∀ d, ∀ o ∈ [Off.CTX_BIND, Off.CTX_CLAIM_CL, Off.CTX_CLAIM_CORE], t.rd (reg (pgCTX d) o) = s.rd (reg (pgCTX d) o)
  partition : t.partition = s.partition

section
variable {s t u : State} {c : Nat}

section
variable {α β : Type} {d : α} {m : List (Nat × α)} {k : Nat} (f : Nat × α → Option β) (hk : ∀ v, f (k, v) = none)
include hk

theorem filterMap_mapDel : (mapDel k m).filterMap f = m.filterMap f := by
  induction m with
  | nil => rfl
  | cons p m ih =>
    obtain ⟨j, w⟩ := p
    unfold mapDel
    split
    · subst_vars
      rw [ih, List.filterMap_cons, hk]
    · rw [List.filterMap_cons, List.filterMap_cons, ih]

theorem filterMap_mapPut (v : α) : (mapPut k v m).filterMap f = m.filterMap f := by
  induction m with
  | nil => simp [mapPut, hk]
  | cons p m ih =>
    obtain ⟨j, w⟩ := p
    unfold mapPut
    split
    · rw [List.filterMap_cons, hk]
    · split
      · subst_vars
        rw [List.filterMap_cons, List.filterMap_cons, hk, hk]
      · rw [List.filterMap_cons, List.filterMap_cons, ih]

/-- A list drawn from a table that a key does not enter is as before a write of the key. -/
theorem filterMap_mapSet [DecidableEq α] (v : α) : (mapSet d m k v).filterMap f = m.filterMap f := by
  unfold mapSet
  split
  · exact filterMap_mapDel f hk
  · exact filterMap_mapPut f hk v

end

theorem State.sameClaims_of_eq (hregs : t.regs = s.regs) (hfuse : t.fuse = s.fuse) : s.sameClaims t := by
  refine ⟨fun d o _ => congrArg (mapGet (resetReg _) · _) hregs, funext fun d => ?_⟩
  have huse : t.cluUse = s.cluUse := funext fun cl => by rw [State.cluUse, State.cluUse, hfuse]
  have hen : t.cluEnabled = s.cluEnabled := funext fun cl => by rw [State.cluEnabled, State.cluEnabled, huse]
  rw [State.partition, State.partition, hregs, hen]

theorem State.sameClaims.trans (hst : s.sameClaims t) (htu : t.sameClaims u) : s.sameClaims u :=
  ⟨fun d o ho => (htu.rd d o ho).trans (hst.rd d o ho), htu.partition.trans hst.partition⟩

/-- Registers of a context's page other than its binding and its claim place no claim (R255, R262, R588). -/
theorem State.sameClaims_wr (s : State) {p o : Nat} (hp : 0x1BB8 ≤ p) (ho : o < 4096) (hoff : o ∉ [Off.CTX_BIND, Off.CTX_CLAIM_CL, Off.CTX_CLAIM_CORE]) (v : Word) :
    s.sameClaims (s.wr (reg p o) v) := by
  refine ⟨fun d a ha => s.rd_wr_other v (reg_ne ?_ ho (Or.inr ?_)), funext fun d => filterMap_mapSet _ (fun w => ?_) v⟩
  · fin_cases ha <;> decide
  · rintro rfl; exact hoff ha
  · simp [reg_div p ho, hp]

theorem State.sameClaims_wr64 (s : State) {p o : Nat} (hp : 0x1BB8 ≤ p) (ho : o + 4 < 4096) (hlow : o ∉ [Off.CTX_BIND, Off.CTX_CLAIM_CL, Off.CTX_CLAIM_CORE])
    (hhigh : o + 4 ∉ [Off.CTX_BIND, Off.CTX_CLAIM_CL, Off.CTX_CLAIM_CORE]) (v : DWord) : s.sameClaims (s.wr64 (reg p o) v) := by
  have hkey : reg p o + 4 = reg p (o + 4) := Nat.add_assoc _ _ _
  rw [State.wr64, hkey]
  exact (s.sameClaims_wr hp (Nat.lt_of_add_right_lt ho) hlow _).trans (State.sameClaims_wr _ hp ho hhigh _)

/-- A claim is placed by the words it was granted with, or else by its registers (R264, R277). -/
theorem State.sameClaims.claim (h : s.sameClaims t) {d : Nat} (hgranted : (t.getCtx d).grantedClaim = (s.getCtx d).grantedClaim) : t.claim d = s.claim d := by
  have hwords : t.claimWords d = s.claimWords d := by
    rw [State.claimWords, State.claimWords, hgranted, h.rd d _ (by simp), h.rd d _ (by simp)]
  rw [State.claim, State.claim, hwords]

theorem State.sameClaims.ctxDom (h : s.sameClaims t) : t.ctxDom = s.ctxDom :=
  funext fun d => by rw [State.ctxDom, State.ctxDom, h.rd d _ (by simp)]

/-- Whether a claim is too large depends on its words and on its partition (R266). -/
theorem State.sameClaims.claimBad (h : s.sameClaims t) (hgranted : (t.getCtx c).grantedClaim = (s.getCtx c).grantedClaim) : t.claimBad c = s.claimBad c := by
  have hdom : t.domOf c = s.domOf c := by rw [State.domOf, State.domOf, h.ctxDom]
  rw [State.claimBad, State.claimBad, h.claim hgranted, hdom, h.partition]

/-- A claim that no resident claim overlaps stays so while the other contexts keep theirs (R264). -/
theorem State.sameClaims.rivals_nil (h : s.sameClaims t) (hothers : s.keepsOthers c t) (hgranted : (t.getCtx c).grantedClaim = (s.getCtx c).grantedClaim)
    (hnone : s.rivals c = []) : t.rivals c = [] := by
  refine List.filterMap_eq_nil_iff.2 fun p hp => if_neg fun hmeets => ?_
  simp only [Bool.and_eq_true, bne_iff_ne, beq_iff_eq] at hmeets
  obtain ⟨⟨⟨hres, hpc⟩, hdom⟩, hmeet⟩ := hmeets
  rw [h.ctxDom] at hdom
  rw [h.claim hgranted, h.claim (congrArg CtxRec.grantedClaim (hothers.getCtx p.1 hpc))] at hmeet
  have hrival := List.filterMap_eq_nil_iff.1 hnone p (hothers.entries p hp hpc)
  simp [hres, hpc, hdom, hmeet] at hrival

/-- A claim that fits, and that no resident claim overlaps, is granted (R266). -/
theorem State.requestClaim_granted (hbad : s.claimBad c = false) (hnone : s.rivals c = []) : s.requestClaim c = s.grantClaim c := by
  simp [State.requestClaim, hbad, hnone]

/-- A state with the records of cores of another. -/
def State.withCores (s u : State) : State := { u with cores := s.cores }

/-- The tiles of a claim that starts change the records of cores (R97). -/
theorem State.clearOrigins_frame (s : State) (c : Nat) : s.withCores (s.clearOrigins c) = s := by
  unfold State.clearOrigins
  dsimp only
  refine foldl_keeps (fun t : State => s.withCores t = s) _ (fun t q ht => ?_) _ s rfl
  refine foldl_keeps (fun t : State => s.withCores t = s) _ (fun u i hu => ?_) _ t ht
  exact hu

/-- A grant of residency changes the record of its context, and the tiles of its claim (R266). -/
theorem State.grantClaim_frame (s : State) (c : Nat) : s.withCores (s.grantClaim c) = s.setCtx c { s.getCtx c with
    resident := true, starting := false, grantedClaim := some (s.claimWords c), run := if (s.getCtx c).saveValid then .restoring else .running } := by
  unfold State.grantClaim
  dsimp only
  split
  · exact (congrArg (fun u : State => u.setCtx c { u.getCtx c with
      resident := true, starting := false, grantedClaim := some (u.claimWords c), run := if (u.getCtx c).saveValid then .restoring else .running })
      (s.clearOrigins_frame c) :)
  · rfl

@[simp] theorem State.rd_grantClaim (s : State) (c k : Nat) : (s.grantClaim c).rd k = s.rd k := (congrArg (State.rd · k) (s.grantClaim_frame c) :)

theorem State.getCtx_grantClaim (s : State) (c : Nat) : (s.grantClaim c).getCtx c = { s.getCtx c with
    resident := true, starting := false, grantedClaim := some (s.claimWords c), run := if (s.getCtx c).saveValid then .restoring else .running } :=
  (congrArg (State.getCtx · c) (s.grantClaim_frame c) :).trans (State.getCtx_setCtx_self _ _ _)

theorem State.keepsOthers_grantClaim (s : State) (c : Nat) : s.keepsOthers c (s.grantClaim c) :=
  (s.keepsOthers_setCtx c _).trans (State.keepsOthers_of_eq (congrArg State.mem (s.grantClaim_frame c) :) (congrArg State.ctx (s.grantClaim_frame c) :))

end

/-! ## Steps that keep the records of contexts -/

/-- A register of a window stands at its offset (R12). -/
theorem wreg_mod (w p : Nat) {o : Nat} (h : o < 4096) : wreg w p o % 4096 = o := by unfold wreg reg; omega

section
variable (s : State) (c : Nat)

theorem State.clearErr_frame (p : Nat) : s.withRegs (s.clearErr p) = s := by
  rw [State.clearErr, State.wrBit, State.withRegs_wr, State.withRegs_clearRegs, State.withRegs_self]

@[simp] theorem State.clearErr_mem (p : Nat) : (s.clearErr p).mem = s.mem := (congrArg State.mem (s.clearErr_frame p) :)
@[simp] theorem State.clearErr_ctx (p : Nat) : (s.clearErr p).ctx = s.ctx := (congrArg State.ctx (s.clearErr_frame p) :)

/-- A state with other saves of contexts. -/
def State.withSaves (m : List (Nat × SaveRec)) : State := { s with saves := m }

@[simp] theorem State.getCtx_withSaves (m : List (Nat × SaveRec)) (d : Nat) : (s.withSaves m).getCtx d = s.getCtx d := rfl
@[simp] theorem State.withSaves_regs (m : List (Nat × SaveRec)) : (s.withSaves m).regs = s.regs := rfl
@[simp] theorem State.freeClaim_regs : (s.freeClaim c).regs = s.regs := rfl
@[simp] theorem State.withSaves_mem (m : List (Nat × SaveRec)) : (s.withSaves m).mem = s.mem := rfl
@[simp] theorem State.withSaves_marks (m : List (Nat × SaveRec)) : (s.withSaves m).marks = s.marks := rfl
@[simp] theorem State.withSaves_ctx (m : List (Nat × SaveRec)) : (s.withSaves m).ctx = s.ctx := rfl
@[simp] theorem State.withSaves_saves (m : List (Nat × SaveRec)) : (s.withSaves m).saves = m := rfl
@[simp] theorem State.freeClaim_mem : (s.freeClaim c).mem = s.mem := rfl
@[simp] theorem State.freeClaim_saves : (s.freeClaim c).saves = s.saves := rfl
@[simp] theorem State.modCtx_mem (f : CtxRec → CtxRec) : (s.modCtx c f).mem = s.mem := rfl
@[simp] theorem State.modCtx_marks (f : CtxRec → CtxRec) : (s.modCtx c f).marks = s.marks := rfl
@[simp] theorem State.modCtx_saves (f : CtxRec → CtxRec) : (s.modCtx c f).saves = s.saves := rfl
@[simp] theorem State.rd_modCtx (f : CtxRec → CtxRec) (k : Nat) : (s.modCtx c f).rd k = s.rd k := rfl
@[simp] theorem State.rd_freeClaim (k : Nat) : (s.freeClaim c).rd k = s.rd k := rfl
@[simp] theorem State.endStep_saves : (s.endStep c).saves = s.saves := rfl
@[simp] theorem State.rd_endStep (k : Nat) : (s.endStep c).rd k = s.rd k := rfl
@[simp] theorem State.getCtx_setPc (w : DWord) (d : Nat) : (s.setPc c w).getCtx d = s.getCtx d := rfl

theorem State.getCtx_endStep : (s.endStep c).getCtx c = { s.getCtx c with stepPending := false, voted := false } := State.getCtx_setCtx_self _ _ _

theorem State.getCtx_freeClaim : (s.freeClaim c).getCtx c = { s.getCtx c with resident := false, grantedClaim := none } := State.getCtx_setCtx_self _ _ _

theorem State.keepsOthers_freeClaim : s.keepsOthers c (s.freeClaim c) := State.keepsOthers_setCtx _ _ _
theorem State.keepsOthers_setPc (w : DWord) : s.keepsOthers c (s.setPc c w) := State.keepsOthers_of_eq rfl rfl
theorem State.keepsOthers_withSaves (m : List (Nat × SaveRec)) : s.keepsOthers c (s.withSaves m) := State.keepsOthers_of_eq rfl rfl

theorem State.keepsOthers_releaseCmd (id : Nat) : s.keepsOthers c (s.releaseCmd c id) :=
  State.keepsOthers_of_eq (s.releaseCmd_mem c id) (s.releaseCmd_ctx c id)

/-- A counter and an event keep the records of contexts. -/
theorem State.getCtx_incRaise (k page i d : Nat) : ((s.inc k).raise page i).getCtx d = s.getCtx d := by simp [State.getCtx]

theorem State.saves_incRaise (k page i : Nat) : ((s.inc k).raise page i).saves = s.saves :=
  (congrArg State.saves (State.raise_frame (s.inc k) page i) :).trans (s.inc_saves k 1)

theorem State.keepsOthers_incRaise (k page i : Nat) : s.keepsOthers c ((s.inc k).raise page i) :=
  State.keepsOthers_of_eq ((State.raiseBits_mem _ _ _).trans (s.inc_mem k 1)) ((State.raise_ctx _ _ _).trans (s.inc_ctx k 1))

end

end Sys2Proof.Machine
end

section
/-! PROOFS. Restarts and releases of contexts (R180, R238, R267, R274, R431). -/

namespace Sys2Proof.Machine

open Sys2Proof

/-! ## Writes of CTX_RUN_CTRL (R274) -/

section
variable {s : State} {se : SessIx} {c : Ctx} {v : Word}

/-- A write of CTX_RUN_CTRL is carried out by runCtrl. -/
theorem State.regWrite_runCtrl (u : State) (se : Nat) (c : Ctx) (v : Word) :
    u.regWrite se (reg (pgCTX c.toNat) Off.CTX_RUN_CTRL) v = (0, u.runCtrl c.toNat v) :=
  (State.regWrite_ctx _ v c (by decide) (by decide) rfl (by decide) (by decide)).trans (by simp [State.writeCtx])

/-- A session that writes CTX_RUN_CTRL of a context leaves what run control leaves of the state with its entry under way, and its answer. -/
theorem State.commit_runCtrl (h : s.mayWrite se (reg (pgCTX c.toNat) Off.CTX_RUN_CTRL) v = true) :
    ∃ u, s.withEntry u = s ∧ s.commit (s.putCtx se c Off.CTX_RUN_CTRL v) = .next (s.replied (u.runCtrl c.toNat v) se.toNat) :=
  ⟨_, s.hearing_frame _ _ v, State.commit_put h (pgCTX_lt c) (by decide) (State.regWrite_runCtrl _ _ _ _)⟩

/-- A write that run control does not accept changes no record of a context and no memory, and sets INVALID_WRITE. -/
theorem State.commit_runCtrl_refused (h : s.mayWrite se (reg (pgCTX c.toNat) Off.CTX_RUN_CTRL) v = true)
    (hw : ∀ u : State, s.withEntry u = s → u.runCtrl c.toNat v = u.invalidWrite (pgCTX c.toNat)) :
    ∃ t, s.commit (s.putCtx se c Off.CTX_RUN_CTRL v) = .next t ∧ t.ctx = s.ctx ∧ t.mem = s.mem ∧ bit (t.rd (reg (pgCTX c.toNat) Off.EVENT)) 31 = true := by
  obtain ⟨u, hu, hcommit⟩ := State.commit_runCtrl h
  refine ⟨_, hcommit, ?_⟩
  rw [hw u hu]
  refine ⟨(State.raise_ctx _ _ evInvalid).trans (congrArg State.ctx hu :), (State.raiseBits_mem _ _ _).trans (congrArg State.mem hu :), ?_⟩
  exact State.event_raise _ _ evInvalid (by decide) (reg_ne (by decide) (by decide) (Or.inr (by decide)))

end

/-! ## RESTART -/

section
variable (s : State) (c : Nat)

/-- A faulted context that restarts, its error record clear, its claim free and no loop active. -/
def State.restarting : State := ((s.clearErr (pgCTX c)).freeClaim c).modCtx c fun x =>
  { x with stack := [], held := none, chainLeft := 0, savingFault := false, byPreempt := false, run := .ready }

/-- The state in which a restarted context asks for its claim. -/
def State.restartPoint : State := (s.restarting c).setPc c ((s.restarting c).rd64 (reg (pgCTX c) Off.CTX_RESTART_PC_LO))

variable {s c}

theorem State.runCtrl_restart (h : (s.getCtx c).run = .faulted ∧ (s.getCtx c).releaseOnly = false ∧ s.restartPcOk c = true) :
    s.runCtrl c 4 = (s.restartPoint c).requestClaim c :=
  congrArg (Option.getD · (s.invalidWrite (pgCTX c))) (if_pos h : s.restartCtx c = some ((s.restartPoint c).requestClaim c))

theorem State.runCtrl_restart_refused (h : ¬ ((s.getCtx c).run = .faulted ∧ (s.getCtx c).releaseOnly = false ∧ s.restartPcOk c = true)) :
    s.runCtrl c 4 = s.invalidWrite (pgCTX c) :=
  congrArg (Option.getD · (s.invalidWrite (pgCTX c))) (if_neg h : s.restartCtx c = none)

variable (s c)

theorem State.keepsOthers_restartPoint : (s.freeClaim c).keepsOthers c (s.restartPoint c) := by
  have hfreed : (s.freeClaim c).keepsOthers c ((s.clearErr (pgCTX c)).freeClaim c) := by
    refine State.keepsOthers_of_eq ?_ ?_ <;> simp [State.freeClaim, State.modCtx, State.setCtx, State.getCtx]
  have hready : (s.freeClaim c).keepsOthers c (s.restarting c) := hfreed.modCtx _
  exact hready.trans (State.keepsOthers_setPc _ c _)

/-- A restarted context has no loop active and waits for its claim. -/
theorem State.getCtx_restartPoint : (s.restartPoint c).getCtx c = { s.getCtx c with
    resident := false, grantedClaim := none, stack := [], held := none, chainLeft := 0, savingFault := false, byPreempt := false, run := .ready } := by
  have hcleared : (s.clearErr (pgCTX c)).getCtx c = s.getCtx c := by simp [State.getCtx]
  rw [State.restartPoint, State.getCtx_setPc, State.restarting, State.getCtx_modCtx_self, State.getCtx_freeClaim, hcleared]

/-- A restart writes its position and the error record, which place no claim. -/
theorem State.sameClaims_restartPoint : (s.freeClaim c).sameClaims (s.restartPoint c) := by
  have hpage : 0x1BB8 ≤ pgCTX c := Nat.le_add_right_of_le (by decide)
  have hcleared : s.sameClaims (s.clearErr (pgCTX c)) := by
    have hrecord := ((s.sameClaims_wr hpage (o := Off.ERR_CODE) (by decide) (by decide) 0).trans
      (State.sameClaims_wr _ hpage (o := Off.ERR_INFO0) (by decide) (by decide) 0)).trans
      (State.sameClaims_wr _ hpage (o := Off.ERR_INFO1) (by decide) (by decide) 0)
    exact hrecord.trans (State.sameClaims_wr _ hpage (o := Off.EVENT) (by decide) (by decide) _)
  have hfreed (t : State) : (t.freeClaim c).sameClaims t := State.sameClaims_of_eq rfl rfl
  have hrecords (t : State) (f : CtxRec → CtxRec) : t.sameClaims ((t.freeClaim c).modCtx c f) := State.sameClaims_of_eq rfl rfl
  have hready : (s.clearErr (pgCTX c)).sameClaims (s.restarting c) := hrecords _ _
  have hplaced (t : State) (w : DWord) : t.sameClaims (t.setPc c w) := t.sameClaims_wr64 hpage (by decide) (by decide) (by decide) w
  rw [State.restartPoint]
  exact (((hfreed s).trans hcleared).trans hready).trans (hplaced _ _)

/-- A register of the page of a restarted context is its position, or stands as the cleared error record leaves it. -/
theorem State.rd_restartPoint {o : Nat} (hlow : o ≠ Off.CTX_PC_LO) (hhigh : o ≠ Off.CTX_PC_LO + 4) :
    (s.restartPoint c).rd (reg (pgCTX c) o) = (s.clearErr (pgCTX c)).rd (reg (pgCTX c) o) := by
  obtain ⟨hlow', hhigh'⟩ := reg_ne_pair (pgCTX c) hlow hhigh
  rw [State.restartPoint, State.setPc, State.rd_wr64_other _ _ hlow' hhigh', State.restarting, State.rd_modCtx, State.rd_freeClaim]

/-- A restarted context stands at CTX_RESTART_PC (R274). -/
theorem State.pc_restartPoint : (s.restartPoint c).pc c = s.rd64 (reg (pgCTX c) Off.CTX_RESTART_PC_LO) := by
  have hkept (o : Nat) (ho : o ∉ [Off.ERR_CODE, Off.ERR_INFO0, Off.ERR_INFO1, Off.EVENT]) :
      (s.restarting c).rd (reg (pgCTX c) o) = s.rd (reg (pgCTX c) o) := by
    simp only [List.mem_cons, List.not_mem_nil, or_false, not_or] at ho
    simp [State.restarting, State.clearErr, State.clearRegs, State.wrBit, State.rd_wr, ho]
  rw [State.restartPoint, State.pc, State.setPc, State.rd64_wr64_self]
  exact State.rd64_congr_page (hkept _ (by decide)) (hkept _ (by decide))

/-- The error record of a restarted context is clear (R431). -/
theorem State.record_restartPoint : (s.restartPoint c).rd (reg (pgCTX c) Off.ERR_CODE) = 0 ∧ bit ((s.restartPoint c).rd (reg (pgCTX c) Off.EVENT)) 30 = false := by
  rw [s.rd_restartPoint c (by decide) (by decide), s.rd_restartPoint c (by decide) (by decide)]
  refine ⟨by simp [State.clearErr, State.clearRegs, State.wrBit, State.rd_wr], ?_⟩
  simp only [State.clearErr, State.wrBit, State.rd_wr_self]
  simp [bit, setBit, evError]

/-- A context that has restarted with its claim. -/
def State.restarted : State := (s.restartPoint c).grantClaim c

variable {s c}

/-- A restarted context that asks for its claim asks as it stands with its claim free (R264, R266). -/
theorem State.requestClaim_restartPoint (hbad : (s.freeClaim c).claimBad c = false) (hnone : (s.freeClaim c).rivals c = []) :
    (s.restartPoint c).requestClaim c = s.restarted c := by
  have hclaims := s.sameClaims_restartPoint c
  have hgranted : ((s.restartPoint c).getCtx c).grantedClaim = ((s.freeClaim c).getCtx c).grantedClaim := by
    rw [State.getCtx_restartPoint, State.getCtx_freeClaim]
  exact State.requestClaim_granted ((hclaims.claimBad hgranted).trans hbad) (hclaims.rivals_nil (s.keepsOthers_restartPoint c) hgranted hnone)

variable (s c)

theorem State.keepsOthers_restarted : s.keepsOthers c (s.restarted c) :=
  (s.keepsOthers_freeClaim c).trans ((s.keepsOthers_restartPoint c).trans (State.keepsOthers_grantClaim _ c))

/-- A restarted context goes on at CTX_RESTART_PC, its error record clear and no loop active (R274, R431). -/
theorem State.restarted_goes : (s.restarted c).pc c = s.rd64 (reg (pgCTX c) Off.CTX_RESTART_PC_LO) ∧ (s.restarted c).rd (reg (pgCTX c) Off.ERR_CODE) = 0 ∧
    bit ((s.restarted c).rd (reg (pgCTX c) Off.EVENT)) 30 = false ∧ ((s.restarted c).getCtx c).stack = [] ∧ ((s.restarted c).getCtx c).resident = true ∧
    ((s.restarted c).getCtx c).run = (if (s.getCtx c).saveValid then .restoring else .running) := by
  obtain ⟨herr, hevent⟩ := s.record_restartPoint c
  have hpc : (s.restarted c).pc c = (s.restartPoint c).pc c := State.rd64_congr (State.rd_grantClaim _ c _) (State.rd_grantClaim _ c _)
  rw [hpc, State.restarted, State.rd_grantClaim, State.rd_grantClaim, State.getCtx_grantClaim, State.getCtx_restartPoint]
  exact ⟨s.pc_restartPoint c, herr, hevent, rfl, rfl, rfl⟩

end

/-! ## RELEASE -/

section
variable (s : State) (c : Nat)

/-- A context that still works is killed. -/
def State.killed : State := if (s.getCtx c).run = .faulted then s else s.ctxFault c ⟨Err.CONTEXT_KILLED, 0, 0⟩

/-- A killed context without its claim and its save. -/
def State.unclaimed : State :=
  let t := ((s.killed c).releaseCmd c (2 ^ 64)).freeClaim c
  t.withSaves (mapDel c t.saves)

/-- A pending step is discarded (R238; log entry 27, DESIGN CHOICE). -/
def State.discardStep : State :=
  if (s.getCtx c).stepPending then ((s.inc (updReg c Off.UPD_CTX_DISCARDS)).raise pgUPD 5).endStep c else s

/-- A released context comes to rest. -/
def State.atRest : State := s.modCtx c fun x =>
  { x with run := .idle, saveValid := false, savingFault := false, releaseOnly := false, byPreempt := false,
           stack := [], chainLeft := 0, engines := [], preemptAfter := false, starting := false }

variable {s c}

theorem State.runCtrl_release (hunbound : (s.getCtx c).run ≠ .unbound) (hidle : (s.getCtx c).run ≠ .idle) :
    s.runCtrl c 8 = (((s.unclaimed c).discardStep c).atRest c).routerNext := by
  have hgo : s.runCtrl c 8 = (s.releaseRun c).getD (s.invalidWrite (pgCTX c)) := rfl
  rw [hgo, State.releaseRun]
  simp only [hunbound, hidle, or_self, if_false, Option.getD_some]
  rfl

theorem State.runCtrl_release_refused (h : (s.getCtx c).run = .unbound ∨ (s.getCtx c).run = .idle) : s.runCtrl c 8 = s.invalidWrite (pgCTX c) :=
  congrArg (Option.getD · (s.invalidWrite (pgCTX c))) (if_pos h : s.releaseRun c = none)

variable (s c)

theorem State.keepsOthers_unclaimed : s.keepsOthers c (s.unclaimed c) := by
  have hkilled : s.keepsOthers c (s.killed c) := by
    unfold State.killed
    split
    · exact s.keepsOthers_refl c
    · exact s.keepsOthers_ctxFault c _
  have hfreed := (hkilled.trans (State.keepsOthers_releaseCmd _ c (2 ^ 64))).trans (State.keepsOthers_freeClaim _ c)
  rw [State.unclaimed]
  exact hfreed.trans (State.keepsOthers_withSaves _ c _)

theorem State.getCtx_unclaimed : (s.unclaimed c).getCtx c = { (s.killed c).getCtx c with resident := false, grantedClaim := none } := by
  have hreleased : ((s.killed c).releaseCmd c (2 ^ 64)).getCtx c = (s.killed c).getCtx c := by rw [State.getCtx, State.releaseCmd_ctx, State.getCtx]
  rw [State.unclaimed, State.getCtx_withSaves, State.getCtx_freeClaim, hreleased]

theorem State.saves_unclaimed : mapGet {} (s.unclaimed c).saves c = {} := mapGet_mapDel_self _ _ _

/-- A context that has stopped keeps its registers as it loses its claim. -/
theorem State.unclaimed_regs (h : (s.getCtx c).run = .faulted) : (s.unclaimed c).regs = s.regs := by
  have hkilled : s.killed c = s := if_pos h
  rw [State.unclaimed, State.withSaves_regs, State.freeClaim_regs, State.releaseCmd_regs, hkilled]

theorem State.keepsOthers_discardStep : s.keepsOthers c (s.discardStep c) := by
  unfold State.discardStep
  split
  · exact (s.keepsOthers_incRaise c _ _ _).trans (State.keepsOthers_endStep _ c)
  · exact s.keepsOthers_refl c

/-- A context whose step is discarded keeps its claim and its save. -/
theorem State.discardStep_resolves : ((s.discardStep c).getCtx c).stepPending = false ∧ ((s.discardStep c).getCtx c).resident = (s.getCtx c).resident ∧
    ((s.discardStep c).getCtx c).grantedClaim = (s.getCtx c).grantedClaim ∧ (s.discardStep c).saves = s.saves := by
  unfold State.discardStep
  split
  · rw [State.getCtx_endStep, State.getCtx_incRaise, State.endStep_saves, State.saves_incRaise]
    exact ⟨rfl, rfl, rfl, rfl⟩
  · next h => exact ⟨by simpa using h, rfl, rfl, rfl⟩

/-- A step that is discarded counts (R238). -/
theorem State.rd_discardStep (h : (s.getCtx c).stepPending = true) :
    (s.discardStep c).rd (updReg c Off.UPD_CTX_DISCARDS) = satAdd (s.rd (updReg c Off.UPD_CTX_DISCARDS)) 1 := by
  have habove {p o : Nat} (hkey : reg p o < 2 ^ 28) : updReg c Off.UPD_CTX_DISCARDS ≠ reg p o := (hkey.trans_le (wreg_ge _ _ _)).ne'
  rw [State.discardStep, if_pos h, State.rd_endStep, State.rd_raise _ _ _ _ (habove (by decide)) (habove (by decide)) (habove (by decide)),
    State.inc, State.rd_wr_self]

/-- A context that a release leaves at rest, before the router units are handed on. -/
def State.released : State := ((s.unclaimed c).discardStep c).atRest c

theorem State.keepsOthers_released : s.keepsOthers c (s.released c) := by
  have hresolved := (s.keepsOthers_unclaimed c).trans (State.keepsOthers_discardStep _ c)
  rw [State.released, State.atRest]
  exact hresolved.trans (State.keepsOthers_modCtx _ _ _)

/-- A released context is IDLE, without its save, its claim, its loops and its pending step (R238, R267, R274). -/
theorem State.released_rests : ((s.released c).getCtx c).run = .idle ∧ ((s.released c).getCtx c).saveValid = false ∧ ((s.released c).getCtx c).resident = false ∧
    ((s.released c).getCtx c).grantedClaim = none ∧ ((s.released c).getCtx c).stack = [] ∧ ((s.released c).getCtx c).stepPending = false ∧
    mapGet {} (s.released c).saves c = {} := by
  obtain ⟨hstep, hres, hgranted, hsaves⟩ := (s.unclaimed c).discardStep_resolves c
  rw [State.getCtx_unclaimed] at hres hgranted
  rw [State.released, State.atRest, State.getCtx_modCtx_self, State.modCtx_saves, hsaves]
  generalize ((s.unclaimed c).discardStep c).getCtx c = r at *
  exact ⟨rfl, rfl, hres, hgranted, rfl, hstep, s.saves_unclaimed c⟩

/-- The pending step of a context that has stopped counts as discarded when the context is released (R238, R274). -/
theorem State.rd_released (hrun : (s.getCtx c).run = .faulted) (hstep : (s.getCtx c).stepPending = true) :
    (s.released c).rd (updReg c Off.UPD_CTX_DISCARDS) = satAdd (s.rd (updReg c Off.UPD_CTX_DISCARDS)) 1 := by
  have hkilled : s.killed c = s := if_pos hrun
  have hpending : ((s.unclaimed c).getCtx c).stepPending = true := by rw [State.getCtx_unclaimed, hkilled]; exact hstep
  have hregs : (s.unclaimed c).rd (updReg c Off.UPD_CTX_DISCARDS) = s.rd (updReg c Off.UPD_CTX_DISCARDS) := by
    rw [State.rd, s.unclaimed_regs c hrun, State.rd]
  rw [State.released, State.atRest, State.rd_modCtx, State.rd_discardStep _ _ hpending, hregs]

/-- Where no other context waits for router units, a release serves none but the released one, which is at rest (R180). -/
theorem State.servesRouter_released (hquiet : s.routerQuiet c = true) : (s.released c).servesRouter c (s.released c).routerNext := by
  have hothers := s.keepsOthers_released c
  obtain ⟨hidle, -⟩ := s.released_rests c
  exact State.servesRouter_routerNext (fun p hp hpc => State.routerQuiet_others hquiet (hothers.entries p hp hpc) hpc) (Or.inr (by rw [hidle]; decide))

end

/-! ## The obligation -/

section
variable {s : State} {se : SessIx} {c : Ctx}

/-- RESTART of a context whose claim is free at its restart (R274). -/
theorem State.restart_effect (h : s.mayWrite se (reg (pgCTX c.toNat) Off.CTX_RUN_CTRL) 4 = true)
    (hgo : (s.getCtx c.toNat).run = .faulted ∧ (s.getCtx c.toNat).releaseOnly = false ∧ s.restartPcOk c.toNat = true)
    (hbad : (s.freeClaim c.toNat).claimBad c.toNat = false) (hnone : (s.freeClaim c.toNat).rivals c.toNat = []) :
    ∃ t, s.commit (s.putCtx se c Off.CTX_RUN_CTRL 4) = .next t ∧ t.pc c.toNat = s.rd64 (reg (pgCTX c.toNat) Off.CTX_RESTART_PC_LO) ∧
      t.rd (reg (pgCTX c.toNat) Off.ERR_CODE) = 0 ∧ bit (t.rd (reg (pgCTX c.toNat) Off.EVENT)) 30 = false ∧ t.mem = s.mem ∧
      (t.getCtx c.toNat).stack = [] ∧ (t.getCtx c.toNat).resident = true ∧
      (t.getCtx c.toNat).run = (if (s.getCtx c.toNat).saveValid then .restoring else .running) ∧ ∀ d, d ≠ c.toNat → t.getCtx d = s.getCtx d := by
  obtain ⟨u, hu, hcommit⟩ := State.commit_runCtrl h
  obtain ⟨u, hu, hcommit⟩ := State.commit_runCtrl h
  have hctx : u.ctx = s.ctx := (congrArg State.ctx hu :)
  have hrecord : u.getCtx c.toNat = s.getCtx c.toNat := congrArg (mapGet ({} : CtxRec) · c.toNat) hctx
  have hpcOk : u.restartPcOk c.toNat = s.restartPcOk c.toNat := (congrArg (State.restartPcOk · c.toNat) hu :)
  have hheard : s.keepsOthers c.toNat u := State.keepsOthers_of_eq (congrArg State.mem hu :) hctx
  have hfreed : (s.freeClaim c.toNat).keepsOthers c.toNat (u.freeClaim c.toNat) :=
    State.keepsOthers_of_eq hheard.mem (by simp only [State.freeClaim, State.modCtx, State.setCtx, hrecord, hctx])
  have hclaims : (s.freeClaim c.toNat).sameClaims (u.freeClaim c.toNat) := State.sameClaims_of_eq (congrArg State.regs hu :) (congrArg State.fuse hu :)
  have hgranted : ((u.freeClaim c.toNat).getCtx c.toNat).grantedClaim = ((s.freeClaim c.toNat).getCtx c.toNat).grantedClaim := by
    rw [State.getCtx_freeClaim, State.getCtx_freeClaim]
  have hclaim := State.requestClaim_restartPoint ((hclaims.claimBad hgranted).trans hbad) (hclaims.rivals_nil hfreed hgranted hnone)
  rw [← hrecord, ← hpcOk] at hgo
  rw [State.runCtrl_restart hgo, hclaim] at hcommit
  obtain ⟨hpc, herr, hevent, hstack, hres, hrun⟩ := u.restarted_goes c.toNat
  have hothers := hheard.trans (u.keepsOthers_restarted c.toNat)
  have hstart : u.rd64 (reg (pgCTX c.toNat) Off.CTX_RESTART_PC_LO) = s.rd64 (reg (pgCTX c.toNat) Off.CTX_RESTART_PC_LO) := (congrArg (State.rd64 · _) hu :)
  rw [hstart] at hpc
  rw [hrecord] at hrun
  generalize u.restarted c.toNat = t at *
  exact ⟨_, hcommit, hpc, herr, hevent, hothers.mem, hstack, hres, hrun, hothers.getCtx⟩

/-- RELEASE of a context with a stream, where no other waits for router units (R180, R238, R274). -/
theorem State.release_effect (h : s.mayWrite se (reg (pgCTX c.toNat) Off.CTX_RUN_CTRL) 8 = true) (hunbound : (s.getCtx c.toNat).run ≠ .unbound)
    (hidle : (s.getCtx c.toNat).run ≠ .idle) (hquiet : s.routerQuiet c.toNat = true) :
    ∃ t, s.commit (s.putCtx se c Off.CTX_RUN_CTRL 8) = .next t ∧ (t.getCtx c.toNat).run = .idle ∧
      (t.getCtx c.toNat).saveValid = false ∧ (t.getCtx c.toNat).resident = false ∧ (t.getCtx c.toNat).grantedClaim = none ∧
      (t.getCtx c.toNat).stack = [] ∧ (t.getCtx c.toNat).stepPending = false ∧ mapGet {} t.saves c.toNat = {} ∧ t.mem = s.mem ∧
      (∀ d, d ≠ c.toNat → t.getCtx d = s.getCtx d) ∧ ((s.getCtx c.toNat).stepPending = true → (s.getCtx c.toNat).run = .faulted →
        t.rd (updReg c.toNat Off.UPD_CTX_DISCARDS) = satAdd (s.rd (updReg c.toNat Off.UPD_CTX_DISCARDS)) 1) := by
  obtain ⟨u, hu, hcommit⟩ := State.commit_runCtrl h
  have hctx : u.ctx = s.ctx := (congrArg State.ctx hu :)
  have hrecord : u.getCtx c.toNat = s.getCtx c.toNat := congrArg (mapGet ({} : CtxRec) · c.toNat) hctx
  have hquiet' : u.routerQuiet c.toNat = true := by rw [State.routerQuiet, hctx, hrecord]; exact hquiet
  have hheard : s.keepsOthers c.toNat u := State.keepsOthers_of_eq (congrArg State.mem hu :) hctx
  rw [← hrecord] at hunbound hidle
  rw [State.runCtrl_release hunbound hidle, ← State.released] at hcommit
  have hserves := u.servesRouter_released c.toNat hquiet'
  have hothers := (hheard.trans (u.keepsOthers_released c.toNat)).trans hserves.others
  have hkey : updReg c.toNat Off.UPD_CTX_DISCARDS % 4096 ≠ Off.RTE_STATE := by rw [updReg, wreg_mod _ _ (by decide)]; decide
  have hcount : u.rd (updReg c.toNat Off.UPD_CTX_DISCARDS) = s.rd (updReg c.toNat Off.UPD_CTX_DISCARDS) := (congrArg (State.rd · _) hu :)
  have hdiscards (hrun : (s.getCtx c.toNat).run = .faulted) (hstep : (s.getCtx c.toNat).stepPending = true) :
      (u.released c.toNat).routerNext.rd (updReg c.toNat Off.UPD_CTX_DISCARDS) = satAdd (s.rd (updReg c.toNat Off.UPD_CTX_DISCARDS)) 1 := by
    rw [← hrecord] at hrun hstep
    rw [hserves.rd _ hkey, u.rd_released c.toNat hrun hstep, hcount]
  obtain ⟨hrun, hsave, hres, hgranted, hstack, hstep, hsaves⟩ := u.released_rests c.toNat
  rw [← hserves.own] at hrun hsave hres hgranted hstack hstep
  rw [← hserves.saves] at hsaves
  generalize (u.released c.toNat).routerNext = t at *
  exact ⟨_, hcommit, hrun, hsave, hres, hgranted, hstack, hstep, hsaves, hothers.mem, hothers.getCtx, fun hpending hfaulted => hdiscards hfaulted hpending⟩

end

/-- Settles O38: a restart passes through a state that still has to ask for its claim, and a release through one that has still to hand on its router units. -/
theorem restartAndRelease : Obligations.RestartAndRelease := by
  unfold Obligations.RestartAndRelease
  intro s se c x r u may refused
  refine ⟨fun h hrun honly hpc hbad hnone => State.restart_effect h ⟨hrun, honly, hpc⟩ hbad hnone,
    fun h hgo => State.commit_runCtrl_refused h fun w hw => State.runCtrl_restart_refused ?restart,
    fun h hunbound hidle hquiet => State.release_effect h hunbound hidle hquiet,
    fun h hrest => State.commit_runCtrl_refused h fun w hw => State.runCtrl_release_refused ?release⟩
  case restart =>
    have hrecord : w.getCtx x = s.getCtx x := (congrArg (State.getCtx · x) hw :)
    have hpcOk : w.restartPcOk x = s.restartPcOk x := (congrArg (State.restartPcOk · x) hw :)
    rwa [hrecord, hpcOk]
  case release =>
    have hrecord : w.getCtx x = s.getCtx x := (congrArg (State.getCtx · x) hw :)
    rwa [hrecord]

end Sys2Proof.Machine
end

section
/-! PROOFS. Saves and restores of the on-die state of a claim (R180, R267, R270, R271, R275, R276, R334, R467). -/

namespace Sys2Proof.Machine

open Sys2Proof

/-! ## Bytes outside the save area (R270, R334) -/

section
variable {α : Type} (d : α) {l m r new : List (Nat × α)} {k lo n : Nat}

theorem mapGet_not_mem (h : ∀ p ∈ m, p.1 ≠ k) : mapGet d m k = d := by
  rcases mapGet_eq_or_mem d m k with hd | hmem
  · exact hd
  · exact absurd rfl (h _ hmem)

theorem mapGet_append_right (h : ∀ p ∈ l, p.1 ≠ k) : mapGet d (l ++ r) k = mapGet d r k := by
  induction l with
  | nil => rfl
  | cons p l ih =>
    rw [List.cons_append, mapGet, if_neg (h p List.mem_cons_self).symm, ih fun q hq => h q (List.mem_cons_of_mem _ hq)]

theorem mapGet_append_left (h : ∀ p ∈ r, p.1 ≠ k) : mapGet d (l ++ r) k = mapGet d l k := by
  induction l with
  | nil => exact mapGet_not_mem d h
  | cons p l ih => rw [List.cons_append, mapGet, mapGet, ih]

/-- Replaced keys leave the others alone. -/
theorem mapGet_spliceKeys_outside (hnew : ∀ p ∈ new, lo ≤ p.1 ∧ p.1 < lo + n) (hk : k < lo ∨ lo + n ≤ k) : mapGet d (spliceKeys lo n new m) k = mapGet d m k := by
  have hnew' : ∀ p ∈ new, p.1 ≠ k := fun p hp => by have := hnew p hp; omega
  unfold spliceKeys
  rcases hk with hlow | hhigh
  · have habove : ∀ p ∈ new ++ m.filter (fun p => decide (lo + n ≤ p.1)), p.1 ≠ k := fun p hp => by
      rcases List.mem_append.1 hp with hp | hp
      · exact hnew' p hp
      · have hle := of_decide_eq_true (List.mem_filter.1 hp).2
        omega
    rw [List.append_assoc, mapGet_append_left d habove, mapGet_filter d (fun j => decide (j < lo)) m k, if_pos (decide_eq_true hlow)]
  · have hbelow : ∀ p ∈ m.filter (fun p => decide (p.1 < lo)) ++ new, p.1 ≠ k := fun p hp => by
      rcases List.mem_append.1 hp with hp | hp
      · have hlt := of_decide_eq_true (List.mem_filter.1 hp).2
        omega
      · exact hnew' p hp
    rw [mapGet_append_right d hbelow, mapGet_filter d (fun j => decide (lo + n ≤ j)) m k, if_pos (decide_eq_true hhigh)]

end

section
variable (s : State) (c d g y : Nat)

@[simp] theorem State.fillGran_ctx : (s.fillGran g).ctx = s.ctx := by
  unfold State.fillGran
  split <;> rfl

@[simp] theorem State.rotationEnd_ctx : (s.rotationEnd d).ctx = s.ctx := by
  unfold State.rotationEnd
  split
  · rw [State.raise_ctx, State.setGens, State.wr_ctx]
  · rfl

@[simp] theorem State.rotationEnd_grans : (s.rotationEnd d).grans = s.grans := by
  unfold State.rotationEnd
  split
  · rw [State.raise_grans, State.setGens, State.wr_grans]
  · rfl

@[simp] theorem State.moveLines_ctx : (s.moveLines d g).ctx = s.ctx := by
  unfold State.moveLines
  simp only [State.setGran_ctx, State.inc_ctx]
  refine foldl_field State.ctx _ (fun t i => ?_) _ s
  exact foldl_field State.ctx _ (fun _ _ => State.setMark_ctx _ _ _) _ t

@[simp] theorem State.touchGran_ctx : (s.touchGran d g).ctx = s.ctx := by
  unfold State.touchGran
  dsimp only
  split
  · rfl
  · split
    · rw [State.rotationEnd_ctx, State.moveLines_ctx]
    · rw [State.setGran_ctx]

/-- Lines that are moved leave the pending fills of granules (R467). -/
theorem State.fill_moveLines (x : Nat) : ((s.moveLines d g).gran x).fill = (s.gran x).fill := by
  have hmarks (l : List Nat) : (l.foldl (fun t i => (List.range 4).foldl (fun u j => u.setMark ((g * 8192 + i) * 4 + j) { poison := true }) t) s).grans = s.grans := by
    refine foldl_field State.grans _ (fun t i => ?_) l s
    exact foldl_field State.grans _ (fun _ _ => State.setMark_grans _ _ _) _ t
  have hgran (t : State) (k n z : Nat) (ht : t.grans = s.grans) : (t.inc k n).gran z = s.gran z := by
    rw [State.gran, State.inc_grans, ht, State.gran]
  unfold State.moveLines
  dsimp only
  by_cases hx : x = g
  · rw [hx, State.gran_setGran_self, hgran _ _ _ _ (hmarks _)]
  · rw [State.gran_setGran_other _ _ hx, hgran _ _ _ _ (hmarks _)]

/-- A touched granule keeps its pending fill (R467, R468). -/
theorem State.fill_touchGran (x : Nat) : ((s.touchGran d g).gran x).fill = (s.gran x).fill := by
  unfold State.touchGran
  dsimp only
  split
  · rfl
  · split
    · rw [State.gran, State.rotationEnd_grans]
      exact s.fill_moveLines d g x
    · by_cases hx : x = g
      · rw [hx, State.gran_setGran_self]
      · rw [State.gran_setGran_other _ _ hx]
        rfl

/-- No fill becomes pending as one is written (R334). -/
theorem State.fill_fillGran {x : Nat} (h : (s.gran x).fill = none) : ((s.fillGran g).gran x).fill = none := by
  unfold State.fillGran
  split
  · exact h
  · by_cases hx : x = g
    · rw [hx, State.gran_setGran_self]
    · rw [State.gran_setGran_other _ _ hx]
      exact h

/-- The bytes of a run are free; a byte outside it, of a granule with no fill pending, is as before. -/
theorem State.byte_freeRun {pa n : Nat} (hfill : (s.gran (y / 2 ^ 21)).fill = none) (hout : y < pa ∨ pa + n ≤ y) : (s.freeRun d pa n).byte y = s.byte y := by
  have htouched : ((s.fillGran (pa / 2 ^ 21)).touchGran d (pa / 2 ^ 21)).byte y = s.byte y := by
    have hfilled := s.byte_fillGran (pa / 2 ^ 21) y
    rw [if_neg fun hin => by rw [← hin.2, hfill] at hin; exact absurd hin.1 (by decide)] at hfilled
    rw [State.byte, State.touchGran_mem]
    exact hfilled
  refine Eq.trans ?_ htouched
  refine mapGet_spliceKeys_outside 0 (fun p hp => ?_) hout
  obtain ⟨i, hi, hbyte⟩ := List.mem_filterMap.1 hp
  have hi' : i < n := List.mem_range.1 hi
  dsimp only at hbyte
  rw [Option.ite_none_left_eq_some] at hbyte
  obtain rfl := Option.some.inj hbyte.2
  exact ⟨Nat.le_add_right _ _, Nat.add_lt_add_left hi' pa⟩

theorem State.fill_freeRun {pa n x : Nat} (h : (s.gran x).fill = none) : ((s.freeRun d pa n).gran x).fill = none :=
  (State.fill_touchGran _ _ _ _).trans (State.fill_fillGran _ _ h)

@[simp] theorem State.freeRun_ctx (pa n : Nat) : (s.freeRun d pa n).ctx = s.ctx :=
  (State.touchGran_ctx _ _ _).trans (State.fillGran_ctx _ _)

@[simp] theorem State.writeSave_ctx : (s.writeSave c).ctx = s.ctx := foldl_field State.ctx _ (fun _ _ => State.freeRun_ctx _ _ _ _) _ s

/-- A save writes its area alone (R270). -/
theorem State.byte_writeSave (hfill : (s.gran (y / 2 ^ 21)).fill = none) (hout : ∀ r ∈ s.saveRuns c, y < r.1 ∨ r.1 + r.2 ≤ y) :
    (s.writeSave c).byte y = s.byte y := by
  have hruns : ∀ (l : List (Nat × Nat)) (t : State), (∀ r ∈ l, y < r.1 ∨ r.1 + r.2 ≤ y) → (t.gran (y / 2 ^ 21)).fill = none →
      (l.foldl (fun t r => t.freeRun (s.domOf c) r.1 r.2) t).byte y = t.byte y := by
    intro l
    induction l with
    | nil => exact fun _ _ _ => rfl
    | cons r l ih =>
      intro t hl ht
      exact (ih _ (fun q hq => hl q (List.mem_cons_of_mem _ hq)) (t.fill_freeRun _ ht)).trans (t.byte_freeRun _ y ht (hl r List.mem_cons_self))
  exact hruns _ s hout hfill

end

/-! ## SAVE_DONE -/

section
variable (s : State) (c : Nat)

/-- The record of a core without the passes of a context, and without the seeds that they would take. -/
def CoreRec.without (r : CoreRec) (c : Nat) : CoreRec :=
  { r with queue := r.queue.filter (fun x => !(x.ctx == c)), air := r.air.filter (fun x => !(x.ctx == c)),
           seeds := if r.queue.any (fun x => x.ctx == c) || r.air.any (fun x => x.ctx == c) then [] else r.seeds }

/-- The passes of a context leave the cores. -/
def State.dropPasses : State :=
  { s with cores := s.cores.filterMap fun p => if p.2.without c = {} then none else some (p.1, p.2.without c) }

/-- The state in which the movers have saved a claim and its passes have left the cores. -/
def State.savedOut : State :=
  let t := (s.writeSave c).releaseCmd c (2 ^ 64)
  ((t.withSaves (mapPut c (s.takeSave c) t.saves)).noteSave c).dropPasses c

/-- A context is to be saved, in SAVING or as a FAULTED one whose claim a higher class needs, and its movers run (R267, R276, R285, R597). -/
def State.savesNow : Bool :=
  ((s.getCtx c).run == .saving || ((s.getCtx c).run == .faulted && (s.getCtx c).resident && (s.getCtx c).savingFault)) &&
    !s.waitsCurrent c (2 ^ 64) none && !s.saveFrozen c

/-- A context whose claim has been saved: SAVED, or FAULTED as it was. -/
def State.saved (dead : Bool) : State := ((s.savedOut c).freeClaim c).modCtx c fun x =>
  { x with saveValid := true, savingFault := false, run := if dead then .faulted else .saved }

variable {s c}

theorem State.saveDone_saves (hgo : s.savesNow c = true) (harea : s.saveAreaFault c true = false) (hstore : s.storePoison c = false) :
    s.saveDone c = s.saved c ((s.getCtx c).run == .faulted && (s.getCtx c).resident && (s.getCtx c).savingFault) := by
  unfold State.savesNow at hgo
  simp only [State.saveDone, hgo, harea, hstore, if_true, Bool.false_eq_true, if_false]
  rfl

theorem State.saveDone_loses (hgo : s.savesNow c = true) (hbad : s.saveAreaFault c true = true ∨ s.storePoison c = true) :
    ∃ code, s.saveDone c = s.saveLost c code := by
  unfold State.savesNow at hgo
  simp only [State.saveDone, hgo, if_true]
  split
  · exact ⟨_, rfl⟩
  · next harea => exact ⟨_, if_pos (hbad.resolve_left harea)⟩

theorem State.saveDone_waits (hgo : s.savesNow c = false) : s.saveDone c = s := by
  unfold State.savesNow at hgo
  simp only [State.saveDone, hgo, Bool.false_eq_true, if_false]

variable (s c)

@[simp] theorem State.noteSave_mem : (s.noteSave c).mem = s.mem := rfl
@[simp] theorem State.noteSave_ctx : (s.noteSave c).ctx = s.ctx := rfl
@[simp] theorem State.dropPasses_mem : (s.dropPasses c).mem = s.mem := rfl
@[simp] theorem State.dropPasses_ctx : (s.dropPasses c).ctx = s.ctx := rfl

theorem State.savedOut_mem : (s.savedOut c).mem = (s.writeSave c).mem := by
  rw [State.savedOut, State.dropPasses_mem, State.noteSave_mem, State.withSaves_mem, State.releaseCmd_mem]

theorem State.savedOut_ctx : (s.savedOut c).ctx = s.ctx := by
  rw [State.savedOut, State.dropPasses_ctx, State.noteSave_ctx, State.withSaves_ctx, State.releaseCmd_ctx, State.writeSave_ctx]

/-- The movers have kept what the claim held (R267, R270). -/
theorem State.saves_savedOut : mapGet {} (s.savedOut c).saves c = s.takeSave c := mapGet_mapPut_self _ _ _ _

/-- No core holds a pass of a context whose claim has been saved (R270). -/
theorem State.savedOut_cores {p : Nat × CoreRec} (hp : p ∈ (s.savedOut c).cores) {q : Pass} (hq : q ∈ p.2.queue ++ p.2.air) : q.ctx ≠ c := by
  obtain ⟨r, -, hr⟩ := List.mem_filterMap.1 hp
  rw [Option.ite_none_left_eq_some] at hr
  obtain rfl := Option.some.inj hr.2
  rcases List.mem_append.1 hq with hq | hq <;> simpa using (List.mem_filter.1 hq).2

/-- A context whose claim has been saved stands without it, its state kept (R267, R276). -/
theorem State.getCtx_saved (dead : Bool) : (s.saved c dead).getCtx c = { s.getCtx c with
    resident := false, grantedClaim := none, saveValid := true, savingFault := false, run := if dead then .faulted else .saved } := by
  have hrecord : (s.savedOut c).getCtx c = s.getCtx c := congrArg (mapGet ({} : CtxRec) · c) (s.savedOut_ctx c)
  rw [State.saved, State.getCtx_modCtx_self, State.getCtx_freeClaim, hrecord]

theorem State.keepsOthers_saved (dead : Bool) : (s.writeSave c).keepsOthers c (s.saved c dead) := by
  have hout : (s.writeSave c).keepsOthers c (s.savedOut c) :=
    State.keepsOthers_of_eq (s.savedOut_mem c) ((s.savedOut_ctx c).trans (s.writeSave_ctx c).symm)
  exact (hout.trans (State.keepsOthers_freeClaim _ c)).modCtx _

@[simp] theorem State.saved_cores (dead : Bool) : (s.saved c dead).cores = (s.savedOut c).cores := rfl
@[simp] theorem State.saved_saves (dead : Bool) : (s.saved c dead).saves = (s.savedOut c).saves := rfl

/-- A context that is saved is in SAVING, or FAULTED with a save asked for (R267, R276). -/
theorem State.savesNow_run (h : s.savesNow c = true) :
    (if ((s.getCtx c).run == .faulted && (s.getCtx c).resident && (s.getCtx c).savingFault) = true then RunState.faulted else .saved) =
      if (s.getCtx c).run = .saving then .saved else .faulted := by
  unfold State.savesNow at h
  simp only [Bool.and_eq_true] at h
  obtain ⟨⟨hrun, -⟩, -⟩ := h
  rcases (Bool.or_eq_true _ _).mp hrun with hsaving | hdead
  · simp [beq_iff_eq.1 hsaving]
  · have hfaulted : (s.getCtx c).run = .faulted := by
      simp only [Bool.and_eq_true, beq_iff_eq] at hdead
      exact hdead.1.1
    rw [if_pos hdead, if_neg (by rw [hfaulted]; decide)]

/-- A save writes its area, and leaves its context without the claim that it keeps (R267, R270, R276). -/
theorem State.saveDone_goes (hgo : s.savesNow c = true) (harea : s.saveAreaFault c true = false) (hstore : s.storePoison c = false) :
    (s.writeSave c).keepsOthers c (s.saveDone c) ∧ mapGet {} (s.saveDone c).saves c = s.takeSave c ∧
    ((s.saveDone c).getCtx c).run = (if (s.getCtx c).run = .saving then .saved else .faulted) ∧ ((s.saveDone c).getCtx c).saveValid = true ∧
    ((s.saveDone c).getCtx c).resident = false ∧ ((s.saveDone c).getCtx c).grantedClaim = none ∧
    ∀ p ∈ (s.saveDone c).cores, ∀ q ∈ p.2.queue ++ p.2.air, q.ctx ≠ c := by
  rw [State.saveDone_saves hgo harea hstore, State.getCtx_saved, State.saved_saves, State.saved_cores]
  exact ⟨s.keepsOthers_saved c _, s.saves_savedOut c, State.savesNow_run s c hgo, rfl, rfl, rfl, fun p hp q hq => s.savedOut_cores c hp hq⟩

end

/-! ## A save or a restore that fails (R275) -/

section
variable (s : State) (c : Nat) (code : Code)

/-- A context that has stopped on a fault of its save, its save forgotten. -/
def State.saveFaulted : State :=
  let t := (s.releaseCmd c (2 ^ 64)).ctxFault c ⟨code, 0, 0⟩
  t.withSaves (mapDel c t.saves)

theorem State.saveLost_eq : s.saveLost c code = ((s.saveFaulted c code).freeClaim c).modCtx c fun r =>
    { r with saveValid := false, savingFault := false, releaseOnly := true } := rfl

/-- A context that has lost its save is FAULTED, without its save and its claim, for a release alone, and memory is as before (R275). -/
def State.losesSave (t : State) : Prop := (t.getCtx c).run = .faulted ∧ (t.getCtx c).releaseOnly = true ∧ (t.getCtx c).resident = false ∧
  (t.getCtx c).saveValid = false ∧ mapGet {} t.saves c = {} ∧ t.mem = s.mem

theorem State.losesSave_saveLost : s.losesSave c (s.saveLost c code) := by
  have hmem : (s.saveFaulted c code).mem = s.mem := by simp [State.saveFaulted]
  have hrun : ((s.saveFaulted c code).getCtx c).run = .faulted := by
    rw [State.saveFaulted, State.getCtx_withSaves]
    exact State.run_ctxFault _ c _
  have hsaves : mapGet {} (s.saveFaulted c code).saves c = {} := mapGet_mapDel_self _ _ _
  rw [State.losesSave, State.saveLost_eq, State.getCtx_modCtx_self, State.getCtx_freeClaim, State.modCtx_saves, State.freeClaim_saves, State.modCtx_mem, State.freeClaim_mem]
  exact ⟨hrun, rfl, rfl, rfl, hsaves, hmem⟩

/-- A row whose effect is a lost save answers a state that has lost it. -/
theorem State.commit_losesSave {s t : State} {c : Nat} (h : ∃ code, t = s.saveLost c code) : ∃ u, s.commit t = .next u ∧ s.losesSave c u := by
  obtain ⟨code, rfl⟩ := h
  have hlost := s.losesSave_saveLost c code
  generalize s.saveLost c code = t at hlost ⊢
  exact ⟨_, rfl, hlost⟩

end

/-! ## RESTORE_DONE -/

section
variable (s : State) (c : Nat)

/-- The state in which a restored context runs again and asks for the units of its commands in flight (R269, R271). -/
def State.restoredIn : State :=
  let v := mapGet {} s.saves c
  let t := ((s.putSave c v).moveLive c v.clus ((s.claimClusters c).map Prod.snd)).ungrant c
  (t.withSaves (mapDel c t.saves)).modCtx c fun x => { x with saveValid := false, run := .running, preemptAfter := false }

/-- A restored context that has asked for its units, its router operations started again (R180). -/
def State.restored : State := ((s.restoredIn c).askUnits ((s.restoredIn c).liveUnits c)).routerNext

variable {s c}

theorem State.restoreDone_restores (hrun : (s.getCtx c).run = .restoring) (harea : s.saveAreaFault c false = false) (hpoison : s.saveAreaPoison c = false) :
    s.restoreDone c = if (s.getCtx c).preemptAfter then
      ((s.restored c).preempt c (s.getCtx c).byPreempt).modCtx c fun x => { x with preemptAt := (s.getCtx c).preemptAt } else s.restored c := by
  simp only [State.restoreDone, hrun, harea, hpoison, ne_eq, not_true_eq_false, Bool.false_eq_true, if_false]
  rfl

theorem State.restoreDone_loses (hrun : (s.getCtx c).run = .restoring) (hbad : s.saveAreaFault c false = true ∨ s.saveAreaPoison c = true) :
    ∃ code, s.restoreDone c = s.saveLost c code := by
  simp only [State.restoreDone, hrun, ne_eq, not_true_eq_false, if_false]
  split
  · exact ⟨_, rfl⟩
  · next harea => exact ⟨_, if_pos (hbad.resolve_left harea)⟩

theorem State.restoreDone_waits (hrun : (s.getCtx c).run ≠ .restoring) : s.restoreDone c = s := if_pos hrun

end

/-- Saved state is written to the stores and the cores of a claim (R271). -/
theorem State.putSave_ctx (s : State) (c : Nat) (v : SaveRec) : (s.putSave c v).ctx = s.ctx := by
  unfold State.putSave
  dsimp only
  refine (foldl_field State.ctx _ (fun t q => ?_) _ _).trans (foldl_field State.ctx _ (fun t p => ?_) _ s)
  · exact foldl_field State.ctx _ (fun u i => State.setCore_ctx _ _ _) _ t
  · rfl

section
variable (s : State) (c : Nat)

theorem State.keepsOthers_moveLive (old new : List Nat) : s.keepsOthers c (s.moveLive c old new) := by
  rw [State.moveLive]
  exact s.keepsOthers_modCtx c _

theorem State.keepsOthers_ungrant : s.keepsOthers c (s.ungrant c) := State.keepsOthers_of_eq rfl rfl

theorem State.held_moveLive (old new : List Nat) : ((s.moveLive c old new).getCtx c).held = (s.getCtx c).held := by
  rw [State.moveLive, State.getCtx_modCtx_self]

@[simp] theorem State.moveLive_marks (old new : List Nat) : (s.moveLive c old new).marks = s.marks := rfl
@[simp] theorem State.ungrant_marks : (s.ungrant c).marks = s.marks := rfl
@[simp] theorem State.getCtx_ungrant (d : Nat) : (s.ungrant c).getCtx d = s.getCtx d := rfl

theorem State.keepsOthers_restoredIn : (s.putSave c (mapGet {} s.saves c)).keepsOthers c (s.restoredIn c) := by
  rw [State.restoredIn]
  exact (((State.keepsOthers_moveLive _ c _ _).trans (State.keepsOthers_ungrant _ c)).trans (State.keepsOthers_withSaves _ c _)).modCtx _

theorem State.restoredIn_marks : (s.restoredIn c).marks = (s.putSave c (mapGet {} s.saves c)).marks := by
  rw [State.restoredIn, State.modCtx_marks, State.withSaves_marks, State.ungrant_marks, State.moveLive_marks]

theorem State.restoredIn_saves : mapGet {} (s.restoredIn c).saves c = {} := by
  rw [State.restoredIn, State.modCtx_saves, State.withSaves_saves, mapGet_mapDel_self]

/-- A restored context runs, its save gone and its held command as it was (R271). -/
theorem State.restoredIn_runs : ((s.restoredIn c).getCtx c).run = .running ∧ ((s.restoredIn c).getCtx c).saveValid = false ∧
    ((s.restoredIn c).getCtx c).held = (s.getCtx c).held := by
  have hback : (s.putSave c (mapGet {} s.saves c)).getCtx c = s.getCtx c := congrArg (mapGet ({} : CtxRec) · c) (s.putSave_ctx c _)
  rw [State.restoredIn, State.getCtx_modCtx_self, State.getCtx_withSaves, State.getCtx_ungrant]
  refine ⟨rfl, rfl, ?_⟩
  rw [← hback]
  exact State.held_moveLive _ c _ _

/-- Asking for current keeps marks and saves. -/
theorem State.askUnits_marks (us : List LUnit) : (s.askUnits us).marks = s.marks := (congrArg State.marks (s.askUnits_frame us) :)
theorem State.askUnits_saves (us : List LUnit) : (s.askUnits us).saves = s.saves := (congrArg State.saves (s.askUnits_frame us) :)

/-- A restore that finds no other context waiting for router units writes the stores of its claim and changes the record of its context alone (R180, R271). -/
theorem State.restored_goes (hheld : (s.getCtx c).held = none) (hquiet : s.routerQuiet c = true) :
    (s.putSave c (mapGet {} s.saves c)).keepsOthers c (s.restored c) ∧ (s.restored c).marks = (s.putSave c (mapGet {} s.saves c)).marks ∧
    mapGet {} (s.restored c).saves c = {} ∧ ((s.restored c).getCtx c).run = .running ∧ ((s.restored c).getCtx c).saveValid = false := by
  have hothers := s.keepsOthers_restoredIn c
  obtain ⟨hrun, hsave, hkept⟩ := s.restoredIn_runs c
  have hmarks := s.restoredIn_marks c
  have hsaves := s.restoredIn_saves c
  have hentries : ∀ p ∈ (s.restoredIn c).ctx, p.1 ≠ c → p ∈ s.ctx := fun p hp hpc => s.putSave_ctx c _ ▸ hothers.entries p hp hpc
  rw [State.restored]
  generalize (s.restoredIn c).liveUnits c = us
  generalize s.restoredIn c = t at *
  have hasked : t.keepsOthers c (t.askUnits us) := State.keepsOthers_of_eq (t.askUnits_mem us) (t.askUnits_ctx us)
  have hrecord : (t.askUnits us).getCtx c = t.getCtx c := congrArg (mapGet ({} : CtxRec) · c) (t.askUnits_ctx us)
  have hserves : (t.askUnits us).servesRouter c (t.askUnits us).routerNext := by
    refine State.servesRouter_routerNext (fun p hp hpc => State.routerQuiet_others hquiet (hentries p (t.askUnits_ctx us ▸ hp) hpc) hpc) (Or.inl ?_)
    rw [hrecord, hkept, hheld]
  rw [← hrecord, ← hserves.own] at hrun hsave
  rw [← t.askUnits_marks us, ← hserves.marks] at hmarks
  rw [← t.askUnits_saves us, ← hserves.saves] at hsaves
  exact ⟨(hothers.trans hasked).trans hserves.others, hmarks, hsaves, hrun, hsave⟩

/-- A running context that is pre-empted stops (R268, R269). -/
theorem State.preempt_running (h : (s.getCtx c).run = .running) (byWrite : Bool) : s.preempt c byWrite =
    (s.inc (reg (pgCTX c) Off.CTX_PREEMPTS)).modCtx c fun r =>
      { r with run := .stopping, engines := (s.inc (reg (pgCTX c) Off.CTX_PREEMPTS)).busyEngines c, byPreempt := byWrite, preemptAt := s.now.toNat } := by
  simp only [State.preempt, h]
  rfl

/-- A context that is to be pre-empted after its restore stops as soon as it runs (R276). -/
theorem State.restoreDone_goes (hrun : (s.getCtx c).run = .restoring) (harea : s.saveAreaFault c false = false) (hpoison : s.saveAreaPoison c = false)
    (hheld : (s.getCtx c).held = none) (hquiet : s.routerQuiet c = true) :
    (s.putSave c (mapGet {} s.saves c)).keepsOthers c (s.restoreDone c) ∧ (s.restoreDone c).marks = (s.putSave c (mapGet {} s.saves c)).marks ∧
    mapGet {} (s.restoreDone c).saves c = {} ∧ ((s.restoreDone c).getCtx c).run = (if (s.getCtx c).preemptAfter then .stopping else .running) ∧
    ((s.restoreDone c).getCtx c).saveValid = false := by
  obtain ⟨hothers, hmarks, hsaves, hruns, hsave⟩ := s.restored_goes c hheld hquiet
  rw [State.restoreDone_restores hrun harea hpoison]
  generalize s.restored c = t at *
  split
  · have hcounted : t.keepsOthers c (t.inc (reg (pgCTX c) Off.CTX_PREEMPTS)) := State.keepsOthers_of_eq (t.inc_mem _ _) (t.inc_ctx _ _)
    rw [State.preempt_running _ _ hruns, State.getCtx_modCtx_self, State.getCtx_modCtx_self]
    generalize State.busyEngines _ c = es
    refine ⟨((hothers.trans hcounted).modCtx _).modCtx _, ?_, ?_, rfl, ?_⟩
    · rw [State.modCtx_marks, State.modCtx_marks, State.inc_marks, hmarks]
    · rw [State.modCtx_saves, State.modCtx_saves, State.inc_saves, hsaves]
    · exact hsave
  · exact ⟨hothers, hmarks, hsaves, hruns, hsave⟩

end

/-! ## The obligation -/

/-- Settles O40: each row ends in a state that keeps the other contexts, a save or a restore that is carried out as well as one that fails. -/
theorem savesAndRestores : Obligations.SavesAndRestores := by
  unfold Obligations.SavesAndRestores
  intro s c x r saves lost back
  refine ⟨fun hgo harea hstore => ?save, fun hgo hbad => ?saveLost, fun hgo => congrArg s.commit (State.saveDone_waits hgo),
    fun hrun harea hpoison hheld hquiet => ?restore, fun hrun hbad => ?restoreLost, fun hrun => congrArg s.commit (State.restoreDone_waits hrun)⟩
  case save =>
    obtain ⟨hothers, hsaves, hruns, hvalid, hres, hgranted, hcores⟩ := s.saveDone_goes x hgo harea hstore
    have hbytes (y : Nat) (hfill : (s.gran (y / 2 ^ 21)).fill = none) (hout : ∀ r ∈ s.saveRuns x, y < r.1 ∨ r.1 + r.2 ≤ y) :
        (s.saveDone x).byte y = s.byte y := (congrArg (mapGet 0 · y) hothers.mem).trans (s.byte_writeSave x y hfill hout)
    have hkept (d : Nat) (hd : d ≠ x) : (s.saveDone x).getCtx d = s.getCtx d :=
      (hothers.getCtx d hd).trans (congrArg (mapGet ({} : CtxRec) · d) (s.writeSave_ctx x))
    have hcommit : exec (.saveDone c) s = s.commit (s.saveDone x) := rfl
    generalize s.saveDone x = t at *
    exact ⟨_, hcommit, hsaves, hruns, hvalid, hres, hgranted, hcores, hkept, hbytes⟩
  case saveLost => exact State.commit_losesSave (State.saveDone_loses hgo hbad)
  case restore =>
    obtain ⟨hothers, hmarks, hsaves, hruns, hsave⟩ := s.restoreDone_goes x hrun harea hpoison hheld hquiet
    have hkept (d : Nat) (hd : d ≠ x) : (s.restoreDone x).getCtx d = s.getCtx d :=
      (hothers.getCtx d hd).trans (congrArg (mapGet ({} : CtxRec) · d) (s.putSave_ctx x _))
    have hmem := hothers.mem
    have hcommit : exec (.restoreDone c) s = s.commit (s.restoreDone x) := rfl
    generalize s.restoreDone x = t at *
    exact ⟨_, hcommit, hruns, hsave, hmem, hmarks, hsaves, hkept⟩
  case restoreLost => exact State.commit_losesSave (State.restoreDone_loses hrun hbad)

end Sys2Proof.Machine
end

section
/-! PROOFS. Priority classes of contexts and the maxima of their domains (R12, R254, R258, R277, R279). -/

namespace Sys2Proof.Machine

open Sys2Proof

/-! ## Contexts that CTX_BIND lists (R254) -/

/-- CTX_BIND of a context resets to unbound (R277). -/
theorem resetReg_bind {c : Nat} (hc : c < 2 ^ 14) : resetReg (reg (pgCTX c) Off.CTX_BIND) = 0 := by
  have hmod : reg (pgCTX c) Off.CTX_BIND % 2 ^ 28 = reg (pgCTX c) Off.CTX_BIND := Nat.mod_eq_of_lt (reg_pgCTX_lt hc (by decide))
  have hpage : pageOf (pgCTX c) = some (.ctx, c) := pageOf_span .ctx hc
  simp only [resetReg, hmod, reg_div _ (show Off.CTX_BIND < 4096 by decide), reg_mod _ (show Off.CTX_BIND < 4096 by decide), hpage]
  rfl

/-- The listed contexts of a domain are those that are bound to it. -/
theorem State.mem_boundCtxs (s : State) {c d : Nat} : (c, d) ∈ s.boundCtxs ↔ c < 2 ^ 14 ∧ s.ctxDom c = some d := by
  rw [State.boundCtxs, List.mem_filterMap]
  constructor
  · rintro ⟨⟨k, w⟩, -, hlisted⟩
    simp only [Option.ite_none_right_eq_some, Bool.and_eq_true, decide_eq_true_eq, Option.some.injEq, Prod.mk.injEq] at hlisted
    obtain ⟨⟨⟨⟨hoff, hlow⟩, hhigh⟩, hbound⟩, hctx, hdom⟩ := hlisted
    have hkey : k = reg (pgCTX c) Off.CTX_BIND := by unfold reg pgCTX; omega
    subst hkey
    exact ⟨by omega, by simp only [State.ctxDom, hbound, if_true, hdom]⟩
  · rintro ⟨hc, hdom⟩
    simp only [State.ctxDom, Option.ite_none_right_eq_some, Option.some.injEq] at hdom
    obtain ⟨hbound, hdom⟩ := hdom
    refine ⟨(reg (pgCTX c) Off.CTX_BIND, s.rd (reg (pgCTX c) Off.CTX_BIND)), ?_, ?_⟩
    · rcases mapGet_eq_or_mem (resetReg (reg (pgCTX c) Off.CTX_BIND)) s.regs (reg (pgCTX c) Off.CTX_BIND) with hreset | hmem
      · rw [State.rd, hreset, resetReg_bind hc] at hbound
        cases hbound
      · exact hmem
    · have hpage : 0x4000 ≤ pgCTX c ∧ pgCTX c < 0x8000 ∧ pgCTX c - 0x4000 = c := by unfold pgCTX; omega
      have hoff : Off.CTX_BIND < 4096 := by decide
      simp only [reg_mod _ hoff, reg_div _ hoff, hpage, hbound, hdom, decide_true, Bool.and_self, if_true]

/-! ## Contexts that take a lowered maximum (R258) -/

theorem fld_class_lt (w : Word) : fld w 0 2 < 4 := Nat.mod_lt _ (by decide)

/-- A class of two bits is read back from the register that holds it. -/
theorem fld_class {m : Nat} (h : m < 4) : fld (BitVec.ofNat 32 m) 0 2 = m := by
  simp only [fld, BitVec.toNat_ofNat]
  omega

/-- A context whose class is above m takes m. -/
def State.lowerClass (m : Nat) (s : State) (p : Nat × Nat) : State :=
  if m < s.ctxClass p.1 then s.wr (reg (pgCTX p.1) Off.CTX_PRIO) (BitVec.ofNat 32 m) else s

section
variable (s : State) {m : Nat} (l : List (Nat × Nat))

theorem State.setClassMax_eq (d : Nat) (v : Word) : s.setClassMax d v =
    ((s.wr (wreg d pgGLOB Off.GLOB_DOM_CLASS_MAX) (BitVec.ofNat 32 (fld v 0 2))).boundCtxs.filter fun p => p.2 == d).foldl (State.lowerClass (fld v 0 2))
      (s.wr (wreg d pgGLOB Off.GLOB_DOM_CLASS_MAX) (BitVec.ofNat 32 (fld v 0 2))) := rfl

theorem State.withRegs_lowerClasses (u : State) : u.withRegs (l.foldl (State.lowerClass m) s) = u.withRegs s := by
  refine foldl_field u.withRegs _ (fun t p => ?_) l s
  unfold State.lowerClass
  split
  · exact u.withRegs_wr t _ _
  · rfl

/-- Lowered classes stand in CTX_PRIO and in no other register. -/
theorem State.rd_lowerClasses {k : Nat} (hk : k % 4096 ≠ Off.CTX_PRIO) : (l.foldl (State.lowerClass m) s).rd k = s.rd k := by
  refine foldl_field (State.rd · k) _ (fun t p => ?_) l s
  unfold State.lowerClass
  split
  · exact State.rd_wr_other _ _ fun h => hk (h ▸ reg_mod _ (by decide))
  · rfl

/-- A class that is lowered is the smaller of itself and the maximum. -/
theorem State.ctxClass_lowerClass (hm : m < 4) (p : Nat × Nat) (x : Nat) :
    (s.lowerClass m p).ctxClass x = if x = p.1 then min (s.ctxClass x) m else s.ctxClass x := by
  unfold State.lowerClass
  by_cases hx : x = p.1
  · subst hx
    rw [if_pos rfl]
    split
    · next habove => rw [State.ctxClass, State.rd_wr_self, fld_class hm, min_eq_right habove.le]
    · next hbelow => exact (min_eq_left (not_lt.1 hbelow)).symm
  · rw [if_neg hx]
    split
    · exact congrArg (fld · 0 2) (State.rd_wr_other _ _ (reg_ne (by decide) (by decide) (Or.inl fun h => hx (Nat.add_left_cancel h))))
    · rfl

theorem State.ctxClass_lowerClasses (hm : m < 4) (x : Nat) :
    (l.foldl (State.lowerClass m) s).ctxClass x = if x ∈ l.map Prod.fst then min (s.ctxClass x) m else s.ctxClass x := by
  induction l generalizing s with
  | nil => rfl
  | cons p l ih =>
    simp only [List.foldl_cons, ih, State.ctxClass_lowerClass s hm, List.map_cons, List.mem_cons]
    by_cases hp : x = p.1 <;> by_cases hl : x ∈ l.map Prod.fst <;> simp [hp, hl]

end

/-! ## The three writes -/

section
variable (s : State) (se a : Nat) (v : Word)

@[simp] theorem State.ctxDom_hearing (c : Nat) : (s.hearing se a v).ctxDom c = s.ctxDom c := by simp [State.ctxDom]
@[simp] theorem State.domOf_hearing (c : Nat) : (s.hearing se a v).domOf c = s.domOf c := by simp [State.domOf]
@[simp] theorem State.ctxClass_hearing (c : Nat) : (s.hearing se a v).ctxClass c = s.ctxClass c := by simp [State.ctxClass]
@[simp] theorem State.classMax_hearing (d : Nat) : (s.hearing se a v).classMax d = s.classMax d := by simp [State.classMax]

theorem State.ctxClass_replied (w : State) (c : Nat) : (s.replied w se).ctxClass c = w.ctxClass c := by rw [State.ctxClass, State.rd_replied, State.ctxClass]
theorem State.classMax_replied (w : State) (d : Nat) : (s.replied w se).classMax d = w.classMax d := by rw [State.classMax, State.rd_replied, State.classMax]

end

section
variable (s : State) (v : Word)

theorem State.setPrio_within {c : Nat} (h : fld v 0 2 ≤ s.classMax (s.domOf c)) :
    s.setPrio c v = s.wr (reg (pgCTX c) Off.CTX_PRIO) (BitVec.ofNat 32 (fld v 0 2)) := if_neg (not_lt.2 h)

theorem State.setPrio_above {c : Nat} (h : s.classMax (s.domOf c) < fld v 0 2) : s.setPrio c v = s.invalidWrite (pgCTX c) := if_pos h

/-- A write of CTX_PRIO is carried out by setPrio. -/
theorem State.regWrite_prio (se : Nat) (c : Ctx) : s.regWrite se (reg (pgCTX c.toNat) Off.CTX_PRIO) v = (0, s.setPrio c.toNat v) :=
  (State.regWrite_ctx _ v c (by decide) (by decide) rfl (by decide) (by decide)).trans (by simp [State.writeCtx])

/-- A write of the GLOB page beyond its header and its selection (R279). -/
theorem State.regWrite_glob {o : Nat} {r : RegRow} (se : Nat) (ho : 0x40 ≤ o) (ho' : o < 4096) (hrow : regRow .glob o = some r) (hro : r.acc ≠ .ro)
    (hrwl : r.acc ≠ .rwl) (hsel : isSel .glob o = false) : s.regWrite se (reg pgGLOB o) v = (0, s.writeGlob (s.window se .glob pgGLOB o) o v) := by
  simp [State.regWrite, ho', show pageOf pgGLOB = some (.glob, 0) from pageOf_span .glob (i := 0) (by decide), State.pagePresent, hrow, hro, hrwl,
    Nat.not_lt.2 ho, hsel, isCntClear]

/-- A write of GLOB_DOM_CLASS_MAX is carried out by setClassMax on the domain that GLOB_DOM_SEL of the session selects (R279). -/
theorem State.regWrite_classMax (se : Nat) : s.regWrite se (reg pgGLOB Off.GLOB_DOM_CLASS_MAX) v =
    (0, s.setClassMax (s.sel se pgGLOB Off.GLOB_DOM_SEL) v) := by
  have hwindow : s.window se .glob pgGLOB Off.GLOB_DOM_CLASS_MAX = s.sel se pgGLOB Off.GLOB_DOM_SEL  := rfl
  rw [State.regWrite_glob s v se (by decide) (by decide) rfl (by decide) (by decide) rfl, hwindow, State.writeGlob, if_pos rfl]

/-- A new maximum lowers every context of its domain to it, and changes no other class (R258). -/
theorem State.ctxClass_setClassMax (d : Nat) {x : Nat} (hx : x < 2 ^ 14) :
    (s.setClassMax d v).ctxClass x = if s.ctxDom x = some d then min (s.ctxClass x) (fld v 0 2) else s.ctxClass x := by
  rw [State.setClassMax_eq]
  generalize hstored : s.wr (wreg d pgGLOB Off.GLOB_DOM_CLASS_MAX) (BitVec.ofNat 32 (fld v 0 2)) = t
  have hrd {o : Nat} (ho : o < 4096) (hne : o ≠ Off.GLOB_DOM_CLASS_MAX) : t.rd (reg (pgCTX x) o) = s.rd (reg (pgCTX x) o) := by
    subst hstored
    refine State.rd_wr_other _ _ fun h => hne ?_
    rw [← reg_mod (pgCTX x) ho, h, wreg_mod _ _ (by decide)]
  have hclass : t.ctxClass x = s.ctxClass x := by rw [State.ctxClass, hrd (by decide) (by decide), State.ctxClass]
  have hdom : t.ctxDom x = s.ctxDom x := by simp only [State.ctxDom, hrd (o := Off.CTX_BIND) (by decide) (by decide)]
  have hlowered : x ∈ (t.boundCtxs.filter fun p => p.2 == d).map Prod.fst ↔ s.ctxDom x = some d := by
    simp only [List.mem_map, List.mem_filter, beq_iff_eq, Prod.exists, exists_eq_right, exists_and_right, State.mem_boundCtxs, hdom, and_iff_right hx]
  simp only [State.ctxClass_lowerClasses t _ (fld_class_lt v), hlowered, hclass]

theorem State.classMax_setClassMax (d : Nat) : (s.setClassMax d v).classMax d = fld v 0 2 := by
  have hoff : wreg d pgGLOB Off.GLOB_DOM_CLASS_MAX % 4096 ≠ Off.CTX_PRIO := by rw [wreg_mod _ _ (by decide)]; decide
  rw [State.setClassMax_eq, State.classMax, State.rd_lowerClasses _ _ hoff, State.rd_wr_self, fld_class (fld_class_lt v)]

theorem State.withRegs_setClassMax (d : Nat) : s.withRegs (s.setClassMax d v) = s := by
  rw [State.setClassMax_eq, State.withRegs_lowerClasses, State.withRegs_wr, State.withRegs_self]

end

/-! ## The obligation -/

section
variable {s : State} {se : SessIx} {v : Word} {c : Ctx}

/-- A write of CTX_PRIO within the maximum sets the class (R258). -/
theorem State.ctxPrio_taken (h : s.mayWrite se (reg (pgCTX c.toNat) Off.CTX_PRIO) v = true) (hmax : fld v 0 2 ≤ s.classMax (s.domOf c.toNat)) :
    ∃ t, s.commit (s.putCtx se c Off.CTX_PRIO v) = .next t ∧ t.ctxClass c.toNat = fld v 0 2 ∧ s.onlyRegs t ∧
      ∀ r, r ≠ reg (pgCTX c.toNat) Off.CTX_PRIO → t.rd r = s.rd r := by
  have hw := State.regWrite_prio (s.hearing se.toNat (reg (pgCTX c.toNat) Off.CTX_PRIO) v) v se.toNat c
  rw [State.setPrio_within _ v (by simpa using hmax)] at hw
  obtain ⟨t, ht, hkey, hregs, hrd⟩ := State.commit_put_stores h (pgCTX_lt c) (by decide) hw
  exact ⟨t, ht, by rw [State.ctxClass, hkey, fld_class (fld_class_lt v)], hregs, hrd⟩

/-- A write of CTX_PRIO above the maximum is refused (R258, R431). -/
theorem State.ctxPrio_refused (h : s.mayWrite se (reg (pgCTX c.toNat) Off.CTX_PRIO) v = true) (hmax : s.classMax (s.domOf c.toNat) < fld v 0 2) :
    ∃ t, s.commit (s.putCtx se c Off.CTX_PRIO v) = .next t ∧ bit (t.rd (reg (pgCTX c.toNat) Off.EVENT)) 31 = true ∧
      t.ctxClass c.toNat = s.ctxClass c.toNat ∧ t.ctx = s.ctx := by
  have hw := State.regWrite_prio (s.hearing se.toNat (reg (pgCTX c.toNat) Off.CTX_PRIO) v) v se.toNat c
  rw [State.setPrio_above _ v (by simpa using hmax)] at hw
  have hbody : 0x40 ≤ reg (pgCTX c.toNat) Off.CTX_PRIO % 4096 := by rw [reg_mod _ (by decide)]; decide
  have hkey : reg (pgCTX c.toNat) Off.CTX_PRIO ≠ reg pgERR Off.ERR_Q_DROPPED := reg_ne (by decide) (by decide) (Or.inr (by decide))
  refine ⟨_, State.commit_put h (pgCTX_lt c) (by decide) hw, State.event_invalidWrite _ _, ?_, ?_⟩
  · exact congrArg (fld · 0 2) ((State.rd_invalidWrite_body _ _ hbody hkey).trans (State.rd_hearing _ _ _ _ _))
  · exact (State.raise_ctx _ _ evInvalid).trans (State.hearing_ctx _ _ _ _)

/-- A write of GLOB_DOM_CLASS_MAX sets the maximum of the selected domain, and lowers its contexts to it (R258). -/
theorem State.classMax_taken (h : s.mayWrite se (reg pgGLOB Off.GLOB_DOM_CLASS_MAX) v = true) {d : Nat} (hd : s.sel se.toNat pgGLOB Off.GLOB_DOM_SEL = d) :
    ∃ t, s.commit (s.put se pgGLOB Off.GLOB_DOM_CLASS_MAX v) = .next t ∧ t.classMax d = fld v 0 2 ∧ s.onlyRegs t ∧
      ∀ x, x < 2 ^ 14 → t.ctxClass x = if s.ctxDom x = some d then min (s.ctxClass x) (fld v 0 2) else s.ctxClass x := by
  have hw := State.regWrite_classMax (s.hearing se.toNat (reg pgGLOB Off.GLOB_DOM_CLASS_MAX) v) v se.toNat
  rw [State.sel_hearing, hd] at hw
  have hmax := State.classMax_setClassMax (s.hearing se.toNat (reg pgGLOB Off.GLOB_DOM_CLASS_MAX) v) v d
  have hregs := State.withRegs_setClassMax (s.hearing se.toNat (reg pgGLOB Off.GLOB_DOM_CLASS_MAX) v) v d
  have hclass (x : Nat) (hx : x < 2 ^ 14) := State.ctxClass_setClassMax (s.hearing se.toNat (reg pgGLOB Off.GLOB_DOM_CLASS_MAX) v) v d hx
  simp only [State.ctxDom_hearing, State.ctxClass_hearing] at hclass
  generalize State.setClassMax _ d v = t at hw hmax hregs hclass
  exact ⟨_, State.commit_put h (by decide) (by decide) hw, (State.classMax_replied _ _ _ _).trans hmax, State.onlyRegs_replied h hregs,
    fun x hx => (State.ctxClass_replied _ _ _ _).trans (hclass x hx)⟩

end

/-- Settles O35: a write of a class is compared with the maximum, and a write of a maximum goes over the contexts that CTX_BIND lists for its domain. -/
theorem priorityClasses : Obligations.PriorityClasses := by
  unfold Obligations.PriorityClasses
  intro s se c v k d
  exact ⟨fld_class_lt _, State.ctxPrio_taken, State.ctxPrio_refused, fun h _ => State.classMax_taken h rfl⟩

end Sys2Proof.Machine
end

section
/-! PROOFS. PREEMPT and RESUME of contexts (R264, R266, R268, R274, R276, R277). -/

namespace Sys2Proof.Machine

open Sys2Proof

/-! ## PREEMPT (R268, R276) -/

section
variable {s : State} {c : Nat}

theorem State.runCtrl_preempt (h : (s.getCtx c).run = .running ∨ (s.getCtx c).run = .restoring) : s.runCtrl c 1 = s.preempt c true :=
  congrArg (Option.getD · (s.invalidWrite (pgCTX c))) (if_pos h : s.preemptWrite c = some (s.preempt c true))

theorem State.runCtrl_preempt_refused (hrun : (s.getCtx c).run ≠ .running) (hrestore : (s.getCtx c).run ≠ .restoring) :
    s.runCtrl c 1 = s.invalidWrite (pgCTX c) :=
  congrArg (Option.getD · (s.invalidWrite (pgCTX c))) (if_neg (by simp [hrun, hrestore]) : s.preemptWrite c = none)

/-- A context that restores is pre-empted after its restore; the time of the first request stands (R276). -/
theorem State.preempt_restoring (h : (s.getCtx c).run = .restoring) (byWrite : Bool) : s.preempt c byWrite = s.setCtx c { s.getCtx c with
    preemptAfter := true, byPreempt := (s.getCtx c).byPreempt || byWrite
    preemptAt := if (s.getCtx c).preemptAfter then (s.getCtx c).preemptAt else s.now.toNat } := by
  simp only [State.preempt, h]

end

/-- The state with an entry under way holds the records of contexts and the memory of the state before. -/
theorem State.keepsOthers_heard {s u : State} (hu : s.withEntry u = s) (c : Nat) : s.keepsOthers c u :=
  State.keepsOthers_of_eq (congrArg State.mem hu :) (congrArg State.ctx hu :)

/-- An answer changes no record of a context and no memory. -/
theorem State.keepsOthers.replied {s w : State} {c : Nat} (h : s.keepsOthers c w) (se : Nat) : s.keepsOthers c (s.replied w se) :=
  ⟨h.mem, h.getCtx, h.entries⟩

section
variable {s : State} {se : SessIx} {c : Ctx}

/-- PREEMPT of a running context: its engines are to stop, and the pre-emption counts (R268, R269). -/
theorem State.preempt_stops (h : s.mayWrite se (reg (pgCTX c.toNat) Off.CTX_RUN_CTRL) 1 = true) (hrun : (s.getCtx c.toNat).run = .running) :
    ∃ t, s.commit (s.putCtx se c Off.CTX_RUN_CTRL 1) = .next t ∧ s.keepsOthers c.toNat t ∧ t.cores = s.cores ∧
      t.getCtx c.toNat = { s.getCtx c.toNat with run := .stopping, engines := s.busyEngines c.toNat, byPreempt := true, preemptAt := s.now.toNat } ∧
      t.rd (reg (pgCTX c.toNat) Off.CTX_PREEMPTS) = satAdd (s.rd (reg (pgCTX c.toNat) Off.CTX_PREEMPTS)) 1 := by
  obtain ⟨u, hu, hcommit⟩ := State.commit_runCtrl h
  have hrecord : u.getCtx c.toNat = s.getCtx c.toNat := (congrArg (State.getCtx · c.toNat) hu :)
  have hbusy : u.busyEngines c.toNat = s.busyEngines c.toNat := (congrArg (State.busyEngines · c.toNat) hu :)
  have hnow : u.now = s.now := (congrArg State.now hu :)
  have hcount : u.rd (reg (pgCTX c.toNat) Off.CTX_PREEMPTS) = s.rd (reg (pgCTX c.toNat) Off.CTX_PREEMPTS) := (congrArg (State.rd · _) hu :)
  have hcounted : u.keepsOthers c.toNat (u.inc (reg (pgCTX c.toNat) Off.CTX_PREEMPTS)) := State.keepsOthers_of_eq (u.inc_mem _ _) (u.inc_ctx _ _)
  rw [← hrecord] at hrun
  rw [State.runCtrl_preempt (Or.inl hrun), State.preempt_running _ _ hrun] at hcommit
  refine ⟨_, hcommit, (((State.keepsOthers_heard hu _).trans hcounted).modCtx _).replied _, (congrArg State.cores hu :), ?_, ?_⟩
  · rw [State.getCtx_replied, State.getCtx_modCtx_self, ← hrecord, ← hbusy, ← hnow]
    rfl
  · rw [State.rd_replied, State.rd_modCtx, State.inc, State.rd_wr_self, hcount]

/-- PREEMPT of a restoring context: it is to stop after its restore (R276). -/
theorem State.preempt_afterRestore (h : s.mayWrite se (reg (pgCTX c.toNat) Off.CTX_RUN_CTRL) 1 = true) (hrun : (s.getCtx c.toNat).run = .restoring) :
    ∃ t, s.commit (s.putCtx se c Off.CTX_RUN_CTRL 1) = .next t ∧ s.keepsOthers c.toNat t ∧ t.cores = s.cores ∧
      t.getCtx c.toNat = { s.getCtx c.toNat with
        preemptAfter := true, byPreempt := true, preemptAt := if (s.getCtx c.toNat).preemptAfter then (s.getCtx c.toNat).preemptAt else s.now.toNat } := by
  obtain ⟨u, hu, hcommit⟩ := State.commit_runCtrl h
  have hrecord : u.getCtx c.toNat = s.getCtx c.toNat := (congrArg (State.getCtx · c.toNat) hu :)
  have hnow : u.now = s.now := (congrArg State.now hu :)
  have hrun' : (u.getCtx c.toNat).run = .restoring := hrecord ▸ hrun
  rw [State.runCtrl_preempt (Or.inr hrun'), State.preempt_restoring hrun', hrecord, hnow, Bool.or_true] at hcommit
  exact ⟨_, hcommit, ((State.keepsOthers_heard hu _).trans (u.keepsOthers_setCtx _ _)).replied _, (congrArg State.cores hu :), State.getCtx_setCtx_self _ _ _⟩

end

/-! ## RESUME (R266, R268, R274) -/

section
variable {s : State} {c : Nat}

/-- A context that was pre-empted by a write and that has saved, as it asks for its claim. -/
def State.resuming (s : State) (c : Nat) : State := s.setCtx c { s.getCtx c with run := .ready, byPreempt := false }

theorem State.runCtrl_resume (h : (s.getCtx c).run = .saved ∧ (s.getCtx c).byPreempt = true) : s.runCtrl c 2 = (s.resuming c).requestClaim c :=
  congrArg (Option.getD · (s.invalidWrite (pgCTX c))) (if_pos h : s.resumeCtx c = some ((s.resuming c).requestClaim c))

theorem State.runCtrl_resume_refused (h : ¬ ((s.getCtx c).run = .saved ∧ (s.getCtx c).byPreempt = true)) : s.runCtrl c 2 = s.invalidWrite (pgCTX c) :=
  congrArg (Option.getD · (s.invalidWrite (pgCTX c))) (if_neg h : s.resumeCtx c = none)

/-- The record that a grant of residency leaves (R266). -/
def CtxRec.granted (r : CtxRec) (words : Word × Word) : CtxRec :=
  { r with resident := true, starting := false, grantedClaim := some words, run := if r.saveValid then .restoring else .running }

/-- A grant that starts no replay changes the record of its context alone (R97, R266). -/
theorem State.grantClaim_record (h : (s.getCtx c).starting = false ∨ (s.getCtx c).saveValid = true) :
    s.grantClaim c = s.setCtx c ((s.getCtx c).granted (s.claimWords c)) := by
  have hstays : ((s.getCtx c).starting && !(s.getCtx c).saveValid) = false := by rcases h with h | h <;> simp [h]
  simp only [State.grantClaim, hstays, Bool.false_eq_true, if_false]
  rfl

/-- A context that resumes asks for the claim that it had. -/
theorem State.claimWords_resuming : (s.resuming c).claimWords c = s.claimWords c := by
  rw [State.claimWords, State.resuming, State.getCtx_setCtx_self, State.rd_setCtx, State.rd_setCtx, State.claimWords]

end

/-- RESUME of a pre-empted context whose claim is free (R266, R274). -/
theorem State.resume_granted {s : State} {se : SessIx} {c : Ctx} (h : s.mayWrite se (reg (pgCTX c.toNat) Off.CTX_RUN_CTRL) 2 = true)
    (hgo : (s.getCtx c.toNat).run = .saved ∧ (s.getCtx c.toNat).byPreempt = true) (hbad : s.claimBad c.toNat = false) (hnone : s.rivals c.toNat = []) :
    ∃ t, s.commit (s.putCtx se c Off.CTX_RUN_CTRL 2) = .next t ∧ s.keepsOthers c.toNat t ∧
      ((s.getCtx c.toNat).starting = false ∨ (s.getCtx c.toNat).saveValid = true → t.cores = s.cores) ∧
      t.getCtx c.toNat = { (s.getCtx c.toNat).granted (s.claimWords c.toNat) with byPreempt := false } := by
  obtain ⟨u, hu, hcommit⟩ := State.commit_runCtrl h
  have hrecord : u.getCtx c.toNat = s.getCtx c.toNat := (congrArg (State.getCtx · c.toNat) hu :)
  have hwords : u.claimWords c.toNat = s.claimWords c.toNat := (congrArg (State.claimWords · c.toNat) hu :)
  have hasks : (u.resuming c.toNat).getCtx c.toNat = { s.getCtx c.toNat with run := .ready, byPreempt := false } :=
    (State.getCtx_setCtx_self _ _ _).trans (by rw [hrecord])
  have hothers : s.keepsOthers c.toNat (u.resuming c.toNat) := (State.keepsOthers_heard hu _).trans (u.keepsOthers_setCtx _ _)
  have hclaims : s.sameClaims (u.resuming c.toNat) := State.sameClaims_of_eq (congrArg State.regs hu :) (congrArg State.fuse hu :)
  have hwaits : ((u.resuming c.toNat).getCtx c.toNat).grantedClaim = (s.getCtx c.toNat).grantedClaim := by rw [hasks]
  rw [State.runCtrl_resume (by rwa [hrecord]),
    State.requestClaim_granted ((hclaims.claimBad hwaits).trans hbad) (hclaims.rivals_nil hothers hwaits hnone)] at hcommit
  refine ⟨_, hcommit, (hothers.trans (State.keepsOthers_grantClaim _ _)).replied _, fun hstays => ?_, ?_⟩
  · have hstays' : ((u.resuming c.toNat).getCtx c.toNat).starting = false ∨ ((u.resuming c.toNat).getCtx c.toNat).saveValid = true := by rwa [hasks]
    rw [State.grantClaim_record hstays']
    exact (congrArg State.cores hu :)
  · rw [State.getCtx_replied, State.getCtx_grantClaim, hasks, State.claimWords_resuming, hwords]
    rfl

/-! ## The obligation -/

/-- Settles O37: a running and a restoring context take PREEMPT by a change of their record, and RESUME passes through a state that asks for the claim. -/
theorem preemptAndResume : Obligations.PreemptAndResume := by
  unfold Obligations.PreemptAndResume
  intro s se c x r may others refused
  refine ⟨fun h hrun => ?stops, fun h hrun => ?afterRestore, fun h hrun hrestore => State.commit_runCtrl_refused h fun u hu => ?neither,
    fun h hrun hby hbad hnone => ?resumes, fun h hgo => State.commit_runCtrl_refused h fun u hu => ?stays⟩
  case stops =>
    obtain ⟨t, ht, hothers, hcores, hrecord, hcount⟩ := State.preempt_stops h hrun
    exact ⟨t, ht, ⟨hothers.getCtx, hothers.mem⟩, hcores, hrecord, hcount⟩
  case afterRestore =>
    obtain ⟨t, ht, hothers, hcores, hrecord⟩ := State.preempt_afterRestore h hrun
    exact ⟨t, ht, ⟨hothers.getCtx, hothers.mem⟩, hcores, hrecord⟩
  case neither =>
    have hrecord : u.getCtx x = s.getCtx x := (congrArg (State.getCtx · x) hu :)
    exact State.runCtrl_preempt_refused (by rwa [hrecord]) (by rwa [hrecord])
  case resumes =>
    obtain ⟨t, ht, hothers, hcores, hrecord⟩ := State.resume_granted h ⟨hrun, hby⟩ hbad hnone
    exact ⟨t, ht, ⟨hothers.getCtx, hothers.mem⟩, hcores, hrecord⟩
  case stays =>
    have hrecord : u.getCtx x = s.getCtx x := (congrArg (State.getCtx · x) hu :)
    exact State.runCtrl_resume_refused (by rwa [hrecord])

end Sys2Proof.Machine
end

section
/-! PROOFS. Grants of waiting claims, and the engines of a stopping context at their boundaries (R180, R260, R266, R269). -/

namespace Sys2Proof.Machine

open Sys2Proof

/-! ## CLAIM_GRANT (R260, R266) -/

section
variable {s u : State} {c : Nat}

theorem State.claimGranted_picks (h : s.tieGrant 0x20000 16384 s.waiting = (some c, u)) : s.claimGranted c = u.grantClaim c := by
  simp only [State.claimGranted, h, if_true]

theorem State.claimGranted_other (h : (s.tieGrant 0x20000 16384 s.waiting).1 ≠ some c) : s.claimGranted c = s := by
  unfold State.claimGranted
  split
  · next x t hpick =>
    rw [hpick] at h
    exact if_neg fun hx => h (congrArg some hx)
  · rfl

/-- A waiting context that the tie rule picks is granted its claim; nothing but its record, the tie pointers and the tiles of a replay start changes (R97, R266). -/
theorem State.claimGrant_picked (h : s.tieGrant 0x20000 16384 s.waiting = (some c, u)) : s.keepsOthers c (s.claimGranted c) ∧
    ((s.getCtx c).starting = false ∨ (s.getCtx c).saveValid = true → { s.claimGranted c with ctx := s.ctx, ties := s.ties } = s) ∧
    (s.claimGranted c).getCtx c = (s.getCtx c).granted (s.claimWords c) := by
  have hties : s.withTies u = s := by simpa only [h] using s.tieGrant_ties 0x20000 16384 s.waiting
  have hrecord : u.getCtx c = s.getCtx c := (congrArg (State.getCtx · c) hties :)
  have hwords : u.claimWords c = s.claimWords c := (congrArg (State.claimWords · c) hties :)
  rw [State.claimGranted_picks h]
  have hpicked : s.keepsOthers c u := State.keepsOthers_of_eq (congrArg State.mem hties :) (congrArg State.ctx hties :)
  refine ⟨hpicked.trans (u.keepsOthers_grantClaim c), fun hstays => ?_, ?_⟩
  · rw [State.grantClaim_record (by rwa [hrecord])]
    exact (congrArg (fun t : State => { t with ctx := s.ctx }) hties :)
  · rw [State.getCtx_grantClaim, hrecord, hwords]
    rfl

end

/-! ## An engine at its boundary (R180, R269) -/

/-- No entry of the table of contexts has c running. -/
def State.standsStill (s : State) (c : Nat) : Prop := ∀ q ∈ s.ctx, q.1 = c → q.2.run ≠ .running

theorem State.standsStill_modCtx {s : State} {c : Nat} (h : s.standsStill c) {f : CtxRec → CtxRec} (hf : (f (s.getCtx c)).run ≠ .running) : (s.modCtx c f).standsStill c := by
  intro q hq hc
  rcases mem_mapSet_imp _ hq with rfl | hold
  · exact hf
  · exact h q hold hc

section
variable (p : State) (c : Nat) (e : Engine)

/-- A context one of whose engines has stopped. -/
def State.engineOut : State :=
  p.modCtx c fun x => { x with engines := (p.getCtx c).engines.erase e, held := if e = .frontEnd then none else x.held }

/-- A context after one of its engines: with the last it saves. -/
def State.afterEngine : State := if (p.getCtx c).engines.erase e = [] then (p.engineOut c e).beginSave c else p.engineOut c e

variable {p c e} {s : State}

theorem State.engineStopped_goes (hgo : (s.getCtx c).run = .stopping ∧ (s.getCtx c).engines.contains e = true ∧ s.mayStop c e = true)
    (hrun : ((s.stopEngine c e).getCtx c).run = .stopping) : s.engineStopped c e =
      if e = .router then ((s.stopEngine c e).afterEngine c e).routerNext else (s.stopEngine c e).afterEngine c e := by
  simp only [State.engineStopped, hgo, and_self, if_true, hrun, ne_eq, not_true_eq_false, if_false]
  rfl

/-- What an engine completes on the way can fault its context, which then stops no more. -/
theorem State.engineStopped_faults (hgo : (s.getCtx c).run = .stopping ∧ (s.getCtx c).engines.contains e = true ∧ s.mayStop c e = true)
    (hrun : ((s.stopEngine c e).getCtx c).run ≠ .stopping) : s.engineStopped c e = s.stopEngine c e := by
  simp only [State.engineStopped, hgo, and_self, if_true, ne_eq, hrun, not_false_eq_true]

theorem State.engineStopped_stays (h : (s.getCtx c).run ≠ .stopping ∨ (s.getCtx c).engines.contains e = false ∨ s.mayStop c e = false) :
    s.engineStopped c e = s :=
  if_neg fun ⟨hrun, hengine, hmay⟩ => by simp only [hrun, hengine, hmay, ne_eq, not_true_eq_false, Bool.true_eq_false, or_self] at h

variable (p c e)

/-- The movers of a context that saves ask for their current, and its other units give theirs up (R270). -/
theorem State.beginSave_records : p.keepsOthers c (p.beginSave c) ∧ (p.beginSave c).getCtx c = { p.getCtx c with run := .saving } ∧
    (p.standsStill c → (p.beginSave c).standsStill c) := by
  unfold State.beginSave
  dsimp only
  generalize hreleased : p.releaseUnits _ none = t
  have hmem : (t.askSave c).mem = p.mem := by rw [State.askSave_mem, ← hreleased, State.releaseUnits_mem]
  have hctx : (t.askSave c).ctx = p.ctx := by rw [State.askSave_ctx, ← hreleased, State.releaseUnits_ctx]
  have hrecord : (t.askSave c).getCtx c = p.getCtx c := congrArg (mapGet ({} : CtxRec) · c) hctx
  refine ⟨(State.keepsOthers_of_eq hmem hctx).modCtx _, by rw [State.getCtx_modCtx_self, hrecord], fun hstill => State.standsStill_modCtx ?_ RunState.noConfusion⟩
  exact fun q hq => hstill q (hctx ▸ hq)

/-- An engine that stops leaves the list of those that have still to stop (R269). -/
theorem State.afterEngine_records (hrun : (p.getCtx c).run = .stopping) : p.keepsOthers c (p.afterEngine c e) ∧
    (p.afterEngine c e).getCtx c = { p.getCtx c with
      engines := (p.getCtx c).engines.erase e, held := if e = .frontEnd then none else (p.getCtx c).held
      run := if (p.getCtx c).engines.erase e = [] then .saving else .stopping } ∧
    (p.standsStill c → (p.afterEngine c e).standsStill c) := by
  have hout : p.keepsOthers c (p.engineOut c e) := p.keepsOthers_modCtx c _
  have hrecord : (p.engineOut c e).getCtx c = { p.getCtx c with
      engines := (p.getCtx c).engines.erase e, held := if e = .frontEnd then none else (p.getCtx c).held } := p.getCtx_modCtx_self c _
  have hstill (h : p.standsStill c) : (p.engineOut c e).standsStill c := State.standsStill_modCtx h (by simp [hrun])
  obtain ⟨hsave, hsaving, hsaves⟩ := (p.engineOut c e).beginSave_records c
  unfold State.afterEngine
  split
  · exact ⟨hout.trans hsave, by rw [hsaving, hrecord], fun h => hsaves (hstill h)⟩
  · exact ⟨hout, by rw [hrecord, ← hrun], hstill⟩

end

/-! ## The units of a router that has stopped (R180) -/

section
variable {s : State} {c : Nat}

/-- Where no other context waits for router units, and the router of c has stopped, none starts. -/
theorem State.routerNext_stopped (hquiet : ∀ q ∈ s.ctx, q.1 ≠ c → q.2.routerQuiet) (hstill : s.standsStill c) (hruns : s.engineRuns c .router = false) :
    s.routerNext = s := by
  have hnone : s.routerWaiters = [] := by
    refine List.eq_nil_iff_forall_not_mem.2 fun w hw => ?_
    have hwc := State.routerWaiters_mem hquiet hw
    obtain ⟨q, hq, hwaits⟩ := List.mem_filterMap.1 hw
    dsimp only at hwaits
    rw [Option.ite_none_right_eq_some] at hwaits
    obtain ⟨hgo, hqw⟩ := hwaits
    have hqc : q.1 = c := (congrArg Prod.fst (Option.some.inj hqw)).trans hwc
    rcases (Bool.or_eq_true _ _).mp hgo with hagain | hissue
    · rw [hqc, hruns, Bool.false_and] at hagain
      cases hagain
    · split at hissue
      · simp only [Bool.and_eq_true, beq_iff_eq] at hissue
        exact hstill q hq hqc hissue.1.2
      · cases hissue
  rw [State.routerNext, hnone]
  rfl

theorem State.keepsOthers_stopRouter (s : State) (c : Nat) : s.keepsOthers c (s.stopRouter c) := s.keepsOthers_modCtx c _

theorem State.getCtx_stopRouter (s : State) (c : Nat) : (s.stopRouter c).getCtx c = { s.getCtx c with
    live := (s.getCtx c).live.map fun l => if l.w.eclass == 4 then { l with waits := true } else l } := s.getCtx_modCtx_self c _

/-- A context whose router stops hands on units that none waits for (R180). -/
theorem State.routerNext_afterEngine (hquiet : s.routerQuiet c = true) (hrun : (s.getCtx c).run = .stopping)
    (hout : ((s.getCtx c).engines.erase .router).contains .router = false) :
    ((s.stopRouter c).afterEngine c .router).routerNext = (s.stopRouter c).afterEngine c .router := by
  have hrecord := s.getCtx_stopRouter c
  have hstopping : ((s.stopRouter c).getCtx c).run = .stopping := by rw [hrecord]; exact hrun
  have hstill : s.standsStill c := by
    intro q hq hc
    have hentry := List.all_eq_true.1 hquiet q hq
    rw [if_pos hc, beq_iff_eq] at hentry
    rw [hentry, hrun]
    exact RunState.noConfusion
  have hstill' : (s.stopRouter c).standsStill c := State.standsStill_modCtx hstill (by simp [hrun])
  obtain ⟨hothers, hafter, hstays⟩ := (s.stopRouter c).afterEngine_records c .router hstopping
  refine State.routerNext_stopped (c := c) (fun q hq hc => State.routerQuiet_others hquiet ?_ hc) (hstays hstill') ?_
  · exact ((s.keepsOthers_stopRouter c).trans hothers).entries q hq hc
  · rw [State.engineRuns, hafter, hrecord]
    dsimp only
    rw [hout, Bool.and_false, Bool.or_false]
    split <;> rfl

end

/-! ## The obligation -/

section
variable {s : State} {c : Nat} {e : Engine}

/-- The front end, the tile drains, the mask walk and the router complete nothing when they stop (R180, R269). -/
theorem State.stopEngine_quiet (h : e = .frontEnd ∨ e = .tileDrain ∨ e = .maskWalk ∨ e = .router) :
    s.keepsOthers c (s.stopEngine c e) ∧ (s.stopEngine c e).cores = s.cores ∧
      (s.stopEngine c e).getCtx c = if e = .router then { s.getCtx c with
        live := (s.getCtx c).live.map fun l => if l.w.eclass == 4 then { l with waits := true } else l } else s.getCtx c := by
  rcases h with rfl | rfl | rfl | rfl
  · exact ⟨s.keepsOthers_refl c, rfl, rfl⟩
  · exact ⟨s.keepsOthers_refl c, rfl, rfl⟩
  · exact ⟨s.keepsOthers_refl c, rfl, rfl⟩
  · exact ⟨s.keepsOthers_stopRouter c, rfl, s.getCtx_stopRouter c⟩

/-- An engine of a stopping context that may stop leaves the list of those that have still to stop, and nothing more changes but what it completes on the way. -/
theorem State.engineStopped_records (hrun : (s.getCtx c).run = .stopping) (hengine : (s.getCtx c).engines.contains e = true) (hmay : s.mayStop c e = true)
    (hout : ((s.getCtx c).engines.erase e).contains e = false) (hstopping : ((s.stopEngine c e).getCtx c).run = .stopping)
    (hengines : ((s.stopEngine c e).getCtx c).engines = (s.getCtx c).engines) (hquiet : e = .router → s.routerQuiet c = true) :
    (s.stopEngine c e).keepsOthers c (s.engineStopped c e) ∧ (s.engineStopped c e).getCtx c = { (s.stopEngine c e).getCtx c with
      engines := (s.getCtx c).engines.erase e, held := if e = .frontEnd then none else ((s.stopEngine c e).getCtx c).held
      run := if (s.getCtx c).engines.erase e = [] then .saving else .stopping } := by
  obtain ⟨hothers, hafter, -⟩ := (s.stopEngine c e).afterEngine_records c e hstopping
  have hend : s.engineStopped c e = (s.stopEngine c e).afterEngine c e := by
    rw [State.engineStopped_goes ⟨hrun, hengine, hmay⟩ hstopping]
    split
    · next hrouter =>
      subst hrouter
      exact State.routerNext_afterEngine (hquiet rfl) hrun hout
    · rfl
  rw [hend, ← hengines]
  exact ⟨hothers, hafter⟩

end

section
variable {s : State} {c : Ctx} {b : BitVec 3} {e : Engine}

theorem exec_engineStopped_row : exec (.engineStopped c b) s = execEngineStopped c b s := rfl

/-- The row of an engine that the module has is carried out. -/
theorem exec_engineStopped (h : engineOf b.toNat = some e) : exec (.engineStopped c b) s = s.commit (s.engineStopped c.toNat e) := by
  simp only [exec_engineStopped_row, execEngineStopped, h]

/-- The row of a number that names no engine stops (log entry 3, DESIGN CHOICE). -/
theorem exec_engineStopped_absent (h : engineOf b.toNat = none) : exec (.engineStopped c b) s = .fault .noSuchUnit := by
  simp only [exec_engineStopped_row, execEngineStopped, h]

end

/-- Settles O39: a grant is the one that the tie rule picks, and an engine at its boundary is what it completes on the way and then a change of its context's record. -/
theorem claimsAndStops : Obligations.ClaimsAndStops := by
  unfold Obligations.ClaimsAndStops
  intro s u c b e x r p q still
  refine ⟨fun hpick => ?picked, fun hpick => congrArg s.commit (State.claimGranted_other hpick), fun he => ?quiet,
    fun hb hrun hengine hout hmay hstopping hengines hquiet => ?stops, fun hb hrun hengine hmay hfaulted => ?faults, fun hb hstays => ?stays, exec_engineStopped_absent⟩
  case picked =>
    obtain ⟨hothers, hframe, hrecord⟩ := State.claimGrant_picked hpick
    have hcommit : exec (.claimGrant c) s = s.commit (s.claimGranted x) := rfl
    generalize s.claimGranted x = t at *
    exact ⟨_, hcommit, hothers.getCtx, hothers.mem, fun h => congrArg (fun t : State => { t with pending := s.pending }) (hframe h), hrecord⟩
  case quiet =>
    obtain ⟨hothers, hcores, hrecord⟩ := State.stopEngine_quiet (s := s) (c := x) he
    exact ⟨hothers.getCtx, hothers.mem, hcores, hrecord⟩
  case stops =>
    obtain ⟨hothers, hrecord⟩ := State.engineStopped_records hrun hengine hmay hout hstopping hengines hquiet
    have hcommit := exec_engineStopped (s := s) (c := c) hb
    generalize s.engineStopped c.toNat e = t at *
    exact ⟨_, hcommit, hothers.mem, hothers.getCtx, hrecord⟩
  case faults => rw [exec_engineStopped hb, State.engineStopped_faults ⟨hrun, hengine, hmay⟩ hfaulted]; rfl
  case stays => rw [exec_engineStopped hb, State.engineStopped_stays hstays]; rfl

end Sys2Proof.Machine
end

section
/-! PROOFS. The ledger tick: what it leaves of the module, and how far each compute account moves (R282, R283, R285, R287, R290 to R294, R297). -/

namespace Sys2Proof.Machine

open Sys2Proof

/-! ## Registers that a tick keeps (R283, R297, R300) -/

/-- Registers that bound and hold the compute accounts: ceiling, slew and account of each (R283, R300). -/
def accountKey (k : Nat) : Prop := ∃ a < 8, ∃ o ∈ [Off.LEDG_RAIL_CEIL, Off.LEDG_RAIL_SLEW, Off.LEDG_RAIL_ACCOUNT], k = railReg a o

theorem accountKey_railReg {a o : Nat} (ha : a < 8) (ho : o ∈ [Off.LEDG_RAIL_CEIL, Off.LEDG_RAIL_SLEW, Off.LEDG_RAIL_ACCOUNT]) : accountKey (railReg a o) :=
  ⟨a, ha, o, ho, rfl⟩

/-- Where the registers of the compute accounts stand: below the windows, above the shared registers of the page, at three offsets of each account. -/
theorem accountKey_bounds {k : Nat} (h : accountKey k) : 0x10100 ≤ k ∧ k < 2 ^ 28 ∧ (k % 64 = 0 ∨ k % 64 = 4 ∨ k % 64 = 12) := by
  obtain ⟨a, ha, o, ho, rfl⟩ := h
  simp only [List.mem_cons, List.not_mem_nil, or_false, Off.LEDG_RAIL_CEIL, Off.LEDG_RAIL_SLEW, Off.LEDG_RAIL_ACCOUNT] at ho
  unfold railReg reg pgLEDG
  omega

theorem accountKey_ne_wreg {k : Nat} (h : accountKey k) (w p o : Nat) : k ≠ wreg w p o := by
  have hk := (accountKey_bounds h).2.1
  have hw := wreg_ge w p o
  omega

theorem accountKey_ne_reg {k o : Nat} (h : accountKey k) (ho : o < 0x100) : k ≠ reg pgLEDG o := by
  have hk := (accountKey_bounds h).1
  unfold reg pgLEDG
  omega

/-- No other register of an account is among them. -/
theorem accountKey_ne_railReg {k a o : Nat} (h : accountKey k) (ho : o % 64 ∉ [0, 4, 12]) : k ≠ railReg a o := by
  have hk := (accountKey_bounds h).2.2
  simp only [List.mem_cons, List.not_mem_nil, or_false, not_or] at ho
  unfold railReg reg
  omega

/-- The registers of different accounts are different. -/
theorem railReg_inj {a b o : Nat} : railReg a o = railReg b o ↔ a = b := by unfold railReg reg; omega

/-! ## Steps that keep the accounts -/

/-- A state with the ledger's records, the passes, the tie pointers, the registers and the charges of another. -/
def State.withLedger (s u : State) : State := { u with
  regs := s.regs, lreqs := s.lreqs, lresv := s.lresv, cores := s.cores, ties := s.ties, rails := s.rails, ballastPc := s.ballastPc, ballastBill := s.ballastBill, met := s.met }

/-- A step of the ledger leaves the rest of the module alone, and the registers that bound and hold the compute accounts. -/
def State.keepsAccounts (s t : State) : Prop := s.withLedger t = s ∧ ∀ k, accountKey k → t.rd k = s.rd k

section
variable {s t u : State}

theorem State.withLedger_trans (hst : s.withLedger t = s) (htu : t.withLedger u = t) : s.withLedger u = s := by
  have h : s.withLedger (t.withLedger u) = s.withLedger t := by rw [htu]
  exact h.trans hst

theorem State.withLedger_keeps (h : s.withLedger t = s) : t.ctx = s.ctx ∧ t.mem = s.mem ∧ t.now = s.now ∧ t.thr = s.thr :=
  ⟨(congrArg State.ctx h :), (congrArg State.mem h :), (congrArg State.now h :), (congrArg State.thr h :)⟩

theorem State.keepsAccounts_refl (s : State) : s.keepsAccounts s := ⟨rfl, fun _ _ => rfl⟩

theorem State.keepsAccounts.trans (hst : s.keepsAccounts t) (htu : t.keepsAccounts u) : s.keepsAccounts u :=
  ⟨State.withLedger_trans hst.1 htu.1, fun k hk => (htu.2 k hk).trans (hst.2 k hk)⟩

theorem State.keepsAccounts_of_regs (hframe : s.withLedger t = s) (hregs : t.regs = s.regs) : s.keepsAccounts t :=
  ⟨hframe, fun k _ => congrArg (mapGet (resetReg k) · k) hregs⟩

theorem State.keepsAccounts_foldl {α : Type} (f : State → α → State) (h : ∀ (t : State) (a : α), t.keepsAccounts (f t a)) (l : List α) (s : State) :
    s.keepsAccounts (l.foldl f s) :=
  foldl_keeps (fun t : State => s.keepsAccounts t) f (fun t a ht => ht.trans (h t a)) l s s.keepsAccounts_refl

theorem State.keepsAccounts_wr (s : State) {j : Nat} (v : Word) (hj : ∀ k, accountKey k → k ≠ j) : s.keepsAccounts (s.wr j v) :=
  ⟨rfl, fun k hk => s.rd_wr_other v (hj k hk)⟩

theorem State.keepsAccounts_inc64 (s : State) {j : Nat} (n : Nat) (hlow : ∀ k, accountKey k → k ≠ j) (hhigh : ∀ k, accountKey k → k ≠ j + 4) :
    s.keepsAccounts (s.inc64 j n) :=
  ⟨rfl, fun k hk => s.rd_wr64_other _ (hlow k hk) (hhigh k hk)⟩

/-- The same write after a step that keeps the accounts. -/
theorem State.keepsAccounts.wr (h : s.keepsAccounts t) (j : Nat) (v : Word) : (s.wr j v).keepsAccounts (t.wr j v) := by
  refine ⟨State.withLedger_trans (s := s.wr j v) (t := s) rfl h.1, fun k hk => ?_⟩
  rw [State.rd_wr, State.rd_wr, h.2 k hk]

variable (s) (a : Nat)

theorem State.keepsAccounts_setRail (r : RailRec) : s.keepsAccounts (s.setRail a r) := State.keepsAccounts_of_regs rfl rfl

theorem State.keepsAccounts_modRail (f : RailRec → RailRec) : s.keepsAccounts (s.modRail a f) := s.keepsAccounts_setRail a _

theorem State.keepsAccounts_modCore (k : Nat) (f : CoreRec → CoreRec) : s.keepsAccounts (s.modCore k f) := State.keepsAccounts_of_regs rfl rfl

theorem State.keepsAccounts_assertLstep : s.keepsAccounts (s.assertLstep a) := by
  unfold State.assertLstep
  split
  · exact s.keepsAccounts_refl
  · exact (s.keepsAccounts_wr _ fun k hk => accountKey_ne_reg hk (by decide)).trans (State.keepsAccounts_modRail _ _ _)

theorem State.keepsAccounts_moveGuide : s.keepsAccounts (s.moveGuide a) := by
  unfold State.moveGuide
  dsimp only
  split
  · exact s.keepsAccounts_setRail a _
  · split <;> exact s.keepsAccounts_setRail a _
  · exact s.keepsAccounts_refl

theorem State.tieGrant_regs (arb n : Nat) (req : List (Nat × Nat)) : (s.tieGrant arb n req).2.regs = s.regs :=
  (congrArg State.regs (s.tieGrant_ties arb n req) :)

theorem State.grantReq_regs (h : LReq) : (s.grantReq h).regs = s.regs := by
  unfold State.grantReq
  rw [State.coverArrays_regs]
  exact (congrArg State.regs (State.markGranted_cores _) :).trans (s.tieGrant_regs _ _ _)

theorem State.keepsAccounts_grantReq (h : LReq) : s.keepsAccounts (s.grantReq h) :=
  State.keepsAccounts_of_regs (State.withLedger_trans (t := s.withGrants (s.grantReq h)) (by rw [s.grantReq_frame h]; rfl) rfl) (s.grantReq_regs h)

theorem State.keepsAccounts_countWait : s.keepsAccounts (s.countWait a) := by
  unfold State.countWait
  split
  · exact s.keepsAccounts_wr _ fun k hk => accountKey_ne_railReg hk (by decide)
  · exact s.keepsAccounts_refl

theorem State.keepsAccounts_notePeak (n : Nat) : s.keepsAccounts (s.notePeak a n) := by
  unfold State.notePeak
  split
  · exact s.keepsAccounts_wr _ fun k hk => accountKey_ne_railReg hk (by decide)
  · exact s.keepsAccounts_refl

theorem State.keepsAccounts_countFrozen (fr : List (Nat × Option Nat × Nat)) : s.keepsAccounts (s.countFrozen a fr) := by
  unfold State.countFrozen
  split
  · exact s.keepsAccounts_refl
  · refine ((s.keepsAccounts_wr _ fun k hk => accountKey_ne_railReg hk (by decide)).trans (State.keepsAccounts_modRail _ _ _)).trans
      (State.keepsAccounts_foldl _ (fun t f => ?_) fr _)
    split
    · exact t.keepsAccounts_wr _ fun k hk => accountKey_ne_wreg hk _ _ _
    · exact t.keepsAccounts_refl

/-- The counter of a domain's ballast, or of the operator's (R291, R299). -/
def ballastKey (dom : Nat) : Nat := if dom = 1024 then reg pgLEDG Off.LEDG_OP_BALLAST_LO else wreg dom pgLEDG Off.LEDG_DOM_BALLAST_LO

theorem accountKey_ne_ballastKey {k : Nat} (h : accountKey k) (dom : Nat) : k ≠ ballastKey dom ∧ k ≠ ballastKey dom + 4 := by
  unfold ballastKey
  split
  · exact ⟨accountKey_ne_reg h (by decide), accountKey_ne_reg (o := Off.LEDG_OP_BALLAST_LO + 4) h (by decide)⟩
  · have hwin := wreg_ge dom pgLEDG Off.LEDG_DOM_BALLAST_LO
    have hlow := (accountKey_bounds h).2.1
    exact ⟨accountKey_ne_wreg h _ _ _, by omega⟩

/-- Charge in pC that fills a counter of nC (R291). -/
def State.bumpBallast (s : State) (key j pc : Nat) : State :=
  ({ s with ballastPc := mapSet 0 s.ballastPc key ((mapGet 0 s.ballastPc key + pc) % 1000) } : State).inc64 j ((mapGet 0 s.ballastPc key + pc) / 1000)

theorem State.keepsAccounts_bumpBallast (key pc : Nat) {j : Nat} (hj : ∀ k, accountKey k → k ≠ j ∧ k ≠ j + 4) : s.keepsAccounts (s.bumpBallast key j pc) :=
  State.keepsAccounts.trans (t := { s with ballastPc := mapSet 0 s.ballastPc key ((mapGet 0 s.ballastPc key + pc) % 1000) }) (State.keepsAccounts_of_regs rfl rfl)
    (State.keepsAccounts_inc64 _ _ (fun k hk => (hj k hk).1) fun k hk => (hj k hk).2)

/-- Ballast of a tick counts for its account and for its domain (R291, R299). -/
theorem State.chargeBallast_bumps (dom b : Nat) : s.chargeBallast a dom b = if b = 0 then s else
    let u := (s.bumpBallast (a * 2048 + 2047) (railReg a Off.LEDG_RAIL_BALLAST_NC_LO) (2 * b)).bumpBallast (16 * 2048 + dom) (ballastKey dom) (2 * b)
    { u with ballastBill := addTo u.ballastBill (a * 2048 + dom) (2 * b) } := rfl

theorem State.keepsAccounts_chargeBallast (dom b : Nat) : s.keepsAccounts (s.chargeBallast a dom b) := by
  have haccount : ∀ k, accountKey k → k ≠ railReg a Off.LEDG_RAIL_BALLAST_NC_LO ∧ k ≠ railReg a Off.LEDG_RAIL_BALLAST_NC_LO + 4 := by
    intro k hk
    have hoff := (accountKey_bounds hk).2.2
    unfold railReg reg Off.LEDG_RAIL_BALLAST_NC_LO
    omega
  rw [State.chargeBallast_bumps]
  split
  · exact s.keepsAccounts_refl
  · dsimp only
    refine State.keepsAccounts.trans ((s.keepsAccounts_bumpBallast (a * 2048 + 2047) (2 * b) haccount).trans
      (State.keepsAccounts_bumpBallast _ (16 * 2048 + dom) (2 * b) fun k hk => accountKey_ne_ballastKey hk dom)) ?_
    generalize State.bumpBallast _ _ _ _ = u
    exact State.keepsAccounts_of_regs rfl rfl

theorem State.keepsAccounts_splitBallast (b : Nat) (stopping : Bool) : s.keepsAccounts (s.splitBallast a b stopping) := by
  unfold State.splitBallast
  extract_lets r total debts s1 s2 rest arm
  have hdebts : s.keepsAccounts s2 :=
    (s.keepsAccounts_setRail a _).trans (State.keepsAccounts_foldl _ (fun t p => t.keepsAccounts_chargeBallast a p.1 p.2) debts s1)
  refine hdebts.trans ?_
  split
  · exact State.keepsAccounts_chargeBallast _ _ _ _
  · split
    · exact State.keepsAccounts_chargeBallast _ _ _ _
    · split
      · exact State.keepsAccounts_chargeBallast _ _ _ _
      · exact State.keepsAccounts_foldl _ (fun t p => t.keepsAccounts_chargeBallast a _ _) _ _

theorem State.keepsAccounts_addCharge (rail dom pc : Nat) : s.keepsAccounts (s.addCharge rail dom pc) := by
  unfold State.addCharge
  split
  · exact s.keepsAccounts_refl
  · exact State.keepsAccounts_of_regs rfl rfl

theorem State.keepsAccounts_chargeWork : s.keepsAccounts (s.chargeWork a) :=
  (State.keepsAccounts_foldl _ (fun t d => t.keepsAccounts_addCharge a d _) _ s).trans (State.keepsAccounts_addCharge _ _ _ _)

theorem State.keepsAccounts_chargeOther : s.keepsAccounts (s.chargeOther a) :=
  State.keepsAccounts_foldl _ (fun t d => t.keepsAccounts_addCharge a d _) _ s

theorem State.keepsAccounts_grantRun (n : Nat) : s.keepsAccounts (State.grantRun a n s) := by
  induction n generalizing s with
  | zero => exact s.keepsAccounts_refl
  | succ n ih =>
    unfold State.grantRun
    split
    · split
      · exact ((s.keepsAccounts_grantReq _).trans (State.keepsAccounts_notePeak _ _ _)).trans (ih _)
      · exact s.keepsAccounts_refl
    · exact s.keepsAccounts_refl

theorem State.keepsAccounts_tickOther : s.keepsAccounts (s.tickOther a) :=
  ((s.keepsAccounts_grantRun a _).trans (State.keepsAccounts_countWait _ a)).trans (State.keepsAccounts_notePeak _ a _)

theorem State.keepsAccounts_placeBallast : s.keepsAccounts s.placeBallast := by
  refine State.keepsAccounts_foldl _ (fun t a => ?_) _ s
  dsimp only
  split
  · exact t.keepsAccounts_refl
  · exact t.keepsAccounts_modRail a _

theorem State.keepsAccounts_drainsGo : s.keepsAccounts s.drainsGo := by
  unfold State.drainsGo
  exact State.keepsAccounts_foldl _ (fun t (p : Nat × CoreRec) => t.keepsAccounts_modCore p.1 _) _ s

end

/-! ## How far an account moves (R283, R287, R294, R297) -/

/-- A value that a compute account may take in one tick: a step of its slew at most, above the ceiling only while it falls, and not up under the throttle (R283, R287, R294, R297). -/
def State.inTick (s : State) (a n : Nat) : Prop :=
  let step := (s.rd (railReg a Off.LEDG_RAIL_SLEW)).toNat / 50
  n ≤ s.account a + step ∧ s.account a ≤ n + step ∧ n ≤ max (s.ceil a) (s.account a - step) ∧ (s.thr.throttled = true → n ≤ s.account a)

/-- The cap of an account is at most its ceiling (R287). -/
theorem State.cap_le_ceil (s : State) (a : Nat) : s.cap a ≤ s.ceil a := by
  unfold State.cap
  dsimp only
  split <;> split <;> omega

/-- The highest account that slew, cap and band allow is within one step of the slew, and above the cap only while the account falls (R287). -/
theorem railTop_bounds {a0 step cap ceil : Nat} (hcap : cap ≤ ceil) (top : Nat) :
    max (min (min (a0 + step) cap) top) (a0 - step) ≤ a0 + step ∧ a0 ≤ max (min (min (a0 + step) cap) top) (a0 - step) + step ∧
      max (min (min (a0 + step) cap) top) (a0 - step) ≤ max ceil (a0 - step) := by
  omega

/-- The next account stays within what a tick may do (R287). -/
theorem State.railTick_inTick (s : State) (a : Nat) (h : Option LReq) : s.inTick a (s.railTick a h).2.a1 := by
  have htop := railTop_bounds (a0 := s.account a) (step := (s.rd (railReg a Off.LEDG_RAIL_SLEW)).toNat / 50) (s.cap_le_ceil a)
    (if s.lstep a && (s.rail a).leadDone then 2 ^ 20 else (s.rd (railReg a Off.LEDG_RAIL_ANCHOR)).toNat + s.ceil a / 10)
  unfold State.railTick State.inTick
  dsimp only
  cases hstop : s.stopping with
  | true =>
    simp only [if_true]
    omega
  | false =>
    simp only [Bool.false_eq_true, if_false]
    generalize max (min (min (s.account a + _) (s.cap a)) _) _ = up at htop ⊢
    cases hthr : s.thr.throttled with
    | true =>
      simp only [Bool.true_or, if_true]
      omega
    | false =>
      simp only [Bool.false_or, Bool.false_eq_true, false_implies, and_true]
      cases (s.rail a).relHold with
      | true =>
        simp only [if_true]
        omega
      | false =>
        simp only [Bool.false_eq_true, if_false]
        omega

/-- A value of a tick fits its register. -/
theorem State.inTick_lt {s : State} {a n : Nat} (ha : a < 8) (h : s.inTick a n) : n < 2 ^ 32 := by
  obtain ⟨-, -, hceil, -⟩ := h
  have hc : s.ceil a < 2 ^ 32 := BitVec.isLt _
  have hacc : s.account a < 2 ^ 32 := by unfold State.account; rw [if_pos ha]; exact BitVec.isLt _
  omega

/-- The register of a compute account is the account (R282). -/
theorem State.account_of_rd {s t : State} {a : Nat} (ha : a < 8) (h : t.rd (railReg a Off.LEDG_RAIL_ACCOUNT) = s.rd (railReg a Off.LEDG_RAIL_ACCOUNT)) :
    t.account a = s.account a := by
  simp only [State.account, if_pos ha, h]

section
variable {s t : State} {a n : Nat}

theorem State.inTick_congr (ha : a < 8) (hthr : t.thr = s.thr)
    (h : ∀ o ∈ [Off.LEDG_RAIL_CEIL, Off.LEDG_RAIL_SLEW, Off.LEDG_RAIL_ACCOUNT], t.rd (railReg a o) = s.rd (railReg a o)) : t.inTick a n ↔ s.inTick a n := by
  have hacc : t.account a = s.account a := State.account_of_rd ha (h _ (by simp))
  have hceil : t.ceil a = s.ceil a := congrArg BitVec.toNat (h _ (by simp))
  simp only [State.inTick, hacc, hceil, hthr, h Off.LEDG_RAIL_SLEW (by simp)]

theorem State.keepsAccounts.inTick (h : s.keepsAccounts t) (ha : a < 8) : t.inTick a n ↔ s.inTick a n :=
  State.inTick_congr ha (State.withLedger_keeps h.1).2.2.2 fun _ ho => h.2 _ (accountKey_railReg ha ho)

theorem State.keepsAccounts.account (h : s.keepsAccounts t) (ha : a < 8) : t.account a = s.account a :=
  State.account_of_rd ha (h.2 _ (accountKey_railReg ha (by simp)))

end

/-! ## One tick of a compute account (R287) -/

section
variable (s : State) (a : Nat)

/-- The request that a tick of a compute account looks at: none while the module stops (R287, R297). -/
def State.railHead : Option LReq := if s.stopping then none else s.headReq a

/-- The head request takes the rise of its account as ballast in debt, and is granted where the account covers it (R287, R291). -/
def State.railGrants (h : Option LReq) (x : RailTick) : State :=
  match h with
  | some q =>
    let s := s.modRail a fun r => if x.a0 < x.a1 then { r with debts := addTo r.debts q.dom (x.a1 - x.a0) } else r
    if x.want ≤ x.a1 then s.grantReq q else s
  | none => s

/-- What a tick of a compute account leaves once its account is written (R287, R291, R293). -/
def State.railSettles (x : RailTick) (stop : Bool) (f : Nat × List (Nat × Option Nat × Nat)) : State :=
  let s := s.notePeak a x.a1
  let s := if x.a1 + s.ceil a / 10 < (s.rd (railReg a Off.LEDG_RAIL_ANCHOR)).toNat then s.assertLstep a else s
  let held := stop || (decide (x.want ≤ x.hold) && x.a1 == x.hold)
  let s := s.modRail a fun r => { r with
    modelled := f.1, frozen := f.2, still := if x.a1 = x.a0 then r.still + 1 else 0, age := r.age + 1,
    rise := !s.thr.throttled && !stop && decide (x.a1 < min x.cap (max x.want x.hold)), debts := if held then [] else r.debts }
  (s.splitBallast a (x.a1 - f.1) stop).chargeWork a

/-- The account that a tick writes. -/
def State.nextAccount : Nat := ((s.moveGuide a).railTick a ((s.moveGuide a).railHead a)).2.a1

/-- The state in which a tick writes its account. -/
def State.beforeAccount : State :=
  let u := s.moveGuide a
  let x := u.railTick a (u.railHead a)
  let g := (x.1.railGrants a (u.railHead a) x.2).countWait a
  g.countFrozen a (freezeTo x.2.a1 (g.work a) (g.freezeOrder a)).2

/-- A tick of a compute account in its parts. -/
theorem State.tickRail_parts : ∃ (x : RailTick) (stop : Bool) (f : Nat × List (Nat × Option Nat × Nat)),
    s.tickRail a = ((s.beforeAccount a).wr (railReg a Off.LEDG_RAIL_ACCOUNT) (BitVec.ofNat 32 (s.nextAccount a))).railSettles a x stop f :=
  ⟨_, _, _, rfl⟩

theorem State.keepsAccounts_railGrants (h : Option LReq) (x : RailTick) : s.keepsAccounts (s.railGrants a h x) := by
  unfold State.railGrants
  split
  · dsimp only
    split
    · exact (s.keepsAccounts_modRail a _).trans (State.keepsAccounts_grantReq _ _)
    · exact s.keepsAccounts_modRail a _
  · exact s.keepsAccounts_refl

theorem State.keepsAccounts_railTick (h : Option LReq) : s.keepsAccounts (s.railTick a h).1 := by
  unfold State.railTick
  extract_lets r a0 step cap band anchor hold want free t
  show s.keepsAccounts t
  unfold t
  split
  · exact s.keepsAccounts_assertLstep a
  · exact s.keepsAccounts_refl

theorem State.keepsAccounts_railSettles (x : RailTick) (stop : Bool) (f : Nat × List (Nat × Option Nat × Nat)) : s.keepsAccounts (s.railSettles a x stop f) := by
  unfold State.railSettles
  extract_lets s1 s2 held s3
  have hlstep : s1.keepsAccounts s2 := by
    unfold s2
    split
    · exact State.keepsAccounts_assertLstep _ a
    · exact State.keepsAccounts_refl _
  exact ((((s.keepsAccounts_notePeak a _).trans hlstep).trans (State.keepsAccounts_modRail _ _ _)).trans (State.keepsAccounts_splitBallast _ _ _ _)).trans
    (State.keepsAccounts_chargeWork _ _)

theorem State.keepsAccounts_beforeAccount : s.keepsAccounts (s.beforeAccount a) :=
  ((((s.keepsAccounts_moveGuide a).trans (State.keepsAccounts_railTick _ a _)).trans (State.keepsAccounts_railGrants _ a _ _)).trans
    (State.keepsAccounts_countWait _ a)).trans (State.keepsAccounts_countFrozen _ a _)

/-- A tick of a compute account writes it, and of what bounds and holds the accounts nothing else. -/
theorem State.tickRail_writes : (s.wr (railReg a Off.LEDG_RAIL_ACCOUNT) (BitVec.ofNat 32 (s.nextAccount a))).keepsAccounts (s.tickRail a) := by
  obtain ⟨x, stop, f, hparts⟩ := s.tickRail_parts a
  rw [hparts]
  exact ((s.keepsAccounts_beforeAccount a).wr _ _).trans (State.keepsAccounts_railSettles _ a x stop f)

theorem State.nextAccount_inTick (ha : a < 8) : s.inTick a (s.nextAccount a) :=
  ((s.keepsAccounts_moveGuide a).inTick ha).1 (State.railTick_inTick _ a _)

end

/-! ## Every compute account -/

/-- Of a list of compute accounts each has moved as a tick may, the others stand, and what bounds them stands. -/
structure State.movesAccounts (s : State) (l : List Nat) (t : State) : Prop where
  frame : s.withLedger t = s
  bounds : ∀ a < 8, ∀ o ∈ [Off.LEDG_RAIL_CEIL, Off.LEDG_RAIL_SLEW], t.rd (railReg a o) = s.rd (railReg a o)
  stands : ∀ a < 8, a ∉ l → t.rd (railReg a Off.LEDG_RAIL_ACCOUNT) = s.rd (railReg a Off.LEDG_RAIL_ACCOUNT)
  moves : ∀ a < 8, a ∈ l → s.inTick a (t.account a)

theorem State.movesAccounts_tickRail (s : State) {a : Nat} (ha : a < 8) : s.movesAccounts [a] (s.tickRail a) := by
  obtain ⟨hframe, hkeeps⟩ := s.tickRail_writes a
  have hne : ∀ b o, o = Off.LEDG_RAIL_CEIL ∨ o = Off.LEDG_RAIL_SLEW → railReg b o ≠ railReg a Off.LEDG_RAIL_ACCOUNT := by
    rintro b o (rfl | rfl) <;> simp only [railReg, reg, Off.LEDG_RAIL_CEIL, Off.LEDG_RAIL_SLEW, Off.LEDG_RAIL_ACCOUNT] <;> omega
  refine ⟨State.withLedger_trans (s := s) (t := s.wr _ _) rfl hframe, fun b hb o ho => ?_, fun b hb hba => ?_, fun b hb hba => ?_⟩
  · rw [hkeeps _ (accountKey_railReg hb (by simp only [List.mem_cons, List.not_mem_nil, or_false] at ho ⊢; tauto)), State.rd_wr_other _ _ (hne b o (by simpa using ho))]
  · rw [hkeeps _ (accountKey_railReg hb (by simp)), State.rd_wr_other _ _ (railReg_inj.not.2 (by simpa using hba))]
  · obtain rfl : b = a := by simpa using hba
    have hnext := s.nextAccount_inTick b hb
    have hacc : (s.tickRail b).account b = s.nextAccount b := by
      rw [State.account, if_pos hb, hkeeps _ (accountKey_railReg hb (by simp)), State.rd_wr_self, BitVec.toNat_ofNat,
        Nat.mod_eq_of_lt (State.inTick_lt hb hnext)]
    rwa [hacc]

theorem State.movesAccounts.cons {s t u : State} {a : Nat} {l : List Nat} (hal : a ∉ l) (hst : s.movesAccounts [a] t) (htu : t.movesAccounts l u) :
    s.movesAccounts (a :: l) u where
  frame := State.withLedger_trans hst.frame htu.frame
  bounds b hb o ho := (htu.bounds b hb o ho).trans (hst.bounds b hb o ho)
  stands b hb hba := by
    obtain ⟨hne, hnl⟩ := not_or.1 (mt List.mem_cons.2 hba)
    exact (htu.stands b hb hnl).trans (hst.stands b hb (by simpa using hne))
  moves b hb hba := by
    by_cases hbl : b ∈ l
    · have hne : b ∉ [a] := by simpa using fun h : b = a => hal (h ▸ hbl)
      refine (State.inTick_congr (s := s) (t := t) hb (State.withLedger_keeps hst.frame).2.2.2 fun o ho => ?_).1 (htu.moves b hb hbl)
      by_cases hacc : o = Off.LEDG_RAIL_ACCOUNT
      · rw [hacc, hst.stands b hb hne]
      · exact hst.bounds b hb o (by simpa [hacc] using ho)
    · obtain rfl : b = a := by simpa [hbl] using hba
      rw [State.account_of_rd hb (htu.stands b hb hbl)]
      exact hst.moves b hb (by simp)

theorem State.movesAccounts_foldl {l : List Nat} (hnodup : l.Nodup) (hl : ∀ a ∈ l, a < 8) (s : State) : s.movesAccounts l (l.foldl State.tickRail s) := by
  induction l generalizing s with
  | nil => exact ⟨rfl, fun _ _ _ _ => rfl, fun _ _ _ => rfl, fun _ _ h => by simp at h⟩
  | cons a l ih =>
    obtain ⟨hal, hnodup⟩ := List.nodup_cons.1 hnodup
    exact (s.movesAccounts_tickRail (hl a (by simp))).cons hal (ih hnodup (fun b hb => hl b (by simp [hb])) _)

/-! ## The sample of THROTTLE_N, and fabric commands that wait -/

/-- A state with the registers and the throttle's record of another. -/
def State.withThrottle (s u : State) : State := { u with regs := s.regs, thr := s.thr }

theorem State.withThrottle_keeps {s t : State} (h : s.withThrottle t = s) : t.ctx = s.ctx ∧ t.mem = s.mem ∧ t.now = s.now :=
  ⟨(congrArg State.ctx h :), (congrArg State.mem h :), (congrArg State.now h :)⟩

/-- A sample's own counter, where it counts. -/
theorem State.countSample (s : State) (b : Bool) {o : Nat} (ho : o < 0x100) : s.withThrottle (if b then s.inc (reg pgLEDG o) else s) = s ∧
    ∀ k, accountKey k → (if b then s.inc (reg pgLEDG o) else s).rd k = s.rd k := by
  cases b with
  | true => exact ⟨rfl, fun k hk => s.rd_wr_other _ (accountKey_ne_reg hk ho)⟩
  | false => exact ⟨rfl, fun _ _ => rfl⟩

/-- A sample changes the throttle's record and registers of its own (R294 to R296). -/
theorem State.sampleThrottle_effect (s : State) (low : Bool) : s.withThrottle (s.sampleThrottle low) = s ∧
    (∀ k, accountKey k → (s.sampleThrottle low).rd k = s.rd k) ∧ (s.sampleThrottle low).thr.throttled = s.thr.throttled ∧
    (s.sampleThrottle low).thr.low = (if low then s.thr.low + 1 else 0) ∧ (s.sampleThrottle low).thr.high = (if low then 0 else s.thr.high + 1) := by
  have hstatus (b : Bool) (k : Nat) (hk : accountKey k) : (s.wrBit (reg pgLEDG Off.LEDG_THR_STATUS) 1 b).rd k = s.rd k :=
    s.rd_wr_other _ (accountKey_ne_reg hk (by decide))
  cases low with
  | true =>
    obtain ⟨hframe, hkeys⟩ := (s.wrBit (reg pgLEDG Off.LEDG_THR_STATUS) 1 true).countSample (s.thr.throttled && s.thr.low = 0) (o := Off.LEDG_THR_TOGGLES) (by decide)
    exact ⟨(congrArg s.withThrottle hframe :), fun k hk => (hkeys k hk).trans (hstatus true k hk), rfl, rfl, rfl⟩
  | false =>
    obtain ⟨hframe, hkeys⟩ := (s.wrBit (reg pgLEDG Off.LEDG_THR_STATUS) 1 false).countSample (!s.thr.throttled && 0 < s.thr.low && s.thr.low < 50)
      (o := Off.LEDG_THR_GLITCHES) (by decide)
    exact ⟨(congrArg s.withThrottle hframe :), fun k hk => (hkeys k hk).trans (hstatus false k hk), rfl, rfl, rfl⟩

/-- Where no fabric command of a context waits for its current, none starts (R287). -/
theorem State.startFabrics_none {s : State} {c : Nat} (h : s.noneWaits c = true) : s.startFabrics c = s := by
  unfold State.startFabrics
  rw [List.filter_eq_nil_iff.2]
  · rfl
  · intro l hl
    simpa [imp_iff_not_or] using List.all_eq_true.1 h l hl

theorem State.fabricsGo_none {s : State} (h : ∀ c, s.noneWaits c = true) : s.fabricsGo = s :=
  foldl_keeps (· = s) _ (fun _ c ht => by rw [ht, State.startFabrics_none (h c)]) _ s rfl

/-! ## The tick of the ledger -/

section
variable (s : State) (low : Bool)

/-- What LEDGER_TICK leaves before fabric commands that have their current start. -/
def State.ledgerTicked : State := (s.ledgerTick low).placeBallast.drainsGo

theorem State.movesAccounts.keeps {s t u : State} {l : List Nat} (hst : s.movesAccounts l t) (htu : t.keepsAccounts u) : s.movesAccounts l u where
  frame := State.withLedger_trans hst.frame htu.1
  bounds a ha o ho := (htu.2 _ (accountKey_railReg ha (by simp only [List.mem_cons, List.not_mem_nil, or_false] at ho ⊢; tauto))).trans (hst.bounds a ha o ho)
  stands a ha hal := (htu.2 _ (accountKey_railReg ha (by simp))).trans (hst.stands a ha hal)
  moves a ha hal := by
    rw [htu.account ha]
    exact hst.moves a ha hal

theorem State.movesAccounts_ledgerTicked : (s.sampleThrottle low).movesAccounts (List.range 8) (s.ledgerTicked low) := by
  have hothers (t : State) : t.keepsAccounts ((((List.range 5).map (8 + ·)).foldl State.tickOther t).chargeOther 8 |>.chargeOther 9).placeBallast.drainsGo :=
    ((((State.keepsAccounts_foldl _ (fun u a => u.keepsAccounts_tickOther a) _ t).trans (State.keepsAccounts_chargeOther _ 8)).trans
      (State.keepsAccounts_chargeOther _ 9)).trans (State.keepsAccounts_placeBallast _)).trans (State.keepsAccounts_drainsGo _)
  exact (State.movesAccounts_foldl List.nodup_range (fun a ha => List.mem_range.1 ha) _).keeps (hothers _)

end

/-- Settles O41: the sample moves no account, each compute account moves once and as its tick allows, and what follows moves none. -/
theorem ledgerTickBoundsAccounts : Obligations.LedgerTickBoundsAccounts := by
  unfold Obligations.LedgerTickBoundsAccounts
  intro s low hnone
  obtain ⟨hsample, hkeys, hthrottled, hlow, hhigh⟩ := s.sampleThrottle_effect low
  have hmoves := s.movesAccounts_ledgerTicked low
  obtain ⟨hctx, hmem, hnow, hthr⟩ := State.withLedger_keeps hmoves.frame
  obtain ⟨hctx', hmem', hnow'⟩ := State.withThrottle_keeps hsample
  have hgo : (s.ledgerTicked low).fabricsGo = s.ledgerTicked low := State.fabricsGo_none fun c => by
    simpa only [State.noneWaits, State.getCtx, hctx, hctx'] using hnone c
  have hexec : exec (.ledgerTick low) s = s.commit (s.ledgerTicked low).fabricsGo := rfl
  rw [hexec, hgo]
  generalize s.ledgerTicked low = t at *
  generalize s.sampleThrottle low = u at *
  refine ⟨{ t with pending := s.pending }, rfl, hctx.trans hctx', hmem.trans hmem', hnow.trans hnow',
    (congrArg ThrRec.low hthr).trans hlow, (congrArg ThrRec.high hthr).trans hhigh, (congrArg ThrRec.throttled hthr).trans hthrottled, fun a ha => ?_⟩
  have hmove := hmoves.moves a ha (List.mem_range.2 ha)
  have hread : ∀ o ∈ [Off.LEDG_RAIL_CEIL, Off.LEDG_RAIL_SLEW, Off.LEDG_RAIL_ACCOUNT], u.rd (railReg a o) = s.rd (railReg a o) :=
    fun o ho => hkeys _ (accountKey_railReg ha ho)
  have hacc : u.account a = s.account a := State.account_of_rd ha (hread _ (by simp))
  have hceil : u.ceil a = s.ceil a := congrArg BitVec.toNat (hread _ (by simp))
  simp only [State.inTick, hacc, hceil, hthrottled, hread Off.LEDG_RAIL_SLEW (by simp)] at hmove
  exact hmove

end Sys2Proof.Machine
end

section
/-! PROOFS. Counter clears of the LEDG, CAL, TIME, MGMT, COLL, UPD, PTP and TEMP pages (R16, R299, R323, R324, R388, R424, R456, R460, R585). -/

namespace Sys2Proof.Machine

open Sys2Proof

/-! ## Registers of every window of a page -/

section
variable (s : State) (page : Nat) (f : Nat → Bool)

/-- A register of a window that a clear reaches returns to its reset value; every other register reads as before. -/
theorem State.rd_clearWin (k : Nat) : (s.clearWin page f).rd k =
    if decide (2 ^ 28 ≤ k) && k / 4096 % 65536 == page && f (k % 4096) then resetReg k else s.rd k := by
  have h := mapGet_filter (resetReg k) (fun k => !(decide (2 ^ 28 ≤ k) && k / 4096 % 65536 == page && f (k % 4096))) s.regs k
  simp only [State.rd, State.clearWin, h]
  cases decide (2 ^ 28 ≤ k) && k / 4096 % 65536 == page && f (k % 4096) <;> rfl

/-- A clear that reaches no offset leaves every register. -/
theorem State.clearWin_none : s.clearWin page (fun _ => false) = s := by
  simp [State.clearWin]

end

/-- Where a register of a window stands (R12, R13). -/
theorem wreg_page (w : Nat) {p o : Nat} (hp : p < 2 ^ 16) (ho : o < 4096) : 2 ^ 28 ≤ wreg w p o ∧ wreg w p o / 4096 % 65536 = p ∧
    wreg w p o % 2 ^ 28 / 4096 = p ∧ wreg w p o % 4096 = o := by
  unfold wreg reg
  omega

/-- A key in the windows of a page is a register of one of them. -/
theorem eq_wreg {k p : Nat} (hk : 2 ^ 28 ≤ k) (hp : k / 4096 % 65536 = p) : k = wreg (k / 2 ^ 28 - 1) p (k % 4096) := by
  unfold wreg reg
  omega

/-- A register whose table row gives the reset value 0 has it in every window. -/
theorem resetReg_zero {key i : Nat} {k : PageKind} (hpage : pageOf (key % 2 ^ 28 / 4096) = some (k, i)) (hk : k ≠ .pmb)
    (hrst : ((regRow k (key % 4096)).map RegRow.rst).getD 0 = 0) : resetReg key = 0 := by
  simp only [resetReg, hpage]
  cases hrow : regRow k (key % 4096) with
  | none => rfl
  | some r =>
    rw [hrow] at hrst
    have hr : r.rst = 0 := hrst
    simp [hk, hr]

/-! ## A page's counters and those of its windows -/

section
variable {s : State} {se : SessIx} {v : Word} {page : Nat} {offs wins : List Nat}

/-- The counters of a page and of its windows read 0, every other register as before. -/
def State.countersGone (s : State) (page : Nat) (offs wins : List Nat) (t : State) : Prop :=
  s.onlyRegs t ∧ (∀ k, (k ∈ offs.map (reg page) ∨ ∃ w, ∃ o ∈ wins, k = wreg w page o) → t.rd k = 0) ∧
    ∀ k, k % 4 = 0 → k ∉ offs.map (reg page) → (∀ w, ∀ o ∈ wins, k ≠ wreg w page o) → t.rd k = s.rd k

/-- A write that clears counters of a page, and counters in all of its windows, clears those and nothing else. -/
theorem State.commit_put_counters {o i : Nat} {k : PageKind} {f : Nat → Bool} (h : s.mayWrite se (reg page o) v = true) (hp : page < 2 ^ 16) (ho : o < 4096)
    (hw : ∀ u : State, u.regWrite se.toNat (reg page o) v = (0, (u.clearRegs (offs.map (reg page))).clearWin page f))
    (hpage : pageOf page = some (k, i)) (hk : k ≠ .pmb) (hoffs : ∀ q ∈ offs, q < 4096) (hwins : ∀ q ∈ wins, q < 4096 ∧ f q = true)
    (hreach : ∀ q, q % 4 = 0 → f q = true → q ∈ wins) (hrst : ∀ q ∈ wins, ((regRow k q).map RegRow.rst).getD 0 = 0) :
    ∃ t, s.commit (s.put se page o v) = .next t ∧ s.countersGone page offs wins t := by
  refine ⟨_, State.commit_put h hp ho (hw _), State.onlyRegs_replied h (State.withRegs_clearRegs _ _ _), ?_, ?_⟩
  · rintro j (hj | ⟨w, q, hq, rfl⟩)
    · obtain ⟨q, hq, rfl⟩ := List.mem_map.1 hj
      have hlow : ¬ 2 ^ 28 ≤ reg page q := Nat.not_le.2 (reg_lt hp (hoffs q hq))
      rw [State.rd_replied, State.rd_clearWin, if_neg (by rw [decide_eq_false hlow]; exact Bool.false_ne_true), State.rd_clearRegs, if_pos hj]
    · obtain ⟨hq4, hf⟩ := hwins q hq
      obtain ⟨hwin, hpg, hreg, hoff⟩ := wreg_page w hp hq4
      rw [State.rd_replied, State.rd_clearWin, if_pos (by rw [decide_eq_true hwin, hpg, hoff, hf, beq_self_eq_true]; rfl)]
      exact resetReg_zero (by rw [hreg, hpage]) hk (by rw [hoff, hrst q hq])
  · intro j hj4 hj hjw
    rw [State.rd_replied, State.rd_clearWin, if_neg, State.rd_clearRegs, if_neg hj, State.rd_hearing]
    intro hcond
    simp only [Bool.and_eq_true, decide_eq_true_eq, beq_iff_eq] at hcond
    obtain ⟨⟨hwin, hpg⟩, hf⟩ := hcond
    exact hjw _ _ (hreach _ (by omega) hf) (eq_wreg hwin hpg)

/-- A write that clears counters of a page without windows. -/
theorem State.commit_put_page_counters {o i : Nat} {k : PageKind} (h : s.mayWrite se (reg page o) v = true) (hp : page < 2 ^ 16) (ho : o < 4096)
    (hw : ∀ u : State, u.regWrite se.toNat (reg page o) v = (0, u.clearRegs (offs.map (reg page))))
    (hpage : pageOf page = some (k, i)) (hk : k ≠ .pmb) (hoffs : ∀ q ∈ offs, q < 4096) :
    ∃ t, s.commit (s.put se page o v) = .next t ∧ s.countersGone page offs [] t :=
  State.commit_put_counters (f := fun _ => false) h hp ho (fun u => by rw [hw, State.clearWin_none]) hpage hk hoffs (by simp) (by simp) (by simp)

end

/-! ## The writes -/

/-- What a write of one of the six pages with rules of their own does beyond the header (R299, R323, R324, R388, R424, R456). -/
def State.writePage (s : State) (se : Nat) (k : PageKind) (x o : Nat) (v : Word) : State :=
  match k with
  | .ledg => s.writeLedg o v
  | .time => s.writeTime x o v
  | .cal => s.writeCal se x o v
  | .upd => s.writeUpd x o v
  | .coll => s.writeColl se x o v
  | .mgmt => s.writeMgmt se x o v
  | _ => s

theorem State.regWrite_page {u : State} {k : PageKind} {p o : Nat} {r : RegRow} (se : Nat) (v : Word) (hp : pageOf p = some (k, 0))
    (hk : k ∈ [PageKind.ledg, .time, .cal, .upd, .coll, .mgmt]) (ho : 0x40 ≤ o) (ho' : o < 4096) (hrow : regRow k o = some r) (hro : r.acc ≠ .ro)
    (hrwl : r.acc ≠ .rwl) (hsel : isSel k o = false) : u.regWrite se (reg p o) v = (0, u.writePage se k (u.window se k p o) o v) := by
  simp only [List.mem_cons, List.not_mem_nil, or_false] at hk
  rcases hk with rfl | rfl | rfl | rfl | rfl | rfl <;>
    simp [State.regWrite, ho', hp, State.pagePresent, hrow, hro, hrwl, Nat.not_lt.2 ho, hsel, isCntClear, State.writePage]

section
variable {s : State} {se : SessIx} {v : Word} {page : Nat} {offs : List Nat} {k : PageKind} {o : Nat} {r : RegRow}

/-- A write of a page with rules of its own that clears counters of the page and of its windows. -/
theorem State.commit_put_page {wins : List Nat} {f : Nat → Bool} (h : s.mayWrite se (reg page o) v = true) (hp : page < 2 ^ 16) (hpage : pageOf page = some (k, 0))
    (hk : k ∈ [PageKind.ledg, .time, .cal, .upd, .coll, .mgmt]) (ho : 0x40 ≤ o) (ho' : o < 4096) (hrow : regRow k o = some r) (hro : r.acc ≠ .ro)
    (hrwl : r.acc ≠ .rwl) (hsel : isSel k o = false) (hclear : ∀ (u : State) (x : Nat), u.writePage se.toNat k x o v = (u.clearRegs (offs.map (reg page))).clearWin page f)
    (hoffs : ∀ q ∈ offs, q < 4096) (hwins : ∀ q ∈ wins, q < 4096 ∧ f q = true) (hreach : ∀ q, q % 4 = 0 → f q = true → q ∈ wins)
    (hrst : ∀ q ∈ wins, ((regRow k q).map RegRow.rst).getD 0 = 0) : ∃ t, s.commit (s.put se page o v) = .next t ∧ s.countersGone page offs wins t :=
  State.commit_put_counters h hp ho' (fun u => (State.regWrite_page _ v hpage hk ho ho' hrow hro hrwl hsel).trans (congrArg (Prod.mk 0) (hclear u _)))
    hpage (by rintro rfl; simp at hk) hoffs hwins hreach hrst

/-- A write of such a page that clears counters of the page alone. -/
theorem State.commit_put_page_only (h : s.mayWrite se (reg page o) v = true) (hp : page < 2 ^ 16) (hpage : pageOf page = some (k, 0))
    (hk : k ∈ [PageKind.ledg, .time, .cal, .upd, .coll, .mgmt]) (ho : 0x40 ≤ o) (ho' : o < 4096) (hrow : regRow k o = some r) (hro : r.acc ≠ .ro)
    (hrwl : r.acc ≠ .rwl) (hsel : isSel k o = false) (hclear : ∀ (u : State) (x : Nat), u.writePage se.toNat k x o v = u.clearRegs (offs.map (reg page)))
    (hoffs : ∀ q ∈ offs, q < 4096) : ∃ t, s.commit (s.put se page o v) = .next t ∧ s.countersGone page offs [] t :=
  State.commit_put_page (f := fun _ => false) h hp hpage hk ho ho' hrow hro hrwl hsel (fun u x => (hclear u x).trans (State.clearWin_none _ _).symm) hoffs
    (by simp) (by simp) (by simp)

end

/-- Settles O32: each clear zeroes its list of registers, and in three pages counters of every window, whose reset value is 0. -/
theorem counterClearsOfPages : Obligations.CounterClearsOfPages := by
  unfold Obligations.CounterClearsOfPages
  intro s se v hv gone may
  have hpage (k : PageKind) (hi : 0 < (pageSpan k).2) : pageOf (pageSpan k).1 = some (k, 0) := pageOf_span k hi
  refine ⟨fun h => ?ledg, fun h => ?cal, fun h => ?time, fun h => ?mgmt, fun h => ?coll, fun h => ?upd, fun h => ?ptp, fun h => ?temp⟩
  case ledg =>
    refine State.commit_put_page_only h (by decide) (hpage .ledg (by decide)) (by decide) (by decide) (by decide) rfl (by decide) (by decide) rfl
      (fun u x => ?_) (by decide)
    simp only [State.writePage, State.writeLedg, hv, if_true]
    rfl
  case cal =>
    refine State.commit_put_page (f := (· == Off.CAL_ENT_FIRES)) h (by decide) (hpage .cal (by decide)) (by decide) (by decide) (by decide) rfl (by decide)
      (by decide) rfl (fun u x => ?_) (by decide) (by decide) (fun q _ hq => by simpa using hq) (by decide)
    simp only [State.writePage, State.writeCal, hv, if_true]
    rfl
  case time =>
    refine State.commit_put_page_only h (by decide) (hpage .time (by decide)) (by decide) (by decide) (by decide) rfl (by decide) (by decide) rfl
      (fun u x => ?_) (by decide)
    simp only [State.writePage, State.writeTime, hv, if_true]
    rfl
  case mgmt =>
    refine State.commit_put_page_only h (by decide) (hpage .mgmt (by decide)) (by decide) (by decide) (by decide) rfl (by decide) (by decide) rfl
      (fun u x => ?_) (by decide)
    simp only [State.writePage, State.writeMgmt, hv, if_true]
    rfl
  case coll =>
    refine State.commit_put_page (f := fun q => inOff 0x154 q 0x168 || q == Off.COLL_PCL_DROPPED || q == Off.COLL_LND_LANDED) h (by decide)
      (hpage .coll (by decide)) (by decide) (by decide) (by decide) rfl (by decide) (by decide) rfl (fun u x => ?_) (by decide) (by decide)
      (fun q hq4 hq => ?_) (by decide)
    · simp only [State.writePage, State.writeColl, hv, if_true]
      rfl
    · simp only [inOff, Bool.or_eq_true, Bool.and_eq_true, decide_eq_true_eq, beq_iff_eq] at hq
      simp only [List.cons_append, List.nil_append, List.mem_cons, List.not_mem_nil, or_false]
      omega
  case upd =>
    refine State.commit_put_page (f := fun q => inOff 0x22C q 0x238) h (by decide) (hpage .upd (by decide)) (by decide) (by decide) (by decide) rfl (by decide)
      (by decide) rfl (fun u x => ?_) (by decide) (by decide) (fun q hq4 hq => ?_) (by decide)
    · simp only [State.writePage, State.writeUpd, hv, if_true]
      rfl
    · simp only [inOff, Bool.and_eq_true, decide_eq_true_eq] at hq
      simp only [List.mem_cons, List.not_mem_nil, or_false]
      omega
  case ptp =>
    exact State.commit_put_page_counters h (by decide) (by decide) (fun u => State.regWrite_cntClear _ hv (hpage .ptp (by decide)) rfl (by decide) (by decide)
      rfl (by decide) (by decide) (by decide) rfl rfl) (hpage .ptp (by decide)) (by decide) (by decide)
  case temp =>
    exact State.commit_put_page_counters h (by decide) (by decide) (fun u => State.regWrite_cntClear _ hv (hpage .temp (by decide)) rfl (by decide) (by decide)
      rfl (by decide) (by decide) (by decide) rfl rfl) (hpage .temp (by decide)) (by decide) (by decide)

end Sys2Proof.Machine
end

section
/-! PROOFS. LSTEP_N and the throttle input of the current ledger (R293 to R296). -/

namespace Sys2Proof.Machine

open Sys2Proof

/-! ## Bits, and a step for each rail -/

/-- A bit after a bit is written. -/
theorem bit_setBit {n : Nat} (x : BitVec n) (i j : Nat) (b : Bool) (hj : j < n) : bit (setBit x i b) j = if j = i then b else bit x j := by
  have htwo : (BitVec.ofNat n (2 ^ i)).getLsbD j = decide (j = i) := by
    rw [BitVec.getLsbD_ofNat, Nat.testBit_two_pow, decide_eq_true hj, Bool.true_and, decide_eq_decide]
    exact eq_comm
  unfold bit setBit
  generalize BitVec.ofNat n (2 ^ i) = m at htwo
  cases b <;> by_cases h : j = i <;> simp only [Bool.false_eq_true, if_true, if_false, h, BitVec.getLsbD_or, BitVec.getLsbD_and, BitVec.getLsbD_not] <;> simp_all

/-- A step carried out for each number of a list without repetitions: what holds of one step and is passed on from the first to the rest holds of all. -/
theorem foldl_each {f : State → Nat → State} {P : State → List Nat → State → Prop} (hnil : ∀ s, P s [] s) (hone : ∀ s a, P s [a] (f s a))
    (hcons : ∀ {s t u a l}, a ∉ l → P s [a] t → P t l u → P s (a :: l) u) {l : List Nat} (hnodup : l.Nodup) (s : State) : P s l (l.foldl f s) := by
  induction l generalizing s with
  | nil => exact hnil s
  | cons a l ih =>
    obtain ⟨hal, hnodup⟩ := List.nodup_cons.1 hnodup
    exact hcons hal (hone s a) (ih hnodup _)

/-- A state with the registers and the rails' records of another. -/
def State.withRails (s u : State) : State := { u with regs := s.regs, rails := s.rails }

theorem State.withRails_trans {s t u : State} (hst : s.withRails t = s) (htu : t.withRails u = t) : s.withRails u = s := by
  have h : s.withRails (t.withRails u) = s.withRails t := by rw [htu]
  exact h.trans hst

theorem State.rail_congr {s t : State} (h : t.rails = s.rails) (b : Nat) : t.rail b = s.rail b := by rw [State.rail, h, State.rail]

/-- The register that shows LSTEP_N of the rails (R299). -/
def lstepKey : Nat := reg pgLEDG Off.LEDG_LSTEP_STATE

theorem railReg_ne_lstepKey (a : Nat) {o : Nat} (ho : 0x100 ≤ o) : railReg a o ≠ lstepKey := by
  unfold railReg lstepKey reg Off.LEDG_LSTEP_STATE
  omega

/-! ## LSTEP_N (R293) -/

section
variable (s : State) (a : Nat)

theorem State.lstep_wrBit {b : Nat} (v : Bool) (hb : b < 32) : (s.wrBit lstepKey a v).lstep b = if b = a then v else s.lstep b := by
  unfold State.lstep State.wrBit
  rw [← lstepKey, State.rd_wr_self, bit_setBit _ _ _ _ hb]

theorem State.assertLstep_low (h : s.lstep a = false) : s.assertLstep a =
    (s.wrBit lstepKey a true).setRail a { s.rail a with age := 0, leadDone := false, still := 0 } := by
  unfold State.assertLstep
  rw [if_neg (by simp [h])]
  rfl

theorem State.assertLstep_high (h : s.lstep a = true) : s.assertLstep a = s := if_pos h

/-- The rails of a list assert LSTEP_N; beside the register and the rails' records nothing changes, and no record of another rail. -/
structure State.assertsLstep (s : State) (l : List Nat) (t : State) : Prop where
  frame : s.withRails t = s
  keeps : ∀ k, k ≠ lstepKey → t.rd k = s.rd k
  lstep : ∀ b < 32, t.lstep b = (s.lstep b || decide (b ∈ l))
  stands : ∀ b, b ∉ l → t.rail b = s.rail b

theorem State.assertsLstep_one : s.assertsLstep [a] (s.assertLstep a) := by
  cases h : s.lstep a with
  | true =>
    rw [s.assertLstep_high a h]
    refine ⟨rfl, fun _ _ => rfl, fun b _ => ?_, fun _ _ => rfl⟩
    by_cases hb : b = a <;> simp [hb, h]
  | false =>
    rw [s.assertLstep_low a h]
    refine ⟨rfl, fun k hk => s.rd_wr_other _ hk, fun b hb => ?_, fun b hb => State.rail_setRail_other _ _ (by simpa using hb)⟩
    refine (s.lstep_wrBit a true hb).trans ?_
    by_cases hba : b = a <;> simp [hba]

theorem State.assertsLstep.cons {s t u : State} {a : Nat} {l : List Nat} (hst : s.assertsLstep [a] t) (htu : t.assertsLstep l u) : s.assertsLstep (a :: l) u where
  frame := State.withRails_trans hst.frame htu.frame
  keeps k hk := (htu.keeps k hk).trans (hst.keeps k hk)
  lstep b hb := by
    rw [htu.lstep b hb, hst.lstep b hb, Bool.or_assoc]
    simp
  stands b hb := by
    obtain ⟨hne, hnl⟩ := not_or.1 (mt List.mem_cons.2 hb)
    exact (htu.stands b hnl).trans (hst.stands b (by simpa using hne))

theorem State.assertsLstep_foldl {l : List Nat} (hnodup : l.Nodup) : s.assertsLstep l (l.foldl State.assertLstep s) :=
  foldl_each (P := State.assertsLstep) (fun _ => ⟨rfl, fun _ _ => rfl, fun _ _ => by simp, fun _ _ => rfl⟩) State.assertsLstep_one (fun _ => State.assertsLstep.cons) hnodup s

/-! ## LSTEP_LEAD_ELAPSED and LSTEP_DEASSERT (R293) -/

theorem State.leadElapsed_due (h : (s.lstep a && !(s.rail a).leadDone && decide (s.leadTicks ≤ (s.rail a).age)) = true) :
    s.leadElapsed a = s.setRail a { s.rail a with leadDone := true, relHold := (s.rail a).relHold && s.thr.broken } := if_pos h

theorem State.leadElapsed_early (h : (s.lstep a && !(s.rail a).leadDone && decide (s.leadTicks ≤ (s.rail a).age)) = false) : s.leadElapsed a = s :=
  if_neg (by rw [h]; exact Bool.false_ne_true)

theorem State.lstepEnd_still (h : (s.lstep a && decide (500 ≤ (s.rail a).still) && !s.lstepHeld a) = true) : s.lstepEnd a =
    ((s.wrBit lstepKey a false).wr (railReg a Off.LEDG_RAIL_ANCHOR) (BitVec.ofNat 32 (s.account a))).setRail a { s.rail a with leadDone := false } := if_pos h

theorem State.lstepEnd_moving (h : (s.lstep a && decide (500 ≤ (s.rail a).still) && !s.lstepHeld a) = false) : s.lstepEnd a = s :=
  if_neg (by rw [h]; exact Bool.false_ne_true)

/-- An account that has stood for 1 us ends its warning and is the new anchor (R293). -/
theorem State.lstepEnd_effect (ha : a < 8) (h : (s.lstep a && decide (500 ≤ (s.rail a).still) && !s.lstepHeld a) = true) :
    s.withRails (s.lstepEnd a) = s ∧ (s.lstepEnd a).lstep a = false ∧ ((s.lstepEnd a).rd (railReg a Off.LEDG_RAIL_ANCHOR)).toNat = s.account a ∧
    (s.lstepEnd a).rail a = { s.rail a with leadDone := false } ∧ ∀ b, b < 8 → b ≠ a → (s.lstepEnd a).lstep b = s.lstep b ∧ (s.lstepEnd a).rail b = s.rail b := by
  have hlstep (v : Word) (t : State) (b : Nat) : (t.wr (railReg a Off.LEDG_RAIL_ANCHOR) v).lstep b = t.lstep b :=
    congrArg (bit · b) (t.rd_wr_other v (railReg_ne_lstepKey a (by decide)).symm)
  have hacc : s.account a < 2 ^ 32 := by unfold State.account; rw [if_pos ha]; exact BitVec.isLt _
  rw [s.lstepEnd_still a h]
  refine ⟨rfl, ?_, ?_, State.rail_setRail_self _ _ _, fun b hb hba => ⟨?_, State.rail_setRail_other _ _ hba⟩⟩
  · exact (hlstep _ _ a).trans ((s.lstep_wrBit a false (by omega)).trans (if_pos rfl))
  · refine (congrArg BitVec.toNat (State.rd_wr_self _ _ _)).trans ?_
    rw [BitVec.toNat_ofNat, Nat.mod_eq_of_lt hacc]
  · exact (hlstep _ _ b).trans ((s.lstep_wrBit a false (by omega)).trans (if_neg hba))

end

/-! ## Recognition of the throttle (R294) -/

/-- Work, freeze order and floor of an account depend on the reservations, its scale, its ceiling and the throttle's floor (R284, R294, R597). -/
theorem State.freeze_congr {s t : State} {b : Nat} (hres : t.lresv = s.lresv) (hscale : t.rd (railReg b Off.LEDG_RAIL_SCALE) = s.rd (railReg b Off.LEDG_RAIL_SCALE))
    (hceil : t.rd (railReg b Off.LEDG_RAIL_CEIL) = s.rd (railReg b Off.LEDG_RAIL_CEIL))
    (hfloor : t.rd (reg pgLEDG Off.LEDG_THR_FLOOR) = s.rd (reg pgLEDG Off.LEDG_THR_FLOOR)) :
    freezeTo (t.thrFloor b) (t.work b) (t.freezeOrder b) = freezeTo (s.thrFloor b) (s.work b) (s.freezeOrder b) := by
  have hscaled : t.scaled b = s.scaled b := by funext c; simp only [State.scaled, hscale]
  have hwork : t.work b = s.work b := by simp only [State.work, State.workOf, hscaled, hres]
  have horder : t.freezeOrder b = s.freezeOrder b := by simp only [State.freezeOrder, State.savingOf, hscaled, hres]
  have hthr : t.thrFloor b = s.thrFloor b := by simp only [State.thrFloor, State.ceil, hceil, hfloor]
  rw [hwork, horder, hthr]

/-- The account that a rail takes when the throttle is recognised (R294). -/
def State.throttledAccount (s : State) (a : Nat) : Nat := min (freezeTo (s.thrFloor a) (s.work a) (s.freezeOrder a)).1 (s.account a)

/-- An account under a recognised throttle: cut down and frozen, with no ballast (R294). -/
def State.cutRail (s : State) (a : Nat) : State :=
  let f := freezeTo (s.thrFloor a) (s.work a) (s.freezeOrder a)
  (s.wr (railReg a Off.LEDG_RAIL_ACCOUNT) (BitVec.ofNat 32 (s.throttledAccount a))).modRail a fun r =>
    { r with modelled := f.1, frozen := f.2, debts := [], units := [], still := 0, relHold := false, rise := false }

section
variable (s : State) (a : Nat)

theorem State.withRails_cutRail : s.withRails (s.cutRail a) = s := rfl

theorem State.rd_cutRail (k : Nat) : (s.cutRail a).rd k = if k = railReg a Off.LEDG_RAIL_ACCOUNT then BitVec.ofNat 32 (s.throttledAccount a) else s.rd k := s.rd_wr _ _ _

theorem State.rail_cutRail_other {b : Nat} (h : b ≠ a) : (s.cutRail a).rail b = s.rail b := State.rail_setRail_other _ _ h

theorem State.rail_cutRail : ((s.cutRail a).rail a).debts = [] ∧ ((s.cutRail a).rail a).units = [] := by
  unfold State.cutRail
  dsimp only
  rw [State.modRail, State.rail_setRail_self]
  exact ⟨rfl, rfl⟩

/-- What recognition of the throttle does to one rail (R294). -/
def State.throttleRail : State := (s.assertLstep a).cutRail a

end

/-- The rails of a list warn, carry no ballast and take the account of a recognised throttle; no other register changes. -/
structure State.throttles (s : State) (l : List Nat) (t : State) : Prop where
  frame : s.withRails t = s
  keeps : ∀ k, k ≠ lstepKey → (∀ a ∈ l, k ≠ railReg a Off.LEDG_RAIL_ACCOUNT) → t.rd k = s.rd k
  lstep : ∀ b < 32, t.lstep b = (s.lstep b || decide (b ∈ l))
  stands : ∀ b, b ∉ l → t.rail b = s.rail b
  rail : ∀ b ∈ l, (t.rail b).debts = [] ∧ (t.rail b).units = []
  account : ∀ b < 8, b ∈ l → t.account b = s.throttledAccount b

theorem State.throttledAccount_congr {s t : State} {b : Nat} (hb : b < 8) (hres : t.lresv = s.lresv)
    (h : ∀ o ∈ [Off.LEDG_RAIL_SCALE, Off.LEDG_RAIL_CEIL, Off.LEDG_RAIL_ACCOUNT], t.rd (railReg b o) = s.rd (railReg b o))
    (hfloor : t.rd (reg pgLEDG Off.LEDG_THR_FLOOR) = s.rd (reg pgLEDG Off.LEDG_THR_FLOOR)) : t.throttledAccount b = s.throttledAccount b := by
  unfold State.throttledAccount
  rw [State.freeze_congr hres (h _ (by simp)) (h _ (by simp)) hfloor, State.account_of_rd hb (h _ (by simp))]

theorem State.assertsLstep.throttledAccount {s t : State} {l : List Nat} (h : s.assertsLstep l t) {b : Nat} (hb : b < 8) :
    t.throttledAccount b = s.throttledAccount b := by
  refine State.throttledAccount_congr hb (congrArg State.lresv h.frame :) (fun o ho => h.keeps _ (railReg_ne_lstepKey b ?_)) (h.keeps _ (by decide))
  simp only [List.mem_cons, List.not_mem_nil, or_false] at ho
  rcases ho with rfl | rfl | rfl <;> decide

theorem State.throttles_one (s : State) (a : Nat) : s.throttles [a] (s.throttleRail a) := by
  have hwarn := s.assertsLstep_one a
  have hreg : lstepKey ≠ railReg a Off.LEDG_RAIL_ACCOUNT := (railReg_ne_lstepKey a (by decide)).symm
  unfold State.throttleRail
  generalize s.assertLstep a = t at *
  refine ⟨State.withRails_trans hwarn.frame (t.withRails_cutRail a), fun k hk hka => ?_, fun b hb => ?_, fun b hb => ?_, fun b hb => ?_, fun b hb hba => ?_⟩
  · rw [State.rd_cutRail, if_neg (hka a (by simp)), hwarn.keeps k hk]
  · rw [State.lstep, ← lstepKey, State.rd_cutRail, if_neg hreg]
    exact hwarn.lstep b hb
  · rw [t.rail_cutRail_other a (by simpa using hb), hwarn.stands b hb]
  · obtain rfl : b = a := by simpa using hb
    exact t.rail_cutRail b
  · obtain rfl : b = a := by simpa using hba
    have hlt : s.throttledAccount b < 2 ^ 32 := by
      refine lt_of_le_of_lt (min_le_right _ _) ?_
      unfold State.account
      rw [if_pos hb]
      exact BitVec.isLt _
    rw [State.account, if_pos hb, State.rd_cutRail, if_pos rfl, hwarn.throttledAccount hb, BitVec.toNat_ofNat, Nat.mod_eq_of_lt hlt]

theorem State.throttles.cons {s t u : State} {a : Nat} {l : List Nat} (hal : a ∉ l) (hst : s.throttles [a] t) (htu : t.throttles l u) : s.throttles (a :: l) u where
  frame := State.withRails_trans hst.frame htu.frame
  keeps k hk hka := (htu.keeps k hk fun b hb => hka b (by simp [hb])).trans (hst.keeps k hk fun b hb => hka b (by simp_all))
  lstep b hb := by
    rw [htu.lstep b hb, hst.lstep b hb, Bool.or_assoc]
    simp
  stands b hb := by
    obtain ⟨hne, hnl⟩ := not_or.1 (mt List.mem_cons.2 hb)
    exact (htu.stands b hnl).trans (hst.stands b (by simpa using hne))
  rail b hb := by
    by_cases hbl : b ∈ l
    · exact htu.rail b hbl
    · rw [htu.stands b hbl]
      exact hst.rail b (by simpa [hbl] using hb)
  account b hb hba := by
    by_cases hbl : b ∈ l
    · have hne : b ≠ a := fun h => hal (h ▸ hbl)
      rw [htu.account b hb hbl]
      refine State.throttledAccount_congr hb (congrArg State.lresv hst.frame :) (fun o ho => hst.keeps _ (railReg_ne_lstepKey b ?_) ?_) (hst.keeps _ (by decide) ?_)
      · simp only [List.mem_cons, List.not_mem_nil, or_false] at ho
        rcases ho with rfl | rfl | rfl <;> decide
      · simp only [List.mem_cons, List.not_mem_nil, or_false, Off.LEDG_RAIL_SCALE, Off.LEDG_RAIL_CEIL, Off.LEDG_RAIL_ACCOUNT] at ho
        simp only [List.mem_singleton, forall_eq, railReg, reg, Off.LEDG_RAIL_ACCOUNT]
        omega
      · simp only [List.mem_singleton, forall_eq, railReg, reg, Off.LEDG_RAIL_ACCOUNT, Off.LEDG_THR_FLOOR]
        omega
    · obtain rfl : b = a := by simpa [hbl] using hba
      rw [State.account_of_rd hb (htu.keeps _ (railReg_ne_lstepKey b (by decide)) fun c hc => railReg_inj.not.2 fun h => hbl (h ▸ hc))]
      exact hst.account b hb (by simp)

theorem State.throttles_foldl (s : State) {l : List Nat} (hnodup : l.Nodup) : s.throttles l (l.foldl State.throttleRail s) :=
  foldl_each (P := State.throttles) (fun _ => ⟨rfl, fun _ _ _ => rfl, fun _ _ => by simp, fun _ _ => rfl, fun _ h => by simp at h, fun _ _ h => by simp at h⟩)
    State.throttles_one State.throttles.cons hnodup s

/-- The state in which the rails meet a recognised throttle: the episode begins, counted and dated (R294). -/
def State.episode (s : State) : State :=
  (({ s with thr := { s.thr with throttled := true, toggles := 0, warned := false, broken := false } } : State).inc (reg pgLEDG Off.LEDG_THR_COUNT)).wr64
    (reg pgLEDG Off.LEDG_THR_LAST_LO) s.now

theorem State.throttle_rails (s : State) : s.throttle = (((List.range 8).foldl State.throttleRail s.episode).wrBit (reg pgLEDG Off.LEDG_THR_STATUS) 0 true).raise pgLEDG 0 := rfl

section
variable (s : State) (b : Bool) (i : Nat)

/-- A change of the throttle's status and an event of the page leave the rest of the page's registers (R299, R431). -/
theorem State.rd_status_raise {o : Nat} (ho : 0x40 ≤ o) (ho' : o < 4096) (hne : o ≠ Off.LEDG_THR_STATUS) :
    ((s.wrBit (reg pgLEDG Off.LEDG_THR_STATUS) 0 b).raise pgLEDG i).rd (reg pgLEDG o) = s.rd (reg pgLEDG o) :=
  (State.rd_raiseBits_body _ pgLEDG _ (by rw [reg_mod _ ho']; exact ho) (reg_ne ho' (by decide) (Or.inl (by decide)))).trans
    (s.rd_wr_other _ ((reg_same_page _ _ _).not.2 hne))

/-- What an event of the ledger leaves. -/
theorem State.raise_keeps : (s.raise pgLEDG i).thr = s.thr ∧ (s.raise pgLEDG i).lresv = s.lresv ∧ (s.raise pgLEDG i).rails = s.rails :=
  ⟨(congrArg State.thr (s.raise_frame pgLEDG i) :), (congrArg State.lresv (s.raise_frame pgLEDG i) :), s.raise_rails pgLEDG i⟩

end

/-- A register of the episode's beginning. -/
theorem State.rd_episode (s : State) {o : Nat} (hlow : o ≠ Off.LEDG_THR_LAST_LO) (hhigh : o ≠ Off.LEDG_THR_LAST_LO + 4) : s.episode.rd (reg pgLEDG o) =
    if o = Off.LEDG_THR_COUNT then satAdd (s.rd (reg pgLEDG Off.LEDG_THR_COUNT)) 1 else s.rd (reg pgLEDG o) := by
  obtain ⟨hl, hh⟩ := reg_ne_pair pgLEDG hlow hhigh
  unfold State.episode
  rw [State.rd_wr64_other _ _ hl hh, State.inc, State.rd_wr]
  simp only [reg_same_page]
  rfl

theorem State.throttledAccount_episode (s : State) {b : Nat} (hb : b < 8) : s.episode.throttledAccount b = s.throttledAccount b := by
  have hkeep {o : Nat} (ho : o < Off.LEDG_THR_COUNT ∨ 0x100 ≤ o) : s.episode.rd (reg pgLEDG o) = s.rd (reg pgLEDG o) := by
    simp only [Off.LEDG_THR_COUNT] at ho
    rw [s.rd_episode (by simp only [Off.LEDG_THR_LAST_LO]; omega) (by simp only [Off.LEDG_THR_LAST_LO]; omega), if_neg]
    simp only [Off.LEDG_THR_COUNT]
    omega
  refine State.throttledAccount_congr hb rfl (fun o ho => hkeep (Or.inr ?_)) (hkeep (Or.inl (by decide)))
  simp only [List.mem_cons, List.not_mem_nil, or_false] at ho
  have ho' : 0x100 ≤ o := by rcases ho with rfl | rfl | rfl <;> decide
  omega

section
variable (s : State)

/-- Recognition begins an episode, warns on every rail, takes the ballast off and cuts the accounts down (R294). -/
theorem State.throttle_effect : s.throttle.thr = { s.thr with throttled := true, toggles := 0, warned := false, broken := false } ∧
    s.throttle.rd (reg pgLEDG Off.LEDG_THR_COUNT) = satAdd (s.rd (reg pgLEDG Off.LEDG_THR_COUNT)) 1 ∧ s.throttle.rd64 (reg pgLEDG Off.LEDG_THR_LAST_LO) = s.now ∧
    bit (s.throttle.rd (reg pgLEDG Off.EVENT)) 0 = true ∧ s.throttle.lresv = s.lresv ∧
    ∀ b, b < 8 → s.throttle.lstep b = true ∧ (s.throttle.rail b).debts = [] ∧ (s.throttle.rail b).units = [] ∧ s.throttle.account b = s.throttledAccount b := by
  have h := s.episode.throttles_foldl (List.nodup_range (n := 8))
  rw [s.throttle_rails]
  generalize (List.range 8).foldl State.throttleRail s.episode = u at *
  obtain ⟨hthr, hlresv, hrails⟩ := (u.wrBit (reg pgLEDG Off.LEDG_THR_STATUS) 0 true).raise_keeps 0
  have hkeep {o : Nat} (ho : 0x40 ≤ o) (ho' : o < 0x60) (hne : o ≠ Off.LEDG_THR_STATUS) :
      ((u.wrBit (reg pgLEDG Off.LEDG_THR_STATUS) 0 true).raise pgLEDG 0).rd (reg pgLEDG o) = s.episode.rd (reg pgLEDG o) := by
    rw [State.rd_status_raise u true 0 ho (by omega) hne]
    refine h.keeps _ ((reg_same_page _ _ _).not.2 (by simp only [Off.LEDG_LSTEP_STATE]; omega)) fun a _ => ?_
    simp only [railReg, ne_eq, reg_same_page, Off.LEDG_RAIL_ACCOUNT]
    omega
  refine ⟨hthr.trans (congrArg State.thr h.frame :), ?_, ?_, State.event_raise _ _ _ (by decide) (event_ne_dropped _), hlresv.trans (congrArg State.lresv h.frame :),
    fun b hb => ⟨?_, ?_⟩⟩
  · rw [hkeep (by decide) (by decide) (by decide), s.rd_episode (by decide) (by decide), if_pos rfl]
  · exact (State.rd64_congr (hkeep (o := Off.LEDG_THR_LAST_LO) (by decide) (by decide) (by decide))
      (hkeep (o := Off.LEDG_THR_LAST_LO + 4) (by decide) (by decide) (by decide))).trans (State.rd64_wr64_self _ _ _)
  · refine (congrArg (bit · b) (State.rd_status_raise u true 0 (o := Off.LEDG_LSTEP_STATE) (by decide) (by decide) (by decide))).trans ?_
    refine (h.lstep b (by omega)).trans ?_
    rw [decide_eq_true (List.mem_range.2 hb), Bool.or_true]
  · have hrail : ((u.wrBit (reg pgLEDG Off.LEDG_THR_STATUS) 0 true).raise pgLEDG 0).rail b = u.rail b := State.rail_congr hrails b
    obtain ⟨hdebts, hunits⟩ := h.rail b (List.mem_range.2 hb)
    refine ⟨by rw [hrail, hdebts], by rw [hrail, hunits], ?_⟩
    rw [State.account_of_rd hb (State.rd_status_raise u true 0 (o := Off.LEDG_RAIL_ACCOUNT + 0x40 * b) (by simp only [Off.LEDG_RAIL_ACCOUNT]; omega)
      (by simp only [Off.LEDG_RAIL_ACCOUNT]; omega) (by simp only [Off.LEDG_RAIL_ACCOUNT, Off.LEDG_THR_STATUS]; omega)),
      h.account b hb (List.mem_range.2 hb), s.throttledAccount_episode hb]

/-! ## Release of the throttle, and its errors (R295, R296) -/

theorem State.releaseWarn_effect : (∀ b, b < 8 → s.releaseWarn.lstep b = true) ∧ s.releaseWarn.thr = { s.thr with warned := true } ∧
    { s.releaseWarn with regs := s.regs, rails := s.rails, thr := s.thr } = s := by
  have h := State.assertsLstep_foldl { s with thr := { s.thr with warned := true } } (List.nodup_range (n := 8))
  unfold State.releaseWarn
  generalize (List.range 8).foldl State.assertLstep { s with thr := { s.thr with warned := true } } = t at *
  refine ⟨fun b hb => ?_, (congrArg State.thr h.frame :), (congrArg (fun u : State => { u with thr := s.thr }) h.frame :)⟩
  rw [h.lstep b (by omega), decide_eq_true (List.mem_range.2 hb), Bool.or_true]

/-- A rail that has not warned waits for its lead (R295). -/
def State.holdRise (a : Nat) : State := s.modRail a fun r => { r with relHold := !r.leadDone }

/-- The rails of a list that have not warned wait for their lead, and nothing else changes (R295). -/
structure State.holdsRises (l : List Nat) (t : State) : Prop where
  frame : { t with rails := s.rails } = s
  holds : ∀ b ∈ l, t.rail b = { s.rail b with relHold := !(s.rail b).leadDone }
  stands : ∀ b, b ∉ l → t.rail b = s.rail b

theorem State.holdsRises_one (a : Nat) : s.holdsRises [a] (s.holdRise a) where
  frame := rfl
  holds b hb := by
    obtain rfl : b = a := by simpa using hb
    exact State.rail_setRail_self _ _ _
  stands b hb := State.rail_setRail_other _ _ (by simpa using hb)

theorem State.holdsRises.cons {s t u : State} {a : Nat} {l : List Nat} (hal : a ∉ l) (hst : s.holdsRises [a] t) (htu : t.holdsRises l u) : s.holdsRises (a :: l) u where
  frame := (congrArg (fun x : State => { x with rails := s.rails }) htu.frame :).trans hst.frame
  holds b hb := by
    by_cases hbl : b ∈ l
    · have hne : b ∉ [a] := by simpa using fun h : b = a => hal (h ▸ hbl)
      rw [htu.holds b hbl, hst.stands b hne]
    · rw [htu.stands b hbl]
      exact hst.holds b (by simpa [hbl] using hb)
  stands b hb := by
    obtain ⟨hne, hnl⟩ := not_or.1 (mt List.mem_cons.2 hb)
    exact (htu.stands b hnl).trans (hst.stands b (by simpa using hne))

theorem State.holdsRises_foldl {l : List Nat} (hnodup : l.Nodup) : s.holdsRises l (l.foldl State.holdRise s) :=
  foldl_each (P := State.holdsRises) (fun _ => ⟨rfl, fun _ h => by simp at h, fun _ _ => rfl⟩) State.holdsRises_one State.holdsRises.cons hnodup s

/-- The end of an episode beyond its event (R295). -/
def State.endEpisode : State :=
  ((List.range 8).foldl State.holdRise { s with thr := { s.thr with throttled := false, warned := false, broken := false } }).wrBit
    (reg pgLEDG Off.LEDG_THR_STATUS) 0 false

theorem State.endEpisode_effect : s.endEpisode.thr = { s.thr with throttled := false, warned := false, broken := false } ∧
    s.endEpisode.rd (reg pgLEDG Off.EVENT) = s.rd (reg pgLEDG Off.EVENT) ∧ ∀ b, b < 8 → s.endEpisode.rail b = { s.rail b with relHold := !(s.rail b).leadDone } := by
  have h := State.holdsRises_foldl { s with thr := { s.thr with throttled := false, warned := false, broken := false } } (List.nodup_range (n := 8))
  unfold State.endEpisode
  generalize (List.range 8).foldl State.holdRise _ = t at *
  refine ⟨(congrArg State.thr h.frame :), ?_, fun b hb => h.holds b (List.mem_range.2 hb)⟩
  rw [State.wrBit, State.rd_wr_other _ _ ((reg_same_page _ _ _).not.2 (by decide))]
  exact (congrArg (fun x : State => x.rd (reg pgLEDG Off.EVENT)) h.frame :)

theorem State.unthrottle_eq : s.unthrottle = (if s.thr.throttled then s.raise pgLEDG 2 else s).endEpisode := rfl

/-- Release ends the episode with its event, and no rail rises before its warning (R295). -/
theorem State.unthrottle_effect : s.unthrottle.thr = { s.thr with throttled := false, warned := false, broken := false } ∧
    (s.thr.throttled = true → bit (s.unthrottle.rd (reg pgLEDG Off.EVENT)) 2 = true) ∧
    ∀ b, b < 8 → s.unthrottle.rail b = { s.rail b with relHold := !(s.rail b).leadDone } := by
  obtain ⟨hthr, -, hrails⟩ := s.raise_keeps 2
  rw [s.unthrottle_eq]
  cases s.thr.throttled with
  | true =>
    obtain ⟨hthr', hevent, hrail⟩ := (s.raise pgLEDG 2).endEpisode_effect
    rw [if_pos rfl]
    refine ⟨by rw [hthr', hthr], fun _ => ?_, fun b hb => by rw [hrail b hb, State.rail_congr hrails b]⟩
    rw [hevent]
    exact s.event_raise pgLEDG 2 (by decide) (event_ne_dropped _)
  | false =>
    obtain ⟨hthr', -, hrail⟩ := s.endEpisode_effect
    exact ⟨hthr', fun h => absurd h Bool.false_ne_true, hrail⟩

theorem State.pageErr_thr (page : Nat) (code : Code) (i0 i1 : Nat) (bits : Word) : (s.pageErr page code i0 i1 bits).thr = s.thr :=
  (congrArg State.thr (s.pageErr_frame page code i0 i1 bits) :)

end

/-- Settles O42: each row acts where its condition holds, on the rail it names or on all, and changes nothing where it does not. -/
theorem lstepAndThrottle : Obligations.LstepAndThrottle := by
  unfold Obligations.LstepAndThrottle
  intro s rail a due still rec' open' warn held tog
  have ha : a < 8 := rail.isLt
  have hstays (b : Bool) (t : State) (h : b = false) : s.whenever b t = .next s := by rw [h]; rfl
  have hgoes (b : Bool) (t : State) (h : b = true) : s.whenever b t = .next { t with pending := s.pending } := by rw [h]; rfl
  refine ⟨fun h => ?lead, fun h => congrArg s.commit (s.leadElapsed_early a h), fun h => ?still, fun h => congrArg s.commit (s.lstepEnd_moving a h),
    fun h => ⟨_, hgoes _ _ h, s.throttle_effect⟩, hstays _ _, fun h => ⟨_, hgoes _ _ h, ?warn⟩, hstays _ _, fun hopen hhigh => ?release, fun h => ?closed,
    fun h => ⟨_, hgoes _ _ h, ?held⟩, hstays _ _, fun h => ⟨_, hgoes _ _ h, ?tog⟩, hstays _ _⟩
  case lead => exact ⟨_, congrArg s.commit (s.leadElapsed_due a h), State.rail_setRail_self _ _ _, rfl⟩
  case still =>
    obtain ⟨hframe, hlow, hanchor, hrail, hothers⟩ := s.lstepEnd_effect a ha h
    have hcommit : exec (.lstepDeassert rail) s = s.commit (s.lstepEnd a) := rfl
    rw [hcommit]
    generalize s.lstepEnd a = t at *
    exact ⟨_, rfl, hlow, hanchor, hrail, hothers, (congrArg (fun u : State => { u with pending := s.pending }) hframe :)⟩
  case warn =>
    obtain ⟨hlstep, hthr, hframe⟩ := s.releaseWarn_effect
    generalize s.releaseWarn = t at *
    exact ⟨hlstep, hthr, (congrArg (fun u : State => { u with pending := s.pending }) hframe :)⟩
  case release =>
    have hb : (open' && decide (5000 ≤ s.thr.high)) = true := by rw [hopen, decide_eq_true hhigh]; rfl
    obtain ⟨hthr, hevent, hrail⟩ := s.unthrottle_effect
    refine ⟨_, hgoes _ s.unthrottle hb, ?_⟩
    generalize s.unthrottle = t at *
    exact ⟨hthr, hevent, hrail⟩
  case closed =>
    refine hstays _ _ ?_
    rcases h with h | h
    · exact (congrArg (· && _) h).trans (Bool.false_and _)
    · exact (congrArg (_ && ·) (decide_eq_false (Nat.not_le.2 h))).trans (Bool.and_false _)
  case held =>
    exact ⟨State.pageErr_thr _ _ _ _ _ _, State.event_pageErr _ _ _ _ _ _ 1 (Or.inl (by decide)), State.event_pageErr _ _ _ _ _ _ 30 (Or.inl (by decide))⟩
  case tog =>
    exact ⟨State.pageErr_thr _ _ _ _ _ _, State.event_pageErr _ _ _ _ _ _ 3 (Or.inl (by decide)), State.event_pageErr _ _ _ _ _ _ 30 (Or.inl (by decide))⟩

end Sys2Proof.Machine
end

section
/-! PROOFS. The dispatch of calendar entries and its seven actions (R292, R317, R318, R320). -/

namespace Sys2Proof.Machine

open Sys2Proof

/-! ## What a dispatch leaves unchanged (R318, R319, R322) -/

/-- A state with the registers, the events and the late entries of another. -/
def State.withDispatch (s u : State) : State := { u with regs := s.regs, alerts := s.alerts, alertSeq := s.alertSeq, lateEnt := s.lateEnt }

/-- A register that the bookkeeping of entry e does not write: beyond its page's header, of no entry e, and none of the counters of late, missed and dropped ones. -/
def BesideDispatch (e k : Nat) : Prop :=
  0x40 ≤ k % 4096 ∧ k ≠ reg pgERR Off.ERR_Q_DROPPED ∧ (∀ o < 4096, k ≠ calReg e o) ∧ k ≠ reg pgCAL Off.CAL_LATE ∧ k ≠ reg pgCAL Off.CAL_MISSED

/-- Nothing but the bookkeeping of entry e has changed. -/
structure State.dispatched (s : State) (e : Nat) (t : State) : Prop where
  frame : s.withDispatch t = s
  keeps : ∀ k, BesideDispatch e k → t.rd k = s.rd k

namespace State.dispatched
variable {s t u : State} {e : Nat}

theorem refl (s : State) (e : Nat) : s.dispatched e s := ⟨rfl, fun _ _ => rfl⟩

theorem trans (hst : s.dispatched e t) (htu : t.dispatched e u) : s.dispatched e u where
  frame := by
    have h : s.withDispatch (t.withDispatch u) = s.withDispatch t := by rw [htu.frame]
    exact h.trans hst.frame
  keeps k hk := (htu.keeps k hk).trans (hst.keeps k hk)

theorem wr (s : State) {e k : Nat} (v : Word) (hk : ∀ j, BesideDispatch e j → j ≠ k) : s.dispatched e (s.wr k v) :=
  ⟨rfl, fun j hj => s.rd_wr_other v (hk j hj)⟩

theorem wr_calReg (s : State) (e : Nat) {o : Nat} (v : Word) (ho : o < 4096) : s.dispatched e (s.wr (calReg e o) v) :=
  wr s v fun j hj => by obtain ⟨-, -, hent, -, -⟩ := hj; exact hent o ho

theorem wr64_calReg (s : State) (e : Nat) {o : Nat} (v : DWord) (ho : o + 4 < 4096) : s.dispatched e (s.wr64 (calReg e o) v) :=
  (wr_calReg s e _ (by omega)).trans (wr_calReg _ e (o := o + 4) _ ho)

theorem inc_late (s : State) (e n : Nat) : s.dispatched e (s.inc (reg pgCAL Off.CAL_LATE) n) :=
  wr s _ fun j hj => by obtain ⟨-, -, -, hlate, -⟩ := hj; exact hlate

theorem inc_missed (s : State) (e n : Nat) : s.dispatched e (s.inc (reg pgCAL Off.CAL_MISSED) n) :=
  wr s _ fun j hj => by obtain ⟨-, -, -, -, hmissed⟩ := hj; exact hmissed

theorem raise (s : State) (e i : Nat) : s.dispatched e (s.raise pgCAL i) where
  frame := congrArg (fun x : State => { x with lateEnt := s.lateEnt }) (s.raise_frame pgCAL i)
  keeps k hk := by
    obtain ⟨hbody, hdropped, -, -, -⟩ := hk
    exact s.rd_raiseBits_body pgCAL _ hbody hdropped

theorem withLate (s : State) (e : Nat) (l : List Nat) : s.dispatched e { s with lateEnt := l } := ⟨rfl, fun _ _ => rfl⟩

end State.dispatched

/-- The instant and the count of a dispatch (R324). -/
def State.noteFire (s : State) (e : Nat) : State := (s.wr64 (calReg e Off.CAL_ENT_LAST_LO) s.now).inc (calReg e Off.CAL_ENT_FIRES)

/-- The note of a late dispatch (R322). -/
def State.noteLate (s : State) (e : Nat) : State :=
  if s.lateEnt.contains e then (({ s with lateEnt := s.lateEnt.filter (· != e) } : State).inc (reg pgCAL Off.CAL_LATE)).raise pgCAL 0 else s

/-- The next instant of a periodic entry, in which the periods that passed count as missed (R318, R319). -/
def State.nextInstant (s : State) (e i p k : Nat) : State :=
  let t := s.wr64 (calReg e Off.CAL_ENT_INSTANT_LO) (BitVec.ofNat 64 (i + k * p))
  if 1 < k then (t.inc (reg pgCAL Off.CAL_MISSED) (k - 1)).raise pgCAL 1 else t

section
variable (s : State) (e : Nat)

theorem State.calAdvance_eq : s.calAdvance e = if s.calPeriod e = 0 then ((s.noteFire e).noteLate e).wrBit (calReg e Off.CAL_ENT_CTRL) 0 false
    else ((s.noteFire e).noteLate e).nextInstant e (s.calInstant e) (s.calPeriod e) ((s.now.toNat - s.calInstant e) / s.calPeriod e + 1) := rfl

theorem State.dispatched_noteFire : s.dispatched e (s.noteFire e) :=
  (State.dispatched.wr64_calReg s e s.now (by decide)).trans (State.dispatched.wr_calReg _ e _ (by decide))

theorem State.dispatched_noteLate : s.dispatched e (s.noteLate e) := by
  unfold State.noteLate
  split
  · exact ((State.dispatched.withLate s e _).trans (State.dispatched.inc_late _ e 1)).trans (State.dispatched.raise _ e 0)
  · exact State.dispatched.refl s e

theorem State.dispatched_nextInstant (i p k : Nat) : s.dispatched e (s.nextInstant e i p k) := by
  have hwrite := State.dispatched.wr64_calReg s e (o := Off.CAL_ENT_INSTANT_LO) (BitVec.ofNat 64 (i + k * p)) (by decide)
  unfold State.nextInstant
  dsimp only
  split
  · exact (hwrite.trans (State.dispatched.inc_missed _ e _)).trans (State.dispatched.raise _ e 1)
  · exact hwrite

/-- The bookkeeping of a dispatch (R318, R319). -/
theorem State.dispatched_calAdvance : s.dispatched e (s.calAdvance e) := by
  have hnotes := (s.dispatched_noteFire e).trans ((s.noteFire e).dispatched_noteLate e)
  rw [s.calAdvance_eq]
  split
  · exact hnotes.trans (State.dispatched.wr_calReg _ e _ (by decide))
  · exact hnotes.trans (State.dispatched_nextInstant _ e _ _ _)

end

/-! ## Registers beside the calendar -/

theorem besideDispatch_reg (e : Nat) {p o : Nat} (hp : p < 2 ^ 16) (ho : 0x40 ≤ o) (ho' : o < 4096) (hpage : p ≠ pgCAL ∧ p ≠ pgERR) : BesideDispatch e (reg p o) := by
  obtain ⟨hcal, herr⟩ := hpage
  refine ⟨by rw [reg_mod p ho']; exact ho, reg_ne ho' (by decide) (Or.inl herr), fun q hq h => ?_, reg_ne ho' (by decide) (Or.inl hcal), reg_ne ho' (by decide) (Or.inl hcal)⟩
  have := reg_lt hp ho'
  simp only [calReg, wreg] at h
  omega

theorem besideDispatch_wreg (e w : Nat) {p o : Nat} (hp : p < 2 ^ 16) (ho : 0x40 ≤ o) (ho' : o < 4096) (hpage : p ≠ pgCAL) : BesideDispatch e (wreg w p o) := by
  have hlt := reg_lt hp ho'
  have hcal {q : Nat} (hq : q < 4096) : reg pgCAL q < 2 ^ 28 := reg_lt (by decide) hq
  refine ⟨?_, ?_, fun q hq h => ?_, ?_, ?_⟩
  · simp only [wreg, reg]
    omega
  · have : reg pgERR Off.ERR_Q_DROPPED < 2 ^ 28 := reg_lt (by decide) (by decide)
    simp only [wreg]
    omega
  · have := hcal hq
    have hsame : reg p o = reg pgCAL q := by
      simp only [calReg, wreg] at h
      omega
    exact hpage (((reg_inj ho' hq).1 hsame).1)
  · have := hcal (q := Off.CAL_LATE) (by decide)
    simp only [wreg]
    omega
  · have := hcal (q := Off.CAL_MISSED) (by decide)
    simp only [wreg]
    omega

theorem besideDispatch_noEffect (e : Nat) : BesideDispatch e (reg pgCAL Off.CAL_NOEFFECT) := by
  refine ⟨by decide, by decide, fun q hq h => ?_, by decide, by decide⟩
  have : reg pgCAL Off.CAL_NOEFFECT < 2 ^ 28 := by decide
  simp only [calReg, wreg] at h
  omega

namespace State.dispatched
variable {s n : State} {e : Nat} (h : s.dispatched e n)
include h

theorem ctx : n.ctx = s.ctx := (congrArg State.ctx h.frame :)
theorem mem : n.mem = s.mem := (congrArg State.mem h.frame :)
theorem now : n.now = s.now := (congrArg State.now h.frame :)
theorem grps : n.grps = s.grps := (congrArg State.grps h.frame :)
theorem rings : n.rings = s.rings := (congrArg State.rings h.frame :)
theorem steps : n.steps = s.steps := (congrArg State.steps h.frame :)
theorem scrub : n.scrub = s.scrub := (congrArg State.scrub h.frame :)
theorem sess : n.sess = s.sess := (congrArg State.sess h.frame :)
theorem rails : n.rails = s.rails := (congrArg State.rails h.frame :)

theorem getCtx (c : Nat) : n.getCtx c = s.getCtx c := by rw [State.getCtx, h.ctx, State.getCtx]
theorem getRing (r : Nat) : n.getRing r = s.getRing r := by rw [State.getRing, h.rings, State.getRing]
theorem getStep (c : Nat) : n.getStep c = s.getStep c := by rw [State.getStep, h.steps, State.getStep]

theorem mayReplay (c : Nat) : n.mayReplay c = s.mayReplay c := by rw [State.mayReplay, h.getCtx, State.mayReplay]

theorem domSession (d : Nat) : n.domSession d = s.domSession d := by simp only [State.domSession, State.getSess, h.sess]

theorem ringRuns (r : Nat) : n.ringRuns r = s.ringRuns r := by
  have hreg {o : Nat} (ho : 0x40 ≤ o) (ho' : o < 4096) : n.rd (ringReg r o) = s.rd (ringReg r o) :=
    h.keeps _ (besideDispatch_wreg e r (by decide) ho ho' (by decide))
  unfold State.ringRuns
  rw [hreg (by decide) (by decide), hreg (by decide) (by decide), h.getRing]

theorem ctxDom {c : Nat} (hc : c < 2 ^ 14) : n.ctxDom c = s.ctxDom c := by
  have hreg : n.rd (reg (pgCTX c) Off.CTX_BIND) = s.rd (reg (pgCTX c) Off.CTX_BIND) :=
    h.keeps _ (besideDispatch_reg e (by unfold pgCTX; omega) (by decide) (by decide) (by unfold pgCTX pgCAL pgERR; omega))
  unfold State.ctxDom
  rw [hreg]

/-- The bound contexts and their domains are the same (R254). -/
theorem mem_boundCtxs {p : Nat × Nat} : p ∈ n.boundCtxs ↔ p ∈ s.boundCtxs := by
  obtain ⟨c, d⟩ := p
  rw [State.mem_boundCtxs, State.mem_boundCtxs]
  exact and_congr_right fun hc => by rw [h.ctxDom hc]

end State.dispatched

/-! ## An entry that is the next (R317, R318) -/

section
variable (s : State) (e a : Nat)

/-- An entry is the next to dispatch, has an action, and its target belongs to its owner (R317, R318). -/
def State.dispatches : Prop := s.calNext e = true ∧ s.calAction e = a ∧ ∀ d, s.calOwner e = some d → s.calTargetOf a (s.calTarget e) d = true

variable {s e a} {eff : State → Nat → Nat → Option Nat → Option State}

theorem State.dispatchCal_next (h : s.dispatches e a) : s.dispatchCal e a eff =
    (eff (s.calAdvance e) (s.calTarget e) (s.calInstant e) (s.calOwner e)).getD (s.calAdvance e).calNoEffect := by
  obtain ⟨hnext, hact, hown⟩ := h
  unfold State.dispatchCal
  rw [if_pos (by simp [hnext, hact])]
  refine if_neg ?_
  cases ho : s.calOwner e with
  | none => simp
  | some d => simp [hown d ho]

theorem State.dispatchCal_idle (h : s.calNext e = false) : s.dispatchCal e a eff = s := if_neg (by simp [h])

theorem State.commit_dispatchCal {t : State} (h : s.dispatches e a) (heff : eff (s.calAdvance e) (s.calTarget e) (s.calInstant e) (s.calOwner e) = some t) :
    s.commit (s.dispatchCal e a eff) = .next { t with pending := s.pending } := by
  rw [State.dispatchCal_next h, heff, Option.getD_some, State.commit]

/-- A dispatch without effect is counted (R317). -/
def State.lacksEffect (s t : State) : Prop :=
  t.ctx = s.ctx ∧ t.mem = s.mem ∧ t.grps = s.grps ∧ t.rings = s.rings ∧ t.steps = s.steps ∧ t.scrub = s.scrub ∧
    t.rd (reg pgCAL Off.CAL_NOEFFECT) = satAdd (s.rd (reg pgCAL Off.CAL_NOEFFECT)) 1 ∧ bit (t.rd (reg pgCAL Off.EVENT)) 2 = true

theorem State.dispatched.lacksEffect {n : State} (h : s.dispatched e n) : s.lacksEffect n.calNoEffect := by
  unfold State.calNoEffect
  generalize hm : n.inc (reg pgCAL Off.CAL_NOEFFECT) = m
  have hraise := State.dispatched.raise m e 2
  have hcount : (m.raise pgCAL 2).rd (reg pgCAL Off.CAL_NOEFFECT) = satAdd (s.rd (reg pgCAL Off.CAL_NOEFFECT)) 1 := by
    rw [hraise.keeps _ (besideDispatch_noEffect e), ← hm, State.inc, State.rd_wr_self, h.keeps _ (besideDispatch_noEffect e)]
  have hevent := m.event_raise pgCAL 2 (by decide) (event_ne_dropped _)
  subst hm
  exact ⟨hraise.ctx.trans h.ctx, hraise.mem.trans h.mem, hraise.grps.trans h.grps, hraise.rings.trans h.rings, hraise.steps.trans h.steps,
    hraise.scrub.trans h.scrub, hcount, hevent⟩

theorem State.commit_dispatchCal_none (h : s.dispatches e a) (heff : eff (s.calAdvance e) (s.calTarget e) (s.calInstant e) (s.calOwner e) = none) :
    ∃ t, s.commit (s.dispatchCal e a eff) = .next t ∧ s.lacksEffect t := by
  rw [State.dispatchCal_next h, heff, Option.getD_none]
  exact ⟨_, rfl, (s.dispatched_calAdvance e).lacksEffect⟩

theorem State.commit_dispatchCal_idle (h : s.calNext e = false) : s.commit (s.dispatchCal e a eff) = .next s := by
  rw [State.dispatchCal_idle h]
  rfl

end

/-! ## STEP_START (R317, R320) -/

section
variable (s : State) (e c : Nat)

theorem State.calStepStart_unbound (h : (s.getCtx c).run = .unbound) : s.calStepStart e c = none := if_pos h

theorem State.calStepStart_begins (hmay : s.mayReplay c = true) (hheld : (s.getCtx c).heldStart = none) :
    s.calStepStart e c = some ((s.beginReplay c).armFloor c e) := by
  have hidle : (s.getCtx c).run = .idle := by
    simp only [State.mayReplay, Bool.and_eq_true, beq_iff_eq] at hmay
    exact hmay.1
  refine (if_neg ?_).trans (if_pos ?_)
  · rw [hidle]
    decide
  · rw [hmay, hheld]
    rfl

theorem State.calStepStart_missed (hrun : (s.getCtx c).run ≠ .unbound) (hheld : (s.getCtx c).heldStart ≠ none) :
    s.calStepStart e c = some ((s.inc (reg pgCAL Off.CAL_MISSED)).raise pgCAL 1) := by
  have hsome : (s.getCtx c).heldStart.isSome = true := Option.isSome_iff_ne_none.2 hheld
  exact (if_neg hrun).trans ((if_neg (by simp [Option.isNone_iff_eq_none, hheld])).trans (if_pos hsome))

theorem State.calStepStart_holds (hmay : s.mayReplay c = false) (hrun : (s.getCtx c).run ≠ .unbound) (hheld : (s.getCtx c).heldStart = none) :
    s.calStepStart e c = some (s.setCtx c { s.getCtx c with heldStart := some (e, s.now.toNat) }) :=
  (if_neg hrun).trans ((if_neg (by simp [hmay])).trans (if_neg (by simp [hheld])))

end

/-! ## RAMP_PROFILE (R292, R317) -/

/-- A profile takes a rail, with its warning (R292, R293). -/
def State.takeRail (p dom late lead : Nat) (s : State) (a : Nat) : State :=
  let t := if (s.rail a).prof.isSome then s.pageErr pgLEDG Err.PROFILE_REPLACED p a 0x20#32 else s
  (t.assertLstep a).modRail a fun r => { r with prof := some p, seg := none, guide := 50 * t.account a, timer := late, lead := lead, profDom := dom }

/-- A profile has taken the rails of a list, each with its warning; no other rail has changed (R292). -/
structure State.profiles (p dom : Nat) (s : State) (l : List Nat) (t : State) : Prop where
  lstep : ∀ b < 32, t.lstep b = (s.lstep b || decide (b ∈ l))
  taken : ∀ b ∈ l, (t.rail b).prof = some p ∧ (t.rail b).seg = none ∧ (t.rail b).profDom = dom
  stands : ∀ b, b ∉ l → t.rail b = s.rail b

/-- An error of the ledger's page leaves LSTEP_N and the rails alone. -/
theorem State.pageErr_rails (s : State) (code : Code) (i0 i1 : Nat) (bits : Word) (b : Nat) :
    (s.pageErr pgLEDG code i0 i1 bits).lstep b = s.lstep b ∧ (s.pageErr pgLEDG code i0 i1 bits).rail b = s.rail b := by
  have hreg := s.rd_pageErr_body pgLEDG code i0 i1 bits (k := lstepKey) (by decide) (by decide)
  exact ⟨congrArg (bit · b) hreg, State.rail_congr (congrArg State.rails (s.pageErr_frame pgLEDG code i0 i1 bits) :) b⟩

theorem State.ite_pageErr_rails (s : State) (q : Prop) [Decidable q] (code : Code) (i0 i1 : Nat) (bits : Word) (b : Nat) :
    (if q then s.pageErr pgLEDG code i0 i1 bits else s).lstep b = s.lstep b ∧ (if q then s.pageErr pgLEDG code i0 i1 bits else s).rail b = s.rail b := by
  split
  · exact s.pageErr_rails code i0 i1 bits b
  · exact ⟨rfl, rfl⟩

section
variable (p dom late lead : Nat)

theorem State.profiles_one (s : State) (a : Nat) : State.profiles p dom s [a] (State.takeRail p dom late lead s a) := by
  have herr := s.ite_pageErr_rails ((s.rail a).prof.isSome = true) Err.PROFILE_REPLACED p a 0x20#32
  unfold State.takeRail
  dsimp only
  generalize (if (s.rail a).prof.isSome = true then s.pageErr pgLEDG Err.PROFILE_REPLACED p a 0x20#32 else s) = t at *
  have hwarn := t.assertsLstep_one a
  generalize t.assertLstep a = u at *
  refine ⟨fun b hb => (hwarn.lstep b hb).trans (by rw [(herr b).1]), fun b hb => ?_, fun b hb => ?_⟩
  · obtain rfl : b = a := by simpa using hb
    rw [State.modRail, State.rail_setRail_self]
    exact ⟨rfl, rfl, rfl⟩
  · have hba : b ≠ a := by simpa using hb
    rw [State.modRail, State.rail_setRail_other _ _ hba, hwarn.stands b hb, (herr b).2]

theorem State.profiles.cons {p dom : Nat} {s t u : State} {a : Nat} {l : List Nat} (hst : State.profiles p dom s [a] t) (htu : State.profiles p dom t l u) :
    State.profiles p dom s (a :: l) u where
  lstep b hb := by
    rw [htu.lstep b hb, hst.lstep b hb, Bool.or_assoc]
    simp
  taken b hb := by
    by_cases hbl : b ∈ l
    · exact htu.taken b hbl
    · rw [htu.stands b hbl]
      exact hst.taken b (by simpa [hbl] using hb)
  stands b hb := by
    obtain ⟨hne, hnl⟩ := not_or.1 (mt List.mem_cons.2 hb)
    exact (htu.stands b hnl).trans (hst.stands b (by simpa using hne))

theorem State.profiles_foldl (s : State) {l : List Nat} (hnodup : l.Nodup) : State.profiles p dom s l (l.foldl (State.takeRail p dom late lead) s) :=
  foldl_each (P := State.profiles p dom) (fun _ => ⟨fun _ _ => by simp, fun _ h => by simp at h, fun _ _ => rfl⟩)
    (State.profiles_one p dom late lead) (fun _ => State.profiles.cons) hnodup s

/-- The rails that a profile names (R301). -/
def State.profRails (s : State) (p : Nat) : List Nat := (List.range 8).filter fun a => bit (s.rd (reg pgLEDG (Off.LEDG_PROF_CFG + 0x40 * p))) a

/-- A profile takes the rails it names; a clipped one is noted before (R292). -/
theorem State.startProfile_takes (s : State) : ∃ t lead, (∀ b, t.lstep b = s.lstep b ∧ t.rail b = s.rail b) ∧
    s.startProfile p dom late = (s.profRails p).foldl (State.takeRail p dom late lead) t := by
  refine ⟨_, _, fun b => ?_, rfl⟩
  have hclip (u : State) (q : Prop) [Decidable q] := u.ite_pageErr_rails q Err.PROFILE_CLIPPED p 0 0x10#32 b
  exact ⟨(hclip _ _).1.trans (hclip _ _).1, (hclip _ _).2.trans (hclip _ _).2⟩

theorem State.startProfile_effect (s : State) {a : Nat} (ha : a < 8) :
    if bit (s.rd (reg pgLEDG (Off.LEDG_PROF_CFG + 0x40 * p))) a then
      (s.startProfile p dom late).lstep a = true ∧ ((s.startProfile p dom late).rail a).prof = some p ∧
        ((s.startProfile p dom late).rail a).seg = none ∧ ((s.startProfile p dom late).rail a).profDom = dom
    else (s.startProfile p dom late).rail a = s.rail a := by
  obtain ⟨t, lead, hkeeps, heq⟩ := State.startProfile_takes p dom late s
  have hmem : a ∈ s.profRails p ↔ bit (s.rd (reg pgLEDG (Off.LEDG_PROF_CFG + 0x40 * p))) a = true := by simp [State.profRails, ha]
  have h := State.profiles_foldl p dom late lead t (l := s.profRails p) (List.nodup_range.filter _)
  rw [heq]
  generalize (s.profRails p).foldl (State.takeRail p dom late lead) t = u at *
  split
  case isTrue hbit =>
    obtain ⟨hprof, hseg, hdom⟩ := h.taken a (hmem.2 hbit)
    refine ⟨?_, hprof, hseg, hdom⟩
    rw [h.lstep a (by omega), decide_eq_true (hmem.2 hbit), Bool.or_true]
  case isFalse hbit => exact (h.stands a (mt hmem.1 hbit)).trans (hkeeps a).2

end

/-! ## The other actions (R317) -/

section
variable (s : State)

theorem State.calCommit_some {c : Nat} (hp : (s.getCtx c).stepPending = true) (hc : (s.getStep c).commit = false) (hm : bit (s.rd (updReg c Off.UPD_CTX_CFG)) 0 = false) :
    s.calCommit c = some (s.setStep c { s.getStep c with commit := true }) := if_pos (by rw [hp, hc, hm]; rfl)

theorem State.calCommit_none {c : Nat} (hp : (s.getCtx c).stepPending = false) : s.calCommit c = none := if_neg (by simp [hp])

theorem State.calCkpt_some {t : Nat} (hruns : s.ringRuns (256 + t) = true) (hopen : (s.getRing (256 + t)).ckpt = none) :
    ∃ u, s.ckptStart (256 + t) = some u ∧ s.calCkpt t = some u := by
  have hstart : ∃ u, s.ckptStart (256 + t) = some u := ⟨_, if_neg (by simp [hruns, hopen])⟩
  obtain ⟨u, hu⟩ := hstart
  exact ⟨u, hu, hu⟩

theorem State.calCkpt_none {t : Nat} (hruns : s.ringRuns (256 + t) = false) : s.calCkpt t = none := if_pos (by simp [hruns])

theorem State.resumeCtx_some {c : Nat} (hrun : (s.getCtx c).run = .saved) (hby : (s.getCtx c).byPreempt = true) :
    s.resumeCtx c = some ((s.setCtx c { s.getCtx c with run := .ready, byPreempt := false }).requestClaim c) := if_pos ⟨hrun, hby⟩

theorem State.resumeCtx_none {c : Nat} (hrun : (s.getCtx c).run ≠ .saved) : s.resumeCtx c = none := if_neg fun h => hrun h.1

theorem State.startScrub_some {d : Nat} (hctx : ∀ p ∈ s.boundCtxs, p.2 ≠ d) (hsess : s.domSession d = false) (hscrub : s.scrub.contains d = false) :
    ∃ t, s.startScrub d = some t := by
  have hany : (s.boundCtxs.any fun p => p.2 == d) = false := List.any_eq_false.2 fun p hp => by simpa using hctx p hp
  exact ⟨_, if_neg (by rw [hany, hsess, hscrub]; decide)⟩

theorem State.startScrub_none {d : Nat} (hscrub : s.scrub.contains d = true) : s.startScrub d = none :=
  if_pos (by rw [hscrub, Bool.or_true])

end

/-- Settles O45: each action finds, in the state that its dispatch has noted, what the state before held. -/
theorem calendarActionsRun : Obligations.CalendarActionsRun := by
  unfold Obligations.CalendarActionsRun
  intro s e x n c own r go next none' slots
  have hn : s.dispatched x n := s.dispatched_calAdvance x
  have hctx : n.getCtx c = r := hn.getCtx c
  have hmay := hn.mayReplay c
  refine ⟨fun h hm hh => ?_, fun h hm hr hh => ?_, fun h hr => ?_, fun h hr hh => ?_, fun h hc => ?_, fun h hs => ?_, fun h hs => ?_, fun h hp hc hm => ?_, fun h hp => ?_,
    fun h hruns hopen => ?_, fun h hruns => ?_, fun h hr hb => ?_, fun h hr => ?_, fun h hb hd hs => ?_, fun h hs => ?_, fun h i hi => ?_⟩
  · exact State.commit_dispatchCal h (n.calStepStart_begins x c (hmay.trans hm) (by rw [hctx]; exact hh))
  · refine State.commit_dispatchCal h ((n.calStepStart_holds x c (hmay.trans hm) (by rw [hctx]; exact hr) (by rw [hctx]; exact hh)).trans ?_)
    rw [hctx, hn.now]
  · exact State.commit_dispatchCal_none h (n.calStepStart_unbound x c (by rw [hctx]; exact hr))
  · exact State.commit_dispatchCal h (n.calStepStart_missed x c (by rw [hctx]; exact hr) (by rw [hctx]; exact hh))
  · have hcfg : n.rd (reg pgLEDG (Off.LEDG_PROF_CFG + 0x40 * c)) = s.rd (reg pgLEDG (Off.LEDG_PROF_CFG + 0x40 * c)) :=
      hn.keeps _ (besideDispatch_reg x (by decide) (by simp only [Off.LEDG_PROF_CFG]; omega) (by simp only [Off.LEDG_PROF_CFG]; omega) (by decide))
    refine ⟨_, State.commit_dispatchCal h rfl, fun a ha => ?_⟩
    have heffect := State.startProfile_effect c (own.getD 1024) ((n.now.toNat - s.calInstant x) / 2) n ha
    rw [hcfg, State.rail_congr hn.rails a] at heffect
    exact heffect
  · exact State.commit_dispatchCal h (if_neg hs)
  · exact State.commit_dispatchCal_none h (if_pos hs)
  · have hcfg : n.rd (updReg c Off.UPD_CTX_CFG) = s.rd (updReg c Off.UPD_CTX_CFG) := hn.keeps _ (besideDispatch_wreg x c (by decide) (by decide) (by decide) (by decide))
    refine State.commit_dispatchCal h ((n.calCommit_some (by rw [hctx]; exact hp) (by rw [hn.getStep]; exact hc) (by rw [hcfg]; exact hm)).trans ?_)
    rw [hn.getStep]
  · exact State.commit_dispatchCal_none h (n.calCommit_none (by rw [hctx]; exact hp))
  · obtain ⟨t, hstart, hckpt⟩ := n.calCkpt_some ((hn.ringRuns _).trans hruns) (by rw [hn.getRing]; exact hopen)
    exact ⟨t, hstart, State.commit_dispatchCal h hckpt⟩
  · exact State.commit_dispatchCal_none h (n.calCkpt_none ((hn.ringRuns _).trans hruns))
  · refine State.commit_dispatchCal h ((n.resumeCtx_some (by rw [hctx]; exact hr) (by rw [hctx]; exact hb)).trans ?_)
    rw [hctx]
  · exact State.commit_dispatchCal_none h (n.resumeCtx_none (by rw [hctx]; exact hr))
  · obtain ⟨t, ht⟩ := n.startScrub_some (d := c) (fun p hp => hb p (hn.mem_boundCtxs.1 hp)) ((hn.domSession c).trans hd) (by rw [hn.scrub]; exact hs)
    exact ⟨t, ht, State.commit_dispatchCal h ht⟩
  · exact State.commit_dispatchCal_none h (n.startScrub_none (by rw [hn.scrub]; exact hs))
  · simp only [List.mem_cons, List.not_mem_nil, or_false] at hi
    rcases hi with rfl | rfl | rfl | rfl | rfl | rfl | rfl
    all_goals exact State.commit_dispatchCal_idle h

end Sys2Proof.Machine
end

section
/-! PROOFS. Commands of the exchange, of checkpoints and of metrology join those in flight of their context (R287, R371, R374, R380, R384, R451, R509). -/

namespace Sys2Proof.Machine

open Sys2Proof

/-! ## Admission and issue of these commands (R221, R233, R248) -/

section
variable {s : State} {c : Nat} {w : Cmd} {a : Admitted}

/-- An admitted command other than a pass has the current class of its opcode (R222, R248). -/
theorem State.admitFirst_iclass {off ec ic : Nat} (h : s.admitFirst c off w = .ok a) (hinfo : opInfo w.opcode = some (ec, ic)) (hop : w.opcode ≠ 0x10) :
    w.iclass = ic := by
  unfold State.admitFirst at h
  simp only [hinfo, if_neg hop, bind, Except.bind, pure, Except.pure] at h
  repeat' split at h
  all_goals simp_all

theorem State.admits_iclass {ec ic : Nat} (h : s.admits c w a = true) (hinfo : opInfo w.opcode = some (ec, ic)) (hop : w.opcode ≠ 0x10) : w.iclass = ic := by
  rw [State.admits_iff] at h
  unfold State.admission at h
  cases hfirst : s.admitFirst c (s.pc c).toNat w with
  | error f => rw [hfirst] at h; cases h
  | ok b => exact State.admitFirst_iclass hfirst hinfo hop

/-- The opcodes of the exchange, of metrology and of checkpoints whose commands fly (R221). -/
def flyingOps : List Nat := [0x70, 0x71, 0x72, 0x78, 0x80, 0xB0]

theorem flyingOps_info : ∀ op ∈ flyingOps, 0x0A < op ∧ op ≠ 0x10 ∧ 5 < ((opInfo op).map Prod.fst).getD 0 ∧ ((opInfo op).map Prod.snd = some 8 ∨ op = 0x80) := by decide

theorem State.flying_class (h : s.admits c w a = true) (hop : w.opcode ∈ flyingOps) : 5 < w.eclass := by
  obtain ⟨-, -, hclass, -⟩ := flyingOps_info _ hop
  obtain ⟨ic, hinfo⟩ := State.admits_class h
  rw [hinfo] at hclass
  exact hclass

/-- The fabric commands have current class 8 (R221, R284). -/
theorem State.fabric_iclass (h : s.admits c w a = true) (hop : w.opcode ∈ flyingOps) (hne : w.opcode ≠ 0x80) : w.iclass = 8 := by
  obtain ⟨-, hpass, -, hclass⟩ := flyingOps_info _ hop
  obtain ⟨ic, hinfo⟩ := State.admits_class h
  rw [hinfo] at hclass
  rw [State.admits_iclass h hinfo hpass]
  exact Option.some.inj (hclass.resolve_right hne)

/-- Such a command waits for nothing more, but a snapshot for its place in the queue (R233, R509). -/
theorem State.issueWait_flying (h : s.admits c w a = true) (hop : w.opcode ∈ flyingOps) (hsnap : w.opcode = 0x80 → s.met.snaps.length < 16) :
    s.issueWait c w a = none := by
  have hclass := State.flying_class h hop
  obtain ⟨hlow, -⟩ := flyingOps_info _ hop
  unfold State.issueWait
  dsimp only
  rw [if_neg (by omega), if_neg (by omega), if_neg (by omega), if_neg (by omega)]
  split
  · next hmet => exact if_neg (by have := hsnap hmet; omega)
  · rfl

/-- The operand that a command of engine classes 5 to 11 carries: OPA, or OPC where it has none (R221). -/
def State.flyOpnd (s : State) (c : Nat) (w : Cmd) (a : Admitted) : Option Opnd :=
  ((s.instances c w a).head?.bind fun y => y.get 0).orElse fun _ => (s.instances c w a).head?.bind fun y => y.get 2

/-- A flying command that issues reaches its engine (R233). -/
theorem State.frontEnd_flying (hissues : s.issues c w a = true) (hop : w.opcode ∈ flyingOps) (hsnap : w.opcode = 0x80 → s.met.snaps.length < 16) :
    s.frontEnd c w = ((s.issued c w).issueOther c (s.pc c).toNat w (s.flyOpnd c w a)).overrun c := by
  obtain ⟨hready, hadmits, -⟩ := State.issues_iff.1 hissues
  have hclass := State.flying_class hadmits hop
  obtain ⟨hlow, -⟩ := flyingOps_info _ hop
  rw [State.frontEnd_issue hready hadmits (by omega) (State.issueWait_flying hadmits hop hsnap), State.issue]
  dsimp only
  rw [if_neg (by omega), if_neg (by omega), if_neg (by omega)]
  split
  all_goals first | omega | rfl

end

/-! ## What joins those in flight (R216, R284, R287) -/

/-- The command in flight that a command of engine classes 6 to 11 becomes. -/
def State.otherLive (s : State) (c off : Nat) (w : Cmd) (o : Option Opnd) : Live :=
  { id := (s.getCtx c).nextId, off := off, w := w, left := 1, clus := [], insts := [⟨0, 0, 0, (o.map fun x => (0, 0, x)).toList, 0⟩], step := s.step' c,
    par := 0, waits := w.iclass == 8 }

section
variable (s : State) (c off : Nat) (w : Cmd) (o : Option Opnd)

theorem State.flyOther_eq : (s.flyOther c off w o).1 = if w.iclass = 8 then
      (s.addLive c off w 1 [] (s.otherLive c off w o).insts 0 (w.iclass == 8)).1.askUnits
        [(s.addLive c off w 1 [] (s.otherLive c off w o).insts 0 (w.iclass == 8)).1.fabricUnit c (s.getCtx c).nextId w]
    else (s.addLive c off w 1 [] (s.otherLive c off w o).insts 0 (w.iclass == 8)).1 := rfl

theorem State.flyOther_ctx : (s.flyOther c off w o).1.ctx = (s.setCtx c
    { s.getCtx c with nextId := (s.getCtx c).nextId + 1, live := (s.getCtx c).live ++ [s.otherLive c off w o] }).ctx := by
  rw [State.flyOther_eq]
  split
  · rw [State.askUnits_ctx]
    rfl
  · rfl

theorem State.getCtx_flyOther : (s.flyOther c off w o).1.getCtx c =
    { s.getCtx c with nextId := (s.getCtx c).nextId + 1, live := (s.getCtx c).live ++ [s.otherLive c off w o] } := by
  rw [State.getCtx, State.flyOther_ctx]
  exact State.getCtx_setCtx_self _ _ _

theorem State.withIssue_flyOther (r : State) : r.withIssue (s.flyOther c off w o).1 = r.withIssue s := by
  rw [State.flyOther_eq]
  split
  · exact (congrArg r.withIssue (State.askUnits_frame _ _) :)
  · rfl

end

/-! ## Registers of a context's page -/

/-- A register of the ledger's page for the peak of a rail (R300). -/
theorem State.rd_notePeak (s : State) (b n : Nat) {k : Nat} (h : k ≠ railReg b Off.LEDG_RAIL_PEAK) : (s.notePeak b n).rd k = s.rd k := by
  unfold State.notePeak
  split
  · exact s.rd_wr_other _ h
  · rfl

theorem State.rd_grantRun (b n : Nat) (s : State) {k : Nat} (h : k ≠ railReg b Off.LEDG_RAIL_PEAK) : (State.grantRun b n s).rd k = s.rd k := by
  induction n generalizing s with
  | zero => rfl
  | succ n ih =>
    unfold State.grantRun
    split
    · next q _ =>
      split
      · rw [ih, State.rd_notePeak _ _ _ h]
        exact congrArg (mapGet (resetReg k) · k) (s.grantReq_regs q)
      · rfl
    · rfl

/-- A unit that asks for its current writes no register but the peak of its rail (R285, R300). -/
theorem State.rd_askUnits_one (s : State) (u : LUnit) {k : Nat} (h : k ≠ railReg u.acct Off.LEDG_RAIL_PEAK) : (s.askUnits [u]).rd k = s.rd k := by
  have hkeys : (([u].map fun u => (u.acct, u.ix)).eraseDups.map Prod.fst).eraseDups = [u.acct] := by simp [List.eraseDups_cons]
  have hjoin (t : State) : t.coverArrays.rd k = t.rd k := congrArg (mapGet (resetReg k) · k) t.coverArrays_regs
  unfold State.askUnits
  dsimp only
  rw [hkeys, List.filter_singleton]
  cases decide (8 ≤ u.acct) with
  | true => exact (State.rd_grantRun u.acct _ _ h).trans (hjoin _)
  | false => exact hjoin _

theorem State.rd_flyOther (s : State) (c off : Nat) (w : Cmd) (o : Option Opnd) {k : Nat} (h : k ≠ railReg 8 Off.LEDG_RAIL_PEAK) :
    (s.flyOther c off w o).1.rd k = s.rd k := by
  rw [State.flyOther_eq]
  split
  · exact State.rd_askUnits_one _ _ h
  · rfl

/-- Memory, the registers of a context's page and the numbers of its commands in flight are as before. -/
structure State.keepsStream (s : State) (c : Nat) (t : State) : Prop where
  page : ∀ o < 4096, t.rd (reg (pgCTX c) o) = s.rd (reg (pgCTX c) o)
  ids : (t.getCtx c).live.map Live.id = (s.getCtx c).live.map Live.id
  mem : t.mem = s.mem

theorem State.keepsStream.refl (s : State) (c : Nat) : s.keepsStream c s := ⟨fun _ _ => rfl, rfl, rfl⟩

theorem State.keepsStream.trans {s t u : State} {c : Nat} (hst : s.keepsStream c t) (htu : t.keepsStream c u) : s.keepsStream c u :=
  ⟨fun o ho => (htu.page o ho).trans (hst.page o ho), htu.ids.trans hst.ids, htu.mem.trans hst.mem⟩

/-- A change beside memory, registers and the records of contexts. -/
theorem State.keepsStream.of_eq {s t : State} (c : Nat) (hregs : t.regs = s.regs) (hctx : t.ctx = s.ctx) (hmem : t.mem = s.mem) : s.keepsStream c t :=
  ⟨fun o _ => by rw [State.rd, hregs, State.rd], by rw [State.getCtx, hctx, State.getCtx], hmem⟩

section
variable {s : State} {c : Nat} {w : Cmd} {a : Admitted}

/-- The state in which a flying command has joined those in flight and has asked for its current (R216, R287). -/
def State.flying (s : State) (c : Nat) (w : Cmd) (a : Admitted) : State := ((s.issued c w).flyOther c (s.pc c).toNat w (s.flyOpnd c w a)).1

theorem State.withIssue_flying : s.withIssue (s.flying c w a) = s :=
  (State.withIssue_flyOther (s.issued c w) c (s.pc c).toNat w _ s).trans (s.withIssue_issued c w)

theorem State.getCtx_flying : ((s.flying c w a).getCtx c).live = (s.getCtx c).live ++ [(s.issued c w).otherLive c (s.pc c).toNat w (s.flyOpnd c w a)] := by
  rw [State.flying, State.getCtx_flyOther, State.getCtx_issued, if_pos rfl]

theorem State.otherLive_issued_id (off : Nat) (o : Option Opnd) : ((s.issued c w).otherLive c off w o).id = (s.getCtx c).nextId := by
  rw [State.otherLive, State.getCtx_issued, if_pos rfl]

/-- Where what follows keeps the stream, a command that has joined those in flight has moved its stream on, inside its length (R239, R242). -/
theorem State.keepsStream.flown {t : State} (hc : c < 2 ^ 14) (hroom : s.room c ((s.pc c).toNat + 32) = true) (h : (s.flying c w a).keepsStream c t) :
    t.overrun c = t ∧ s.flown c t ∧ t.mem = s.mem := by
  have hreg {o : Nat} (ho : o < 4096) : t.rd (reg (pgCTX c) o) = (s.issued c w).rd (reg (pgCTX c) o) := by
    refine (h.page _ ho).trans (State.rd_flyOther _ c _ w _ ?_)
    exact reg_ne ho (by decide) (Or.inl (by unfold pgCTX pgLEDG; omega))
  have hpc : t.pc c = (s.issued c w).pc c := State.rd64_congr_page (hreg (o := Off.CTX_PC_LO) (by decide)) (hreg (o := Off.CTX_PC_LO + 4) (by decide))
  have hlen : t.streamLen c = s.streamLen c := (congrArg BitVec.toNat (hreg (o := Off.CTX_STREAM_LEN) (by decide))).trans (s.streamLen_issued c w)
  have hnext : (t.pc c).toNat = s.nextPc c ((s.pc c).toNat + 32) := (congrArg BitVec.toNat hpc).trans (State.pc_issued_toNat hroom)
  refine ⟨State.overrun_inside ?_, ⟨hnext, ?_⟩, h.mem.trans (congrArg State.mem State.withIssue_flying :)⟩
  · rw [hnext, hlen]
    exact of_decide_eq_true hroom
  · rw [h.ids, State.getCtx_flying, List.map_append, List.map_singleton, State.otherLive_issued_id]

end

/-! ## Fabric commands that have their current (R287) -/

/-- A command in flight waits no more for its current (R287). -/
def State.waitEnds (s : State) (c id : Nat) : State :=
  s.modCtx c fun r => { r with live := r.live.map fun x => if x.id == id then { x with waits := false } else x }

section
variable {s u : State} {c : Nat} {l : Live}

theorem State.keepsStream_waitEnds (s : State) (c id : Nat) : s.keepsStream c (s.waitEnds c id) where
  page _ _ := rfl
  ids := by
    rw [State.waitEnds, State.modCtx, State.getCtx_setCtx_self, List.map_map]
    refine List.map_congr_left fun x _ => ?_
    rw [Function.comp_apply]
    split <;> rfl
  mem := rfl

/-- Where none waited before, only the last command in flight can start (R287). -/
theorem State.startFabrics_last (hnone : s.noneWaits c = true) (hlive : (u.getCtx c).live = (s.getCtx c).live ++ [l]) :
    u.startFabrics c = if (l.w.iclass == 8 && l.waits && !u.waitsCurrent c l.id none) = true then u.startFabric c l else u := by
  have hrest : (s.getCtx c).live.filter (fun l => l.w.iclass == 8 && l.waits) = [] := by
    refine List.filter_eq_nil_iff.2 fun x hx => ?_
    simpa [imp_iff_not_or] using List.all_eq_true.1 hnone x hx
  unfold State.startFabrics
  rw [hlive, List.filter_append, hrest, List.nil_append, List.filter_singleton]
  cases hasks : (l.w.iclass == 8 && l.waits) with
  | false => rfl
  | true => cases hcur : u.waitsCurrent c l.id none <;> simp [hcur]

/-- A VOTE waits for the conditions of R380. -/
theorem State.startFabric_vote (h : l.w.opcode = 0x72) : s.startFabric c l = s.waitEnds c l.id := by
  unfold State.startFabric
  simp only [h]
  rfl

/-- A send that has its current runs (R371). -/
theorem State.startFabric_send (h : l.w.opcode = 0x70 ∨ l.w.opcode = 0x71) {xs : List SendRec} {x : SendRec} (hsends : s.sends = xs ++ [x]) (hctx : x.ctx = c)
    (hid : x.id = some l.id) : s.startFabric c l = (s.waitEnds c l.id).runSend x := by
  have hlast : (s.waitEnds c l.id).sends.reverse.find? (fun x => x.ctx == c && x.id == some l.id) = some x := by
    show s.sends.reverse.find? _ = _
    rw [hsends, List.reverse_append, List.reverse_singleton, List.singleton_append, List.find?_cons_of_pos (by simp [hctx, hid])]
  unfold State.startFabric
  rw [← State.waitEnds]
  rcases h with h | h <;> simp only [h, hlast]

/-- A parcel that has its current asks for its slot (R384). -/
theorem State.startFabric_parcel {o : Opnd} (h : l.w.opcode = 0x78) (ho : l.operand = some o) :
    s.startFabric c l = (s.waitEnds c l.id).parcelSend c l.id (l.w.op 0 12) o := by
  unfold State.startFabric
  simp only [h, ho]
  rfl

/-- The bytes of a push that has its current leave for its ring (R451). -/
theorem State.startFabric_push {o : Opnd} {t : State} (h : l.w.opcode = 0xB0) (ho : l.operand = some o)
    (hpush : (s.waitEnds c l.id).ckptPush c l.id (256 + l.w.op 0 8) o = .ok t) : s.startFabric c l = t := by
  unfold State.startFabric
  simp only [h, ho]
  rw [← State.waitEnds, hpush]

/-- A send whose window has not opened is held (R374). -/
theorem State.runSend_held {x : SendRec} (hopen : (s.getGrp x.slot).winOpen = false) (hshut : (s.getGrp x.slot).shut = false) : s.runSend x = s := by
  unfold State.runSend
  dsimp only
  refine if_pos ?_
  simp [State.sendReady, hopen, hshut]

theorem State.startDeadline_held {g n m : Nat} (hopen : (s.getGrp g).winOpen = false) : s.startDeadline g n m = s := by
  unfold State.startDeadline
  exact if_pos (by simp [hopen])

end

/-! ## Registers of a context's page while frames leave (R428, R459) -/

theorem State.rd_countFrame (s : State) (p : Nat) (tx : Bool) {k : Nat} (h : k ≠ ethReg p (if tx then Off.ETH_TX_FRAMES else Off.ETH_RX_FRAMES)) :
    (s.countFrame p tx).rd k = s.rd k := by
  unfold State.countFrame
  dsimp only
  split
  · exact State.rd_wr_other _ _ h
  · rfl

section
variable (s : State) {c : Nat} (hc : c < 2 ^ 14)
include hc

/-- A frame counts on its port, and on no page of a context (R428, R459). -/
theorem State.rd_sendFrame_ctx (p : Nat) (dom : Option Nat) (kind : String) (fields : List Nat) (data : List Byte) {o : Nat} (ho : o < 4096) :
    (s.sendFrame p dom kind fields data).rd (reg (pgCTX c) o) = s.rd (reg (pgCTX c) o) := by
  have hserdes : (s.serdes dom data.length).rd (reg (pgCTX c) o) = s.rd (reg (pgCTX c) o) := by
    unfold State.serdes State.addCharge
    split
    · split <;> rfl
    · rfl
  have hport : p < 18 → ∀ off < 4096, reg (pgCTX c) o ≠ ethReg p off := fun hp off hoff => reg_ne ho hoff (Or.inl (by unfold pgCTX pgETH; omega))
  unfold State.sendFrame
  generalize hsends : (s.portCarries p && _) = b
  cases b with
  | false => rfl
  | true =>
    have hp : p < 18 := by
      simp only [State.portCarries, State.portPresent, Bool.and_eq_true, decide_eq_true_eq] at hsends
      tauto
    exact (State.rd_countFrame _ p true (hport hp Off.ETH_TX_FRAMES (by decide))).trans hserdes

theorem State.keepsStream_sendFrame (p : Nat) (dom : Option Nat) (kind : String) (fields : List Nat) (data : List Byte) :
    s.keepsStream c (s.sendFrame p dom kind fields data) :=
  ⟨fun _ ho => s.rd_sendFrame_ctx hc p dom kind fields data ho, by rw [State.getCtx, State.sendFrame_ctx, State.getCtx], State.sendFrame_mem _ _ _ _ _ _⟩

theorem State.keepsStream_qpSend (q : Nat) (kind : String) (fields : List Nat) (data : List Byte) : s.keepsStream c (s.qpSend q kind fields data) := by
  unfold State.qpSend
  dsimp only
  split
  · exact State.keepsStream.refl s c
  · refine State.keepsStream.trans (State.keepsStream.of_eq c ?_ ?_ ?_) (State.keepsStream_sendFrame _ hc _ _ _ _ _) <;> rfl

end

/-! ## A parcel asks for its slot (R384) -/

section
variable {s : State} {c id p : Nat} {o : Opnd}

theorem State.parcelSend_asks (hstate : bit (s.rd (pclReg p Off.COLL_PCL_STATE)) 2 = false) (hqp : s.qpState (s.pclQp p) ≠ 2) (hc : c < 2 ^ 14) :
    s.keepsStream c (s.parcelSend c id p o) ∧ (s.parcelSend c id p o).parcels = s.parcels ++ [{ parcel := p, ctx := c, id := id, o := o }] := by
  unfold State.parcelSend
  dsimp only
  rw [if_neg (by simp [hstate, hqp])]
  constructor
  · refine State.keepsStream.trans (State.keepsStream.of_eq c ?_ ?_ ?_) (State.keepsStream_sendFrame _ hc _ _ _ _ _) <;> rfl
  · exact (congrArg State.parcels (State.sendFrame_frame _ _ _ _ _ _) :)

end

/-! ## Bytes join the open checkpoint (R451) -/

section
variable {s : State} {c id r : Nat} {o : Opnd} {bs : List Byte} {k : Ckpt}

/-- The records of contexts are none of what an operand's bytes depend on. -/
theorem State.seqBytes_withCtx (s : State) (m : List (Nat × CtxRec)) (d : Nat) (o : Opnd) : ({ s with ctx := m } : State).seqBytes d o false = s.seqBytes d o false := rfl

/-- The bytes of a push join the checkpoint that is open, and leave (R450, R451). -/
theorem State.ckptPush_joins (hc : c < 2 ^ 14) (hruns : s.ringRuns r = true) (hring : s.ringCtx r = c) (hbytes : s.seqBytes (s.domOf c) o false = .ok bs)
    (hopen : (s.getRing r).ckpt = some k) (hfits : k.bytes + bs.length ≤ (s.rd (ringReg r Off.MGMT_RING_SIZE)).toNat * 4096) :
    ∃ t, s.ckptPush c id r o = .ok t ∧ s.keepsStream c t ∧ ∃ k', (t.getRing r).ckpt = some k' ∧
      k'.bytes = k.bytes + bs.length ∧ k'.pushed = true ∧ k'.unacked = k.unacked ++ [some (c, id)] := by
  refine ⟨(s.ckptWrite r k bs (some (c, id))).1.setCkpt r { (s.ckptWrite r k bs (some (c, id))).2 with pushed := true }, ?_, ?_, ?_⟩
  · unfold State.ckptPush
    dsimp only
    rw [if_neg (by simp [hruns, hring]), hbytes]
    simp only [bind, Except.bind, hopen]
    rw [if_neg (by omega)]
    rfl
  · exact (s.keepsStream_qpSend hc _ _ _ _).trans (State.keepsStream.of_eq c rfl rfl rfl)
  · exact ⟨_, congrArg RingRec.ckpt (State.getRing_setRing_self _ _ _), rfl, rfl, rfl⟩

end

/-! ## What the commands become (R371, R380, R384, R451, R509) -/

section
variable {s : State} {c off g : Nat} {w : Cmd} {o : Option Opnd} {x : Opnd}

/-- A vote of group slot g has joined the step of its context (R380). -/
def State.votes (s : State) (c id g : Nat) : State :=
  (s.modStep c fun r => { r with votes := r.votes ++ [(id, g)] }).modCtx c fun r => { r with voted := true }

/-- The record of a send (R371). -/
def sendRec (c id off g n : Nat) (rs : Bool) (o : Opnd) : SendRec := { ctx := c, id := some id, off := off, slot := g, tensor := n, rs := rs, o := o }

/-- A send has joined those of the exchange (R371). -/
def State.withSend (s : State) (r : SendRec) : State := { s with sends := s.sends ++ [r] }

/-- A send has joined those of the exchange, with its own deadline (R371, R375). -/
def State.sending (s : State) (c id off g n at' : Nat) (rs : Bool) (o : Opnd) : State :=
  (s.withSend (sendRec c id off g n rs o)).startDeadline g n at'

theorem State.issueOther_vote (hop : w.opcode = 0x72) (hg : s.slotFor c (w.op 0 20) = some g) :
    s.issueOther c off w o = ((s.flyOther c off w o).1.votes c (s.getCtx c).nextId g).startFabrics c := by
  unfold State.issueOther
  simp only [hop, hg]
  rfl

theorem State.issueOther_send {rs : Bool} (hop : w.opcode = if rs then 0x70 else 0x71) (hg : s.slotFor c (w.op 0 20) = some g) :
    s.issueOther c off w (some x) =
      ((s.flyOther c off w (some x)).1.sending c (s.getCtx c).nextId off g (w.op 20 16) s.now.toNat rs x).startFabrics c := by
  unfold State.issueOther
  cases rs <;> simp only [hop, hg, if_true, if_false, Bool.false_eq_true] <;> rfl

theorem State.issueOther_parcel (hop : w.opcode = 0x78) (hp : s.pclOf c (w.op 0 12) = true) : s.issueOther c off w o = (s.flyOther c off w o).1.startFabrics c := by
  unfold State.issueOther
  simp only [hop, hp]
  rfl

theorem State.issueOther_push (hop : w.opcode = 0xB0) : s.issueOther c off w o = (s.flyOther c off w o).1.startFabrics c := by
  unfold State.issueOther
  simp only [hop]

/-- A report is queued behind those that wait (R509). -/
def State.reporting (s : State) (r : SnapRec) : State := { s with met := { s.met with snaps := s.met.snaps ++ [r] } }

theorem State.issueOther_snapshot (hop : w.opcode = 0x80) : s.issueOther c off w (some x) =
    (s.flyOther c off w (some x)).1.reporting ⟨c, (s.getCtx c).nextId, x, s.step' c⟩ := by
  unfold State.issueOther
  simp only [hop]
  rfl

end

/-- Beside the wait of a command of context c nothing has changed. -/
structure State.endsWait (s : State) (c : Nat) (t : State) : Prop where
  keeps : s.keepsStream c t
  frame : { t with ctx := s.ctx } = s
  voted : (t.getCtx c).voted = (s.getCtx c).voted

theorem State.endsWait_refl (s : State) (c : Nat) : s.endsWait c s := ⟨State.keepsStream.refl s c, rfl, rfl⟩

theorem State.endsWait_waitEnds (s : State) (c id : Nat) : s.endsWait c (s.waitEnds c id) :=
  ⟨s.keepsStream_waitEnds c id, rfl, by rw [State.waitEnds, State.modCtx, State.getCtx_setCtx_self]⟩

section
variable {s u : State} {c : Nat} {w : Cmd} {a : Admitted}

/-- The command in flight that a flying command becomes. -/
def State.flyLive (s : State) (c : Nat) (w : Cmd) (a : Admitted) : Live := (s.issued c w).otherLive c (s.pc c).toNat w (s.flyOpnd c w a)

theorem State.flyLive_id : (s.flyLive c w a).id = (s.getCtx c).nextId := State.otherLive_issued_id _ _

/-- A command that has joined those in flight starts when it has its current, where no other waits (R287). -/
theorem State.startFabrics_flying (hnone : s.noneWaits c = true) (hlive : (u.getCtx c).live = ((s.flying c w a).getCtx c).live) :
    u.startFabrics c = if (w.iclass == 8 && !u.waitsCurrent c (s.getCtx c).nextId none) = true then u.startFabric c (s.flyLive c w a) else u := by
  have h := State.startFabrics_last hnone (hlive.trans State.getCtx_flying)
  rw [← State.flyLive, State.flyLive_id, show (s.flyLive c w a).w = w from rfl, show (s.flyLive c w a).waits = (w.iclass == 8) from rfl, Bool.and_self] at h
  exact h

/-- A flying command that issues commits what its engine makes of it. -/
theorem State.commit_flying (hissues : s.issues c w a = true) (hop : w.opcode ∈ flyingOps) (hsnap : w.opcode = 0x80 → s.met.snaps.length < 16)
    (heq : (s.issued c w).issueOther c (s.pc c).toNat w (s.flyOpnd c w a) = u) : s.commit (s.frontEnd c w) = .next { u.overrun c with pending := s.pending } := by
  rw [State.frontEnd_flying hissues hop hsnap, heq, State.commit]

/-- What keeps the stream of a flying command commits it, flown and with memory as before. -/
theorem State.keepsStream.commit (hc : c < 2 ^ 14) (hissues : s.issues c w a = true) (h : (s.flying c w a).keepsStream c u) :
    { u.overrun c with pending := s.pending } = { u with pending := s.pending } ∧ s.flown c { u with pending := s.pending } ∧
      ({ u with pending := s.pending } : State).mem = s.mem := by
  obtain ⟨-, -, hroom⟩ := State.issues_iff.1 hissues
  obtain ⟨hover, hflown, hmem⟩ := h.flown hc hroom
  rw [hover]
  exact ⟨rfl, hflown, hmem⟩

/-- A vote changes the step of its context and its record (R380). -/
theorem State.keepsStream_votes (u : State) (c id g : Nat) : u.keepsStream c (u.votes c id g) where
  page _ _ := rfl
  ids := by rw [State.votes, State.modCtx, State.getCtx_setCtx_self]; rfl
  mem := rfl

theorem State.nextId_issued : ((s.issued c w).getCtx c).nextId = (s.getCtx c).nextId := by rw [State.getCtx_issued, if_pos rfl]

theorem State.now_issued : (s.issued c w).now = s.now := (congrArg State.now (s.withIssue_issued c w) :)

theorem State.votes_live (u : State) (c id g : Nat) : ((u.votes c id g).getCtx c).live = (u.getCtx c).live := by
  rw [State.votes, State.modCtx, State.getCtx_setCtx_self]
  rfl

theorem State.votes_step (u : State) (c id g : Nat) : ((u.votes c id g).getStep c).votes = (u.getStep c).votes ++ [(id, g)] ∧ ((u.votes c id g).getCtx c).voted = true := by
  have hstep : (u.votes c id g).getStep c = { u.getStep c with votes := (u.getStep c).votes ++ [(id, g)] } := State.getStep_setStep_self _ _ _
  exact ⟨by rw [hstep], by rw [State.votes, State.modCtx, State.getCtx_setCtx_self]⟩

/-- A VOTE that issues has joined its step, and waits for the conditions of R380. -/
theorem State.vote_flies {g : Nat} (hc : c < 2 ^ 14) (hissues : s.issues c w a = true) (hop : w.opcode = 0x72) (hg : (s.issued c w).slotFor c (w.op 0 20) = some g)
    (hnone : s.noneWaits c = true) : ∃ t, s.commit (s.frontEnd c w) = .next t ∧ s.flown c t ∧ t.mem = s.mem ∧
      (t.getStep c).votes = (s.getStep c).votes ++ [((s.getCtx c).nextId, g)] ∧ (t.getCtx c).voted = true := by
  have hmem : w.opcode ∈ flyingOps := by rw [hop]; decide
  have heq := State.issueOther_vote (off := (s.pc c).toNat) (o := s.flyOpnd c w a) hop hg
  have hsteps : (s.flying c w a).getStep c = s.getStep c := congrArg (mapGet ({} : StepRec) · c) (congrArg State.steps State.withIssue_flying :)
  have hkeeps := (s.flying c w a).keepsStream_votes c (s.getCtx c).nextId g
  obtain ⟨hvotes, hvoted⟩ := (s.flying c w a).votes_step c (s.getCtx c).nextId g
  have hends : ((s.flying c w a).votes c (s.getCtx c).nextId g).endsWait c (((s.flying c w a).votes c (s.getCtx c).nextId g).startFabrics c) := by
    rw [State.startFabrics_flying hnone (State.votes_live _ _ _ _)]
    split
    · rw [State.startFabric_vote hop]
      exact State.endsWait_waitEnds _ _ _
    · exact State.endsWait_refl _ _
  rw [State.nextId_issued, ← State.flying] at heq
  rw [State.commit_flying hissues hmem (by omega) heq]
  generalize (s.flying c w a).votes c (s.getCtx c).nextId g = v at *
  generalize v.startFabrics c = t at *
  obtain ⟨hover, hflown, hsame⟩ := (hkeeps.trans hends.keeps).commit hc hissues
  refine ⟨_, congrArg Host.Outcome.next hover, hflown, hsame, ?_, hends.voted.trans hvoted⟩
  have hstep : t.getStep c = v.getStep c := congrArg (mapGet ({} : StepRec) · c) (congrArg State.steps hends.frame :)
  refine (congrArg StepRec.votes hstep).trans (hvotes.trans ?_)
  rw [hsteps]

/-- A send whose window is closed joins those of the exchange and nothing else (R374, R375). -/
theorem State.sending_held (u : State) (c id off g n at' : Nat) (rs : Bool) (o : Opnd) (hopen : (u.getGrp g).winOpen = false) :
    u.sending c id off g n at' rs o = u.withSend (sendRec c id off g n rs o) :=
  State.startDeadline_held hopen

/-- A held send does not run, with its current or without (R374). -/
theorem State.startFabrics_held {x : SendRec} {xs : List SendRec} (hnone : s.noneWaits c = true) (hlive : (u.getCtx c).live = ((s.flying c w a).getCtx c).live)
    (hop : w.opcode = 0x70 ∨ w.opcode = 0x71) (hsends : u.sends = xs ++ [x]) (hctx : x.ctx = c) (hid : x.id = some (s.getCtx c).nextId)
    (hopen : (u.getGrp x.slot).winOpen = false) (hshut : (u.getGrp x.slot).shut = false) : u.endsWait c (u.startFabrics c) := by
  rw [State.startFabrics_flying hnone hlive]
  split
  · rw [State.startFabric_send (l := s.flyLive c w a) hop hsends hctx (hid.trans (congrArg some State.flyLive_id.symm))]
    rw [State.runSend_held (s := u.waitEnds c _) hopen hshut]
    exact State.endsWait_waitEnds _ _ _
  · exact State.endsWait_refl _ _

/-- What has joined those in flight and ended its wait, or not, is committed as it is. -/
theorem State.endsWait.commit {v t : State} (hc : c < 2 ^ 14) (hissues : s.issues c w a = true) (hkeeps : (s.flying c w a).keepsStream c v) (h : v.endsWait c t) :
    Host.Outcome.next { t.overrun c with pending := s.pending } = (Host.Outcome.next { t with pending := s.pending } : Answer) ∧
      s.flown c { t with pending := s.pending } ∧ ({ t with pending := s.pending } : State).mem = s.mem := by
  obtain ⟨hover, hflown, hsame⟩ := (hkeeps.trans h.keeps).commit hc hissues
  exact ⟨congrArg Host.Outcome.next hover, hflown, hsame⟩

/-- A send has joined those of the exchange, and is held where its window is closed (R371, R374). -/
theorem State.send_flies {g : Nat} {rs : Bool} {x : Opnd} (hc : c < 2 ^ 14) (hissues : s.issues c w a = true) (hop : w.opcode = if rs then 0x70 else 0x71)
    (hx : s.flyOpnd c w a = some x) (hg : (s.issued c w).slotFor c (w.op 0 20) = some g) :
    s.commit (s.frontEnd c w) = .next { (((s.flying c w a).sending c (s.getCtx c).nextId (s.pc c).toNat g (w.op 20 16) s.now.toNat rs x).startFabrics c).overrun c with
      pending := s.pending } ∧
    (s.noneWaits c = true → (s.getGrp g).winOpen = false → (s.getGrp g).shut = false → ∃ t, s.commit (s.frontEnd c w) = .next t ∧ s.flown c t ∧ t.mem = s.mem ∧
      t.sends = s.sends ++ [sendRec c (s.getCtx c).nextId (s.pc c).toNat g (w.op 20 16) rs x]) := by
  have hmem : w.opcode ∈ flyingOps := by cases rs <;> simp [hop, flyingOps]
  have hsend : w.opcode = 0x70 ∨ w.opcode = 0x71 := by cases rs <;> simp [hop]
  have heq := State.issueOther_send (off := (s.pc c).toNat) (x := x) hop hg
  rw [State.nextId_issued, State.now_issued, ← hx, ← State.flying, hx] at heq
  have hcommit := State.commit_flying hissues hmem (by omega) ((congrArg _ hx).trans heq)
  refine ⟨hcommit, fun hnone hopen hshut => ?_⟩
  have hgrp : (s.flying c w a).getGrp g = s.getGrp g := congrArg (mapGet ({} : GrpRec) · g) (congrArg State.grps State.withIssue_flying :)
  have hsends : (s.flying c w a).sends = s.sends := (congrArg State.sends State.withIssue_flying :)
  rw [hcommit, State.sending_held _ _ _ _ _ _ _ _ _ (by rw [hgrp]; exact hopen), ← hsends]
  generalize hr : sendRec c (s.getCtx c).nextId (s.pc c).toNat g (w.op 20 16) rs x = r
  have hslot : r.ctx = c ∧ r.id = some (s.getCtx c).nextId ∧ r.slot = g := by subst hr; exact ⟨rfl, rfl, rfl⟩
  obtain ⟨hctx, hid, hslot⟩ := hslot
  have hends : ((s.flying c w a).withSend r).endsWait c (((s.flying c w a).withSend r).startFabrics c) :=
    State.startFabrics_held hnone rfl hsend rfl hctx hid (by rw [hslot]; exact (congrArg GrpRec.winOpen hgrp).trans hopen)
      (by rw [hslot]; exact (congrArg GrpRec.shut hgrp).trans hshut)
  have hkeeps : (s.flying c w a).keepsStream c ((s.flying c w a).withSend r) := State.keepsStream.of_eq c rfl rfl rfl
  have hsent : ((s.flying c w a).withSend r).sends = (s.flying c w a).sends ++ [r] := rfl
  rw [← hsent]
  generalize (s.flying c w a).withSend r = v at *
  generalize v.startFabrics c = t at *
  obtain ⟨hover, hflown, hsame⟩ := hends.commit hc hissues hkeeps
  exact ⟨_, hover, hflown, hsame, (congrArg State.sends hends.frame :)⟩

/-- A parcel goes to its endpoint, and asks for a landing slot where it has its current (R287, R384). -/
theorem State.parcel_flies {x : Opnd} (hc : c < 2 ^ 14) (hissues : s.issues c w a = true) (hop : w.opcode = 0x78) (hx : s.flyOpnd c w a = some x)
    (hp : (s.issued c w).pclOf c (w.op 0 12) = true) :
    s.commit (s.frontEnd c w) = .next { ((s.flying c w a).startFabrics c).overrun c with pending := s.pending } ∧
    (s.noneWaits c = true → (s.flying c w a).waitsCurrent c (s.getCtx c).nextId none = false →
      bit ((s.flying c w a).rd (pclReg (w.op 0 12) Off.COLL_PCL_STATE)) 2 = false → (s.flying c w a).qpState ((s.flying c w a).pclQp (w.op 0 12)) ≠ 2 →
      ∃ t, s.commit (s.frontEnd c w) = .next t ∧ s.flown c t ∧ t.mem = s.mem ∧
        t.parcels = s.parcels ++ [{ parcel := w.op 0 12, ctx := c, id := (s.getCtx c).nextId, o := x }]) := by
  have hmem : w.opcode ∈ flyingOps := by rw [hop]; decide
  obtain ⟨-, hadmits, -⟩ := State.issues_iff.1 hissues
  have hclass : w.iclass = 8 := State.fabric_iclass hadmits hmem (by omega)
  have hcommit := State.commit_flying hissues hmem (by omega) (State.issueOther_parcel (off := (s.pc c).toNat) (o := s.flyOpnd c w a) hop hp)
  rw [← State.flying] at hcommit
  refine ⟨hcommit, fun hnone hcurrent hstate hqp => ?_⟩
  have hparcels : (s.flying c w a).parcels = s.parcels := (congrArg State.parcels State.withIssue_flying :)
  have hoperand : (s.flyLive c w a).operand = some x := by rw [State.flyLive, hx]; rfl
  rw [hcommit, State.startFabrics_flying hnone rfl, if_pos (by rw [hclass, hcurrent]; rfl), State.startFabric_parcel (l := s.flyLive c w a) hop hoperand,
    State.flyLive_id, ← hparcels]
  have hends := (s.flying c w a).keepsStream_waitEnds c (s.getCtx c).nextId
  obtain ⟨hasks, hparcel⟩ := State.parcelSend_asks (s := (s.flying c w a).waitEnds c (s.getCtx c).nextId) (id := (s.getCtx c).nextId) (o := x) hstate hqp hc
  obtain ⟨hover, hflown, hsame⟩ := (hends.trans hasks).commit hc hissues
  exact ⟨_, congrArg Host.Outcome.next hover, hflown, hsame, hparcel⟩

/-- A push goes to its endpoint, and its bytes join the open checkpoint where it has its current (R287, R451). -/
theorem State.push_flies {x : Opnd} {bs : List Byte} {k : Ckpt} (hc : c < 2 ^ 14) (hissues : s.issues c w a = true) (hop : w.opcode = 0xB0)
    (hx : s.flyOpnd c w a = some x) :
    s.commit (s.frontEnd c w) = .next { ((s.flying c w a).startFabrics c).overrun c with pending := s.pending } ∧
    (s.noneWaits c = true → (s.flying c w a).waitsCurrent c (s.getCtx c).nextId none = false → (s.flying c w a).ringRuns (256 + w.op 0 8) = true →
      (s.flying c w a).ringCtx (256 + w.op 0 8) = c → (s.flying c w a).seqBytes ((s.flying c w a).domOf c) x false = .ok bs →
      (s.getRing (256 + w.op 0 8)).ckpt = some k →
      k.bytes + bs.length ≤ ((s.flying c w a).rd (ringReg (256 + w.op 0 8) Off.MGMT_RING_SIZE)).toNat * 4096 →
      ∃ t, s.commit (s.frontEnd c w) = .next t ∧ s.flown c t ∧ t.mem = s.mem ∧ ∃ k', (t.getRing (256 + w.op 0 8)).ckpt = some k' ∧
        k'.bytes = k.bytes + bs.length ∧ k'.pushed = true ∧ k'.unacked = k.unacked ++ [some (c, (s.getCtx c).nextId)]) := by
  have hmem : w.opcode ∈ flyingOps := by rw [hop]; decide
  obtain ⟨-, hadmits, -⟩ := State.issues_iff.1 hissues
  have hclass : w.iclass = 8 := State.fabric_iclass hadmits hmem (by omega)
  have hcommit := State.commit_flying hissues hmem (by omega) (State.issueOther_push (off := (s.pc c).toNat) (o := s.flyOpnd c w a) hop)
  rw [← State.flying] at hcommit
  refine ⟨hcommit, fun hnone hcurrent hruns hring hbytes hopen hfits => ?_⟩
  have hrings : (s.flying c w a).getRing (256 + w.op 0 8) = s.getRing (256 + w.op 0 8) :=
    congrArg (mapGet ({} : RingRec) · (256 + w.op 0 8)) (congrArg State.rings State.withIssue_flying :)
  have hoperand : (s.flyLive c w a).operand = some x := by rw [State.flyLive, hx]; rfl
  have hends := (s.flying c w a).keepsStream_waitEnds c (s.getCtx c).nextId
  obtain ⟨t, hpush, hkeeps, k', hk, hjoin⟩ := State.ckptPush_joins (s := (s.flying c w a).waitEnds c (s.getCtx c).nextId) (id := (s.getCtx c).nextId) (o := x)
    hc hruns hring ((State.seqBytes_withCtx _ _ _ _).trans hbytes) ((congrArg RingRec.ckpt hrings).trans hopen) hfits
  rw [hcommit, State.startFabrics_flying hnone rfl, if_pos (by rw [hclass, hcurrent]; rfl),
    State.startFabric_push (l := s.flyLive c w a) (t := t) hop hoperand (by rw [State.flyLive_id]; exact hpush)]
  obtain ⟨hover, hflown, hsame⟩ := (hends.trans hkeeps).commit hc hissues
  exact ⟨_, congrArg Host.Outcome.next hover, hflown, hsame, k', hk, hjoin⟩

/-- A snapshot joins those in flight, and its report is queued (R509). -/
theorem State.snapshot_flies {x : Opnd} (hc : c < 2 ^ 14) (hissues : s.issues c w a = true) (hop : w.opcode = 0x80) (hx : s.flyOpnd c w a = some x)
    (hroom : s.met.snaps.length < 16) : ∃ t, s.commit (s.frontEnd c w) = .next t ∧ s.flown c t ∧ t.mem = s.mem ∧
      t.met.snaps = s.met.snaps ++ [⟨c, (s.getCtx c).nextId, x, s.step' c⟩] := by
  have hmem : w.opcode ∈ flyingOps := by rw [hop]; decide
  have heq := State.issueOther_snapshot (s := s.issued c w) (off := (s.pc c).toNat) (c := c) (x := x) hop
  rw [State.nextId_issued, State.step'_issued, ← hx, ← State.flying, hx] at heq
  rw [State.commit_flying hissues hmem (fun _ => hroom) ((congrArg _ hx).trans heq)]
  have hsnaps : (s.flying c w a).met.snaps = s.met.snaps := (congrArg (fun u : State => u.met.snaps) State.withIssue_flying :)
  rw [← hsnaps]
  generalize (⟨c, (s.getCtx c).nextId, x, s.step' c⟩ : SnapRec) = r
  have hkeeps : (s.flying c w a).keepsStream c ((s.flying c w a).reporting r) := State.keepsStream.of_eq c rfl rfl rfl
  have hreport : ((s.flying c w a).reporting r).met.snaps = (s.flying c w a).met.snaps ++ [r] := rfl
  rw [← hreport]
  generalize (s.flying c w a).reporting r = t at *
  obtain ⟨hover, hflown, hsame⟩ := hkeeps.commit hc hissues
  exact ⟨_, congrArg Host.Outcome.next hover, hflown, hsame, rfl⟩

/-- A command of its own opcode runs the front end in its row. -/
theorem streamRow_of_opcode {op : Nat} {c : Ctx} (h : w.opcode = op) : streamRow op c w s = s.commit (s.frontEnd c.toNat w) :=
  streamRow_wf (by simp [opcodeOk, h])

end

/-- Settles O19: each row runs the front end, in which its command joins those in flight of its context. -/
theorem commandsThatFly : Obligations.CommandsThatFly := by
  unfold Obligations.CommandsThatFly
  intro s c w a o g bs k x pc id op f sent goes held hissues
  have hc : x < 2 ^ 14 := c.isLt
  refine ⟨fun hop hg hnone => ?_, fun hop ho hg => ?_, fun hop ho hg => ?_, fun hop ho hp => ?_, fun hop ho => ?_, fun hop ho hroom => ?_⟩
  · obtain ⟨t, ht, h⟩ := State.vote_flies hc hissues hop hg hnone
    exact ⟨t, (streamRow_of_opcode hop).trans ht, h⟩
  · obtain ⟨hgoes, hheld⟩ := State.send_flies (rs := true) hc hissues hop ho hg
    refine ⟨(streamRow_of_opcode hop).trans hgoes, fun hnone hopen hshut => ?_⟩
    obtain ⟨t, ht, h⟩ := hheld hnone hopen hshut
    exact ⟨t, (streamRow_of_opcode hop).trans ht, h⟩
  · obtain ⟨hgoes, hheld⟩ := State.send_flies (rs := false) hc hissues hop ho hg
    refine ⟨(streamRow_of_opcode hop).trans hgoes, fun hnone hopen hshut => ?_⟩
    obtain ⟨t, ht, h⟩ := hheld hnone hopen hshut
    exact ⟨t, (streamRow_of_opcode hop).trans ht, h⟩
  · obtain ⟨hgoes, hasks⟩ := State.parcel_flies hc hissues hop ho hp
    refine ⟨(streamRow_of_opcode hop).trans hgoes, fun hnone hcurrent hstate hqp => ?_⟩
    obtain ⟨t, ht, h⟩ := hasks hnone hcurrent hstate hqp
    exact ⟨t, (streamRow_of_opcode hop).trans ht, h⟩
  · obtain ⟨hgoes, hjoins⟩ := State.push_flies (bs := bs) (k := k) hc hissues hop ho
    refine ⟨(streamRow_of_opcode hop).trans hgoes, fun hnone hcurrent hruns hring hbytes hopen hfits => ?_⟩
    obtain ⟨t, ht, h⟩ := hjoins hnone hcurrent hruns hring hbytes hopen hfits
    exact ⟨t, (streamRow_of_opcode hop).trans ht, h⟩
  · obtain ⟨t, ht, h⟩ := State.snapshot_flies hc hissues hop ho hroom
    exact ⟨t, (streamRow_of_opcode hop).trans ht, h⟩

end Sys2Proof.Machine
end

section
/-! PROOFS. Resets and the pins that begin them (R542, R543, R546, R548, R551, R553): what a change of registers on other pages leaves, the cold resets and the strap of a cold start. -/

namespace Sys2Proof.Machine

open Sys2Proof

/-! ## Changes of registers on other pages -/

/-- Only registers have changed, and none of page p. -/
structure State.beside (s : State) (p : Nat) (t : State) : Prop where
  frame : s.withRegs t = s
  page : ∀ o < 4096, t.rd (reg p o) = s.rd (reg p o)

namespace State.beside
variable {s t u : State} {p : Nat}

theorem refl (s : State) (p : Nat) : s.beside p s := ⟨rfl, fun _ _ => rfl⟩

theorem trans (hst : s.beside p t) (htu : t.beside p u) : s.beside p u where
  frame := by
    have h : s.withRegs (t.withRegs u) = s.withRegs t := by rw [htu.frame]
    exact h.trans hst.frame
  page o ho := (htu.page o ho).trans (hst.page o ho)

theorem wr (s : State) {p k : Nat} (v : Word) (h : k / 4096 ≠ p) : s.beside p (s.wr k v) :=
  ⟨rfl, fun o ho => s.rd_wr_other v fun he => h (by rw [← he, reg_div p ho])⟩

/-- A register of another page. -/
theorem wr_reg (s : State) {p q o : Nat} (v : Word) (ho : o < 4096) (h : q ≠ p) : s.beside p (s.wr (reg q o) v) := wr s v (by rw [reg_div q ho]; exact h)

theorem foldl {α : Type} {f : State → α → State} (h : ∀ (t : State) a, t.beside p (f t a)) (l : List α) (s : State) : s.beside p (l.foldl f s) :=
  foldl_keeps (fun t => s.beside p t) f (fun t a ht => ht.trans (h t a)) l s (refl s p)

theorem stage (h : s.beside pgRST t) : t.stage = s.stage := congrArg (fld · 0 4) (h.page Off.RST_STAGE (by decide))

end State.beside

theorem State.rd_of_regs {s t : State} (h : t.regs = s.regs) (k : Nat) : t.rd k = s.rd k := congrArg (mapGet (resetReg k) · k) h

theorem fld_ofNat {n lo : Nat} (hn : n < 2 ^ lo) (hlo : lo ≤ 32) : fld (BitVec.ofNat 32 n) 0 lo = n := by
  have hword : n < 2 ^ 32 := lt_of_lt_of_le hn (Nat.pow_le_pow_right (by decide) hlo)
  simp only [fld, pow_zero, Nat.div_one, BitVec.toNat_ofNat, Nat.mod_eq_of_lt hword, Nat.mod_eq_of_lt hn]

theorem State.stage_setStage (s : State) {n : Nat} (h : n < 16) : (s.setStage n).stage = n := by
  unfold State.stage State.setStage
  rw [State.rd_wr_self]
  exact fld_ofNat (lo := 4) h (by decide)

/-- A pulse under way is the last of its burn (R545): beside its record and NVM_STATE nothing changes. -/
theorem State.holdPulse_frame (s : State) : { s.holdPulse with regs := s.regs, nv := s.nv } = s := by
  unfold State.holdPulse
  split <;> rfl

theorem State.holdPulse_page (s : State) {p o : Nat} (ho : o < 4096) (hp : p ≠ pgNVM) : s.holdPulse.rd (reg p o) = s.rd (reg p o) := by
  unfold State.holdPulse
  split
  · rfl
  · exact State.rd_wr_other _ _ (reg_ne ho (by decide) (Or.inl hp))

/-! ## Cold resets (R542, R543, R546) -/

/-- The cause that a cold reset records (R556). -/
def coldCause (power : Bool) : Nat := if power then 1 else 2

/-- The state that a cold reset clears, before its cause is recorded (R546). -/
def State.coldCleared (s : State) (power : Bool) : State :=
  if power then (s.clearBlocks .powerOn).clearCold.clearPower else (s.clearBlocks .resetN).clearCold

/-- No start is warm after a cold reset, and no pin is held (R546, R549). -/
def State.coldPins (s : State) : State := { s with warmStart := false, deferred := false, heldStatus := none, heldAlert := none }

/-- The end of a cold reset: its cause, its count and the stage (R542, R560). -/
def State.coldEnd (s : State) (n : Nat) : State := (((s.setCause n).inc (rstReg Off.RST_COUNT_COLD)).setStage 0).coldPins

/-- A state with the registers, the start and the held pins of another. -/
def State.withColdEnd (s u : State) : State :=
  { u with regs := s.regs, warmStart := s.warmStart, deferred := s.deferred, heldStatus := s.heldStatus, heldAlert := s.heldAlert }

/-- The records that every reset keeps (R546). -/
def State.repairRecords (s : State) : FuseRec × List Repair × List (Nat × Nat) × List (Nat × FwSlot) × List (Nat × Nat) := (s.fuse, s.repairs, s.openCnt, s.slots, s.svnMin)

/-- What RESET_N keeps beyond that (R543, R546). -/
def State.tables (s : State) : List (Nat × Gran) × List (Nat × List Region) × List (Nat × Region) × MetTotals × Bool × Bool :=
  (s.grans, s.active, s.staged, s.met.tot, s.met.running, s.powered)

/-- Memory, its marks and the metrology unit. -/
def State.stores (s : State) : List (Nat × Byte) × List (Nat × LineMark) × MetRec := (s.mem, s.marks, s.met)

/-- What every reset empties (R546). -/
def State.emptied (t : State) : Prop :=
  t.ctx = [] ∧ t.cores = [] ∧ t.sess = [] ∧ t.alerts = [] ∧ t.grps = [] ∧ t.rings = [] ∧ t.saves = [] ∧ t.wc = [] ∧ t.warm = none ∧ t.fatal = none

/-- The records that every reset empties, together. -/
def State.volatile (t : State) : List (Nat × CtxRec) × List (Nat × CoreRec) × List (Nat × SessRec) × List Alert × List (Nat × GrpRec) × List (Nat × RingRec) ×
    List (Nat × SaveRec) × List WcEntry × Option Nat × Option Nat :=
  (t.ctx, t.cores, t.sess, t.alerts, t.grps, t.rings, t.saves, t.wc, t.warm, t.fatal)

theorem State.emptied_of_volatile {s t : State} (h : t.volatile = s.volatile) (hs : s.emptied) : t.emptied := by
  unfold State.volatile at h
  unfold State.emptied at *
  simp only [Prod.mk.injEq] at h
  obtain ⟨hctx, hcores, hsess, halerts, hgrps, hrings, hsaves, hwc, hwarm, hfatal⟩ := h
  rwa [hctx, hcores, hsess, halerts, hgrps, hrings, hsaves, hwc, hwarm, hfatal]

theorem State.withColdEnd_coldPins (s u : State) : s.withColdEnd u.coldPins = s.withColdEnd u := rfl
theorem State.withColdEnd_wr (s u : State) (k : Nat) (v : Word) : s.withColdEnd (u.wr k v) = s.withColdEnd u := rfl

/-- What the end of a cold reset leaves. -/
theorem State.withColdEnd_keeps {s t : State} (h : s.withColdEnd t = s) : t.stores = s.stores ∧ t.repairRecords = s.repairRecords ∧ t.tables = s.tables ∧
    t.volatile = s.volatile ∧ t.now = s.now ∧ t.rails = s.rails :=
  ⟨(congrArg State.stores h :), (congrArg State.repairRecords h :), (congrArg State.tables h :), (congrArg State.volatile h :), (congrArg State.now h :),
    (congrArg State.rails h :)⟩

section
variable (s : State) (power : Bool)

theorem State.coldReset_eq : s.coldReset power = (s.holdPulse.coldCleared power).coldEnd (coldCause power) := by cases power <;> rfl

theorem State.rd_clearBlocks (kind : RstKind) (k : Nat) : (s.clearBlocks kind).rd k = if regKept kind k then s.rd k else resetReg k :=
  mapGet_filter (resetReg k) (regKept kind) s.regs k

theorem State.clearBlocks_records (kind : RstKind) : (s.clearBlocks kind).repairRecords = s.repairRecords := rfl
theorem State.clearBlocks_tables (kind : RstKind) : (s.clearBlocks kind).tables = s.tables := rfl
theorem State.clearBlocks_byte (kind : RstKind) (a : Nat) : (s.clearBlocks kind).byte a = if offDie a then s.byte a else 0 := mapGet_filter 0 offDie s.mem a
theorem State.clearBlocks_emptied (kind : RstKind) : (s.clearBlocks kind).emptied := by
  unfold State.emptied
  exact ⟨rfl, rfl, rfl, rfl, rfl, rfl, rfl, rfl, rfl, rfl⟩

theorem State.clearCold_regs : s.clearCold.regs = s.regs := rfl
theorem State.clearCold_mem : s.clearCold.mem = s.mem := rfl
theorem State.clearCold_records : s.clearCold.repairRecords = s.repairRecords := rfl
theorem State.clearCold_tables : s.clearCold.tables = s.tables := rfl
theorem State.clearCold_emptied (h : s.emptied) : s.clearCold.emptied := by
  unfold State.emptied at *
  exact h
theorem State.clearCold_time : s.clearCold.now = 0 ∧ s.clearCold.rails = [] := ⟨rfl, rfl⟩

theorem State.clearPower_regs : s.clearPower.regs = s.regs := rfl
theorem State.clearPower_byte (a : Nat) : s.clearPower.byte a = if decide (2 ^ 56 ≤ a) then s.byte a else 0 := mapGet_filter 0 (fun b => decide (2 ^ 56 ≤ b)) s.mem a
theorem State.clearPower_records : s.clearPower.repairRecords = s.repairRecords := rfl
theorem State.clearPower_emptied (h : s.emptied) : s.clearPower.emptied := by
  unfold State.emptied at *
  exact h
theorem State.clearPower_lost : s.clearPower.grans = [] ∧ s.clearPower.marks = [] ∧ s.clearPower.active = [] ∧ s.clearPower.staged = [] ∧
    s.clearPower.met.running = false := ⟨rfl, rfl, rfl, rfl, rfl⟩
theorem State.clearPower_time : s.clearPower.now = s.now ∧ s.clearPower.rails = s.rails := ⟨rfl, rfl⟩

theorem State.withColdEnd_coldEnd (n : Nat) : s.withColdEnd (s.coldEnd n) = s := by
  rw [State.coldEnd, State.withColdEnd_coldPins, State.setStage, State.withColdEnd_wr, State.inc, State.withColdEnd_wr, State.setCause, State.withColdEnd_wr]
  rfl
theorem State.coldEnd_pins (n : Nat) : (s.coldEnd n).deferred = false ∧ (s.coldEnd n).heldStatus = none ∧ (s.coldEnd n).heldAlert = none := ⟨rfl, rfl, rfl⟩
theorem State.coldEnd_written (n : Nat) : (s.coldEnd n).regs = (((s.setCause n).inc (rstReg Off.RST_COUNT_COLD)).setStage 0).regs := rfl

/-- The registers of the reset page that a cold reset leaves (R560). -/
theorem State.coldEnd_regs (n : Nat) : (s.coldEnd n).stage = 0 ∧ (s.coldEnd n).rd (rstReg Off.RST_CAUSE) = BitVec.ofNat 32 n ∧
    (s.coldEnd n).rd (rstReg Off.RST_COUNT_COLD) = satAdd (s.rd (rstReg Off.RST_COUNT_COLD)) 1 := by
  have hrd := State.rd_of_regs (s.coldEnd_written n)
  refine ⟨?_, ?_, ?_⟩
  · rw [State.stage, hrd]
    exact State.stage_setStage _ (by decide)
  · rw [hrd, State.setStage, State.rd_wr_other _ _ (by decide), State.inc, State.rd_wr_other _ _ (by decide), State.setCause, State.rd_wr_self]
  · rw [hrd, State.setStage, State.rd_wr_other _ _ (by decide), State.inc, State.rd_wr_self, State.setCause, State.rd_wr_other _ _ (by decide)]

theorem State.coldCleared_emptied : (s.coldCleared power).emptied := by
  cases power
  · exact State.clearCold_emptied _ (s.clearBlocks_emptied .resetN)
  · exact State.clearPower_emptied _ (State.clearCold_emptied _ (s.clearBlocks_emptied .powerOn))

theorem State.coldCleared_records : (s.coldCleared power).repairRecords = s.repairRecords := by
  cases power
  · exact (State.clearCold_records _).trans (s.clearBlocks_records .resetN)
  · exact (State.clearPower_records _).trans ((State.clearCold_records _).trans (s.clearBlocks_records .powerOn))

theorem State.coldCleared_time : (s.coldCleared power).now = 0 ∧ (s.coldCleared power).rails = [] := by
  cases power
  · exact State.clearCold_time _
  · obtain ⟨hnow, hrails⟩ := State.clearPower_time (s.clearBlocks .powerOn).clearCold
    obtain ⟨hnow', hrails'⟩ := State.clearCold_time (s.clearBlocks .powerOn)
    exact ⟨hnow.trans hnow', hrails.trans hrails'⟩

/-- The counts of resets survive every reset (R546). -/
theorem State.coldCleared_count : (s.coldCleared power).rd (rstReg Off.RST_COUNT_COLD) = s.rd (rstReg Off.RST_COUNT_COLD) := by
  have hkept (kind : RstKind) (h : regKept kind (rstReg Off.RST_COUNT_COLD) = true) : (s.clearBlocks kind).clearCold.rd (rstReg Off.RST_COUNT_COLD) = s.rd (rstReg Off.RST_COUNT_COLD) :=
    (State.rd_of_regs (State.clearCold_regs _) _).trans ((s.rd_clearBlocks kind _).trans (if_pos h))
  cases power
  · exact hkept .resetN (by decide)
  · exact (State.rd_of_regs (State.clearPower_regs _) _).trans (hkept .powerOn (by decide))

/-- The records that every reset keeps, one by one (R546). -/
def State.keepsRepairs (t : State) : Prop := t.fuse = s.fuse ∧ t.repairs = s.repairs ∧ t.openCnt = s.openCnt ∧ t.slots = s.slots ∧ t.svnMin = s.svnMin

theorem State.keepsRepairs_iff {s t : State} : s.keepsRepairs t ↔ t.repairRecords = s.repairRecords := by simp [State.keepsRepairs, State.repairRecords]

theorem State.holdPulse_records : s.holdPulse.repairRecords = s.repairRecords := (congrArg State.repairRecords s.holdPulse_frame :)
theorem State.holdPulse_tables : s.holdPulse.tables = s.tables := (congrArg State.tables s.holdPulse_frame :)
theorem State.holdPulse_byte (a : Nat) : s.holdPulse.byte a = s.byte a := congrArg (mapGet (0 : Byte) · a) (congrArg State.mem s.holdPulse_frame :)

/-- What a cold reset of cause n leaves (R546, R560). -/
def State.coldFrom (n : Nat) (t : State) : Prop :=
  t.stage = 0 ∧ (t.rd (rstReg Off.RST_CAUSE)).toNat = n ∧ t.rd (rstReg Off.RST_COUNT_COLD) = satAdd (s.rd (rstReg Off.RST_COUNT_COLD)) 1 ∧
    t.now = 0 ∧ t.rails = [] ∧ t.emptied ∧ s.keepsRepairs t ∧ t.deferred = false ∧ t.heldStatus = none ∧ t.heldAlert = none

theorem State.coldReset_effect : s.coldFrom (coldCause power) (s.coldReset power) := by
  have hcount := (s.holdPulse.coldCleared_count power).trans (s.holdPulse_page (p := pgRST) (o := Off.RST_COUNT_COLD) (by decide) (by decide))
  have hrecords := (s.holdPulse.coldCleared_records power).trans s.holdPulse_records
  have hempty := s.holdPulse.coldCleared_emptied power
  obtain ⟨hnow, hrails⟩ := s.holdPulse.coldCleared_time power
  rw [State.coldReset_eq]
  generalize s.holdPulse.coldCleared power = t at *
  obtain ⟨hstage, hcause, hcold⟩ := t.coldEnd_regs (coldCause power)
  obtain ⟨-, hrecords', -, hvolatile, hnow', hrails'⟩ := State.withColdEnd_keeps (t.withColdEnd_coldEnd (coldCause power))
  refine ⟨hstage, ?_, hcold.trans (congrArg (satAdd · 1) hcount), hnow'.trans hnow, hrails'.trans hrails, State.emptied_of_volatile hvolatile hempty,
    State.keepsRepairs_iff.2 (hrecords'.trans hrecords), t.coldEnd_pins _⟩
  rw [hcause]
  cases power <;> rfl

/-- Power-on loses the tiers, the base-die reserve and the running metrology unit; the flash stays (R505, R546). -/
theorem State.coldReset_power : (∀ a, (s.coldReset true).byte a = if 2 ^ 56 ≤ a then s.byte a else 0) ∧ (s.coldReset true).grans = [] ∧
    (s.coldReset true).marks = [] ∧ (s.coldReset true).active = [] ∧ (s.coldReset true).staged = [] ∧ (s.coldReset true).met.running = false := by
  have hbyte (a : Nat) : (s.holdPulse.coldCleared true).byte a = if decide (2 ^ 56 ≤ a) then (if offDie a then s.byte a else 0) else 0 := by
    refine (State.clearPower_byte _ a).trans (congrArg (fun v : Byte => if decide (2 ^ 56 ≤ a) = true then v else 0) ?_)
    refine (congrArg (mapGet (0 : Byte) · a) (State.clearCold_mem _)).trans ?_
    rw [← s.holdPulse_byte a]
    exact s.holdPulse.clearBlocks_byte .powerOn a
  have hlost := State.clearPower_lost (s.holdPulse.clearBlocks .powerOn).clearCold
  have hcleared : s.holdPulse.coldCleared true = (s.holdPulse.clearBlocks .powerOn).clearCold.clearPower := rfl
  rw [← hcleared] at hlost
  rw [State.coldReset_eq]
  generalize s.holdPulse.coldCleared true = t at *
  obtain ⟨hstores, -, htables, -⟩ := State.withColdEnd_keeps (t.withColdEnd_coldEnd (coldCause true))
  simp only [State.stores, State.tables, Prod.mk.injEq] at hstores htables
  obtain ⟨hmem, hmarks, hmet⟩ := hstores
  obtain ⟨hgrans, hactive, hstaged, -⟩ := htables
  refine ⟨fun a => ?_, ?_⟩
  · refine (congrArg (mapGet (0 : Byte) · a) hmem).trans ((hbyte a).trans ?_)
    by_cases ha : 2 ^ 56 ≤ a
    · rw [if_pos (decide_eq_true ha), if_pos ha, if_pos]
      rw [offDie, decide_eq_true ha, Bool.or_true]
    · rw [if_neg ha, if_neg]
      rw [decide_eq_false ha]
      exact Bool.false_ne_true
  · rwa [hgrans, hmarks, hactive, hstaged, hmet]

/-- RESET_N keeps the tiers, the tables and the metrology unit (R543, R546). -/
theorem State.coldReset_resetN : (∀ a, (s.coldReset false).byte a = if offDie a then s.byte a else 0) ∧ (s.coldReset false).tables = s.tables := by
  have hbyte (a : Nat) : (s.holdPulse.coldCleared false).byte a = if offDie a then s.byte a else 0 := by
    rw [← s.holdPulse_byte a]
    exact (congrArg (mapGet (0 : Byte) · a) (State.clearCold_mem _)).trans (s.holdPulse.clearBlocks_byte .resetN a)
  have hkept : (s.holdPulse.coldCleared false).tables = s.tables :=
    (State.clearCold_tables _).trans ((State.clearBlocks_tables _ _).trans s.holdPulse_tables)
  rw [State.coldReset_eq]
  generalize s.holdPulse.coldCleared false = t at *
  obtain ⟨hstores, -, htables, -⟩ := State.withColdEnd_keeps (t.withColdEnd_coldEnd (coldCause false))
  simp only [State.stores, Prod.mk.injEq] at hstores
  exact ⟨fun a => (congrArg (mapGet (0 : Byte) · a) hstores.1).trans (hbyte a), htables.trans hkept⟩

end

end Sys2Proof.Machine
end

section
/-! PROOFS. The strap of a cold start (R551 to R553). -/

namespace Sys2Proof.Machine

open Sys2Proof

/-! ## The most frequent conversion (R551) -/

/-- The least number below n at which f is largest. -/
def firstMost (f : Nat → Nat) (n : Nat) : Nat := (List.range n).foldl (fun best v => if f best < f v then v else best) 0

theorem firstMost_spec (f : Nat → Nat) (n : Nat) : (∀ v < n, f v ≤ f (firstMost f n)) ∧ (∀ v < firstMost f n, f v < f (firstMost f n)) ∧ firstMost f n ≤ n - 1 := by
  induction n with
  | zero => exact ⟨fun v hv => by omega, fun v hv => absurd hv (Nat.not_lt_zero v), Nat.le_refl 0⟩
  | succ n ih =>
    obtain ⟨hmost, hfirst, hle⟩ := ih
    have hstep : firstMost f (n + 1) = if f (firstMost f n) < f n then n else firstMost f n := by
      unfold firstMost
      rw [List.range_succ, List.foldl_append]
      rfl
    rw [hstep]
    split
    case isTrue hmore =>
      refine ⟨fun v hv => ?_, fun v hv => lt_of_le_of_lt (hmost v hv) hmore, Nat.le_refl n⟩
      rcases Nat.lt_succ_iff_lt_or_eq.1 hv with h | rfl
      · exact (hmost v h).trans hmore.le
      · exact Nat.le_refl _
    case isFalse hmore =>
      refine ⟨fun v hv => ?_, hfirst, by omega⟩
      rcases Nat.lt_succ_iff_lt_or_eq.1 hv with h | rfl
      · exact hmost v h
      · exact not_lt.1 hmore

theorem le_foldl_min {α : Type} (f : α → Nat) (l : List α) (b c : Nat) : c ≤ l.foldl (fun m x => min m (f x)) b ↔ c ≤ b ∧ ∀ x ∈ l, c ≤ f x := by
  induction l generalizing b with
  | nil => simp
  | cons x l ih => rw [List.foldl_cons, ih, le_min_iff, List.forall_mem_cons, and_assoc]

theorem foldl_max_le {α : Type} (f : α → Nat) (l : List α) (b c : Nat) : l.foldl (fun m x => max m (f x)) b ≤ c ↔ b ≤ c ∧ ∀ x ∈ l, f x ≤ c := by
  induction l generalizing b with
  | nil => simp
  | cons x l ih => rw [List.foldl_cons, ih, max_le_iff, List.forall_mem_cons, and_assoc]

/-- The least of the conversions. -/
def strapLow (conv : List (BitVec 4)) : Nat := conv.foldl (fun m c => min m c.toNat) 15
/-- The largest of the conversions. -/
def strapHigh (conv : List (BitVec 4)) : Nat := conv.foldl (fun m c => max m c.toNat) 0

section
variable {conv : List (BitVec 4)}

/-- The code of a strap as a word of four bits. -/
def strapWord (conv : List (BitVec 4)) : BitVec 4 := BitVec.ofNat 4 (strapCode conv)

theorem strapCount (v : BitVec 4) : (conv.filter fun c => decide (c.toNat = v.toNat)).length = conv.count v := by
  rw [List.count_eq_length_filter]
  congr 2
  funext c
  rw [Bool.eq_iff_iff]
  simp [BitVec.toNat_inj]

theorem strapCode_lt (conv : List (BitVec 4)) : strapCode conv < 16 :=
  lt_of_le_of_lt (firstMost_spec (fun v => (conv.filter fun c => decide (c.toNat = v)).length) 16).2.2 (by decide)

theorem strapWord_toNat (conv : List (BitVec 4)) : (strapWord conv).toNat = strapCode conv := by
  rw [strapWord, BitVec.toNat_ofNat, Nat.mod_eq_of_lt (strapCode_lt conv)]

/-- No conversion is more frequent than the code, and no lower one as frequent (R551). -/
theorem strapWord_most (v : BitVec 4) : conv.count v ≤ conv.count (strapWord conv) ∧ (v.toNat < (strapWord conv).toNat → conv.count v < conv.count (strapWord conv)) := by
  obtain ⟨hmost, hfirst, -⟩ := firstMost_spec (fun v => (conv.filter fun c => decide (c.toNat = v)).length) 16
  have hcode : firstMost (fun v => (conv.filter fun c => decide (c.toNat = v)).length) 16 = (strapWord conv).toNat := (strapWord_toNat conv).symm
  rw [hcode] at hmost hfirst
  simp only [← strapCount]
  exact ⟨hmost v.toNat v.isLt, fun h => hfirst v.toNat h⟩

theorem strapWord_mem (h : conv ≠ []) : strapWord conv ∈ conv := by
  obtain ⟨x, hx⟩ := List.exists_mem_of_ne_nil conv h
  refine List.count_pos_iff.1 (lt_of_lt_of_le (List.count_pos_iff.2 hx) ?_)
  exact (strapWord_most x).1

/-- The conversions differ exactly when one of them is not the code (R551). -/
theorem strap_unstable (h : conv ≠ []) : strapLow conv ≠ strapHigh conv ↔ ∃ v ∈ conv, v ≠ strapWord conv := by
  obtain ⟨-, hlow⟩ := (le_foldl_min BitVec.toNat conv 15 (strapLow conv)).1 (Nat.le_refl _)
  obtain ⟨-, hhigh⟩ := (foldl_max_le BitVec.toNat conv 0 (strapHigh conv)).1 (Nat.le_refl _)
  have hcode := strapWord_mem h
  rw [← not_iff_not]
  push Not
  constructor
  · intro heq v hv
    have hv1 := hlow v hv
    have hv2 := hhigh v hv
    have hc1 := hlow _ hcode
    have hc2 := hhigh _ hcode
    exact BitVec.eq_of_toNat_eq (by omega)
  · intro hall
    have hc := (strapWord conv).isLt
    have h1 : (strapWord conv).toNat ≤ strapLow conv := (le_foldl_min BitVec.toNat conv 15 _).2 ⟨by omega, fun x hx => by rw [hall x hx]⟩
    have h2 : strapHigh conv ≤ (strapWord conv).toNat := (foldl_max_le BitVec.toNat conv 0 _).2 ⟨by omega, fun x hx => by rw [hall x hx]⟩
    have h3 := hlow _ hcode
    have h4 := hhigh _ hcode
    omega

theorem strapLow_le (conv : List (BitVec 4)) : strapLow conv ≤ 15 := ((le_foldl_min BitVec.toNat conv 15 _).1 (Nat.le_refl _)).1
theorem strapHigh_le (conv : List (BitVec 4)) : strapHigh conv ≤ 15 := (foldl_max_le BitVec.toNat conv 0 15).2 ⟨by decide, fun x _ => by have := x.isLt; omega⟩

/-- STRP_VALUE after a measure of the strap (R561). -/
def strapValue (conv : List (BitVec 4)) : Word :=
  BitVec.ofNat 32 (strapCode conv + 16 * b2n (decide (strapLow conv ≠ strapHigh conv)) + strapLow conv * 256 + strapHigh conv * 4096)

theorem strapValue_fields (conv : List (BitVec 4)) : (strapValue conv).setWidth 4 = strapWord conv ∧
    bit (strapValue conv) 4 = decide (strapLow conv ≠ strapHigh conv) := by
  have hcode := strapCode_lt conv
  have hlow := strapLow_le conv
  have hhigh := strapHigh_le conv
  unfold strapValue
  generalize hb : decide (strapLow conv ≠ strapHigh conv) = b
  have hb2n : b2n b ≤ 1 := by cases b <;> decide
  constructor
  · refine BitVec.eq_of_toNat_eq ?_
    rw [strapWord_toNat, BitVec.toNat_setWidth, BitVec.toNat_ofNat]
    omega
  · rw [bit, BitVec.getLsbD_ofNat, Nat.testBit_eq_decide_div_mod_eq, decide_eq_true (by decide : 4 < 32), Bool.true_and]
    cases b <;> simp only [b2n, decide_eq_true_eq, decide_eq_false_iff_not, Bool.false_eq_true, if_false, if_true] at * <;> omega

end

/-! ## A cold start begins (R551, R553) -/

section
variable (s : State) (conv : List (BitVec 4))

/-- The strap is measured, and selects the port and the source (R551, R552). -/
def State.strapped : State :=
  let t := ((s.setStage 1).wr (reg pgSTRP Off.STRP_VALUE) (strapValue conv)).wr (reg pgCLK Off.CLK_LOCK) 0x1800000#32
  (t.wrFld (tReg Off.TIME_CFG) 0 2 (strapCode conv / 2 % 2 + strapCode conv % 2 * 2)).wrBit (tReg Off.TIME_STATE) 3 (strapCode conv % 2 = 1)

theorem State.startStrap_eq : s.startStrap conv =
    if strapLow conv ≠ strapHigh conv then (s.strapped conv).pageErr pgSTRP Err.STRAP_UNSTABLE 0 0 1#32 else s.strapped conv := rfl

theorem State.withRegs_strapped : s.withRegs (s.strapped conv) = s := by
  unfold State.strapped State.setStage State.wrFld State.wrBit
  dsimp only
  rw [State.withRegs_wr, State.withRegs_wr, State.withRegs_wr, State.withRegs_wr, State.withRegs_wr]
  rfl

theorem State.strapped_regs : (s.strapped conv).stage = 1 ∧ (s.strapped conv).rd (reg pgSTRP Off.STRP_VALUE) = strapValue conv := by
  have htime {p o : Nat} (t : State) (hp : p ≠ pgTIME) (ho : o < 4096) (x y : Word) :
      ((t.wr (tReg Off.TIME_CFG) x).wr (tReg Off.TIME_STATE) y).rd (reg p o) = t.rd (reg p o) := by
    unfold tReg
    rw [State.rd_wr_other _ _ (reg_ne ho (by decide) (Or.inl hp)), State.rd_wr_other _ _ (reg_ne ho (by decide) (Or.inl hp))]
  unfold State.strapped State.wrFld State.wrBit
  dsimp only
  constructor
  · rw [State.stage, rstReg, htime _ (by decide) (by decide), State.rd_wr_other _ _ (by decide), State.rd_wr_other _ _ (by decide), ← rstReg, ← State.stage]
    exact s.stage_setStage (by decide)
  · rw [htime _ (by decide) (by decide), State.rd_wr_other _ _ (by decide), State.rd_wr_self]

/-- A cold start begins with its strap measured; conversions that differ are an error (R551, R553). -/
theorem State.startStrap_effect : (s.startStrap conv).stage = 1 ∧ (s.startStrap conv).rd (reg pgSTRP Off.STRP_VALUE) = strapValue conv ∧
    (strapLow conv ≠ strapHigh conv → bit ((s.startStrap conv).rd (reg pgSTRP Off.EVENT)) 0 = true) ∧ s.withEvents (s.startStrap conv) = s := by
  obtain ⟨hstage, hvalue⟩ := s.strapped_regs conv
  have hframe := s.withRegs_strapped conv
  rw [State.startStrap_eq]
  generalize s.strapped conv = t at *
  have hevents : s.withEvents t = s := (congrArg (fun u : State => { u with alerts := s.alerts, alertSeq := s.alertSeq }) hframe :)
  split
  · refine ⟨?_, ?_, fun _ => ?_, State.withEvents_trans s t _ (t.pageErr_frame _ _ _ _ _) hevents⟩
    · rw [← hstage]
      exact congrArg (fld · 0 4) (t.rd_pageErr_body _ _ _ _ _ (by decide) (by decide))
    · exact (t.rd_pageErr_body _ _ _ _ _ (by decide) (by decide)).trans hvalue
    · exact t.event_pageErr _ _ _ _ _ 0 (Or.inl (by decide))
  · next hstable => exact ⟨hstage, hvalue, fun h => absurd h hstable, hevents⟩

/-- What a cold start leaves when its strap is measured (R551, R553). -/
def State.startedWith (t : State) : Prop :=
  t.stage = 1 ∧ t.powered = true ∧ t.rstLow = false ∧
    (∀ v : BitVec 4, conv.count v ≤ conv.count ((t.rd (reg pgSTRP Off.STRP_VALUE)).setWidth 4) ∧
      (v.toNat < ((t.rd (reg pgSTRP Off.STRP_VALUE)).setWidth 4 : BitVec 4).toNat → conv.count v < conv.count ((t.rd (reg pgSTRP Off.STRP_VALUE)).setWidth 4))) ∧
    (bit (t.rd (reg pgSTRP Off.STRP_VALUE)) 4 = true ↔ ∃ v ∈ conv, v ≠ (t.rd (reg pgSTRP Off.STRP_VALUE)).setWidth 4) ∧
    ((∃ v ∈ conv, v ≠ (t.rd (reg pgSTRP Off.STRP_VALUE)).setWidth 4) → bit (t.rd (reg pgSTRP Off.EVENT)) 0 = true) ∧ t.mem = s.mem

theorem State.startStrap_started (hlen : conv.length = 16) (hpowered : s.powered = true) (hhigh : s.rstLow = false) : s.startedWith conv (s.startStrap conv) := by
  have hne : conv ≠ [] := fun h => by simp [h] at hlen
  obtain ⟨hstage, hvalue, hevent, hframe⟩ := s.startStrap_effect conv
  generalize s.startStrap conv = t at *
  obtain ⟨hcode, hbit⟩ := strapValue_fields conv
  unfold State.startedWith
  rw [hvalue, hcode, hbit, ← strap_unstable hne, decide_eq_true_iff]
  exact ⟨hstage, (congrArg State.powered hframe :).trans hpowered, (congrArg State.rstLow hframe :).trans hhigh, fun v => strapWord_most v, Iff.rfl, hevent,
    (congrArg State.mem hframe :)⟩

/-! ## The pins (R543, R553, R581) -/

theorem State.pwrokRise_none (h : s.powered = true ∨ conv.length ≠ 16) : s.pwrokRise conv = s := if_pos (by simpa using h)

theorem State.pwrokRise_rises (hpowered : s.powered = false) (hlen : conv.length = 16) : s.pwrokRise conv =
    if s.rstLow then { s with powered := true } else ({ s with powered := true } : State).startStrap conv := if_neg (by simp [hpowered, hlen])

/-- Output instructions of the TAP stop driving with RESET_N's release (R581). -/
def State.tapReleased : State := { s with rstLow := false, tap := { s.tap with
  driven := none, hiz := false, clamp := false, ir := if [0, 3, 4, 5, 6].contains s.tap.ir then 0xFF else s.tap.ir } }

theorem State.resetNRelease_none (h : s.rstLow = false ∨ conv.length ≠ 16) : s.resetNRelease conv = s := if_pos (by simpa using h)

theorem State.resetNRelease_rises (hlow : s.rstLow = true) (hlen : conv.length = 16) : s.resetNRelease conv =
    if s.powered then s.tapReleased.startStrap conv else s.tapReleased := if_neg (by simp [hlow, hlen])

theorem State.resetNAssert_low (h : s.rstLow = true) : s.resetNAssert = s := if_pos h
theorem State.resetNAssert_off (hlow : s.rstLow = false) (h : s.powered = false) : s.resetNAssert = { s with rstLow := true } :=
  (if_neg (by simp [hlow])).trans (if_neg (by simp [h]))
theorem State.resetNAssert_on (hlow : s.rstLow = false) (h : s.powered = true) : s.resetNAssert = { s.coldReset false with rstLow := true } :=
  (if_neg (by simp [hlow])).trans (if_pos h)

/-- RESET_N's release ends what the TAP drives, and starts a module with power (R543, R553, R581). -/
theorem State.resetNRelease_effect (hlow : s.rstLow = true) (hlen : conv.length = 16) :
    (s.resetNRelease conv).rstLow = false ∧ (s.resetNRelease conv).tap.driven = none ∧ (s.resetNRelease conv).tap.hiz = false ∧
      (s.resetNRelease conv).tap.clamp = false ∧ (s.powered = true → s.startedWith conv (s.resetNRelease conv)) ∧
      (s.powered = false → { s.resetNRelease conv with rstLow := true, tap := s.tap } = s) := by
  have htap : s.tapReleased.tap.driven = none ∧ s.tapReleased.tap.hiz = false ∧ s.tapReleased.tap.clamp = false := ⟨rfl, rfl, rfl⟩
  have hhigh : s.tapReleased.rstLow = false := rfl
  have hmem : s.tapReleased.mem = s.mem := rfl
  have hpower : s.tapReleased.powered = s.powered := rfl
  have hback : { s.tapReleased with rstLow := true, tap := s.tap } = s := by
    have hs : { s with rstLow := true } = s := by rw [← hlow]
    exact hs
  rw [s.resetNRelease_rises conv hlow hlen]
  generalize s.tapReleased = t at *
  cases hp : s.powered with
  | false =>
    rw [if_neg Bool.false_ne_true]
    exact ⟨hhigh, htap.1, htap.2.1, htap.2.2, fun h => absurd h Bool.false_ne_true, fun _ => hback⟩
  | true =>
    have hstarted := t.startStrap_started conv hlen (hpower.trans hp) hhigh
    obtain ⟨-, -, -, hframe⟩ := t.startStrap_effect conv
    rw [if_pos rfl]
    generalize t.startStrap conv = u at *
    have htap' : u.tap = t.tap := (congrArg State.tap hframe :)
    rw [htap']
    refine ⟨(congrArg State.rstLow hframe :).trans hhigh, htap.1, htap.2.1, htap.2.2, fun _ => ?_, fun h => absurd h.symm Bool.false_ne_true⟩
    unfold State.startedWith at hstarted ⊢
    rwa [← hmem]

end

end Sys2Proof.Machine
end

section
/-! PROOFS. The stages of a start (R284, R553): fuse sense, the boot ROM, keys and memory. -/

namespace Sys2Proof.Machine

open Sys2Proof

/-! ## One page of each unit -/

/-- Only registers have changed, and only those of the pages of the units listed, each as f alone changes it. -/
structure State.eachPage (page : Nat → Nat) (f : State → Nat → State) (s : State) (l : List Nat) (t : State) : Prop where
  frame : s.withRegs t = s
  other : ∀ k, (∀ p ∈ l, k / 4096 ≠ page p) → t.rd k = s.rd k
  value : ∀ p ∈ l, ∀ o < 4096, t.rd (reg (page p) o) = (f s p).rd (reg (page p) o)

/-- A step for one unit changes registers of its own page only, and by what it finds there. -/
structure ownPage (page : Nat → Nat) (f : State → Nat → State) : Prop where
  inj : ∀ p q, page p = page q → p = q
  frame : ∀ (t : State) p, t.withRegs (f t p) = t
  other : ∀ (t : State) p k, k / 4096 ≠ page p → (f t p).rd k = t.rd k
  congr : ∀ (s t : State) p, s.withRegs t = s → (∀ o < 4096, t.rd (reg (page p) o) = s.rd (reg (page p) o)) →
    ∀ o < 4096, (f t p).rd (reg (page p) o) = (f s p).rd (reg (page p) o)

theorem State.withRegs_trans {s t u : State} (hst : s.withRegs t = s) (htu : t.withRegs u = t) : s.withRegs u = s := by
  have h : s.withRegs (t.withRegs u) = s.withRegs t := by rw [htu]
  exact h.trans hst

section
variable {page : Nat → Nat} {f : State → Nat → State} (hf : ownPage page f)
include hf

theorem State.eachPage_cons {s t u : State} {a : Nat} {l : List Nat} (hal : a ∉ l) (hst : State.eachPage page f s [a] t) (htu : State.eachPage page f t l u) :
    State.eachPage page f s (a :: l) u where
  frame := State.withRegs_trans hst.frame htu.frame
  other k hk := (htu.other k fun p hp => hk p (List.mem_cons_of_mem _ hp)).trans (hst.other k fun p hp => hk p (List.mem_singleton.1 hp ▸ List.mem_cons_self))
  value p hp o ho := by
    rcases List.mem_cons.1 hp with rfl | hpl
    · refine (htu.other _ fun q hq he => hal ?_).trans (hst.value p (List.mem_singleton_self p) o ho)
      rw [reg_div _ ho] at he
      rwa [hf.inj _ _ he]
    · refine (htu.value p hpl o ho).trans (hf.congr s t p hst.frame (fun x hx => hst.other _ fun q hq he => hal ?_) o ho)
      rw [reg_div _ hx] at he
      rwa [← List.mem_singleton.1 hq, ← hf.inj _ _ he]

theorem State.eachPage_foldl {l : List Nat} (hnodup : l.Nodup) (s : State) : State.eachPage page f s l (l.foldl f s) := by
  refine foldl_each (P := State.eachPage page f) (fun s => ⟨rfl, fun _ _ => rfl, fun p hp => absurd hp List.not_mem_nil⟩) (fun s a => ?_)
    (fun hal hst htu => State.eachPage_cons hf hal hst htu) hnodup s
  exact ⟨hf.frame s a, fun k hk => hf.other s a k (hk a (List.mem_singleton_self a)), fun p hp o _ => by rw [List.mem_singleton.1 hp]⟩

end

/-! ## Fuse sense (R307, R553) -/

/-- The addresses of a port follow the module's first (R553). -/
def State.portMac (t : State) (p : Nat) : State :=
  let m := (t.fuse.mac.toNat + p) % 2 ^ 48
  (t.wr (ethReg p Off.ETH_MAC_LO) (BitVec.ofNat 32 m)).wr (ethReg p Off.ETH_MAC_HI) (BitVec.ofNat 32 (m / 2 ^ 32))

theorem State.portMac_fuse {s t : State} (h : t.fuse = s.fuse) (p k : Nat) (hk : t.rd k = s.rd k) : (t.portMac p).rd k = (s.portMac p).rd k := by
  unfold State.portMac
  dsimp only
  rw [State.rd_wr, State.rd_wr, State.rd_wr, State.rd_wr, h, hk]

theorem ownPage_portMac : ownPage pgETH State.portMac where
  inj p q h := by unfold pgETH at h; omega
  frame t p := by
    unfold State.portMac
    dsimp only
    rw [State.withRegs_wr, State.withRegs_wr, State.withRegs_self]
  other t p k hk := by
    have hne {o : Nat} (ho : o < 4096) : k ≠ ethReg p o := fun he => hk (by rw [he, ethReg, reg_div _ ho])
    unfold State.portMac
    dsimp only
    rw [State.rd_wr_other _ _ (hne (by decide)), State.rd_wr_other _ _ (hne (by decide))]
  congr s t p hframe hrd o ho := by
    have hfuse : t.fuse = s.fuse := (congrArg State.fuse hframe :)
    exact State.portMac_fuse hfuse p _ (hrd o ho)

/-- The state in which fuse sense starts the fabric's time (R307, R553). -/
def State.clocked (s : State) : State := { (s.wr (reg pgCLK Off.CLK_LOCK) 0x1FFFFFF#32).setStage 3 with now := 0, frac := 0 }

theorem State.clocked_written (s : State) : s.clocked.regs = ((s.wr (reg pgCLK Off.CLK_LOCK) 0x1FFFFFF#32).setStage 3).regs := rfl
theorem State.clocked_time (s : State) : s.clocked.now = 0 ∧ s.clocked.frac = 0 := ⟨rfl, rfl⟩
theorem State.fuse_wr (s : State) (k : Nat) (v : Word) : (s.wr k v).fuse = s.fuse := rfl
theorem State.clocked_fuse (s : State) : s.clocked.fuse = s.fuse := ((s.wr (reg pgCLK Off.CLK_LOCK) 0x1FFFFFF#32).fuse_wr (rstReg Off.RST_STAGE) 3#32).trans (s.fuse_wr _ _)

theorem State.clocked_regs (s : State) : s.clocked.stage = 3 ∧ s.clocked.rd (reg pgCLK Off.CLK_LOCK) = 0x1FFFFFF#32 := by
  have hrd := State.rd_of_regs s.clocked_written
  constructor
  · rw [State.stage, hrd]
    exact State.stage_setStage _ (by decide)
  · rw [hrd, State.setStage, State.rd_wr_other _ _ (by decide), State.rd_wr_self]

theorem State.fuseSense_none {s : State} (h : s.stage ≠ 1) : s.fuseSense = s := if_pos h
theorem State.fuseSense_eq {s : State} (h : s.stage = 1) : s.fuseSense = (List.range 18).foldl State.portMac s.clocked := if_neg (by simp [h])

/-- Fuse sense locks the clocks, starts time at 0 and gives the ports their addresses (R307, R553). -/
theorem State.fuseSense_effect {s : State} (h : s.stage = 1) : s.fuseSense.stage = 3 ∧ s.fuseSense.now = 0 ∧ s.fuseSense.frac = 0 ∧
    s.fuseSense.rd (reg pgCLK Off.CLK_LOCK) = 0x1FFFFFF#32 ∧
    ∀ p, p < 18 → s.fuseSense.rd (ethReg p Off.ETH_MAC_LO) = BitVec.ofNat 32 ((s.fuse.mac.toNat + p) % 2 ^ 48) := by
  have hports := State.eachPage_foldl ownPage_portMac (List.nodup_range (n := 18)) s.clocked
  obtain ⟨hstage, hlock⟩ := s.clocked_regs
  obtain ⟨hnow, hfrac⟩ := s.clocked_time
  have hfuse := s.clocked_fuse
  rw [State.fuseSense_eq h]
  generalize s.clocked = u at *
  generalize (List.range 18).foldl State.portMac u = t at *
  have hbeside {p o : Nat} (hp : p < 0x30 ∨ 0x42 ≤ p) (ho : o < 4096) : t.rd (reg p o) = u.rd (reg p o) := by
    refine hports.other _ fun q hq => ?_
    have hq' := List.mem_range.1 hq
    rw [reg_div _ ho, pgETH]
    omega
  refine ⟨?_, (congrArg State.now hports.frame :).trans hnow, (congrArg State.frac hports.frame :).trans hfrac, (hbeside (by decide) (by decide)).trans hlock, fun p hp => ?_⟩
  · rw [← hstage]
    exact congrArg (fld · 0 4) (hbeside (by decide) (by decide))
  · refine (hports.value p (List.mem_range.2 hp) _ (by decide)).trans ?_
    unfold State.portMac
    dsimp only
    rw [State.rd_wr_other _ _ (by unfold ethReg; exact reg_ne (by decide) (by decide) (Or.inr (by decide))), ← ethReg, State.rd_wr_self, hfuse]

/-! ## Current for a start (R284, R285) -/

/-- Units that ask for their current write no register but the peaks of the rails (R285, R300). -/
theorem State.rd_askUnits (s : State) {us : List LUnit} (hus : ∀ u ∈ us, u.acct ≤ 12) {k : Nat} (hk : k / 4096 ≠ pgLEDG) : (s.askUnits us).rd k = s.rd k := by
  unfold State.askUnits
  dsimp only
  refine List.foldlRecOn (motive := fun t : State => t.rd k = s.rd k) _ State.grantFits (State.rd_of_regs (State.coverArrays_regs _) k) fun t ht a ha => ?_
  obtain ⟨x, hx, rfl⟩ := List.mem_map.1 (List.mem_eraseDups.1 (List.mem_filter.1 ha).1)
  obtain ⟨u, hu, rfl⟩ := List.mem_map.1 (List.mem_eraseDups.1 hx)
  have hacct := hus u hu
  refine (State.rd_grantRun u.acct _ t fun he => hk ?_).trans ht
  rw [he, railReg, reg_div _ (by simp only [Off.LEDG_RAIL_PEAK]; omega)]

theorem trainUnits_acct (s : State) (n : Nat) : ∀ u ∈ trainUnits s n, u.acct ≤ 12 := by
  intro u hu
  unfold trainUnits at hu
  split at hu
  · rcases List.mem_append.1 hu with h | h
    · obtain ⟨i, -, rfl⟩ := List.mem_map.1 h
      exact (by decide : 10 ≤ 12)
    · obtain ⟨i, -, rfl⟩ := List.mem_map.1 h
      exact (by decide : 11 ≤ 12)
  · split at hu
    · obtain ⟨p, -, rfl⟩ := List.mem_map.1 hu
      exact Nat.le_refl 12
    · exact absurd hu List.not_mem_nil

theorem State.stageUnits_acct (s : State) (die : Nat) : ∀ u ∈ s.stageUnits die, u.acct = die := by
  intro u hu
  obtain ⟨n, -, rfl⟩ := List.mem_map.1 hu
  rfl

/-! ## Memory trains (R547, R553) -/

/-- Memory of a stack or of the packages enters a state, unless it has failed (R547). -/
def State.putState (t : State) (k n : Nat) : State := if fld (t.rd k) 0 3 = 5 then t else t.wrFld k 0 3 n

/-- The memory of a stack enters a state. -/
def State.putStack (n : Nat) (t : State) (i : Nat) : State := if t.pagePresent .hbm i then t.putState (reg (pgHBM i) Off.HBM_STATE) n else t

theorem fld_setFld (x : Word) {n : Nat} (h : n < 8) : fld (setFld x 0 3 n) 0 3 = n := by
  unfold fld setFld
  rw [BitVec.toNat_ofNat]
  omega

theorem State.withRegs_putState (s : State) (k n : Nat) : s.withRegs (s.putState k n) = s := by
  unfold State.putState
  split
  · rfl
  · exact (s.withRegs_wr _ _ _).trans (State.withRegs_self s)

theorem State.rd_putState_other (s : State) {j k : Nat} (n : Nat) (h : j ≠ k) : (s.putState k n).rd j = s.rd j := by
  unfold State.putState
  split
  · rfl
  · exact s.rd_wr_other _ h

theorem State.rd_putState (s : State) (k n : Nat) : (s.putState k n).rd k = if fld (s.rd k) 0 3 = 5 then s.rd k else setFld (s.rd k) 0 3 n := by
  unfold State.putState
  split
  · rfl
  · exact s.rd_wr_self _ _

theorem ownPage_putStack (n : Nat) : ownPage pgHBM (State.putStack n) where
  inj p q h := by unfold pgHBM at h; omega
  frame t p := by
    unfold State.putStack
    split
    · exact t.withRegs_putState _ _
    · rfl
  other t p k hk := by
    unfold State.putStack
    split
    · exact t.rd_putState_other n fun he => hk (by rw [he, reg_div _ (by decide)])
    · rfl
  congr s t p hframe hrd o ho := by
    have hfuse : t.fuse = s.fuse := (congrArg State.fuse hframe :)
    have hpresent : t.pagePresent .hbm p = s.pagePresent .hbm p := by rw [State.pagePresent, hfuse, State.pagePresent]
    unfold State.putStack
    rw [hpresent]
    split
    · by_cases he : o = Off.HBM_STATE
      · rw [he, State.rd_putState, State.rd_putState, hrd _ (by decide)]
      · rw [State.rd_putState_other _ _ (reg_ne ho (by decide) (Or.inr he)), State.rd_putState_other _ _ (reg_ne ho (by decide) (Or.inr he)), hrd o ho]
    · exact hrd o ho

section
variable (s : State)

theorem State.memState_eq (n : Nat) : s.memState n = ((List.range 16).foldl (State.putStack n) s).putState (reg pgSLOW Off.SLOW_STATE) n := rfl

/-- Memory that changes its state writes the status of the stacks and of the packages (R547). -/
theorem State.memState_beside {p : Nat} (n : Nat) (hp : p < 0x100 ∨ 0x121 ≤ p) : s.beside p (s.memState n) := by
  have hstacks := State.eachPage_foldl (ownPage_putStack n) (List.nodup_range (n := 16)) s
  rw [State.memState_eq]
  generalize (List.range 16).foldl (State.putStack n) s = t at *
  refine State.beside.trans (t := t) ⟨hstacks.frame, fun o ho => hstacks.other _ fun i hi => ?_⟩ ⟨t.withRegs_putState _ _, fun o ho => ?_⟩
  · have hi' := List.mem_range.1 hi
    rw [reg_div _ ho, pgHBM]
    omega
  · exact t.rd_putState_other n (reg_ne ho (by decide) (Or.inl (by unfold pgSLOW; omega)))

/-- A present stack that has not failed is in the state given (R547, R553). -/
theorem State.memState_stack {n i : Nat} (hn : n < 8) (hi : i < 16) (hpresent : s.pagePresent .hbm i = true)
    (hfailed : fld (s.rd (reg (pgHBM i) Off.HBM_STATE)) 0 3 ≠ 5) : fld ((s.memState n).rd (reg (pgHBM i) Off.HBM_STATE)) 0 3 = n := by
  have hstacks := State.eachPage_foldl (ownPage_putStack n) (List.nodup_range (n := 16)) s
  have hvalue := hstacks.value i (List.mem_range.2 hi) Off.HBM_STATE (by decide)
  unfold State.putStack at hvalue
  rw [if_pos hpresent, State.rd_putState, if_neg hfailed] at hvalue
  rw [State.memState_eq, State.rd_putState_other _ _ (reg_ne (by decide) (by decide) (Or.inl (by unfold pgSLOW pgHBM; omega)))]
  exact (congrArg (fld · 0 3) hvalue).trans (fld_setFld _ hn)

/-- Fields that a change of grants and of registers leaves to memory, the boot and the dies. -/
def State.startFields (t : State) : List (Nat × Byte) × List (Nat × FwSlot) × List Nat × List Repair × Option Nat × Option Bool × FuseRec × Bool :=
  (t.mem, t.running, t.stagedDies, t.repairs, t.heldStatus, t.heldAlert, t.fuse, t.warmStart)

theorem State.startFields_withRegs {t : State} (h : s.withRegs t = s) : t.startFields = s.startFields := (congrArg State.startFields h :)
theorem State.startFields_askUnits (us : List LUnit) : (s.askUnits us).startFields = s.startFields := (congrArg State.startFields (s.askUnits_frame us) :)
theorem State.startFields_wr (k : Nat) (v : Word) : (s.wr k v).startFields = s.startFields := rfl

/-- Memory start-up enters its stage and asks for its current; nothing else is written outside memory's pages (R284, R553). -/
theorem State.beginMemory_effect : s.beginMemory.stage = 5 ∧ s.beginMemory.startFields = s.startFields ∧
    ∀ p o, p < 0x100 → p ≠ pgRST → p ≠ pgLEDG → o < 4096 → s.beginMemory.rd (reg p o) = s.rd (reg p o) := by
  have hrd (p o : Nat) (hp : p < 0x100) (hledg : p ≠ pgLEDG) (ho : o < 4096) : s.beginMemory.rd (reg p o) = (s.setStage 5).rd (reg p o) := by
    refine (State.rd_askUnits _ (trainUnits_acct _ 5) (by rw [reg_div p ho]; exact hledg)).trans ?_
    exact ((s.setStage 5).memState_beside 1 (Or.inl hp)).page o ho
  refine ⟨?_, ?_, fun p o hp hrst hledg ho => (hrd p o hp hledg ho).trans (s.rd_wr_other _ (reg_ne ho (by decide) (Or.inl hrst)))⟩
  · have h := hrd pgRST Off.RST_STAGE (by decide) (by decide) (by decide)
    exact (congrArg (fld · 0 4) h).trans (s.stage_setStage (by decide))
  · exact (State.startFields_askUnits _ _).trans ((State.startFields_withRegs _ ((s.setStage 5).memState_beside (p := pgRST) 1 (Or.inl (by decide))).frame).trans
      (s.startFields_wr _ _))

end

end Sys2Proof.Machine
end

section
/-! PROOFS. The stages of a start that firmware, keys, memory, dies and links complete (R479, R502, R553, R554). -/

namespace Sys2Proof.Machine

open Sys2Proof

/-! ## The boot ROM (R479, R502, R553) -/

section
variable (s : State)

/-- The state in which firmware writes the status pins (R549). -/
def State.statusFree : State := { s with heldStatus := none }

theorem State.statusFree_keeps : s.statusFree.regs = s.regs ∧ s.statusFree.running = s.running ∧ s.statusFree.mem = s.mem ∧ s.statusFree.warmStart = s.warmStart ∧
    s.statusFree.heldStatus = none ∧ s.statusFree.bootUnits = s.bootUnits := ⟨rfl, rfl, rfl, rfl, rfl, rfl⟩

/-- A unit runs the image of its slot (R479). -/
def State.runs (u : Nat) (x : FwSlot) : State := { s with running := mapSet {} s.running u x }

/-- A unit takes its staged image into its slot, and runs it (R479). -/
def State.takesStaged (u : Nat) : State := { s with slots := mapSet {} s.slots u (s.stagedImage u), running := mapSet {} s.running u (s.stagedImage u) }

section
variable {u : Nat} (us : List Nat)

theorem State.bootLoad_slot (h : s.fwValid u (s.slotOf u) = true) : s.bootLoad (u :: us) = (s.runs u (s.slotOf u)).bootLoad us := if_pos h

theorem State.bootLoad_staged (hslot : ¬ s.fwValid u (s.slotOf u) = true) (h : s.fwValid u (s.stagedImage u) = true) :
    s.bootLoad (u :: us) = (s.takesStaged u).bootLoad us := (if_neg hslot).trans (if_pos h)

theorem State.bootLoad_miss (hslot : ¬ s.fwValid u (s.slotOf u) = true) (h : ¬ s.fwValid u (s.stagedImage u) = true) :
    s.bootLoad (u :: us) = (s, some (u, if (s.slotOf u).ok then Err.FW_ROLLBACK else Err.FW_VERIFY_FAIL)) := (if_neg hslot).trans (if_neg h)

end

theorem State.bootLoad_statusFree (us : List Nat) : ∀ s : State, s.statusFree.bootLoad us = ((s.bootLoad us).1.statusFree, (s.bootLoad us).2) := by
  induction us with
  | nil => exact fun s => rfl
  | cons u us ih =>
    intro s
    by_cases hslot : s.fwValid u (s.slotOf u) = true
    · exact (s.statusFree.bootLoad_slot us hslot).trans ((ih (s.runs u (s.slotOf u))).trans (by rw [s.bootLoad_slot us hslot]))
    · by_cases hstaged : s.fwValid u (s.stagedImage u) = true
      · exact (s.statusFree.bootLoad_staged us hslot hstaged).trans ((ih (s.takesStaged u)).trans (by rw [s.bootLoad_staged us hslot hstaged]))
      · exact (s.statusFree.bootLoad_miss us hslot hstaged).trans (by rw [s.bootLoad_miss us hslot hstaged]; rfl)

theorem State.fwValid_congr {s t : State} (h : t.svnMin = s.svnMin) (u : Nat) (x : FwSlot) : t.fwValid u x = s.fwValid u x := by
  rw [State.fwValid, State.fusedMin, h, State.fwValid, State.fusedMin]

/-- A boot that loads every unit runs a valid image of each (R478, R479). -/
theorem State.bootLoad_valid (us : List Nat) : ∀ s t : State, us.Nodup → s.bootLoad us = (t, none) →
    (∀ u ∈ us, s.fwValid u (mapGet {} t.running u) = true) ∧ ∀ u ∉ us, mapGet {} t.running u = mapGet {} s.running u := by
  induction us with
  | nil =>
    intro s t _ h
    have hst : s = t := congrArg Prod.fst h
    rw [← hst]
    exact ⟨fun u hu => absurd hu List.not_mem_nil, fun _ _ => rfl⟩
  | cons u us ih =>
    intro s t hnodup h
    obtain ⟨hu, hnodup⟩ := List.nodup_cons.1 hnodup
    have hrest {v : State} {x : FwSlot} (hv : v.bootLoad us = (t, none)) (hsvn : v.svnMin = s.svnMin) (hrun : v.running = mapSet {} s.running u x)
        (hx : s.fwValid u x = true) : (∀ w ∈ u :: us, s.fwValid w (mapGet {} t.running w) = true) ∧ ∀ w ∉ u :: us, mapGet {} t.running w = mapGet {} s.running w := by
      obtain ⟨hvalid, hkeep⟩ := ih v t hnodup hv
      refine ⟨fun w hw => ?_, fun w hw => ?_⟩
      · rcases List.mem_cons.1 hw with rfl | hw
        · rw [hkeep w hu, hrun, mapGet_mapSet_self]
          exact hx
        · rw [← State.fwValid_congr hsvn]
          exact hvalid w hw
      · obtain ⟨hne, hw⟩ := not_or.1 (List.mem_cons.not.1 hw)
        rw [hkeep w hw, hrun, mapGet_mapSet_other _ _ _ _ hne]
    by_cases hslot : s.fwValid u (s.slotOf u) = true
    · rw [s.bootLoad_slot us hslot] at h
      exact hrest h rfl rfl hslot
    · by_cases hstaged : s.fwValid u (s.stagedImage u) = true
      · rw [s.bootLoad_staged us hslot hstaged] at h
        exact hrest h rfl rfl hstaged
      · rw [s.bootLoad_miss us hslot hstaged] at h
        exact absurd (congrArg Prod.snd h) (Option.some_ne_none _)

theorem State.bootUnits_nodup : s.bootUnits.Nodup := by
  unfold State.bootUnits
  split
  · decide
  · decide

theorem State.modMet_running (f : MetRec → MetRec) : (s.modMet f).running = s.running := rfl
theorem State.audit_running (kind data : Nat) : (s.audit kind data).running = s.running := s.modMet_running _
theorem State.checkpoint_running : (s.checkpoint true).running = s.running := s.modMet_running _

theorem State.metRestore_running : s.metRestore.running = s.running := by
  unfold State.metRestore
  dsimp only
  split
  · exact (State.audit_running _ _ _).trans rfl
  · refine (congrArg State.running (State.pageErr_frame _ _ _ _ _ _) :).trans ?_
    exact (State.audit_running _ _ _).trans ((State.audit_running _ _ _).trans rfl)

/-- The metrology unit takes its image over beside the other units (R502). -/
theorem State.metImage_running (x : FwSlot) : (s.metImage x).running = s.running := by
  unfold State.metImage
  dsimp only
  refine (State.modMet_running _ _).trans ?_
  have haudit (t : State) (q : Prop) [Decidable q] (kind data : Nat) : (if q then t.audit kind data else t).running = t.running := by
    split
    · exact t.audit_running _ _
    · rfl
  have hraise (t : State) (q : Prop) [Decidable q] (f : MetRec → MetRec) : (if q then (t.modMet f).raise pgMET 2 else t).running = t.running := by
    split
    · exact (congrArg State.running ((t.modMet f).raise_frame pgMET 2) :)
    · rfl
  have hckpt (q : Prop) [Decidable q] : (if q then s.checkpoint true else s).running = s.running := by
    split
    · exact s.checkpoint_running
    · rfl
  refine (haudit _ _ _ _).trans ((hraise _ _ _).trans ?_)
  split
  · exact hckpt _
  · exact s.metRestore_running

theorem State.boot_none (h : s.stage ≠ 3) : s.boot = s := by
  unfold State.boot
  dsimp only
  rw [if_neg h, if_pos h]

section
variable (h : s.stage = 3)
include h

theorem State.boot_warm (hwarm : s.warmStart = true) : s.boot = (s.statusFree.wr (reg pgCLK Off.CLK_LOCK) 0x1FFFFFF#32).beginMemory := by
  have hstage : ¬ s.statusFree.stage ≠ 3 := not_not.2 h
  unfold State.boot
  rw [if_pos h]
  exact (if_neg hstage).trans (if_pos hwarm)

/-- A warm start reloads the verified images and trains memory (R555). -/
theorem State.boot_warm_effect (hwarm : s.warmStart = true) : s.boot.stage = 5 ∧ s.boot.heldStatus = none ∧ s.boot.running = s.running ∧ s.boot.mem = s.mem := by
  obtain ⟨-, hrun, hmem, -, hheld, -⟩ := s.statusFree_keeps
  rw [s.boot_warm h hwarm]
  generalize s.statusFree = u at *
  obtain ⟨hstage, hfields, -⟩ := (u.wr (reg pgCLK Off.CLK_LOCK) 0x1FFFFFF#32).beginMemory_effect
  rw [State.startFields_wr] at hfields
  generalize (u.wr (reg pgCLK Off.CLK_LOCK) 0x1FFFFFF#32).beginMemory = t at *
  simp only [State.startFields, Prod.mk.injEq] at hfields
  obtain ⟨hmem', hrun', -, -, hheld', -⟩ := hfields
  exact ⟨hstage, hheld'.trans hheld, hrun'.trans hrun, hmem'.trans hmem⟩

/-- The state in which the boot ROM has loaded every unit (R479, R502). -/
def State.booted : State := ((if s.fuse.grade = 3 then s else s.metImage (mapGet {} s.running 6)).wrBit (reg pgSEC Off.SEC_STATE) 0 true).setStage 4

/-- The state in which the boot ROM has found no valid image of a unit: recovery (R479, R480). -/
def State.recovers (u : Nat) (code : Code) : State :=
  let t := (s.fwStatus false false true u code).pageErr pgSEC code u
  ((if u = 6 then t.modMet fun m => { m with firmwareDue := true } else t).wrBit (reg pgSEC Off.SEC_STATE) 1 true).setStage 9

theorem State.boot_cold (hcold : s.warmStart = false) : s.boot = match (s.bootLoad s.bootUnits).2 with
    | none => (s.bootLoad s.bootUnits).1.statusFree.booted
    | some (u, code) => (s.bootLoad s.bootUnits).1.statusFree.recovers u code := by
  have hstage : ¬ s.statusFree.stage ≠ 3 := not_not.2 h
  have hcold' : ¬ s.statusFree.warmStart = true := by
    rw [s.statusFree_keeps.2.2.2.1, hcold]
    exact Bool.false_ne_true
  have hboot : s.boot = match s.statusFree.bootLoad s.bootUnits with
      | (t, none) => t.booted
      | (t, some (u, code)) => t.recovers u code := by
    unfold State.boot
    rw [if_pos h]
    exact (if_neg hstage).trans (if_neg hcold')
  rw [hboot, State.bootLoad_statusFree]
  cases (s.bootLoad s.bootUnits).2 <;> rfl

end

theorem State.running_wr (k : Nat) (v : Word) : (s.wr k v).running = s.running := rfl

theorem State.booted_effect : s.booted.stage = 4 ∧ bit (s.booted.rd (reg pgSEC Off.SEC_STATE)) 0 = true ∧ s.booted.running = s.running := by
  have hrun : (if s.fuse.grade = 3 then s else s.metImage (mapGet {} s.running 6)).running = s.running := by
    split
    · rfl
    · exact s.metImage_running _
  unfold State.booted
  generalize (if s.fuse.grade = 3 then s else s.metImage (mapGet {} s.running 6)) = t at *
  refine ⟨State.stage_setStage _ (by decide), ?_, ?_⟩
  · rw [State.setStage, State.rd_wr_other _ _ (by decide), State.wrBit, State.rd_wr_self, bit_setBit _ _ _ _ (by decide), if_pos rfl]
  · rw [State.setStage, State.running_wr, State.wrBit, State.running_wr]
    exact hrun

theorem State.recovers_effect (u : Nat) (code : Code) : (s.recovers u code).stage = 9 ∧ bit ((s.recovers u code).rd (reg pgSEC Off.SEC_STATE)) 1 = true ∧
    bit ((s.recovers u code).rd (reg pgSEC Off.EVENT)) 30 = true := by
  have hevent := (s.fwStatus false false true u code).event_pageErr pgSEC code u 0 0 30 (Or.inl (by decide))
  unfold State.recovers
  dsimp only
  generalize (s.fwStatus false false true u code).pageErr pgSEC code u = t at *
  have hdue : ∃ v : State, v.regs = t.regs ∧ (if u = 6 then t.modMet fun m => { m with firmwareDue := true } else t) = v := by
    refine ⟨_, ?_, rfl⟩
    split <;> rfl
  obtain ⟨v, hregs, hv⟩ := hdue
  rw [hv]
  refine ⟨State.stage_setStage _ (by decide), ?_, ?_⟩
  · rw [State.setStage, State.rd_wr_other _ _ (by decide), State.wrBit, State.rd_wr_self, bit_setBit _ _ _ _ (by decide), if_pos rfl]
  · rw [State.setStage, State.rd_wr_other _ _ (by decide), State.wrBit, State.rd_wr_other _ _ (by decide), State.rd_of_regs hregs]
    exact hevent

/-- A cold start that finds every unit runs a valid image of each (R479). -/
theorem State.boot_cold_effect (h : s.stage = 3) (hcold : s.warmStart = false) (hnone : (s.bootLoad s.bootUnits).2 = none) :
    s.boot.stage = 4 ∧ bit (s.boot.rd (reg pgSEC Off.SEC_STATE)) 0 = true ∧ ∀ u ∈ s.bootUnits, s.fwValid u (mapGet {} s.boot.running u) = true := by
  obtain ⟨hvalid, -⟩ := State.bootLoad_valid s.bootUnits s (s.bootLoad s.bootUnits).1 s.bootUnits_nodup (by rw [← hnone])
  rw [s.boot_cold h hcold, hnone]
  dsimp only
  generalize (s.bootLoad s.bootUnits).1 = t at *
  obtain ⟨hstage, hbit, hrun⟩ := t.statusFree.booted_effect
  refine ⟨hstage, hbit, ?_⟩
  rw [hrun, t.statusFree_keeps.2.1]
  exact hvalid

/-- A cold start that misses one enters recovery (R479, R480). -/
theorem State.boot_recovers_effect (h : s.stage = 3) (hcold : s.warmStart = false) (hsome : (s.bootLoad s.bootUnits).2.isSome = true) :
    s.boot.stage = 9 ∧ bit (s.boot.rd (reg pgSEC Off.SEC_STATE)) 1 = true ∧ bit (s.boot.rd (reg pgSEC Off.EVENT)) 30 = true := by
  obtain ⟨⟨u, code⟩, hmiss⟩ := Option.isSome_iff_exists.1 hsome
  rw [s.boot_cold h hcold, hmiss]
  exact State.recovers_effect _ u code

/-! ## Keys (R464, R553) -/

theorem State.keysDone_none (h : s.stage ≠ 4) : s.keysDone = s := if_pos h

theorem State.keysDone_effect (h : s.stage = 4) : s.keysDone.stage = 5 ∧ bit (s.keysDone.rd (reg pgSEC Off.SEC_STATE)) 2 = true ∧ s.keysDone.mem = s.mem := by
  have heq : s.keysDone = (s.wrBit (reg pgSEC Off.SEC_STATE) 2 true).beginMemory := if_neg (not_not.2 h)
  rw [heq]
  obtain ⟨hstage, hfields, hpage⟩ := (s.wrBit (reg pgSEC Off.SEC_STATE) 2 true).beginMemory_effect
  refine ⟨hstage, ?_, ?_⟩
  · rw [hpage pgSEC Off.SEC_STATE (by decide) (by decide) (by decide) (by decide), State.wrBit, State.rd_wr_self, bit_setBit _ _ _ _ (by decide), if_pos rfl]
  · exact (congrArg Prod.fst hfields).trans (congrArg Prod.fst (s.startFields_wr (reg pgSEC Off.SEC_STATE) (setBit (s.rd (reg pgSEC Off.SEC_STATE)) 2 true)))

/-! ## Memory and links are trained (R547, R550, R553) -/

theorem State.memoryDone_none (h : s.stage ≠ 5 ∨ s.startWaits none = true) : s.memoryDone = s := if_pos (by simpa using h)

theorem State.startFields_releaseUnits (p : LUnit → Bool) (bill : Option Nat) : (s.releaseUnits p bill).startFields = s.startFields :=
  (congrArg State.startFields (s.releaseUnits_frame p bill) :)

/-- The engines that scrub ask for their current (R476). -/
theorem State.scrubUnits_effect : s.scrubUnits.startFields = s.startFields ∧ ∀ k, k / 4096 ≠ pgLEDG → s.scrubUnits.rd k = s.rd k := by
  have hask (t : State) (q : Prop) [Decidable q] (us : List LUnit) (hus : ∀ u ∈ us, u.acct ≤ 12) (ht : t.startFields = s.startFields ∧ ∀ k, k / 4096 ≠ pgLEDG → t.rd k = s.rd k) :
      (if q then t.askUnits us else t).startFields = s.startFields ∧ ∀ k, k / 4096 ≠ pgLEDG → (if q then t.askUnits us else t).rd k = s.rd k := by
    split
    · exact ⟨(t.startFields_askUnits us).trans ht.1, fun k hk => (t.rd_askUnits hus hk).trans (ht.2 k hk)⟩
    · exact ht
  have hskip (t : State) (q : Prop) [Decidable q] (us : List LUnit) : (if q then t else t.askUnits us) = if ¬ q then t.askUnits us else t := by split <;> simp_all
  unfold State.scrubUnits
  dsimp only
  refine hask _ _ _ (fun u hu => by rw [List.mem_singleton.1 hu]; exact (by decide : 11 ≤ 12)) ?_
  rw [hskip]
  refine hask _ _ _ (fun u hu => ?_) ⟨s.startFields_releaseUnits _ _, fun k _ => State.rd_of_regs (s.releaseUnits_regs _ _) k⟩
  obtain ⟨i, -, rfl⟩ := List.mem_map.1 hu
  exact (by decide : 10 ≤ 12)

end

end Sys2Proof.Machine
end

section
/-! PROOFS. Memory, dies and links complete a start (R547, R550, R553, R554). -/

namespace Sys2Proof.Machine

open Sys2Proof

/-! ## Memory is trained (R547, R550, R553) -/

section
variable (s : State)

/-- No die is staged yet (R553). -/
def State.noDies : State := { s with stagedDies := [] }

/-- A cold start counts its repairs anew (R539, R553). -/
def State.freshCount : State := if s.warmStart then s else s.wr (reg pgERR Off.ERR_REPAIR_COUNT) 0

/-- The first die asks for the current of its staging (R553, R554). -/
def State.beginStaging : State :=
  let t := (s.setStage 6).noDies.freshCount
  t.askUnits (t.stageUnits 0)

/-- The next start is warm (R550, R555). -/
def State.warmNext : State := { s with warmStart := true }

/-- ALERT_N follows the queue again (R549). -/
def State.alertFree : State := { s with heldAlert := none }

theorem State.warmNext_keeps : s.warmNext.regs = s.regs ∧ s.warmNext.mem = s.mem := ⟨rfl, rfl⟩
theorem State.alertFree_keeps : s.alertFree.regs = s.regs ∧ s.alertFree.mem = s.mem ∧ s.alertFree.heldAlert = none := ⟨rfl, rfl, rfl⟩

/-- Memory has trained while a sensor trips: the start holds (R550). -/
def State.holdsHot : State := ((s.memState 1).setStage 10).warmNext

/-- The units of a start have released their current (R284). -/
def State.startReleased : State := s.releaseUnits startUnit none

theorem State.startReleased_keeps : s.startReleased.regs = s.regs ∧ s.startReleased.mem = s.mem ∧ s.startReleased.trips = s.trips ∧ s.startReleased.fuse = s.fuse :=
  ⟨s.releaseUnits_regs _ _, s.releaseUnits_mem _ _, (congrArg State.trips (s.releaseUnits_frame startUnit none) :),
    (congrArg State.fuse (s.releaseUnits_frame startUnit none) :)⟩

theorem State.memoryDone_eq (h5 : s.stage = 5) (hgranted : s.startWaits none = false) : s.memoryDone =
    if s.startReleased.tripLive then s.startReleased.holdsHot else (s.startReleased.memState 2).scrubUnits.beginStaging := if_neg (by simp [h5, hgranted])

theorem State.noDies_keeps : s.noDies.regs = s.regs ∧ s.noDies.mem = s.mem := ⟨rfl, rfl⟩
theorem State.mem_wr (k : Nat) (v : Word) : (s.wr k v).mem = s.mem := rfl

theorem State.freshCount_keeps : s.freshCount.mem = s.mem ∧ ∀ p o, p ≠ pgERR → o < 4096 → s.freshCount.rd (reg p o) = s.rd (reg p o) := by
  unfold State.freshCount
  split
  · exact ⟨rfl, fun _ _ _ _ => rfl⟩
  · exact ⟨s.mem_wr _ _, fun p o hp ho => s.rd_wr_other _ (reg_ne ho (by decide) (Or.inl hp))⟩

theorem State.beginStaging_effect : s.beginStaging.stage = 6 ∧ s.beginStaging.mem = s.mem ∧
    ∀ p o, p ≠ pgRST → p ≠ pgERR → p ≠ pgLEDG → o < 4096 → s.beginStaging.rd (reg p o) = s.rd (reg p o) := by
  have hask (t : State) (p o : Nat) (hp : p ≠ pgLEDG) (ho : o < 4096) : (t.askUnits (t.stageUnits 0)).rd (reg p o) = t.rd (reg p o) :=
    t.rd_askUnits (fun u hu => by rw [t.stageUnits_acct 0 u hu]; exact Nat.zero_le _) (by rw [reg_div p ho]; exact hp)
  unfold State.beginStaging
  dsimp only
  obtain ⟨hregs, hmem⟩ := (s.setStage 6).noDies_keeps
  generalize (s.setStage 6).noDies = t at *
  obtain ⟨hmem', hrd⟩ := t.freshCount_keeps
  generalize t.freshCount = u at *
  refine ⟨?_, ?_, fun p o hrst herr hledg ho => ?_⟩
  · rw [← s.stage_setStage (n := 6) (by decide)]
    refine congrArg (fld · 0 4) ((hask u pgRST Off.RST_STAGE (by decide) (by decide)).trans ((hrd pgRST Off.RST_STAGE (by decide) (by decide)).trans ?_))
    exact State.rd_of_regs hregs _
  · exact (u.askUnits_mem _).trans (hmem'.trans (hmem.trans (s.mem_wr _ _)))
  · refine (hask u p o hledg ho).trans ((hrd p o herr ho).trans ((State.rd_of_regs hregs _).trans ?_))
    exact s.rd_wr_other _ (reg_ne ho (by decide) (Or.inl hrst))

theorem State.holdsHot_effect : s.holdsHot.stage = 10 ∧ s.holdsHot.mem = s.mem ∧
    ∀ p o, p ≠ pgRST → o < 4096 → s.holdsHot.rd (reg p o) = (s.memState 1).rd (reg p o) := by
  have hframe := (s.memState_beside (p := pgRST) 1 (Or.inl (by decide))).frame
  unfold State.holdsHot
  generalize s.memState 1 = t at *
  have hstage := t.stage_setStage (n := 10) (by decide)
  have hrd (p o : Nat) (hp : p ≠ pgRST) (ho : o < 4096) : (t.setStage 10).rd (reg p o) = t.rd (reg p o) := t.rd_wr_other _ (reg_ne ho (by decide) (Or.inl hp))
  have hmem : (t.setStage 10).mem = s.mem := (t.mem_wr _ _).trans (congrArg State.mem hframe :)
  generalize t.setStage 10 = u at *
  obtain ⟨hregs, hmem'⟩ := u.warmNext_keeps
  refine ⟨(congrArg (fld · 0 4) (State.rd_of_regs hregs _)).trans hstage, hmem'.trans hmem, fun p o hp ho => (State.rd_of_regs hregs _).trans (hrd p o hp ho)⟩

/-- With its current granted, memory completes its training: staging begins, or the start holds while a sensor trips (R547, R550, R553). -/
theorem State.memoryDone_effect (h5 : s.stage = 5) (hgranted : s.startWaits none = false) : s.memoryDone.stage = (if s.trips = [] then 6 else 10) ∧
    s.memoryDone.mem = s.mem ∧ ∀ i, i < 16 → s.pagePresent .hbm i = true → fld (s.rd (reg (pgHBM i) Off.HBM_STATE)) 0 3 ≠ 5 →
      fld (s.memoryDone.rd (reg (pgHBM i) Off.HBM_STATE)) 0 3 = if s.trips = [] then 2 else 1 := by
  rw [s.memoryDone_eq h5 hgranted]
  obtain ⟨hregs, hmem, htrips, hfuse⟩ := s.startReleased_keeps
  generalize s.startReleased = t at *
  have hpresent (i : Nat) : t.pagePresent .hbm i = s.pagePresent .hbm i := by rw [State.pagePresent, hfuse, State.pagePresent]
  have hstack {n i : Nat} (hn : n < 8) (hi : i < 16) (hi' : s.pagePresent .hbm i = true) (hfailed : fld (s.rd (reg (pgHBM i) Off.HBM_STATE)) 0 3 ≠ 5) :
      fld ((t.memState n).rd (reg (pgHBM i) Off.HBM_STATE)) 0 3 = n :=
    t.memState_stack hn hi ((hpresent i).trans hi') (by rwa [State.rd_of_regs hregs])
  have hpage (i : Nat) : pgHBM i ≠ pgRST ∧ pgHBM i ≠ pgERR ∧ pgHBM i ≠ pgLEDG := by
    unfold pgHBM pgRST pgERR pgLEDG
    omega
  rw [State.tripLive, htrips]
  by_cases hcool : s.trips = []
  case pos =>
    rw [if_neg (by simp [hcool]), if_pos hcool, if_pos hcool]
    have honline := fun i => hstack (n := 2) (i := i) (by decide)
    have htrained := (t.memState_beside (p := pgRST) 2 (Or.inl (by decide))).frame
    generalize t.memState 2 = v at *
    obtain ⟨hfields, hrd⟩ := v.scrubUnits_effect
    generalize v.scrubUnits = w at *
    obtain ⟨hstage, hmem', hrd'⟩ := w.beginStaging_effect
    have hv : v.mem = t.mem := (congrArg State.mem htrained :)
    have hw : w.mem = v.mem := congrArg Prod.fst hfields
    refine ⟨hstage, hmem'.trans (hw.trans (hv.trans hmem)), fun i hi hi' hfailed => ?_⟩
    obtain ⟨hrst, herr, hledg⟩ := hpage i
    rw [hrd' _ _ hrst herr hledg (by decide), hrd _ (by rw [reg_div _ (by decide)]; exact hledg)]
    exact honline i hi hi' hfailed
  case neg =>
    rw [if_pos (by simp [hcool]), if_neg hcool, if_neg hcool]
    obtain ⟨hstage, hmem', hrd⟩ := t.holdsHot_effect
    refine ⟨hstage, hmem'.trans hmem, fun i hi hi' hfailed => ?_⟩
    rw [hrd _ _ (hpage i).1 (by decide)]
    exact hstack (by decide) hi hi' hfailed

/-! ## Links are trained (R553) -/

theorem State.linksDone_none (h : s.stage ≠ 7 ∨ s.startWaits none = true) : s.linksDone = s := if_pos (by simpa using h)

theorem State.linksDone_effect (h : s.stage = 7) (hgranted : s.startWaits none = false) : s.linksDone.stage = 8 ∧ s.linksDone.heldAlert = none ∧
    s.linksDone.mem = s.mem ∧ ∀ r, r ≠ rstReg Off.RST_STAGE → s.linksDone.rd r = s.rd r := by
  have heq : s.linksDone = (s.startReleased.setStage 8).alertFree := if_neg (by simp [h, hgranted])
  rw [heq]
  obtain ⟨hregs, hmem, -⟩ := s.startReleased_keeps
  generalize s.startReleased = t at *
  have hstage := t.stage_setStage (n := 8) (by decide)
  have hrd (r : Nat) (hr : r ≠ rstReg Off.RST_STAGE) : (t.setStage 8).rd r = t.rd r := t.rd_wr_other _ hr
  have hset : (t.setStage 8).mem = t.mem := t.mem_wr _ _
  generalize t.setStage 8 = u at *
  obtain ⟨hregs', hmem', hheld⟩ := u.alertFree_keeps
  exact ⟨(congrArg (fld · 0 4) (State.rd_of_regs hregs' _)).trans hstage, hheld, hmem'.trans (hset.trans hmem),
    fun r hr => (State.rd_of_regs hregs' r).trans ((hrd r hr).trans (State.rd_of_regs hregs r))⟩

end

/-! ## Repair records (R27, R523) -/

/-- A state with the registers, the alerts and the fuses of another. -/
def State.withFuses (s u : State) : State := { u with regs := s.regs, alerts := s.alerts, alertSeq := s.alertSeq, fuse := s.fuse }

/-- Units have been mapped out: beside the fuses and the registers of other pages than RST's nothing has changed, but alerts. -/
structure State.mapsOut (s t : State) : Prop where
  frame : s.withFuses t = s
  stage : t.stage = s.stage

namespace State.mapsOut
variable {s t u : State}

theorem refl (s : State) : s.mapsOut s := ⟨rfl, rfl⟩

theorem trans (hst : s.mapsOut t) (htu : t.mapsOut u) : s.mapsOut u where
  frame := by
    have h : s.withFuses (t.withFuses u) = s.withFuses t := by rw [htu.frame]
    exact h.trans hst.frame
  stage := htu.stage.trans hst.stage

theorem wr (s : State) {k : Nat} (v : Word) (h : k ≠ rstReg Off.RST_STAGE) : s.mapsOut (s.wr k v) := ⟨rfl, congrArg (fld · 0 4) (s.rd_wr_other v h.symm)⟩

theorem fuse (s : State) (f : FuseRec) : s.mapsOut { s with fuse := f } := ⟨rfl, rfl⟩

theorem raise (s : State) (i : Nat) : s.mapsOut (s.raise pgERR i) where
  frame := (congrArg (fun u : State => { u with fuse := s.fuse }) (s.raise_frame pgERR i) :)
  stage := congrArg (fld · 0 4) (s.rd_raise pgERR i (rstReg Off.RST_STAGE) (by decide) (by decide) (by decide))

theorem foldl {α : Type} {f : State → α → State} (h : ∀ (t : State) a, t.mapsOut (f t a)) (l : List α) (s : State) : s.mapsOut (l.foldl f s) :=
  foldl_keeps (fun t => s.mapsOut t) f (fun t a ht => ht.trans (h t a)) l s (refl s)

end State.mapsOut

section
variable (s : State)

theorem State.repairOutcome_mapsOut (short : Bool) : s.mapsOut (s.repairOutcome short) := State.mapsOut.wr s _ (by decide)

/-- A repair of a cluster (R27, R432, R524). -/
theorem State.repairClu_mapsOut (cl : Nat) : s.mapsOut (s.repairClu cl) := by
  unfold State.repairClu
  dsimp only
  split
  · exact State.mapsOut.refl s
  · exact (State.mapsOut.fuse s _).trans (State.repairOutcome_mapsOut _ _)
  · split
    · exact (State.mapsOut.fuse s _).trans (State.repairOutcome_mapsOut _ _)
    · refine State.mapsOut.trans ?_ (State.mapsOut.raise _ 4)
      refine State.mapsOut.trans ?_ (State.repairOutcome_mapsOut _ true)
      refine State.mapsOut.trans (State.mapsOut.fuse s _) (State.mapsOut.wr _ _ ?_)
      exact reg_ne (by decide) (by decide) (Or.inr (by decide))

/-- A repair of a core (R27). -/
theorem State.repairCore_mapsOut (cl p : Nat) : s.mapsOut (s.repairCore cl p) := by
  unfold State.repairCore
  dsimp only
  split
  · exact State.mapsOut.refl s
  · refine State.mapsOut.trans (State.mapsOut.fuse s { s.fuse with coreOff := mapSet false s.fuse.coreOff (coreKey cl p) true }) ?_
    split
    · exact State.repairOutcome_mapsOut _ _
    · split
      · exact (State.mapsOut.fuse _ _).trans (State.repairOutcome_mapsOut _ _)
      · exact State.repairClu_mapsOut _ _

/-- A repair record applied (R27, R523). -/
theorem State.applyRepair_mapsOut (r : Repair) : s.mapsOut (s.applyRepair r) := by
  unfold State.applyRepair
  dsimp only
  split
  · exact s.repairClu_mapsOut _
  · split
    · exact s.repairCore_mapsOut _ _
    · split
      · exact State.mapsOut.refl s
      · split
        · split
          · exact State.mapsOut.refl s
          · exact s.repairCore_mapsOut _ _
        · exact (State.mapsOut.fuse s _).trans (State.repairOutcome_mapsOut _ _)

theorem State.loadRowMaps_mapsOut (die : Nat) : s.mapsOut (s.loadRowMaps die) := by
  refine State.mapsOut.foldl (fun t x => ?_) _ _
  split
  · refine State.mapsOut.wr t _ fun he => ?_
    have hge := wreg_ge (x.1 % 128) (pgCLU (x.1 / 128)) Off.CORE_ROW_MAP
    rw [he] at hge
    exact absurd hge (by decide)
  · exact State.mapsOut.refl t

end

/-! ## A die is staged (R553, R554) -/

section
variable (s : State) (die : Nat)

/-- The records of a die pend no longer (R523). -/
def State.dropRepairs : State := { s with repairs := s.repairs.filter fun r => decide (r.clu / 375 ≠ die) }

theorem State.dropRepairs_keeps : (s.dropRepairs die).repairs = (s.repairs.filter fun r => decide (r.clu / 375 ≠ die)) ∧ (s.dropRepairs die).stage = s.stage ∧
    (s.dropRepairs die).mem = s.mem ∧ (s.dropRepairs die).stagedDies = s.stagedDies := ⟨rfl, rfl, rfl, rfl⟩

/-- Records are applied, and the row maps of their die loaded (R103, R523). -/
def State.applyRepairs (l : List Repair) : State := (l.foldl State.applyRepair s).loadRowMaps die

theorem State.applyRepairs_mapsOut (l : List Repair) : s.mapsOut (s.applyRepairs die l) :=
  (State.mapsOut.foldl State.applyRepair_mapsOut l s).trans (State.loadRowMaps_mapsOut _ die)

/-- The pending records of a die, applied on a cold start (R523, R553). -/
def State.diePending : State :=
  if s.warmStart then s else (s.dropRepairs die).applyRepairs die (s.repairs.filter fun r => decide (r.clu / 375 = die))

/-- The records of units that fail the self-test join those that are pending (R554). -/
def State.dieFails (new : List Repair) : State :=
  if new = [] then s else ({ s with repairs := s.repairs ++ new.take (512 - s.repairs.length) } : State).raise pgERR 3

/-- A die joins those that are staged (R553). -/
def State.addDie : State := { s with stagedDies := s.stagedDies ++ [die] }

theorem State.addDie_keeps : (s.addDie die).regs = s.regs ∧ (s.addDie die).repairs = s.repairs ∧ (s.addDie die).mem = s.mem ∧
    (s.addDie die).stagedDies = s.stagedDies ++ [die] := ⟨rfl, rfl, rfl, rfl⟩

/-- The staging of a die ends (R553, R554). -/
def State.dieEnds : State :=
  let t := (s.releaseUnits (fun u => startUnit u && u.acct == die) none).addDie die
  if die = 7 then (t.setStage 7).askUnits (trainUnits (t.setStage 7) 7) else t.askUnits (t.stageUnits (die + 1))

/-- The records left pending when a die is staged (R523). -/
def State.repairsLeft : List Repair := if s.warmStart then s.repairs else s.repairs.filter fun r => decide (r.clu / 375 ≠ die)

/-- The records of the units of a die that fail the self-test (R554). -/
def failedUnits (bad : List (BitVec 2 × BitVec 9 × CoreIx × BitVec 4)) : List Repair :=
  bad.map fun b => ({ kind := b.1.toNat, clu := die * 375 + b.2.1.toNat, core := b.2.2.1.toNat, row := b.2.2.2.toNat } : Repair)

theorem State.dieStaged_none (bad : List (BitVec 2 × BitVec 9 × CoreIx × BitVec 4))
    (h : s.stage ≠ 6 ∨ s.stagedDies.length ≠ die ∨ s.startWaits (some die) = true) : s.dieStaged die bad = s := if_pos (by simpa [or_assoc] using h)

theorem State.dieStaged_eq (bad : List (BitVec 2 × BitVec 9 × CoreIx × BitVec 4)) (h6 : s.stage = 6) (hnext : s.stagedDies.length = die)
    (hgranted : s.startWaits (some die) = false) : s.dieStaged die bad = ((s.diePending die).dieFails (failedUnits die bad)).dieEnds die :=
  if_neg (by simp [h6, hnext, hgranted])

theorem State.diePending_effect : (s.diePending die).repairs = s.repairsLeft die ∧ (s.diePending die).stage = s.stage ∧ (s.diePending die).mem = s.mem ∧
    (s.diePending die).stagedDies = s.stagedDies := by
  unfold State.diePending State.repairsLeft
  cases s.warmStart with
  | true => exact ⟨rfl, rfl, rfl, rfl⟩
  | false =>
    rw [if_neg Bool.false_ne_true, if_neg Bool.false_ne_true]
    obtain ⟨hrepairs, hstage, hmem, hdies⟩ := s.dropRepairs_keeps die
    rw [← hrepairs, ← hstage, ← hmem, ← hdies]
    generalize s.dropRepairs die = u at *
    have h := u.applyRepairs_mapsOut die (s.repairs.filter fun r => decide (r.clu / 375 = die))
    generalize u.applyRepairs die _ = t at *
    exact ⟨(congrArg State.repairs h.frame :), h.stage, (congrArg State.mem h.frame :), (congrArg State.stagedDies h.frame :)⟩

theorem State.dieFails_effect (new : List Repair) : (s.dieFails new).repairs = s.repairs ++ new.take (512 - s.repairs.length) ∧ (s.dieFails new).stage = s.stage ∧
    (s.dieFails new).mem = s.mem ∧ (s.dieFails new).stagedDies = s.stagedDies ∧ (new ≠ [] → bit ((s.dieFails new).rd (reg pgERR Off.EVENT)) 3 = true) := by
  unfold State.dieFails
  split
  · next h =>
    rw [h, List.take_nil, List.append_nil]
    exact ⟨rfl, rfl, rfl, rfl, fun hne => absurd rfl hne⟩
  · have hevent (u : State) := u.event_raise pgERR 3 (by decide) (by decide)
    have hmaps (u : State) := State.mapsOut.raise u 3
    refine ⟨?_, ?_, ?_, ?_, fun _ => hevent _⟩
    · exact (congrArg State.repairs (hmaps _).frame :)
    · exact (hmaps _).stage
    · exact (congrArg State.mem (hmaps _).frame :)
    · exact (congrArg State.stagedDies (hmaps _).frame :)

theorem State.dieEnds_effect (hdie : die ≤ 7) : (s.dieEnds die).repairs = s.repairs ∧ (s.dieEnds die).mem = s.mem ∧ (s.dieEnds die).stagedDies = s.stagedDies ++ [die] ∧
    (s.dieEnds die).stage = (if die = 7 then 7 else s.stage) ∧ (s.dieEnds die).rd (reg pgERR Off.EVENT) = s.rd (reg pgERR Off.EVENT) := by
  have hreleased : (s.releaseUnits (fun u => startUnit u && u.acct == die) none).startFields = s.startFields := s.startFields_releaseUnits _ _
  have hregs : (s.releaseUnits (fun u => startUnit u && u.acct == die) none).regs = s.regs := s.releaseUnits_regs _ _
  have hask (t : State) {us : List LUnit} (hus : ∀ u ∈ us, u.acct ≤ 12) : (t.askUnits us).repairs = t.repairs ∧ (t.askUnits us).mem = t.mem ∧
      (t.askUnits us).stagedDies = t.stagedDies ∧ (t.askUnits us).stage = t.stage ∧ (t.askUnits us).rd (reg pgERR Off.EVENT) = t.rd (reg pgERR Off.EVENT) := by
    have hfields := t.startFields_askUnits us
    simp only [State.startFields, Prod.mk.injEq] at hfields
    obtain ⟨hmem, -, hdies, hrepairs, -⟩ := hfields
    exact ⟨hrepairs, hmem, hdies, congrArg (fld · 0 4) (t.rd_askUnits hus (k := rstReg Off.RST_STAGE) (by decide)), t.rd_askUnits hus (by decide)⟩
  unfold State.dieEnds
  dsimp only
  generalize s.releaseUnits (fun u => startUnit u && u.acct == die) none = t at *
  simp only [State.startFields, Prod.mk.injEq] at hreleased
  obtain ⟨hmem, -, hdies, hrepairs, -⟩ := hreleased
  obtain ⟨hvregs, hvrepairs, hvmem, hvdies⟩ := t.addDie_keeps die
  generalize t.addDie die = v at *
  have hrd (k : Nat) : v.rd k = s.rd k := (State.rd_of_regs hvregs k).trans (State.rd_of_regs hregs k)
  split
  · have hstage := v.stage_setStage (n := 7) (by decide)
    have hevent : (v.setStage 7).rd (reg pgERR Off.EVENT) = v.rd (reg pgERR Off.EVENT) := v.rd_wr_other _ (by decide)
    have hw : (v.setStage 7).startFields = v.startFields := v.startFields_wr (rstReg Off.RST_STAGE) 7#32
    generalize v.setStage 7 = w at *
    simp only [State.startFields, Prod.mk.injEq] at hw
    obtain ⟨hwmem, -, hwdies, hwrepairs, -⟩ := hw
    obtain ⟨hr, hm, hd, hs, he⟩ := hask w (trainUnits_acct w 7)
    exact ⟨hr.trans (hwrepairs.trans (hvrepairs.trans hrepairs)), hm.trans (hwmem.trans (hvmem.trans hmem)), hd.trans (hwdies.trans (hvdies.trans (by rw [hdies]))),
      hs.trans hstage, he.trans (hevent.trans (hrd _))⟩
  · next hlast =>
    obtain ⟨hr, hm, hd, hs, he⟩ := hask v (us := v.stageUnits (die + 1)) fun u hu => by rw [v.stageUnits_acct (die + 1) u hu]; omega
    exact ⟨hr.trans (hvrepairs.trans hrepairs), hm.trans (hvmem.trans hmem), hd.trans (hvdies.trans (by rw [hdies])),
      hs.trans (congrArg (fld · 0 4) (hrd _)), he.trans (hrd _)⟩

/-- A die whose turn it is, and whose clusters have their current, is staged (R553, R554). -/
theorem State.dieStaged_effect (bad : List (BitVec 2 × BitVec 9 × CoreIx × BitVec 4)) (hdie : die ≤ 7) (h6 : s.stage = 6) (hnext : s.stagedDies.length = die)
    (hgranted : s.startWaits (some die) = false) : (s.dieStaged die bad).stagedDies = s.stagedDies ++ [die] ∧ (s.dieStaged die bad).stage = (if die = 7 then 7 else 6) ∧
    (s.dieStaged die bad).repairs = s.repairsLeft die ++ (failedUnits die bad).take (512 - (s.repairsLeft die).length) ∧
    (bad ≠ [] → bit ((s.dieStaged die bad).rd (reg pgERR Off.EVENT)) 3 = true) ∧ (s.dieStaged die bad).mem = s.mem := by
  rw [s.dieStaged_eq die bad h6 hnext hgranted]
  obtain ⟨hrepairs, hstage, hmem, hdies⟩ := s.diePending_effect die
  generalize s.diePending die = t at *
  obtain ⟨hrepairs', hstage', hmem', hdies', hevent⟩ := t.dieFails_effect (failedUnits die bad)
  generalize t.dieFails (failedUnits die bad) = u at *
  obtain ⟨hr, hm, hd, hs, he⟩ := u.dieEnds_effect die hdie
  refine ⟨hd.trans (by rw [hdies', hdies]), hs.trans (by rw [hstage', hstage, h6]), hr.trans (by rw [hrepairs', hrepairs]), fun hbad => ?_, hm.trans (hmem'.trans hmem)⟩
  rw [he]
  exact hevent fun h => hbad (List.map_eq_nil_iff.1 h)

end

end Sys2Proof.Machine
end

section
/-! PROOFS. The watchdog, the end of THERMAL_HOLD and a lost lock (R542, R550, R555, R556, R559). -/

namespace Sys2Proof.Machine

open Sys2Proof

/-! ## A warm-class reset is recognised (R542, R545, R555, R556) -/

section
variable (s : State)

/-- Beside a pulse, the rails and registers nothing has changed. -/
def State.withRamp (s u : State) : State := { u with regs := s.regs, rails := s.rails, nv := s.nv }

/-- LSTEP_N assert, and a pulse under way is its last (R297, R545). -/
def State.rampBegins : State := (List.range 8).foldl (fun t a => t.assertLstep a) s.holdPulse

/-- A reset of a cause is due. -/
def State.resetDue (cause : Nat) : State := { s with warm := some cause }

theorem State.resetDue_keeps (cause : Nat) : (s.resetDue cause).regs = s.regs ∧ (s.resetDue cause).mem = s.mem ∧ (s.resetDue cause).ctx = s.ctx ∧
    (s.resetDue cause).warm = some cause := ⟨rfl, rfl, rfl, rfl⟩

theorem State.rampBegins_effect : s.withRamp s.rampBegins = s ∧ ∀ o < 4096, s.rampBegins.rd (reg pgRST o) = s.rd (reg pgRST o) := by
  have hpulse := s.holdPulse_frame
  have hpage (o : Nat) (ho : o < 4096) := s.holdPulse_page (p := pgRST) ho (by decide)
  unfold State.rampBegins
  generalize s.holdPulse = t at *
  have hasserts := t.assertsLstep_foldl (List.nodup_range (n := 8))
  have hframe : t.withRails ((List.range 8).foldl State.assertLstep t) = t := hasserts.frame
  refine ⟨?_, fun o ho => (hasserts.keeps _ (reg_ne ho (by decide) (Or.inl (by decide)))).trans (hpage o ho)⟩
  have hlift : s.withRamp (t.withRails ((List.range 8).foldl State.assertLstep t)) = s.withRamp t := by rw [hframe]
  refine hlift.trans ((congrArg (fun u : State => { u with rails := s.rails }) hpulse :).trans ?_)
  rfl

theorem State.beginWarm_eq (cause : Nat) : s.beginWarm cause = s.rampBegins.resetDue (mergeCause s.rampBegins.warm cause) := rfl

/-- Memory, the contexts and the page of resets are as before when a warm-class reset begins. -/
theorem State.beginWarm_effect (cause : Nat) : (s.beginWarm cause).warm = some (mergeCause s.warm cause) ∧ (s.beginWarm cause).mem = s.mem ∧
    (s.beginWarm cause).ctx = s.ctx ∧ ∀ o < 4096, (s.beginWarm cause).rd (reg pgRST o) = s.rd (reg pgRST o) := by
  obtain ⟨hframe, hpage⟩ := s.rampBegins_effect
  rw [s.beginWarm_eq cause]
  generalize s.rampBegins = t at *
  have hwarm : t.warm = s.warm := (congrArg State.warm hframe :)
  obtain ⟨hregs, hmem, hctx, hdue⟩ := t.resetDue_keeps (mergeCause t.warm cause)
  exact ⟨hdue.trans (by rw [hwarm]), hmem.trans (congrArg State.mem hframe :), hctx.trans (congrArg State.ctx hframe :),
    fun o ho => (State.rd_of_regs hregs _).trans (hpage o ho)⟩

/-! ## The watchdog (R542, R556) -/

/-- Is the watchdog armed? -/
def State.watchdogRuns : Bool := bit (s.rd (rstReg Off.RST_WDT_CFG)) 0 && decide (3 ≤ s.stage)

theorem State.watchdog_none (h : s.watchdogRuns = false) : s.watchdog = s := by
  refine if_pos ?_
  unfold State.watchdogRuns at h
  cases hbit : bit (s.rd (rstReg Off.RST_WDT_CFG)) 0 <;> simp_all

/-- The error that an expiry records (R542). -/
def State.watchdogErr : State := s.pageErr pgRST Err.WATCHDOG_EXPIRED 0 0 2#32

theorem State.watchdog_eq (h : s.watchdogRuns = true) : s.watchdog =
    if s.watchdogErr.fatal.isSome || s.watchdogErr.stage = 10 then s.watchdogErr else s.watchdogErr.beginWarm 4 := by
  refine if_neg ?_
  unfold State.watchdogRuns at h
  simp_all

theorem State.watchdog_effect (h : s.watchdogRuns = true) : bit (s.watchdog.rd (reg pgRST Off.EVENT)) 1 = true ∧ bit (s.watchdog.rd (reg pgRST Off.EVENT)) 30 = true ∧
    s.watchdog.mem = s.mem ∧ s.watchdog.ctx = s.ctx ∧
    s.watchdog.warm = if s.fatal.isSome || decide (s.stage = 10) then s.warm else some (mergeCause s.warm 4) := by
  have hframe : s.withEvents s.watchdogErr = s := s.pageErr_frame _ _ _ _ _
  have hone : bit (s.watchdogErr.rd (reg pgRST Off.EVENT)) 1 = true := s.event_pageErr _ _ _ _ _ 1 (Or.inl (by decide))
  have herror : bit (s.watchdogErr.rd (reg pgRST Off.EVENT)) 30 = true := s.event_pageErr _ _ _ _ _ 30 (Or.inl (by decide))
  have hstage : s.watchdogErr.stage = s.stage := congrArg (fld · 0 4) (s.rd_pageErr_body _ _ _ _ _ (k := rstReg Off.RST_STAGE) (by decide) (by decide))
  rw [s.watchdog_eq h]
  generalize s.watchdogErr = t at *
  have hfatal : t.fatal = s.fatal := (congrArg State.fatal hframe :)
  have hwarm : t.warm = s.warm := (congrArg State.warm hframe :)
  have hmem : t.mem = s.mem := (congrArg State.mem hframe :)
  have hctx : t.ctx = s.ctx := (congrArg State.ctx hframe :)
  rw [hfatal, hstage]
  split
  · exact ⟨hone, herror, hmem, hctx, hwarm⟩
  · obtain ⟨hdue, hmem', hctx', hpage⟩ := t.beginWarm_effect 4
    rw [hpage _ (by decide)]
    exact ⟨hone, herror, hmem'.trans hmem, hctx'.trans hctx, by rw [hdue, hwarm]⟩

/-! ## The end of THERMAL_HOLD (R550) -/

/-- Does every sensor read below the limit? -/
def State.cooled : Bool := s.temps.all fun p => decide (p.2.toInt < (fld (s.rd (rstReg Off.RST_THERM_CLEAR)) 0 8 : Int) * 16)

theorem State.cooled_iff : s.cooled = !s.temps.any fun p => decide ((fld (s.rd (rstReg Off.RST_THERM_CLEAR)) 0 8 : Int) * 16 ≤ p.2.toInt) := by
  rw [State.cooled, List.all_eq_not_any_not]
  congr 2
  funext p
  rw [← decide_not]
  simp

theorem State.holdExit_none (h : s.stage ≠ 10 ∨ s.cooled = false) : s.holdExit = s := by
  rw [s.cooled_iff, Bool.not_eq_false'] at h
  exact if_pos (by simpa using h)

theorem State.holdExit_effect (h : s.stage = 10) (hcool : s.cooled = true) : s.holdExit.stage = 3 ∧ s.holdExit.warmStart = true ∧
    { s.holdExit with regs := s.regs, warmStart := s.warmStart } = s := by
  have heq : s.holdExit = (s.setStage 3).warmNext := by
    rw [s.cooled_iff, Bool.not_eq_true'] at hcool
    exact if_neg (by rw [hcool, Bool.or_false, decide_eq_true_iff]; exact not_not.2 h)
  have hstage := s.stage_setStage (n := 3) (by decide)
  have hframe : s.withRegs (s.setStage 3) = s := (s.withRegs_wr _ _ _).trans s.withRegs_self
  rw [heq]
  generalize s.setStage 3 = t at *
  exact ⟨(congrArg (fld · 0 4) (State.rd_of_regs t.warmNext_keeps.1 _)).trans hstage, rfl, (congrArg (fun u : State => { u with warmStart := s.warmStart }) hframe :)⟩

end

/-! ## A lost lock (R526, R559) -/

section
variable (s : State)

/-- A frame counts on its port only (R459). -/
theorem State.rd_sendFrame (p : Nat) (dom : Option Nat) (kind : String) (fields : List Nat) (data : List Byte) {k : Nat} (hk : k / 4096 < 0x30 ∨ 0x42 ≤ k / 4096) :
    (s.sendFrame p dom kind fields data).rd k = s.rd k := by
  have hserdes : (s.serdes dom data.length).rd k = s.rd k := by
    unfold State.serdes State.addCharge
    split
    · split <;> rfl
    · rfl
  have hport (hp : p < 18) : k ≠ ethReg p Off.ETH_TX_FRAMES := fun he => by
    rw [he, ethReg, reg_div _ (by decide), pgETH] at hk
    omega
  unfold State.sendFrame
  generalize hsends : (s.portCarries p && _) = b
  cases b with
  | false => rfl
  | true =>
    have hp : p < 18 := by
      simp only [State.portCarries, State.portPresent, Bool.and_eq_true, decide_eq_true_eq] at hsends
      tauto
    exact (State.rd_countFrame _ p true (hport hp)).trans hserdes

/-- No register of the clocks' page has changed, and neither have the clock of the timers nor the fatal delay. -/
structure State.keepsClock (s t : State) : Prop where
  page : ∀ o < 4096, t.rd (reg pgCLK o) = s.rd (reg pgCLK o)
  timer : t.timer = s.timer
  fatal : t.fatal = s.fatal

theorem State.keepsClock.trans {s t u : State} (hst : s.keepsClock t) (htu : t.keepsClock u) : s.keepsClock u :=
  ⟨fun o ho => (htu.page o ho).trans (hst.page o ho), htu.timer.trans hst.timer, htu.fatal.trans hst.fatal⟩

theorem State.keepsClock_refl : s.keepsClock s := ⟨fun _ _ => rfl, rfl, rfl⟩

/-- A register of the ERR page is written. -/
theorem State.keepsClock.wr {s t : State} (h : s.keepsClock t) {o : Nat} (v : Word) (ho : o < 4096) : s.keepsClock (t.wr (reg pgERR o) v) :=
  h.trans ⟨fun _ hx => t.rd_wr_other v (reg_ne hx ho (Or.inl (by decide))), rfl, rfl⟩

theorem State.keepsClock_pushAlert (page sev : Nat) (bits : Word) : s.keepsClock (s.pushAlert page sev bits) where
  page o ho := s.rd_pushAlert page sev bits _ (reg_ne ho (by decide) (Or.inl (by decide))) (reg_ne ho (by decide) (Or.inl (by decide)))
  timer := (congrArg State.timer (s.pushAlert_frame page sev bits) :)
  fatal := (congrArg State.fatal (s.pushAlert_frame page sev bits) :)

theorem State.keepsClock_sendAbort (g : Nat) (code : Code) : s.keepsClock (s.sendAbort g code) where
  page o ho := s.rd_sendFrame _ _ _ _ _ (by rw [reg_div _ ho]; decide)
  timer := (congrArg State.timer (s.sendFrame_frame _ _ _ _ _) :)
  fatal := (congrArg State.fatal (s.sendFrame_frame _ _ _ _ _) :)

/-- The aborts that a fatal condition sends (R526). -/
def State.abortsSent (code : Code) : State := s.grps.foldl (fun t g => if g.2.winOpen then t.sendAbort g.1 code else t) s

theorem State.keepsClock_abortsSent (code : Code) : s.keepsClock (s.abortsSent code) := by
  refine foldl_keeps (fun t => s.keepsClock t) _ (fun t g ht => ht.trans ?_) s.grps s s.keepsClock_refl
  split
  · exact t.keepsClock_sendAbort _ _
  · exact t.keepsClock_refl

/-- The first fatal condition is recorded in MRAM (R538). -/
def State.fatalNoted (code : Code) (info : Nat) : State :=
  if s.fatal.isNone then
    let t := (s.wr (reg pgERR Off.ERR_FATAL_CODE) (code.setWidth 32)).wr (reg pgERR Off.ERR_FATAL_INFO) (BitVec.ofNat 32 info)
    t.wr64 (reg pgERR Off.ERR_FATAL_TIME_LO) t.now
  else s

/-- A fatal condition is an error of the ERR page, and pushes FATAL (R526). -/
def State.fatalPushed (code : Code) (info : Nat) : State :=
  let ev := s.rd (reg pgERR Off.EVENT)
  let s := if bit ev evError then s
    else ((s.wr (reg pgERR Off.ERR_CODE) (code.setWidth 32)).wr (reg pgERR Off.ERR_INFO0) (BitVec.ofNat 32 info)).wr (reg pgERR Off.ERR_INFO1) 0
  let bits : Word := 4#32 ||| BitVec.ofNat 32 (2 ^ evError)
  let s := s.wr (reg pgERR Off.EVENT) (ev ||| bits)
  s.pushAlert pgERR 2 (4#32 ||| (bits &&& ~~~ev &&& s.rd (reg pgERR Off.EVENT_EN)))

theorem State.keepsClock_fatalNoted (code : Code) (info : Nat) : s.keepsClock (s.fatalNoted code info) := by
  unfold State.fatalNoted
  split
  · dsimp only
    unfold State.wr64
    refine State.keepsClock.wr (o := Off.ERR_FATAL_TIME_LO + 4) ?_ _ (by decide)
    exact ((s.keepsClock_refl.wr _ (by decide)).wr _ (by decide)).wr _ (by decide)
  · exact s.keepsClock_refl

theorem State.keepsClock_fatalPushed (code : Code) (info : Nat) : s.keepsClock (s.fatalPushed code info) := by
  have herror (q : Prop) [Decidable q] (x y z : Word) : s.keepsClock (if q then s else ((s.wr (reg pgERR Off.ERR_CODE) x).wr (reg pgERR Off.ERR_INFO0) y).wr (reg pgERR Off.ERR_INFO1) z) := by
    split
    · exact s.keepsClock_refl
    · exact ((s.keepsClock_refl.wr _ (by decide)).wr _ (by decide)).wr _ (by decide)
  unfold State.fatalPushed
  dsimp only
  exact ((herror _ _ _ _).wr _ (by decide)).trans (State.keepsClock_pushAlert _ _ _ _)

/-- The fatal delay begins (R526). -/
def State.delayBegins : State := { s with fatal := some s.timer }

theorem State.delayBegins_keeps : s.delayBegins.regs = s.regs ∧ s.delayBegins.fatal = some s.timer := ⟨rfl, rfl⟩

theorem State.fatalError_eq (code : Code) (info : Nat) : s.fatalError code info =
    if !s.fatal.isNone then (s.fatalNoted code info).fatalPushed code info else (((s.fatalNoted code info).fatalPushed code info).abortsSent code).delayBegins := rfl

/-- A fatal condition begins its delay, unless one runs; the page of the clocks is as before (R526). -/
theorem State.fatalError_effect (code : Code) (info : Nat) : (s.fatalError code info).fatal = some (s.fatal.getD s.timer) ∧
    ∀ o < 4096, (s.fatalError code info).rd (reg pgCLK o) = s.rd (reg pgCLK o) := by
  have hpushed := (s.keepsClock_fatalNoted code info).trans (State.keepsClock_fatalPushed _ code info)
  rw [s.fatalError_eq code info]
  generalize (s.fatalNoted code info).fatalPushed code info = t at *
  cases hfatal : s.fatal with
  | some at' => exact ⟨hpushed.fatal.trans hfatal, hpushed.page⟩
  | none =>
    have hsent := hpushed.trans (t.keepsClock_abortsSent code)
    have heq : (if !(none : Option Nat).isNone then t else (t.abortsSent code).delayBegins) = (t.abortsSent code).delayBegins := rfl
    rw [heq]
    generalize t.abortsSent code = u at *
    obtain ⟨hregs, hdelay⟩ := u.delayBegins_keeps
    exact ⟨hdelay.trans (congrArg some hsent.timer), fun o ho => (State.rd_of_regs hregs _).trans (hsent.page o ho)⟩

/-- The clock of a domain has lost its lock, and is counted (R559). -/
def State.lockLost (d : Nat) : State := (s.wrBit (reg pgCLK Off.CLK_LOCK) (d - 1) false).inc (reg pgCLK Off.CLK_UNLOCKS)

/-- The error of a lost lock (R559). -/
def State.lockErr (d : Nat) : State := (s.lockLost d).pageErr pgCLK Err.PLL_UNLOCK d 0 1#32

theorem State.pllUnlock_none {d : Nat} (h : bit (s.rd (reg pgCLK Off.CLK_LOCK)) (d - 1) = false ∨ 23 < d) : s.pllUnlock d = s := if_pos (by simpa using h)

theorem State.pllUnlock_eq {d : Nat} (hlock : bit (s.rd (reg pgCLK Off.CLK_LOCK)) (d - 1) = true) (hd : d ≤ 23) :
    s.pllUnlock d = (s.lockErr d).fatalError Err.PLL_UNLOCK d := if_neg (by simp [hlock, hd])

theorem State.lockLost_effect (d : Nat) : (s.lockLost d).rd (reg pgCLK Off.CLK_LOCK) = setBit (s.rd (reg pgCLK Off.CLK_LOCK)) (d - 1) false ∧
    (s.lockLost d).rd (reg pgCLK Off.CLK_UNLOCKS) = satAdd (s.rd (reg pgCLK Off.CLK_UNLOCKS)) 1 ∧
    (s.lockLost d).rd (reg pgCLK Off.EVENT) = s.rd (reg pgCLK Off.EVENT) ∧ s.withRegs (s.lockLost d) = s := by
  unfold State.lockLost State.wrBit State.inc
  refine ⟨?_, ?_, ?_, ?_⟩
  · rw [State.rd_wr_other _ _ (by decide), State.rd_wr_self]
  · rw [State.rd_wr_self, State.rd_wr_other _ _ (by decide)]
  · rw [State.rd_wr_other _ _ (by decide), State.rd_wr_other _ _ (by decide)]
  · rw [State.withRegs_wr, State.withRegs_wr, State.withRegs_self]

/-- The first error of a page stands with its information (R431). -/
theorem State.errInfo_pageErr (code : Code) (i0 : Nat) (bits : Word) (h : bit (s.rd (reg pgCLK Off.EVENT)) 30 = false) :
    (s.pageErr pgCLK code i0 0 bits).rd (reg pgCLK Off.ERR_INFO0) = BitVec.ofNat 32 i0 := by
  unfold State.pageErr
  dsimp only
  rw [State.rd_raiseBits _ _ _ _ (by decide) (by decide) (by decide), if_neg (by rw [evError, h]; exact Bool.false_ne_true),
    State.rd_wr_other _ _ (by decide), State.rd_wr_self]

/-- A lock that stood is lost: counted, recorded and fatal (R559). -/
theorem State.pllUnlock_effect {d : Nat} (hlock : bit (s.rd (reg pgCLK Off.CLK_LOCK)) (d - 1) = true) (hd : d ≤ 23) :
    (∀ i, i < 32 → bit ((s.pllUnlock d).rd (reg pgCLK Off.CLK_LOCK)) i = (bit (s.rd (reg pgCLK Off.CLK_LOCK)) i && decide (i ≠ d - 1))) ∧
    (s.pllUnlock d).rd (reg pgCLK Off.CLK_UNLOCKS) = satAdd (s.rd (reg pgCLK Off.CLK_UNLOCKS)) 1 ∧
    bit ((s.pllUnlock d).rd (reg pgCLK Off.EVENT)) 0 = true ∧ bit ((s.pllUnlock d).rd (reg pgCLK Off.EVENT)) 30 = true ∧
    (bit (s.rd (reg pgCLK Off.EVENT)) 30 = false → (s.pllUnlock d).rd (reg pgCLK Off.ERR_INFO0) = BitVec.ofNat 32 d) ∧
    (s.pllUnlock d).fatal = some (s.fatal.getD s.timer) := by
  rw [s.pllUnlock_eq hlock hd]
  obtain ⟨hbits, hcount, hevent, hframe⟩ := s.lockLost_effect d
  unfold State.lockErr
  generalize s.lockLost d = t at *
  have hrd {o : Nat} (ho : o < 4096) (hbody : 0x40 ≤ o) : (t.pageErr pgCLK Err.PLL_UNLOCK d 0 1#32).rd (reg pgCLK o) = t.rd (reg pgCLK o) :=
    t.rd_pageErr_body _ _ _ _ _ (by rw [reg_mod _ ho]; exact hbody) (reg_ne ho (by decide) (Or.inl (by decide)))
  have hlockBit := hrd (o := Off.CLK_LOCK) (by decide) (by decide)
  have hunlocks := hrd (o := Off.CLK_UNLOCKS) (by decide) (by decide)
  have hzero : bit ((t.pageErr pgCLK Err.PLL_UNLOCK d 0 1#32).rd (reg pgCLK Off.EVENT)) 0 = true := t.event_pageErr _ _ _ _ _ 0 (Or.inl (by decide))
  have herror : bit ((t.pageErr pgCLK Err.PLL_UNLOCK d 0 1#32).rd (reg pgCLK Off.EVENT)) 30 = true := t.event_pageErr _ _ _ _ _ 30 (Or.inl (by decide))
  have hinfo (h : bit (t.rd (reg pgCLK Off.EVENT)) 30 = false) := t.errInfo_pageErr Err.PLL_UNLOCK d 1#32 h
  have hevents := t.pageErr_frame pgCLK Err.PLL_UNLOCK d 0 1#32
  generalize t.pageErr pgCLK Err.PLL_UNLOCK d 0 1#32 = u at *
  obtain ⟨hfatal, hpage⟩ := u.fatalError_effect Err.PLL_UNLOCK d
  have hfatal' : u.fatal = s.fatal := (congrArg State.fatal hevents :).trans (congrArg State.fatal hframe :)
  have htimer : u.timer = s.timer := (congrArg State.timer hevents :).trans (congrArg State.timer hframe :)
  refine ⟨fun i hi => ?_, ?_, ?_, ?_, fun h => ?_, ?_⟩
  · rw [hpage _ (by decide), hlockBit, hbits, bit_setBit _ _ _ _ hi]
    by_cases he : i = d - 1 <;> simp [he]
  · rw [hpage _ (by decide), hunlocks, hcount]
  · rw [hpage _ (by decide)]
    exact hzero
  · rw [hpage _ (by decide)]
    exact herror
  · rw [hpage _ (by decide)]
    exact hinfo (by rw [hevent]; exact h)
  · rw [hfatal, hfatal', htimer]

end

end Sys2Proof.Machine
end

section
/-! PROOFS. What a fence of the write-combining buffers leaves (R348, R354, R548). -/

namespace Sys2Proof.Machine

open Sys2Proof

/-- A state with what a flush may change taken from another: memory, its marks, granules and buffers, its tags, counts and spares, and events. -/
def State.withFlush (s u : State) : State := { u with
  fresh := s.fresh, regs := s.regs, mem := s.mem, marks := s.marks, grans := s.grans, alerts := s.alerts, alertSeq := s.alertSeq, wc := s.wc, wcFence := s.wcFence, tags := s.tags,
  slowRem := s.slowRem, met := s.met, ceNew := s.ceNew, sparesUsed := s.sparesUsed, patrol := s.patrol }

/-- Only memory and its records have changed, and no register of the reset page. -/
structure State.flushed (s t : State) : Prop where
  frame : s.withFlush t = s
  page : ∀ o < 4096, t.rd (reg pgRST o) = s.rd (reg pgRST o)

namespace State.flushed
variable {s t u : State}

theorem refl (s : State) : s.flushed s := ⟨rfl, fun _ _ => rfl⟩

theorem trans (hst : s.flushed t) (htu : t.flushed u) : s.flushed u where
  frame := by
    have h : s.withFlush (t.withFlush u) = s.withFlush t := by rw [htu.frame]
    exact h.trans hst.frame
  page o ho := (htu.page o ho).trans (hst.page o ho)

theorem of_regs (hframe : s.withFlush t = s) (hregs : t.regs = s.regs) : s.flushed t := ⟨hframe, fun _ _ => State.rd_of_regs hregs _⟩

theorem foldl {α : Type} {f : State → α → State} (h : ∀ (t : State) a, t.flushed (f t a)) (l : List α) (s : State) : s.flushed (l.foldl f s) :=
  foldl_keeps (fun t => s.flushed t) f (fun t a ht => ht.trans (h t a)) l s (refl s)

theorem ite {q : Prop} [Decidable q] (ht : s.flushed t) (hu : s.flushed u) : s.flushed (if q then t else u) := by
  split
  · exact ht
  · exact hu

/-- A register of another page, or of a window. -/
theorem wr (h : s.flushed t) {k : Nat} (v : Word) (hk : k / 4096 ≠ pgRST) : s.flushed (t.wr k v) :=
  h.trans ⟨rfl, fun o ho => t.rd_wr_other v fun he => hk (by rw [← he, reg_div pgRST ho])⟩

/-- A register of the pages of memory, or of a window. -/
theorem wr_high (h : s.flushed t) {k : Nat} (v : Word) (hk : 0x100000 ≤ k) : s.flushed (t.wr k v) := h.wr v (by unfold pgRST; omega)

theorem inc_high (h : s.flushed t) {k : Nat} (n : Nat) (hk : 0x100000 ≤ k) : s.flushed (t.inc k n) := h.wr_high _ hk

theorem wr64_high (h : s.flushed t) {k : Nat} (v : DWord) (hk : 0x100000 ≤ k) : s.flushed (t.wr64 k v) :=
  (h.wr_high _ hk).wr_high _ (hk.trans (Nat.le_add_right k 4))

theorem inc64_high (h : s.flushed t) {k : Nat} (n : Nat) (hk : 0x100000 ≤ k) : s.flushed (t.inc64 k n) := h.wr64_high _ hk

/-- Events change registers and alerts. -/
theorem events (h : s.flushed t) (hframe : t.withEvents u = t) (hpage : ∀ o < 4096, u.rd (reg pgRST o) = t.rd (reg pgRST o)) : s.flushed u :=
  h.trans ⟨(congrArg (fun x : State => ({ x with
    fresh := t.fresh, mem := t.mem, marks := t.marks, grans := t.grans, wc := t.wc, wcFence := t.wcFence, tags := t.tags,
    slowRem := t.slowRem, met := t.met, ceNew := t.ceNew, sparesUsed := t.sparesUsed, patrol := t.patrol } : State)) hframe :), hpage⟩

/-- An event of another page. -/
theorem raise (h : s.flushed t) {page : Nat} (i : Nat) (hp : page ≠ pgRST) : s.flushed (t.raise page i) :=
  h.events (t.raise_frame page i) fun o ho =>
    t.rd_raise page i _ (reg_ne ho (by decide) (Or.inl hp.symm)) (reg_ne ho (by decide) (Or.inl (by decide))) (reg_ne ho (by decide) (Or.inl (by decide)))

/-- An error of another page. -/
theorem pageErr (h : s.flushed t) {page : Nat} (code : Code) (i0 i1 : Nat) (bits : Word) (hp : page ≠ pgRST) : s.flushed (t.pageErr page code i0 i1 bits) := by
  refine h.events (t.pageErr_frame page code i0 i1 bits) fun o ho => ?_
  have hne {x : Nat} (hx : x < 4096) : reg pgRST o ≠ reg page x := reg_ne ho hx (Or.inl hp.symm)
  unfold State.pageErr
  dsimp only
  rw [State.rd_raiseBits _ _ _ _ (hne (by decide)) (reg_ne ho (by decide) (Or.inl (by decide))) (reg_ne ho (by decide) (Or.inl (by decide)))]
  split
  · rfl
  · rw [State.rd_wr_other _ _ (hne (by decide)), State.rd_wr_other _ _ (hne (by decide)), State.rd_wr_other _ _ (hne (by decide))]

end State.flushed

section
variable (s : State)

theorem State.memPage_ne (pa : Nat) : s.memPage pa ≠ pgRST := by
  unfold State.memPage
  split
  · decide
  · unfold pgHBM pgRST
    omega

theorem State.memPage_high (pa : Nat) {o : Nat} : 0x100000 ≤ reg (s.memPage pa) o := by
  have h : 0x100 ≤ s.memPage pa := by
    unfold State.memPage
    split
    · decide
    · exact Nat.le_add_right _ _
  unfold reg
  omega

theorem wreg_high (w p o : Nat) : 0x100000 ≤ wreg w p o := le_trans (by decide) (wreg_ge w p o)

theorem State.memReg_high (pa hbm slow : Nat) : 0x100000 ≤ s.memReg pa hbm slow := by
  unfold State.memReg
  split
  · exact wreg_high _ _ _
  · unfold pgHBM reg
    omega

/-! ## Reads of a flush (R344, R345, R351, R356) -/

theorem State.flushed_addCharge (rail dom pc : Nat) : s.flushed (s.addCharge rail dom pc) := State.flushed.ite (State.flushed.refl s) (State.flushed.of_regs rfl rfl)

/-- Slow-tier lines below a count of 1,024 are kept (R358). -/
def State.keepRest (m : List (Nat × Nat)) : State := { s with slowRem := m }

theorem State.flushed_keepRest (m : List (Nat × Nat)) : s.flushed (s.keepRest m) := State.flushed.of_regs rfl rfl

theorem State.flushed_countLines (dom pa : Nat) (wr : Bool) (n : Nat) : s.flushed (s.countLines dom pa wr n) := by
  have hslow (t : State) (ht : s.flushed t) (m : List (Nat × Nat)) (x : Nat) : s.flushed ((t.keepRest m).inc (wreg (slowPlace pa).1 pgSLOW (if wr then Off.SLOW_WR_LINES else Off.SLOW_RD_LINES)) x) :=
    State.flushed.inc_high (ht.trans (t.flushed_keepRest m)) _ (wreg_high _ _ _)
  have hcharge : s.flushed (if slowBase ≤ pa then s.addCharge 11 dom (2000 * n) else s.addCharge 10 dom (5500 * n)) :=
    State.flushed.ite (s.flushed_addCharge _ _ _) (s.flushed_addCharge _ _ _)
  unfold State.countLines
  dsimp only
  exact State.flushed.ite (hslow _ hcharge _ _) (hcharge.inc64_high _ (by unfold pgHBM reg; omega))

theorem State.flushed_countTierCE (pa ce : Nat) : s.flushed (s.countTierCE pa ce) := by
  have hnew : s.flushed { s with ceNew := s.ceNew + ce } := State.flushed.of_regs rfl rfl
  exact State.flushed.ite (hnew.inc_high _ (State.memReg_high _ _ _ _)) (hnew.inc64_high _ (State.memPage_high _ _))

theorem State.flushed_memError (pa : Nat) (code : Code) (bits : Word) : s.flushed (s.memError pa code bits) :=
  ((State.flushed.refl s).wr64_high _ (s.memReg_high _ _ _)).pageErr _ _ _ _ (State.memPage_ne _ _)

theorem State.flushed_retireSlot (pa : Nat) : s.flushed (s.retireSlot pa) := by
  have hpage := s.memPage_ne pa
  have hspare : s.flushed { s with sparesUsed := mapSet 0 s.sparesUsed (s.pcKey pa) (mapGet 0 s.sparesUsed (s.pcKey pa) + 1), patrol := mapDel (pa / 256) s.patrol } :=
    State.flushed.of_regs rfl rfl
  have hlog (t : State) (ht : s.flushed t) : s.flushed (if pa < slowBase then t.inc (reg (pgSTK_REPAIR (t.destination pa).1) Off.STK_REPAIR_LOG_COUNT) else t) :=
    State.flushed.ite (ht.inc_high _ (by unfold pgSTK_REPAIR reg; omega)) ht
  unfold State.retireSlot
  dsimp only
  refine State.flushed.ite ((State.flushed.refl s).pageErr _ _ _ _ hpage) ?_
  exact State.flushed.ite (((hlog _ hspare).raise 2 hpage).raise 3 hpage) ((hlog _ hspare).raise 2 hpage)

theorem State.flushed_tagTouch (pa : Nat) (wr : Bool) : s.flushed (s.tagTouch pa wr) := by
  have hmiss := (State.flushed.refl s).inc_high 1 (s.memPage_high pa (o := Off.HBM_TAG_MISSES))
  unfold State.tagTouch
  refine State.flushed.ite (State.flushed.refl s) ?_
  dsimp only
  split
  · exact State.flushed.ite (State.flushed.of_regs rfl rfl) (State.flushed.refl s)
  · generalize s.inc (reg (s.memPage pa) Off.HBM_TAG_MISSES) = t at *
    exact hmiss.trans (State.flushed.ite (State.flushed.of_regs rfl rfl) (State.flushed.of_regs rfl rfl))

theorem State.flushed_tagSpans (lo len : Nat) (wr : Bool) : s.flushed (s.tagSpans lo len wr) := State.flushed.foldl (fun t _ => t.flushed_tagTouch _ _) _ _

theorem State.flushed_retireTwos (lo : Nat) (outs : List WordOut) : s.flushed (s.retireTwos lo outs) := State.flushed.foldl (fun t _ => t.flushed_retireSlot _) _ _

/-- A base die's read of a live generation, placed as in r, with what its codewords show (R338, R344, R351). -/
def State.dieDecode (r : State) (pa lo len ce : Nat) (outs : List WordOut) (fresh marker tagBad : Bool) : State × Option (Code × Bool) :=
  let s2 := (s.countTierCE pa ce).retireTwos lo outs
  let s2 := if marker then s2 else s2.tagSpans lo len false
  let s3 := if (fresh || marker || tagBad) && pa < slowBase then s2.inc (reg (r.memPage pa) Off.HBM_POISON_READS) else s2
  if fresh then ((s3.inc (r.memReg pa Off.HBM_UE Off.SLOW_UE)).memError pa Err.MEM_UE 0x1#32, some (Err.MEM_UE, false))
  else if marker then (s3, some (Err.MEM_UE, true))
  else if tagBad then ((s3.inc (r.memReg pa Off.HBM_TAG_FAIL Off.SLOW_TAG_FAIL)).memError pa Err.TAG_FAIL 0x2#32, some (Err.TAG_FAIL, false))
  else (s3, none)

theorem State.flushed_dieDecode (r : State) (pa lo len ce : Nat) (outs : List WordOut) (fresh marker tagBad : Bool) :
    s.flushed (s.dieDecode r pa lo len ce outs fresh marker tagBad).1 := by
  have hpoison (t : State) (q : Prop) [Decidable q] (ht : s.flushed t) : s.flushed (if q then t.inc (reg (r.memPage pa) Off.HBM_POISON_READS) else t) :=
    State.flushed.ite (ht.inc_high _ (r.memPage_high pa)) ht
  have hspans (t : State) (ht : s.flushed t) : s.flushed (if marker then t else t.tagSpans lo len false) := State.flushed.ite ht (ht.trans (t.flushed_tagSpans _ _ _))
  have herror (t : State) (hbm slow : Nat) (code : Code) (bits : Word) (ht : s.flushed t) : s.flushed ((t.inc (r.memReg pa hbm slow)).memError pa code bits) :=
    (ht.inc_high 1 (r.memReg_high _ _ _)).trans (State.flushed_memError _ _ _ _)
  have hout (t : State) (ht : s.flushed t) : s.flushed (if fresh then ((t.inc (r.memReg pa Off.HBM_UE Off.SLOW_UE)).memError pa Err.MEM_UE 0x1#32, some (Err.MEM_UE, false))
      else if marker then (t, some (Err.MEM_UE, true))
      else if tagBad then ((t.inc (r.memReg pa Off.HBM_TAG_FAIL Off.SLOW_TAG_FAIL)).memError pa Err.TAG_FAIL 0x2#32, some (Err.TAG_FAIL, false))
      else (t, none)).1 := by
    split
    · exact herror _ _ _ _ _ ht
    · split
      · exact ht
      · split
        · exact herror _ _ _ _ _ ht
        · exact ht
  exact hout _ (hpoison _ _ (hspans _ ((s.flushed_countTierCE pa ce).trans (State.flushed_retireTwos _ lo outs))))

/-- A base die's read of a generation that is not live, placed as in r (R466). -/
def State.dieRetired (r : State) (pa : Nat) : State × Option (Code × Bool) :=
  let s2 := s.inc (reg pgKEY Off.KEY_RETIRED_READS)
  let s2 := if slowBase ≤ pa then s2 else s2.inc (reg (r.memPage pa) Off.HBM_POISON_READS)
  (s2.memError pa Err.RETIRED_GENERATION 0, some (Err.RETIRED_GENERATION, false))

theorem State.flushed_dieRetired (r : State) (pa : Nat) : s.flushed (s.dieRetired r pa).1 := by
  have hretired : s.flushed (s.inc (reg pgKEY Off.KEY_RETIRED_READS)) := (State.flushed.refl s).wr _ (by decide)
  exact (State.flushed.ite hretired (hretired.inc_high _ (r.memPage_high _))).trans (State.flushed_memError _ _ _ _)

/-- A read of the base die is of a granule that waits for its fill, of a retired generation, or decodes (R334, R338, R466). -/
theorem State.dieRead_cases (d pa n : Nat) (errs : List (Nat × Nat)) : ∃ x lo len ce outs fresh marker tagBad, s.dieRead d pa n errs =
    if (s.gran (pa / 2 ^ 21)).fill.isSome then (s.countLines d pa false x, none)
    else if !s.genLive d (s.gran (pa / 2 ^ 21)).gen then (s.countLines d pa false x).dieRetired s pa
    else (s.countLines d pa false x).dieDecode s pa lo len ce outs fresh marker tagBad := by
  refine ⟨_, _, _, _, _, _, _, _, rfl⟩

theorem State.flushed_dieRead (d pa n : Nat) (errs : List (Nat × Nat)) : s.flushed (s.dieRead d pa n errs).1 := by
  obtain ⟨x, lo, len, ce, outs, fresh, marker, tagBad, h⟩ := s.dieRead_cases d pa n errs
  have hcount := s.flushed_countLines d pa false x
  rw [h]
  split
  · exact hcount
  · split
    · exact hcount.trans (State.flushed_dieRetired _ _ _)
    · exact hcount.trans (State.flushed_dieDecode _ _ _ _ _ _ _ _ _ _)

theorem State.flushed_poisonLine (l : Nat) : s.flushed (s.poisonLine l) := State.flushed.of_regs rfl rfl

theorem State.flushed_flushRead (d pa : Nat) (errs : List (Nat × Nat)) : s.flushed (s.flushRead d pa errs) :=
  (s.flushed_dieRead d pa 512 errs).trans (State.flushed.foldl State.flushed_poisonLine _ _)

/-! ## Writes of a flush (R334, R339, R354, R467) -/

theorem State.flushed_setMark (l : Nat) (m : LineMark) : s.flushed (s.setMark l m) := State.flushed.of_regs rfl rfl
theorem State.flushed_setByte (a : Nat) (v : Byte) : s.flushed (s.setByte a v) := State.flushed.of_regs rfl rfl
theorem State.flushed_setGran (g : Nat) (r : Gran) : s.flushed (s.setGran g r) := State.flushed.of_regs rfl rfl

theorem State.flushed_moveLines (d g : Nat) : s.flushed (s.moveLines d g) := by
  unfold State.moveLines
  dsimp only
  refine State.flushed.trans (State.flushed.wr ?_ _ (by decide)) (State.flushed_setGran _ _ _)
  exact State.flushed.foldl (fun t i => State.flushed.foldl (fun u j => u.flushed_setMark _ _) _ t) _ s

theorem State.flushed_rotationEnd (d : Nat) : s.flushed (s.rotationEnd d) :=
  State.flushed.ite (((State.flushed.refl s).wr_high _ (wreg_high _ _ _)).raise 0 (by decide)) (State.flushed.refl s)

theorem State.flushed_fillGran (g : Nat) : s.flushed (s.fillGran g) := by
  unfold State.fillGran
  split
  · exact State.flushed.refl s
  · exact State.flushed.of_regs rfl rfl

theorem State.flushed_touchGran (d g : Nat) : s.flushed (s.touchGran d g) := by
  unfold State.touchGran
  dsimp only
  refine State.flushed.ite (State.flushed.refl s) (State.flushed.ite ?_ (State.flushed.of_regs rfl rfl))
  exact (s.flushed_moveLines d g).trans (State.flushed_rotationEnd _ d)

theorem State.flushed_wcDrop (bs : List (Nat × Byte)) : s.flushed (s.wcDrop bs) := State.flushed.ite (State.flushed.refl s) (State.flushed.of_regs rfl rfl)

theorem State.flushed_setBytes (bs : List (Nat × Byte)) : s.flushed (bs.foldl (fun u b => u.setByte b.1 b.2) s) :=
  State.flushed.foldl (fun t _ => t.flushed_setByte _ _) _ _

theorem State.flushed_tierLine (d line : Nat) (bad : Bool) (bs : List (Nat × Byte)) : s.flushed (s.tierLine d line bad bs) := by
  have htouched := ((s.flushed_fillGran (line / 2 ^ 13)).trans (State.flushed_touchGran _ d (line / 2 ^ 13))).trans (State.flushed_wcDrop _ bs)
  unfold State.tierLine
  dsimp only
  generalize ((s.fillGran (line / 2 ^ 13)).touchGran d (line / 2 ^ 13)).wcDrop bs = t at *
  refine htouched.trans (State.flushed.ite ?whole (State.flushed.ite ?narrow (State.flushed.ite ?bad (t.flushed_setBytes bs))))
  case whole => exact (State.flushed.foldl (fun u m => u.flushed_setMark _ _) _ t).trans (State.flushed_setBytes _ bs)
  case narrow =>
    refine State.flushed.foldl (fun u b => State.flushed.ite ?_ (State.flushed.ite (u.flushed_poisonLine _) (u.flushed_setByte _ _))) _ t
    exact (u.flushed_setMark _ _).trans (State.flushed_setByte _ _ _)
  case bad => exact State.flushed.foldl State.flushed_poisonLine _ t

theorem State.flushed_tierBytes (d : Nat) (bs : List (Nat × Byte)) : s.flushed (s.tierBytes d bs) := by
  refine State.flushed.foldl (fun t u => ?_) _ s
  dsimp only
  have hlines (l : List Nat) (bad : Bool) (f : Nat → List (Nat × Byte)) : t.flushed (l.foldl (fun v x => v.tierLine d x bad (f x)) t) :=
    State.flushed.foldl (fun v x => v.flushed_tierLine _ _ _ _) l t
  exact State.flushed.ite ((hlines _ _ _).trans (State.flushed.foldl (fun w _ => w.flushed_poisonLine _) _ _)) (hlines _ _ _)

/-! ## The fence (R348, R354) -/

theorem State.flushed_flushEntry (e : WcEntry) (errs : List (Nat × Nat)) : s.flushed (s.flushEntry e errs) := by
  have herased : s.flushed { s with wc := s.wc.erase e } := State.flushed.of_regs rfl rfl
  have hcount (r t : State) (q : Prop) [Decidable q] (o n : Nat) (ht : s.flushed t) : s.flushed (if q then t.inc (reg (r.memPage (e.unit * 512)) o) n else t) :=
    State.flushed.ite (ht.inc_high n (r.memPage_high _)) ht
  have hread (t : State) (q : Prop) [Decidable q] (ht : s.flushed t) : s.flushed (if q then t else t.flushRead e.dom (e.unit * 512) errs) :=
    State.flushed.ite ht (ht.trans (t.flushed_flushRead _ _ _))
  unfold State.flushEntry
  dsimp only
  generalize ({ s with wc := s.wc.erase e } : State) = r at *
  refine State.flushed.trans ?_ (State.flushed_countLines _ _ _ _ _)
  refine State.flushed.trans ?_ (State.flushed_tagSpans _ _ _ _)
  exact hcount _ _ _ _ _ ((hcount _ _ _ _ _ (hread _ _ herased)).trans (State.flushed_tierBytes _ _ _))

/-- A fence changes memory and its records, and no register of the reset page (R348). -/
theorem State.flushed_fenceEntries (p : WcEntry → Bool) : s.flushed (s.fenceEntries p) := by
  refine State.flushed.foldl (fun t e => ?_) _ s
  have hflush := t.flushed_flushEntry e []
  dsimp only
  generalize t.flushEntry e = u at *
  have hcounted : t.flushed { u with wcFence := mapSet 0 u.wcFence (u.stackOf (e.unit * 512)) ((mapGet 0 u.wcFence (u.stackOf (e.unit * 512)) + 1) % 16) } :=
    hflush.trans (State.flushed.of_regs rfl rfl)
  exact State.flushed.ite (hcounted.wr_high _ (by unfold pgHBM reg; omega)) hcounted

theorem State.fenceEntries_nil (p : WcEntry → Bool) (h : s.wc = []) : s.fenceEntries p = s := by
  unfold State.fenceEntries
  rw [h]
  rfl

end

end Sys2Proof.Machine
end

section
/-! PROOFS. The entry of a warm-class reset (R545, R546, R548, R549, R555). -/

namespace Sys2Proof.Machine

open Sys2Proof

/-! ## What the entry writes beside the reset page -/

/-- A state with the registers, the waits of arbiters, the rails and the time unit of another. -/
def State.withLost (s u : State) : State := { u with regs := s.regs, ties := s.ties, rails := s.rails, time := s.time }

/-- Registers of other pages than the reset page have changed, and the records of arbiters, rails and time. -/
structure State.entryKeeps (s t : State) : Prop where
  frame : s.withLost t = s
  page : ∀ o < 4096, t.rd (reg pgRST o) = s.rd (reg pgRST o)

namespace State.entryKeeps
variable {s t u : State}

theorem refl (s : State) : s.entryKeeps s := ⟨rfl, fun _ _ => rfl⟩

theorem trans (hst : s.entryKeeps t) (htu : t.entryKeeps u) : s.entryKeeps u where
  frame := by
    have h : s.withLost (t.withLost u) = s.withLost t := by rw [htu.frame]
    exact h.trans hst.frame
  page o ho := (htu.page o ho).trans (hst.page o ho)

theorem of_regs (h : s.entryKeeps t) (hframe : t.withLost u = t) (hregs : u.regs = t.regs) : s.entryKeeps u := h.trans ⟨hframe, fun _ _ => State.rd_of_regs hregs _⟩

theorem beside (h : s.entryKeeps t) (htu : t.beside pgRST u) : s.entryKeeps u :=
  h.trans ⟨(congrArg (fun x : State => { x with ties := t.ties, rails := t.rails, time := t.time }) htu.frame :), htu.page⟩

theorem wr (h : s.entryKeeps t) {p o : Nat} (v : Word) (ho : o < 4096) (hp : p ≠ pgRST) : s.entryKeeps (t.wr (reg p o) v) := h.beside (State.beside.wr_reg t v ho hp)

theorem foldl {α : Type} {f : State → α → State} (l : List α) (h : ∀ (t : State), ∀ a ∈ l, t.entryKeeps (f t a)) (s : State) : s.entryKeeps (l.foldl f s) :=
  List.foldlRecOn (motive := fun t => s.entryKeeps t) l f (refl s) fun t ht a ha => ht.trans (h t a ha)

theorem ite {q : Prop} [Decidable q] (ht : s.entryKeeps t) (hu : s.entryKeeps u) : s.entryKeeps (if q then t else u) := by
  split
  · exact ht
  · exact hu

end State.entryKeeps

section
variable (s : State)

/-- The ports lose their links (R546, R549). -/
theorem State.entryKeeps_dropLinks : s.entryKeeps s.dropLinks := by
  have hports : s.entryKeeps ((List.range 18).foldl (fun t p => (t.wr (ethReg p Off.ETH_STATE) 0).wrFld (ethReg p Off.ETH_MSEC_STATE) 0 2 0) s) := by
    refine State.entryKeeps.foldl _ (fun t p _ => ?_) s
    have hp : pgETH p ≠ pgRST := by
      unfold pgETH pgRST
      omega
    unfold State.wrFld
    exact ((State.entryKeeps.refl t).wr _ (by decide) hp).wr _ (by decide) hp
  have hlost (t : State) (q : Prop) [Decidable q] (ht : s.entryKeeps t) : s.entryKeeps (if q then { t with time := { t.time with linkLost := true } } else t) :=
    State.entryKeeps.ite (ht.of_regs rfl rfl) ht
  unfold State.dropLinks
  dsimp only
  have hsecured := hports.wr (p := pgMSEC) (o := Off.MSEC_PORTS_SECURED) 0 (by decide) (by decide)
  exact hlost _ _ hsecured

/-- Repairs on their way are abandoned (R352, R481). -/
theorem State.entryKeeps_abandonRepairs : s.entryKeeps s.abandonRepairs := by
  have hstack (t : State) (i : Nat) : t.entryKeeps (if bit (t.rd (reg (pgSTK_REPAIR i) Off.STK_REPAIR_STATUS)) 0 then t.wr (reg (pgSTK_REPAIR i) Off.STK_REPAIR_STATUS) 0 else t) :=
    State.entryKeeps.ite ((State.entryKeeps.refl t).wr _ (by decide) (by unfold pgSTK_REPAIR pgRST; omega)) (State.entryKeeps.refl t)
  unfold State.abandonRepairs State.wrBit
  dsimp only
  exact (State.entryKeeps.foldl _ (fun t i _ => hstack t i) s).wr _ (by decide) (by decide)

/-- The accounts stand at 0 (R548). -/
def State.zeroAccounts : State :=
  ((List.range 8).foldl (fun t a => (t.wr (railReg a Off.LEDG_RAIL_ACCOUNT) 0).wr (railReg a Off.LEDG_RAIL_ANCHOR) 0) s).wr (reg pgLEDG Off.LEDG_LSTEP_STATE) 0

theorem State.entryKeeps_zeroAccounts : s.entryKeeps s.zeroAccounts := by
  refine State.entryKeeps.wr (State.entryKeeps.foldl _ (fun t a ha => ?_) s) _ (by decide) (by decide)
  have ha' := List.mem_range.1 ha
  exact ((State.entryKeeps.refl t).wr _ (by simp only [Off.LEDG_RAIL_ACCOUNT]; omega) (by decide)).wr _ (by simp only [Off.LEDG_RAIL_ANCHOR]; omega) (by decide)

/-- A state with waits of arbiters and records of rails. -/
def State.withCaps (ties : List (Nat × Nat)) (rails : List (Nat × RailRec)) : State := { s with ties := ties, rails := rails }

end

/-! ## The entry (R548, R549, R555) -/

section
variable (s : State)

/-- The buffers are fenced and empty (R548). -/
def State.fenced : State := { s.fenceEntries fun _ => true with wc := [] }

/-- What R546 clears is cleared, and the accounts stand at 0 (R546, R548). -/
def State.entryCleared : State :=
  (((s.clearBlocks .warm).dropLinks.abandonRepairs).withCaps (s.ties.filter fun t => decide (0x10000 ≤ t.1) && decide (t.1 < 0x20000))
    (s.rails.filterMap fun r => if r.2.caps = [] then none else some (r.1, ({ caps := r.2.caps } : RailRec)))).zeroAccounts

/-- Memory leaves service; the cause and the count of the reset (R547, R556, R560). -/
def State.entryRecorded (cause : Nat) : State := ((s.memState 1).setCause (cause + 16 * b2n s.deferred)).inc (rstReg Off.RST_COUNT_WARM)

/-- The pins hold their levels, and the start is warm (R549, R555). -/
def State.entryPins (status : Nat) (alert : Bool) : State :=
  { s with warmStart := true, hold := false, deferred := false, heldStatus := some status, heldAlert := some alert }

/-- The stage that follows the entry: THERMAL_HOLD, or the warm start (R550, R555). -/
def State.entryStage (cause : Nat) : Nat := if s.hold || decide (cause = 6) then 10 else 3

theorem State.warmEnter_eq (cause : Nat) : s.warmEnter cause =
    ((s.fenced.entryCleared.entryRecorded cause).setStage ((s.fenced.entryCleared.entryRecorded cause).entryStage cause)).entryPins s.statusPins s.alertN := by
  unfold State.warmEnter State.entryPins State.entryStage State.entryRecorded State.entryCleared State.withCaps State.zeroAccounts State.fenced
  rfl

/-- What a fence keeps beside memory. -/
def State.entryScalars : (FuseRec × List Repair × List (Nat × Nat) × List (Nat × FwSlot) × List (Nat × Nat)) × List (Nat × List Region) × DWord × Bool × Bool :=
  (s.repairRecords, s.active, s.now, s.deferred, s.hold)

/-- The stores of the tiers. -/
def State.entryStores : List (Nat × Gran) × List (Nat × Byte) := (s.grans, s.mem)

theorem State.fenced_effect : s.fenced.entryScalars = s.entryScalars ∧ s.fenced.rd (rstReg Off.RST_COUNT_WARM) = s.rd (rstReg Off.RST_COUNT_WARM) ∧
    (s.wc = [] → s.fenced.entryStores = s.entryStores) := by
  have hflushed := s.flushed_fenceEntries fun _ => true
  have hnone := s.fenceEntries_nil (fun _ => true)
  unfold State.fenced
  generalize s.fenceEntries (fun _ => true) = t at *
  exact ⟨(congrArg State.entryScalars hflushed.frame :), hflushed.page Off.RST_COUNT_WARM (by decide), fun h => (congrArg State.entryStores (hnone h) :)⟩

theorem State.clearBlocks_scalars (kind : RstKind) : (s.clearBlocks kind).entryScalars = s.entryScalars := rfl
theorem State.clearBlocks_grans (kind : RstKind) : (s.clearBlocks kind).grans = s.grans := rfl

theorem State.entryCleared_keeps : (s.clearBlocks .warm).entryKeeps s.entryCleared := by
  have hlinks := ((s.clearBlocks .warm).entryKeeps_dropLinks).trans (State.entryKeeps_abandonRepairs _)
  unfold State.entryCleared
  generalize (s.clearBlocks .warm).dropLinks.abandonRepairs = t at *
  have hties (m : List (Nat × Nat)) (r : List (Nat × RailRec)) : (s.clearBlocks .warm).entryKeeps (t.withCaps m r) := hlinks.of_regs rfl rfl
  exact (hties _ _).trans (State.entryKeeps_zeroAccounts _)

theorem regKept_countWarm : regKept .warm (rstReg Off.RST_COUNT_WARM) = true := by decide

theorem State.entryKeeps.carries {u t : State} (h : u.entryKeeps t) : t.entryScalars = u.entryScalars ∧
    t.rd (rstReg Off.RST_COUNT_WARM) = u.rd (rstReg Off.RST_COUNT_WARM) ∧ (u.emptied → t.emptied) ∧ t.grans = u.grans ∧ ∀ a, t.byte a = u.byte a := by
  have hmem : t.mem = u.mem := (congrArg State.mem h.frame :)
  exact ⟨(congrArg State.entryScalars h.frame :), h.page Off.RST_COUNT_WARM (by decide), State.emptied_of_volatile (congrArg State.volatile h.frame :),
    (congrArg State.grans h.frame :), fun a => congrArg (mapGet (0 : Byte) · a) hmem⟩

theorem State.clearBlocks_countWarm : (s.clearBlocks .warm).rd (rstReg Off.RST_COUNT_WARM) = s.rd (rstReg Off.RST_COUNT_WARM) := by
  rw [State.rd_clearBlocks, regKept_countWarm, if_pos rfl]

/-- What the clearing of a warm-class reset leaves (R546). -/
theorem State.entryCleared_effect : s.entryCleared.entryScalars = s.entryScalars ∧ s.entryCleared.rd (rstReg Off.RST_COUNT_WARM) = s.rd (rstReg Off.RST_COUNT_WARM) ∧
    s.entryCleared.emptied ∧ s.entryCleared.grans = s.grans ∧ ∀ a, s.entryCleared.byte a = if offDie a then s.byte a else 0 := by
  obtain ⟨hscalars, hcount, hempty, hgrans, hbyte⟩ := s.entryCleared_keeps.carries
  exact ⟨hscalars.trans (s.clearBlocks_scalars .warm), hcount.trans s.clearBlocks_countWarm, hempty (s.clearBlocks_emptied .warm),
    hgrans.trans (s.clearBlocks_grans .warm), fun a => (hbyte a).trans (s.clearBlocks_byte .warm a)⟩

theorem State.entryRecorded_effect (cause : Nat) : s.withRegs (s.entryRecorded cause) = s ∧
    (s.entryRecorded cause).rd (rstReg Off.RST_CAUSE) = BitVec.ofNat 32 (cause + 16 * b2n s.deferred) ∧
    (s.entryRecorded cause).rd (rstReg Off.RST_COUNT_WARM) = satAdd (s.rd (rstReg Off.RST_COUNT_WARM)) 1 := by
  have hmemory := s.memState_beside (p := pgRST) 1 (Or.inl (by decide))
  unfold State.entryRecorded State.setCause
  generalize s.memState 1 = t at *
  refine ⟨?_, ?_, ?_⟩
  · rw [State.withRegs_inc, State.withRegs_wr]
    exact hmemory.frame
  · rw [State.inc, State.rd_wr_other _ _ (by decide), State.rd_wr_self]
  · rw [State.inc, State.rd_wr_self, State.rd_wr_other _ _ (by decide)]
    exact congrArg (satAdd · 1) (hmemory.page Off.RST_COUNT_WARM (by decide))

theorem State.entryStage_lt (cause : Nat) : s.entryStage cause < 16 := by
  unfold State.entryStage
  split <;> decide

/-- The records that a change of registers and of the pins keeps. -/
def State.entryKept : List (Nat × Gran) × (FuseRec × List Repair × List (Nat × Nat) × List (Nat × FwSlot) × List (Nat × Nat)) × List (Nat × List Region) × DWord × List (Nat × Byte) :=
  (s.grans, s.repairRecords, s.active, s.now, s.mem)

theorem State.entryPins_effect (status : Nat) (alert : Bool) : (s.entryPins status alert).regs = s.regs ∧ (s.entryPins status alert).entryKept = s.entryKept ∧
    (s.entryPins status alert).volatile = s.volatile ∧ (s.entryPins status alert).warmStart = true ∧ (s.entryPins status alert).deferred = false ∧
    (s.entryPins status alert).heldStatus = some status ∧ (s.entryPins status alert).heldAlert = some alert := ⟨rfl, rfl, rfl, rfl, rfl, rfl, rfl⟩

/-- What the entry of a warm-class reset leaves (R546, R548, R549, R555). -/
def State.warmFrom (cause : Nat) (t : State) : Prop :=
  t.stage = s.entryStage cause ∧ t.warmStart = true ∧ t.rd (rstReg Off.RST_CAUSE) = BitVec.ofNat 32 (cause + 16 * b2n s.deferred) ∧
    t.deferred = false ∧ t.heldStatus = some s.statusPins ∧ t.heldAlert = some s.alertN ∧
    t.rd (rstReg Off.RST_COUNT_WARM) = satAdd (s.rd (rstReg Off.RST_COUNT_WARM)) 1 ∧ t.now = s.now ∧ t.active = s.active ∧ t.emptied ∧ s.keepsRepairs t ∧
    (s.wc = [] → t.grans = s.grans ∧ ∀ a, t.byte a = if offDie a then s.byte a else 0)

/-- The end of the entry: its stage is set and the pins are held (R549, R550, R555). -/
def State.entryEnds (cause status : Nat) (alert : Bool) : State :=
  ((s.entryRecorded cause).setStage ((s.entryRecorded cause).entryStage cause)).entryPins status alert

theorem State.entryEnds_effect (cause status : Nat) (alert : Bool) : (s.entryEnds cause status alert).stage = s.entryStage cause ∧
    (s.entryEnds cause status alert).rd (rstReg Off.RST_CAUSE) = BitVec.ofNat 32 (cause + 16 * b2n s.deferred) ∧
    (s.entryEnds cause status alert).rd (rstReg Off.RST_COUNT_WARM) = satAdd (s.rd (rstReg Off.RST_COUNT_WARM)) 1 ∧
    (s.entryEnds cause status alert).entryKept = s.entryKept ∧ (s.entryEnds cause status alert).volatile = s.volatile ∧
    (s.entryEnds cause status alert).warmStart = true ∧ (s.entryEnds cause status alert).deferred = false ∧
    (s.entryEnds cause status alert).heldStatus = some status ∧ (s.entryEnds cause status alert).heldAlert = some alert := by
  obtain ⟨hframe, hcause, hcount⟩ := s.entryRecorded_effect cause
  unfold State.entryEnds
  generalize s.entryRecorded cause = u at *
  have hstage : u.entryStage cause = s.entryStage cause := by
    have hhold : u.hold = s.hold := (congrArg State.hold hframe :)
    rw [State.entryStage, hhold, State.entryStage]
  rw [hstage]
  have hset := u.stage_setStage (s.entryStage_lt cause)
  have hrd {k : Nat} (hk : k ≠ rstReg Off.RST_STAGE) : (u.setStage (s.entryStage cause)).rd k = u.rd k := u.rd_wr_other _ hk
  have hsetFrame : u.withRegs (u.setStage (s.entryStage cause)) = u := (u.withRegs_wr u _ _).trans u.withRegs_self
  generalize u.setStage (s.entryStage cause) = v at *
  obtain ⟨hregs, hkept, hvolatile, hpins⟩ := v.entryPins_effect status alert
  have hv : s.withRegs v = s := State.withRegs_trans hframe hsetFrame
  exact ⟨(congrArg (fld · 0 4) (State.rd_of_regs hregs _)).trans hset, (State.rd_of_regs hregs _).trans ((hrd (by decide)).trans hcause),
    (State.rd_of_regs hregs _).trans ((hrd (by decide)).trans hcount), hkept.trans (congrArg State.entryKept hv :), hvolatile.trans (congrArg State.volatile hv :), hpins⟩

theorem State.warmEnter_effect (cause : Nat) : s.warmFrom cause (s.warmEnter cause) := by
  obtain ⟨hscalars, hcount, hstores⟩ := s.fenced_effect
  have heq : s.warmEnter cause = s.fenced.entryCleared.entryEnds cause s.statusPins s.alertN := s.warmEnter_eq cause
  rw [heq]
  generalize s.fenced = u at *
  obtain ⟨hscalars', hcount', hempty, hgrans, hbyte⟩ := u.entryCleared_effect
  generalize u.entryCleared = v at *
  obtain ⟨hstage, hcause, hcount'', hkept, hvolatile, hwarm, hdeferred, hstatus, halert⟩ := v.entryEnds_effect cause s.statusPins s.alertN
  generalize v.entryEnds cause s.statusPins s.alertN = t at *
  have hall := hscalars'.trans hscalars
  simp only [State.entryScalars, Prod.mk.injEq] at hall
  obtain ⟨hrecords, hactive, hnow, hdeferred', hhold⟩ := hall
  simp only [State.entryKept, Prod.mk.injEq] at hkept
  obtain ⟨hgrans', hrecords', hactive', hnow', hmem⟩ := hkept
  refine ⟨hstage.trans (by rw [State.entryStage, hhold, State.entryStage]), hwarm, hcause.trans (by rw [hdeferred']), hdeferred, hstatus, halert,
    hcount''.trans (by rw [hcount', hcount]), hnow'.trans hnow, hactive'.trans hactive, State.emptied_of_volatile hvolatile hempty,
    State.keepsRepairs_iff.2 (hrecords'.trans hrecords), fun hwc => ?_⟩
  have hst := hstores hwc
  simp only [State.entryStores, Prod.mk.injEq] at hst
  obtain ⟨hg, hm⟩ := hst
  refine ⟨hgrans'.trans (hgrans.trans hg), fun a => ?_⟩
  refine (congrArg (mapGet (0 : Byte) · a) hmem).trans ((hbyte a).trans ?_)
  rw [State.byte, hm, State.byte]

/-- A reset that waits for a pulse in the non-volatile domain (R545). -/
def State.waitsPulse (t : State) : Prop := ∃ r, s.nv = some r ∧ t.nv = some { r with held := true } ∧ bit (t.rd (reg pgNVM Off.NVM_STATE)) 2 = true ∧
  { t with regs := s.regs, nv := s.nv } = s ∧ ∀ k, k ≠ reg pgNVM Off.NVM_STATE → t.rd k = s.rd k

/-- A pulse that holds the non-volatile domain's reset. -/
def State.pulseHeld (r : NvRec) : State := { s with nv := some { r with held := true } }

theorem State.holdPulse_waits {r : NvRec} (h : s.nv = some r) : s.waitsPulse s.holdPulse := by
  have heq : s.holdPulse = (s.pulseHeld r).wrBit (reg pgNVM Off.NVM_STATE) 2 true := by
    unfold State.holdPulse
    rw [h]
    rfl
  refine ⟨r, h, ?_, ?_, s.holdPulse_frame, fun k hk => ?_⟩
  · rw [heq]
    rfl
  · rw [heq, State.wrBit, State.rd_wr_self, bit_setBit _ _ _ _ (by decide), if_pos rfl]
  · rw [heq, State.wrBit, State.rd_wr_other _ _ hk]
    rfl

/-- A warm-class reset that is due is entered, or waits for a pulse (R545, R555). -/
theorem State.enterWarm_effect (cause : Nat) : if s.nv = none then s.warmFrom cause (s.enterWarm cause) else s.waitsPulse (s.enterWarm cause) := by
  unfold State.enterWarm
  cases h : s.nv with
  | none =>
    rw [if_pos rfl]
    exact s.warmEnter_effect cause
  | some r =>
    rw [if_neg (Option.some_ne_none r), Option.isSome_some, if_pos rfl]
    exact s.holdPulse_waits h

theorem State.warmResetEnter_due {cause : Nat} (h : s.warm = some cause) (hzero : s.accountsZero = true) : s.warmResetEnter = s.enterWarm cause := by
  unfold State.warmResetEnter
  rw [h]
  exact if_pos hzero

theorem State.warmResetEnter_none (h : s.warm = none ∨ s.accountsZero = false) : s.warmResetEnter = s := by
  unfold State.warmResetEnter
  split
  · next hwarm =>
    refine if_neg ?_
    rcases h with h | h
    · exact absurd (h.symm.trans hwarm) (Option.some_ne_none _).symm
    · rw [h]
      exact Bool.false_ne_true
  · rfl

theorem State.fatalReset_due (h : s.fatalDue = true) (hzero : s.accountsZero = true) : s.fatalReset = s.enterWarm (mergeCause s.warm 5) := if_pos (by rw [h, hzero]; rfl)

theorem State.fatalReset_none (h : s.fatalDue = false ∨ s.accountsZero = false) : s.fatalReset = s := by
  refine if_neg ?_
  rcases h with h | h <;> simp [h]

end

end Sys2Proof.Machine
end

section
/-! PROOFS. The resets and the start that follows each, as rows of the module. -/

namespace Sys2Proof.Machine

open Sys2Proof

/-- A row that carries out a change goes on to a state of which all holds that the change establishes and that does not speak of what is pending. -/
theorem State.commit_runs {s t : State} {P : State → Prop} (h : P t) (hblind : ∀ (u : State) p, P u → P { u with pending := p }) : ∃ u, s.commit t = .next u ∧ P u :=
  ⟨_, rfl, hblind t _ h⟩

/-- Settles O59: each reset clears what its column lists, and each stage of a start acts where its condition holds and changes nothing where it does not. -/
theorem resetsAndStart : Obligations.ResetsAndStart := by
  unfold Obligations.ResetsAndStart
  intro s conv die bad pll cause ev count empty records cold code started warm waitsForPulse boot left fresh dog limit cool d lock
  have hstays {t : State} (h : t = s) : s.commit t = .next s := by rw [h]; rfl
  have hdie : die.toNat ≤ 7 := by have := die.isLt; omega
  have hseven : die = 7 ↔ die.toNat = 7 := by rw [← BitVec.toNat_inj]; rfl
  have hentered {t : State} {c : Nat} (ht : t = s.enterWarm c) : ∃ u, s.commit t = .next u ∧ if s.nv = none then warm u c else waitsForPulse u := by
    have heffect := s.enterWarm_effect c
    rw [← ht] at heffect
    refine ⟨_, rfl, ?_⟩
    by_cases hnv : s.nv = none
    · rw [if_pos hnv] at heffect ⊢
      exact heffect
    · rw [if_neg hnv] at heffect ⊢
      obtain ⟨r, hr, hheld, hbit, hframe, hrd⟩ := heffect
      exact ⟨r, hr, hheld, hbit, (congrArg (fun u : State => { u with pending := s.pending }) hframe :), hrd⟩
  have hpll (h : 1 ≤ d ∧ d ≤ 25) : exec (.pllUnlock pll) s = s.commit (s.pllUnlock d) := by
    have hunit : (decide (1 ≤ d) && decide (d ≤ 25)) = true := by simpa using h
    exact (congrArg (s.onUnit · (s.pllUnlock d)) hunit).trans (s.onUnit_true _)
  refine ⟨?powerOn, fun h => hstays (s.resetNAssert_low h), fun hlow h => congrArg s.commit (s.resetNAssert_off hlow h), ?resetN,
    fun h => hstays (s.pwrokRise_none conv h), fun hpowered hlen => ⟨fun hlow => ?powerLow, fun hhigh => ?power⟩, fun h => hstays (s.resetNRelease_none conv h), ?release,
    fun h => State.commit_runs (State.fuseSense_effect h) fun _ _ hu => hu, fun h => hstays (State.fuseSense_none h),
    fun h => ⟨fun hwarm => State.commit_runs (s.boot_warm_effect h hwarm) fun _ _ hu => hu,
      fun hcold hnone => State.commit_runs (s.boot_cold_effect h hcold hnone) fun _ _ hu => hu,
      fun hcold hsome => State.commit_runs (s.boot_recovers_effect h hcold hsome) fun _ _ hu => hu⟩, fun h => hstays (s.boot_none h),
    fun h => State.commit_runs (s.keysDone_effect h) fun _ _ hu => hu, fun h => hstays (s.keysDone_none h),
    fun h hgranted => State.commit_runs (s.memoryDone_effect h hgranted) fun _ _ hu => hu, fun h => hstays (s.memoryDone_none h),
    ?staged, fun h => hstays (s.dieStaged_none die.toNat bad h),
    fun h hgranted => State.commit_runs (s.linksDone_effect h hgranted) fun _ _ hu => hu, fun h => hstays (s.linksDone_none h),
    fun h => State.commit_runs (s.watchdog_effect h) fun _ _ hu => hu, fun h => hstays (s.watchdog_none h),
    fun hwarm hzero => hentered (s.warmResetEnter_due hwarm hzero), fun h => hstays (s.warmResetEnter_none h),
    fun hdue hzero => hentered (s.fatalReset_due hdue hzero), fun h => hstays (s.fatalReset_none h),
    ?holdEnds, fun h => hstays (s.holdExit_none h), ?noLock, ?unlocks, ?unlocked⟩
  case powerOn =>
    have hcold := s.coldReset_effect true
    obtain ⟨hbyte, hlost⟩ := s.coldReset_power
    have hexec : exec .powerOn s = s.commit { s.coldReset true with powered := false } := rfl
    rw [hexec]
    generalize s.coldReset true = t at *
    exact ⟨_, rfl, hcold, rfl, hbyte, hlost⟩
  case resetN =>
    intro hlow hpowered
    have hcold := s.coldReset_effect false
    obtain ⟨hbyte, htables⟩ := s.coldReset_resetN
    have hexec : exec .resetNAssert s = s.commit { s.coldReset false with rstLow := true } := congrArg s.commit (s.resetNAssert_on hlow hpowered)
    rw [hexec]
    generalize s.coldReset false = t at *
    simp only [State.tables, Prod.mk.injEq] at htables
    obtain ⟨hgrans, hactive, hstaged, htot, hrunning, hpower⟩ := htables
    exact ⟨_, rfl, hcold, rfl, hpower.trans hpowered, hbyte, hgrans, hactive, hstaged, htot, hrunning⟩
  case powerLow =>
    have heq := s.pwrokRise_rises conv hpowered hlen
    rw [if_pos hlow] at heq
    exact congrArg s.commit heq
  case power =>
    have heq := s.pwrokRise_rises conv hpowered hlen
    rw [if_neg (by rw [hhigh]; exact Bool.false_ne_true)] at heq
    have hstarted := ({ s with powered := true } : State).startStrap_started conv hlen rfl hhigh
    rw [← heq] at hstarted
    exact State.commit_runs hstarted fun _ _ hu => hu
  case release =>
    intro hlow hlen
    have heffect := s.resetNRelease_effect conv hlow hlen
    have hexec : exec (.resetNRelease conv) s = s.commit (s.resetNRelease conv) := rfl
    rw [hexec]
    generalize s.resetNRelease conv = t at *
    obtain ⟨hhigh, hdriven, hhiz, hclamp, hstarted, hoff⟩ := heffect
    exact ⟨_, rfl, hhigh, hdriven, hhiz, hclamp, hstarted, fun h => (congrArg (fun u : State => { u with pending := s.pending }) (hoff h) :)⟩
  case staged =>
    intro h hnext hgranted
    simp only [hseven]
    exact State.commit_runs (s.dieStaged_effect die.toNat bad hdie h hnext hgranted) fun _ _ hu => hu
  case holdEnds =>
    intro h hcool
    obtain ⟨hstage, hwarm, hframe⟩ := s.holdExit_effect h hcool
    have hexec : exec .thermalHoldExit s = s.commit s.holdExit := rfl
    rw [hexec]
    generalize s.holdExit = t at *
    exact ⟨_, rfl, hstage, hwarm, (congrArg (fun u : State => { u with pending := s.pending }) hframe :)⟩
  case noLock =>
    intro h
    have hunit : (decide (1 ≤ d) && decide (d ≤ 25)) = false := by
      rw [Bool.and_eq_false_iff, decide_eq_false_iff_not, decide_eq_false_iff_not]
      omega
    exact (congrArg (s.onUnit · (s.pllUnlock d)) hunit).trans (s.onUnit_false _)
  case unlocks =>
    intro hone hd hlock
    rw [hpll ⟨hone, by omega⟩]
    exact State.commit_runs (s.pllUnlock_effect hlock hd) fun _ _ hu => hu
  case unlocked =>
    intro hone hd h
    rw [hpll ⟨hone, hd⟩]
    exact hstays (s.pllUnlock_none h)

end Sys2Proof.Machine
end
